-- ==== Sys2Proof/Word.lean ====
section
/-! DEFINITION. The words of the block: bytes, 32-bit register words and byte strings, little-endian (00 R8). -/
namespace Sys2Proof

/-- One byte. -/
abbrev Byte := BitVec 8
/-- A byte string, first byte first. -/
abbrev Bytes := List Byte
/-- A register word (00 R8). -/
abbrev Word := BitVec 32
/-- A nozzle code (00 R4): bit 0 enables FIREA, bit 1 enables FIREB. -/
abbrev Code := BitVec 2
/-- A channel mask: bit n selects CHn (02 R71). -/
abbrev ChMask := BitVec 64

end Sys2Proof
end

