-- ==== Sys2Proof/Syntax.lean ====
section
/-! DEFINITION. The commands of the block: one constructor of Instr for each row of spec/opcode_table.json. -/
namespace Sys2Proof

/-- A command packet as its agent receives it (02 R45): FLAGS, TARGET, TAG and the LENGTH parameter bytes; the row names OPCODE. -/
structure Cmd where
  flags  : Byte
  target : Byte
  tag    : BitVec 16
  params : Bytes
  deriving DecidableEq, Repr

/-- Words with errors that a reader meets (10 R322, R323, R333), by their index in what is read: corrected ones and uncorrectable ones. -/
structure ReadErrors where
  corrected : List Nat := []
  bad       : List Nat := []
  deriving DecidableEq, Repr

/-- A JOB_START packet, how often the read of its composition table or of a mask fails, and how many words those reads correct (10 R333). -/
structure StartCmd extends Cmd where
  badReads  : Fin 3
  corrected : Nat := 0
  deriving DecidableEq, Repr

/-- The 64-byte windows of a bank whose words a reader finds with errors (10 R322, R323), one entry for each word: corrected ones, uncorrectable ones. -/
structure BankErrors where
  corrected : List Nat := []
  bad       : List Nat := []
  deriving DecidableEq, Repr

/-- A STATS_READ packet and the errors that the read of the statistics block meets (10 R322, R323). -/
structure StatsCmd extends Cmd where
  errors : BankErrors := {}
  deriving DecidableEq, Repr

/-- Words with errors in a BAR4 access (10 R333, 14 R425, R432): how many were corrected and how many are uncorrectable, in a read or in the read of a
partial write; and whether a write came poisoned. -/
structure Bar4Errors where
  corrected : Nat  := 0
  bad       : Nat  := 0
  poisoned  : Bool := false
  deriving DecidableEq, Repr

/-- What a mirror word's check bits show (10 R322, R323). -/
inductive MirrorEcc where
  | clean | corrected | bad
  deriving DecidableEq, Repr

/-- The end of a camera line (08 R265): its trailer, and the words of the line that its stripe's later read from the buffer finds with errors, by the
windows of the inspection bank (10 R322, R323). -/
structure LineTail where
  trailer : BitVec 16
  errors  : BankErrors := {}
  deriving DecidableEq, Repr

/-- Accepted levels of ENCn_A and ENCn_B (04 R117). -/
structure EncLevels where
  a : Bool
  b : Bool
  deriving DecidableEq, Repr

/-- The two BARs of registers (14 R424). -/
inductive Bar where
  | bar0 | bar2
  deriving DecidableEq, Repr

/-- The errors that the endpoint detects and reports through AER (14 R433): first the correctable ones. -/
inductive AerError where
  | receiver | badTlp | badDllp | replayTimeout | replayRollover | advisoryNonFatal
  | poisoned | poisonedSent | timeout | unexpectedCompletion | unsupportedReceived | abortReceived
  | malformed | dataLinkProtocol | flowControl | unsupportedRequest | surpriseDown
  deriving DecidableEq, Repr

/-- A write of the configuration space by the host (14 R422, R424, R431, R433, R478): Bus Master Enable; D3hot or D0; Max Payload Size 256 or 128; Max Read
Request Size 128, 256 or 512; ASPM L1 with its substates L1.1 and L1.2; LTR; the completion timeout in µs and its disable; the severity, the mask and the
status of an error; a dword of a BAR. -/
inductive ConfigWrite where
  | bme (on : Bool)
  | power (d3hot : Bool)
  | payload (wide : Bool)
  | readRequest (n : Fin 3)
  | aspm (l1 l11 l12 : Bool)
  | ltr (on : Bool)
  | timeout (us : Nat) (disabled : Bool)
  | severity (e : AerError) (fatal : Bool)
  | mask (e : AerError) (masked : Bool)
  | clear (e : AerError)
  | bar (i : Fin 6) (v : Word)
  deriving DecidableEq, Repr

/-- How a read of host memory fails (02 R479, 05 R174, 14 R433). -/
inductive ReadError where
  | unsupported | abort | poisoned | timeout | unexpected
  deriving DecidableEq, Repr

/-- What a read of host memory brings. -/
inductive ReadResult where
  | data (b : Bytes)
  | error (e : ReadError)
  deriving DecidableEq, Repr

/-- What an accepted transition does to the count (04 R117, R118): one up, one down, or lost because both inputs changed in one sample. -/
inductive EncMove where
  | up | down | both
  deriving DecidableEq, Repr

/-- The four interlock classes (03 R110). -/
inductive TripClass where
  | headOpen | paperOut | jam | emergency
  deriving DecidableEq, Repr

/-- A temperature sensor (09 R291, R293). -/
inductive Sensor where
  | head (c : Fin 48)
  | die (i : Fin 6)
  deriving DecidableEq, Repr

/-- The two WizerLink ports (12 R367). -/
inductive Side where
  | east | west
  deriving DecidableEq, Repr

/-- The PLLs (13 R411). -/
inductive Pll where
  | system | memory | pcie | link
  deriving DecidableEq, Repr

/-- The monitored rails (16 R465); `low` is what the VPP_OTP comparator then reads: below 1.71 V, or back at it (11 R353). -/
inductive Rail where
  | vddAon | vddio | switched
  | vppOtp (low : Bool)
  deriving DecidableEq, Repr

/-- The wake sources (13 R404). -/
inductive WakeSource where
  | host | mirror | link | timer | dma
  | sensor (n : Fin 16)
  deriving DecidableEq, Repr

/-- The tamper detectors (11 R365). -/
inductive TamperDetector where
  | tamper0 | tamper1 | voltage | clockGlitch
  deriving DecidableEq, Repr

/-- What a bank read finds (10 R322, R323): the region of an uncorrectable word, where the spec distinguishes it. -/
inductive BankRegion where
  | fifo (ch : Fin 48) (word : Nat)
  | slotBuffer (ch : Fin 48) (word : Nat)
  | posted (layer : Fin 4) (ch : Fin 48) (line : Nat)
  | nozzleMap (ch : Fin 48) (word : Nat)
  | masks
  | working
  | stripe (port : Fin 2) (nth : Nat)
  | thresholdRing (port : Fin 2) (nth : Nat)
  | statistics (port : Fin 2) (frame : Nat)
  | other
  deriving DecidableEq, Repr

/-- Words with errors that composition or packing meets (10 R322, R323, R333): the uncorrectable ones of what it reads, by their place, those of the bank,
and the windows of the bank's corrected ones. -/
structure BadWords (α : Type) where
  words     : List α := []
  bank      : List BankRegion := []
  corrected : List Nat := []
  deriving DecidableEq, Repr

/-- The end of a DMA transfer (10 R341): the errors of a source on the device, the region of each uncorrectable word of a bank in their order (10 R323),
and what a host source reads as. -/
structure DmaData extends ReadErrors where
  regions  : List BankRegion := []
  hostData : Bytes := []
  deriving DecidableEq, Repr

/-- The result of testing one window, with the region that a failing row belongs to (10 R322-R327). -/
inductive TestResult where
  | clean
  | corrected
  | uncorrectable (region : BankRegion)
  | failingCell (region : BankRegion)
  deriving DecidableEq, Repr

/-- An answer frame on HDn_ID (03 R104) and whether the receiver met a code error. -/
structure IdFrame where
  codeError : Bool
  bytes     : Bytes
  deriving DecidableEq, Repr

/-- A WizerLink frame (12 R370). -/
structure Frame where
  typ     : BitVec 4
  dest    : Byte
  seq     : BitVec 12
  payload : Bytes
  deriving DecidableEq, Repr

/-- What a TOPO frame tells of a second master (12 R378): nothing; that a second master has sent it; that the second master is no longer on the ring; that
it left through a reset that made it sense its role again. -/
inductive RingMasters where
  | one | second | left | sensedAgain
  deriving DecidableEq, Repr

/-- What a TOPO enumeration frame or break notice brings (12 R373, R376-R379): its SEQ, the HOPS of its route word, and its content, of which the spec gives
no layout; `sideEast` and `sideWest` count the devices that the receiver reaches through each port, those without an ID too. -/
structure Topo where
  seq     : BitVec 12
  hops    : Nat
  masters : RingMasters
  origin  : Byte
  offer   : Option (Fin 8)
  hopsEast : List (Option Nat)
  hopsWest : List (Option Nat)
  present : List Bool
  closed  : Bool
  sideEast : Nat
  sideWest : Nat
  deriving DecidableEq, Repr

/-- A TOPO park notice (12 R397): the port it comes in by, and its SEQ. -/
structure ParkNotice where
  port : Side
  seq  : BitVec 12
  deriving DecidableEq, Repr

/-- A blob in a drop-watch frame (06 R221). -/
structure Blob where
  col  : Int
  row  : Int
  area : Nat
  deriving DecidableEq, Repr

/-- An error that the drop-watch receiver meets in a packet (06 R214): a single-bit or a multi-bit header ECC error, a payload CRC mismatch, a data type
or virtual channel that is not supported. -/
inductive DropError where
  | headerOne | headerMany | crc | unsupported
  deriving DecidableEq, Repr

/-- A drop-watch frame on its virtual channel (06 R212, R214, R221): the data type and size of its lines, whether its frame end came, the errors met, and
the blobs that the 8 most significant bits of its pixels show. -/
structure DropFrame where
  dataType : BitVec 6
  width    : Nat
  height   : Nat
  ended    : Bool
  errors   : List DropError
  blobs    : List Blob
  deriving DecidableEq, Repr

/-- What times out (14 R433). -/
inductive PendingRead where
  | dma (k : Fin 16)
  | tile (id : Nat)
  | ring
  deriving DecidableEq, Repr

/-- An error that the endpoint meets by itself (14 R433): a read of the device that times out, or that an Unexpected Completion ends; a correctable error; a
poisoned write to BAR0 or BAR2; a request to no BAR or that is no memory request; a TLP discarded as malformed or by a protocol error. -/
inductive EndpointError where
  | timeout (r : PendingRead)
  | unexpected (r : PendingRead)
  | correctable (k : Fin 6)
  | poisonedWrite
  | badRequest
  | malformed | dataLinkProtocol | flowControl
  deriving DecidableEq, Repr

/-- What the host lifts of the masks over MSI-X vectors (14 R428): one vector, the function mask, MSI-X Enable. -/
inductive Unmask where
  | vector (v : Fin 32)
  | function (mask : Bool)
  | enable (on : Bool)
  deriving DecidableEq, Repr

/-- The commands. -/
inductive Instr where
  -- command packets, executed by the agent of 02 R70
  | ping (c : Cmd)
  | getInfo (c : Cmd)
  | setPower (c : Cmd)
  | blockReset (c : Cmd)
  | headAttach (c : Cmd)
  | headConfig (c : Cmd)
  | brewLoad (c : Cmd)
  | rotationLoad (c : Cmd)
  | cosySet (c : Cmd)
  | jobOpen (c : Cmd)
  | layerDefine (c : Cmd)
  | jobStart (c : StartCmd)
  | jobStop (c : Cmd)
  | jobResume (c : Cmd)
  | jobClose (c : Cmd)
  | tilePost (c : Cmd)
  | axisConfig (c : Cmd)
  | moveAbs (c : Cmd)
  | moveVel (c : Cmd)
  | axisStop (c : Cmd)
  | axisResume (c : Cmd)
  | home (c : Cmd)
  | kinematicsSet (c : Cmd)
  | axisStatus (c : Cmd)
  | camConfig (c : Cmd)
  | camExpose (c : Cmd)
  | statsRead (c : StatsCmd)
  | outputConfig (c : Cmd)
  | contextLoad (c : Cmd)
  | surveyStart (c : Cmd)
  | nozzleMapRead (c : Cmd)
  | nozzleMapWrite (c : Cmd)
  | strainerConfig (c : Cmd)
  | thermalConfig (c : Cmd)
  | thermalStatus (c : Cmd)
  | shutdownRelease (c : Cmd)
  | memtestConfig (c : Cmd)
  | storeConfig (c : Cmd)
  | countersRead (c : Cmd)
  | countersClear (c : Cmd)
  | injectArm (c : Cmd)
  | inject (c : Cmd)
  | ringStatus (c : Cmd)
  | ringMap (c : Cmd)
  | lifecycleAdvance (c : Cmd)
  | tamperConfig (c : Cmd)
  | fireHold (c : Cmd)
  | fireRelease (c : Cmd)
  | eStop (c : Cmd)
  | mirrorSnap (c : Cmd)
  -- rings and packet engine
  | cmdTail (v : Word)
  | immDoorbell (v : Word)
  | ringReadCompletion (data reread : Bytes)
  | ringReadError (e : ReadError)
  | kettleTakePacket
  | kettleStall
  | kettleRecover
  | kettleLoadUpdate (percent : Fin 101)
  | rplHead (v : Word)
  | evtHead (v : Word)
  | ringCtlReset (enables : BitVec 3)
  | cmdEn (on : Bool)
  | rplEn (on : Bool)
  | evtEn (on : Bool)
  -- registers
  | registerWrite (bar : Bar) (off : Nat) (v : Word) (be : BitVec 4)
  | loRegisterRead (bar : Bar) (off : Nat)
  | headOffsetHiWrite (ch : Fin 48) (v : Word)
  | fireConfigWrite (ch : Fin 48) (off : Nat) (v : Word)
  | shadowWrite (ch : Fin 48) (off : Nat) (v : Word)
  | commit (ch : Fin 48)
  | commitAt (ch : Fin 48)
  | evSoft (line : BitVec 6)
  | eventPulse (sources : List Nat)
  | dmaStart (k : Fin 16) (ctl : Word)
  | dmaComplete (k : Fin 16) (d : DmaData)
  | dmaHostError (k : Fin 16) (written : Bytes) (e : ReadError)
  | tcClear (j : Fin 4) (v : Word)
  | injGo (v : Word)
  | otpKey (v : Word)
  | otpKeyTimeout
  | otpRead
  | otpReadMarginLo
  | otpReadMarginHi
  | otpProgram
  | otpReburnWord
  | otpFinaliseRegion
  | otpProgramPulse (lo nom hi : BitVec 39)
  | shutdownLogWrite (lo nom hi : BitVec 39)
  | lifecycleAdvanceDone
  | warmReset (v : Word)
  | warmResetDone
  | pwrReqSleep
  | pwrReqIdle
  | pwrReqOff
  | offAfter
  | lowStateEntered
  | aonTimerExpiry
  | wakeRequest (src : WakeSource)
  | wakeComplete
  | powerOn (mbSync cascMaster rstN railsOk : Bool)
  | supplyMonitorTrip (rail : Rail)
  | rstNAssert
  | rstNRelease
  | pllLockLoss (pll : Pll)
  | fundamentalReset
  | hotReset
  | functionLevelReset
  | pcieLinkDown
  | pcieRecovery (counted : Bool)
  | busMasterEnable (w : ConfigWrite)
  | msixUnmask (u : Unmask)
  | completionTimeout (e : EndpointError)
  | bar4Access (off : Nat) (write : Option (List (Option Byte))) (len : Nat) (errors : Bar4Errors)
  | mirrorRead (a : BitVec 12) (ecc : MirrorEcc)
  | mirrorBadAccess
  | doorbell (v : BitVec 16)
  | immGo (v : BitVec 16)
  | wake (v : BitVec 16)
  | mirrorEStop (v : BitVec 16)
  | mirrorWriteRejected (a : BitVec 12) (v : BitVec 16)
  | mirrorRefresh
  | interlockAssert (n : Fin 13)
  | interlockRelease (c : TripClass)
  | sensorInputEdge (n : Fin 16) (rising : Bool)
  | tamperDetect (d : TamperDetector)
  | encCount (e : Fin 8) (m : EncLevels)
  | interpolatorTimeout (e : Fin 8)
  | lineTrigger (j : Fin 4)
  | preparationPoint (ch : Fin 48) (bad : BadWords Nat)
  | lineComposed (ch : Fin 48) (corrected : Nat) (bad : BadWords (Nat × Nat))
  | firePositionReached (ch : Fin 48)
  | slotStart (ch : Fin 48)
  | slotEnd (ch : Fin 48)
  | jobArmed (j : Fin 4)
  | shuttlePassArm (j : Fin 4)
  | lateWebStopped (j : Fin 4)
  | lateBackupDone (j : Fin 4)
  | lateReregister (j : Fin 4)
  | tileReadCompletion (id off : Nat) (r : ReadResult)
  | tileCopyRow (id : Nat) (errors : ReadErrors)
  | mapWriteApplied (ch : Fin 48)
  | thermalMeasurement (x : Sensor) (raw : Int)
  | throttleUpTimer (x : Sensor)
  | throttleDownTimer (x : Sensor)
  | feedAtCapacity (j : Fin 4)
  | throttleWaitOverrun (ch : Fin 48)
  | energyModelUpdate
  | sensorSuspect (x : Sensor)
  | cosyPeriod (ch : Fin 48)
  | trajectoryUpdate (me : Fin 2)
  | moveDone (ax : Fin 8)
  | axisStands (ax : Fin 8)
  | limitActive (ax : Fin 8) (positive : Bool)
  | homeSwitchQualified (ax : Fin 8) (active : Bool)
  | indexEdge (ax : Fin 8)
  | chatter (ax : Fin 8)
  | idAnswer (ch : Fin 48) (f : IdFrame)
  | idAnswerMissing (ch : Fin 48)
  | identRetry (ch : Fin 48)
  | responsePoll (ch : Fin 48)
  | authTimeout (ch : Fin 48)
  | surveyMoveDone
  | surveyRound
  | dropWatchFrame (cam : Fin 4) (f : DropFrame)
  | surveyTimeout
  | camTrigger (p : Fin 2)
  | camFrameBegin (p : Fin 2)
  | camLine (p : Fin 2) (pixels : List Nat) (tail : LineTail)
  | camFrameEnd (p : Fin 2)
  | camTimeout (p : Fin 2)
  | stripeStart
  | stripeDone
  | strainerBarObserved (ch : Fin 48) (bar : Nat)
  | backgroundTestWindow (bank : Fin 17) (r : TestResult)
  | patrolScrub (corrected uncorrectable : Nat)
  | storeRetrain
  | storeConfigDone
  | wlCommaLock (p : Side)
  | wlPortUp (p : Side)
  | ringBreak (p : Side)
  | retrainE
  | retrainW
  | ringReset
  | resetColumnsReceived (p : Side)
  | ringEnumerate (closed : Bool) (east west : List (Option (Fin 8)))
  | topoEnumeration (p : Side) (t : Topo)
  | topoBreakNotice (p : Side) (t : Topo)
  | topoParkNotice (n : ParkNotice)
  | wakeFrame (p : Side) (f : Frame)
  | wlSignalDetect (p : Side)
  | pos (p : Side) (f : Frame)
  | posSend
  | posTimeout
  | poslostClear
  | sync (p : Side) (f : Frame)
  | syncSend
  | alignLost
  | faultColumn (p : Side) (b1 b2 b3 : Byte)
  | flt (p : Side) (f : Frame)
  | fltRefresh
  | ack (p : Side) (seq : BitVec 12)
  | nak (p : Side) (seq : BitVec 12)
  | ackTimer (p : Side)
  | replayTimeout (p : Side)
  | wlFrameError (p : Side) (sequenced : Bool)
  | relayCommand (p : Side) (f : Frame)
  | relayReply (p : Side) (f : Frame)
  | deliveryAcknowledgement (p : Side) (f : Frame)
  | relayTimeout (pktId : BitVec 16)
  | data (p : Side) (f : Frame)
  | jobSignalLate (p : Side) (f : Frame)
  | jobSignalStopFiring (p : Side) (f : Frame)
  | jobSignalFifosFull (p : Side) (f : Frame)
  | jobSignalArm (p : Side) (f : Frame)
  | xtalQualified
  | switchedRailsInRange
  | pcieLinkUp (speed : BitVec 4) (width : BitVec 3)
  | limitInactive (ax : Fin 8) (positive : Bool)
  | blockResetDone
  | pkt (p : Side) (f : Frame)
  deriving DecidableEq, Repr

end Sys2Proof
end

