-- ==== Sys2Proof/Config.lean ====
section
/-! DEFINITION. What the spec leaves to the part or leaves open: opaque constants, so that no proof can lean on a value. -/
namespace Sys2Proof

/-- The free values (log entry 6): the k-th value that a step needs and that the spec does not give. -/
opaque Config.freeNat : Nat → Nat

/-- ROM firmware version (02 R76 GET_INFO ROM, 14 R431 ID_ROM); the spec gives no number. -/
opaque Config.romVersion : Word

/-- The choices among the columns that a single-error-correcting, double-error-detecting code can have (11 R343); the spec gives no matrix. -/
opaque Config.otpPick : Nat → Nat

/-- Whether a patch record (header and body, then signature words) verifies against the vendor key (11 R359). -/
opaque Config.patchVerifies : List Word → Bool

/-- Level and length in words of the patch record with this header word (11 R359); the spec gives no header layout. -/
opaque Config.patchHeader : Word → Nat × Nat

/-- Factory trim of die sensor i on a raw reading in 0.1 °C (09 R293, from OTP region 0). -/
opaque Config.dieTrim : Nat → Int → Int

/-- The rows of a bank that the DATA words of OTP region 0 list as repaired (10 R328); the spec gives no layout. -/
opaque Config.factoryRepairs : List Word → Nat → List Nat

/-- One sample of the edge-directed demosaic (08 R280): mosaic, phase, plane, the 5 × 5 neighbourhood, its colours, row and column of the pixel in the
pattern; the spec names the method only. -/
opaque Config.demosaic : Nat → Nat → Nat → List (List Nat) → List (List Nat) → Nat → Nat → Nat

/-- While the event fabric routes a line to CAMn_TRIG, a trigger position that no pulse has armed fires no trigger (01 R37, 08 R267); the spec does not say. -/
opaque Config.trigNeedsArm : Bool

/-- Whether a quotient that is not whole is rounded up, where a rule gives no rounding or no rule for a tie: numerator, denominator (08 R278-R289). -/
opaque Config.roundUp : Nat → Nat → Bool

/-- Weight of the short exposure in 1/256 under the start value of a context, whose knee the spec does not give (08 R277, R279). -/
opaque Config.startBlend : Nat → Nat

/-- A pixel of the lines above a stripe whose predecessor was dropped (08 R282, R285): draw, row, column. -/
opaque Config.lostPixel : Nat → Nat → Nat → Nat

/-- The chroma sample of a block of pixels (08 R288: 4:2:2 and NV12), and the mean of a zone without pixels (08 R286). -/
opaque Config.chroma : List Nat → Nat
opaque Config.emptyZone : Nat

/-- An interlock input is still asserted: its number, the model clock of its last assertion, and the present one (03 R110); no command tells when an input
deasserts. -/
opaque Config.inputHeld : Nat → Nat → Nat → Bool

/-- A byte of an on-chip bank whose layout the spec does not give, as DMA reads it (10 R318). -/
opaque Config.bankByte : Nat → Nat → Byte

end Sys2Proof
end

