-- ==== Sys2Proof/Machine/State.lean ====
section
/-! DEFINITION. The state of the block as plain data, and the state right after reset.

Each field names its rule: (file of spec/ and rule; width or range).  The value after := is its reset value. -/
namespace Sys2Proof.Machine

/-- No meaning of this block ends in a fault: the spec describes every failure as an effect on the state (status code, counter, latch). -/
inductive Fault where
  /-- Raised by nobody; safe. -/
  | unused
  deriving DecidableEq, Repr

/-- Reasons for having no meaning. -/
inductive Refusal where
  /-- An arm of exec that has no meaning yet; safe. -/
  | notModelled (mnemonic : String)
  deriving DecidableEq, Repr

/-! ### Packets, rings, replies -/

/-- Where a packet came from: the command ring, the immediate slot, another device under a PKT_ID (12 R390). -/
inductive Source where
  | ring | imm
  | relay (origin : Byte) (pktId : BitVec 16)
  deriving DecidableEq, Repr

/-- A command packet (02 R45). -/
structure Packet where
  opcode : BitVec 16
  flags  : Byte
  target : Byte
  tag    : BitVec 16
  length : Nat
  params : Bytes
  deriving DecidableEq, Repr

/-- A packet in the Kettle queue with its place in the order of arrival. -/
structure QPacket where
  pkt : Packet
  src : Source
  seq : Nat
  deriving DecidableEq, Repr

/-- A reply to be written (02 R45, R58). -/
structure Reply where
  opcode : BitVec 16
  tag    : BitVec 16
  status : BitVec 16
  params : Bytes
  /-- The bytes of a reply that another device wrote, relayed here; empty for the device's own -/
  raw    : Bytes := []
  /-- The device that the command came from over WizerLink, which the reply goes back to (12 R390) -/
  relayTo : Option Byte := none
  deriving DecidableEq, Repr

/-- The operations whose final reply is owed (02 R64). -/
inductive OpKind where
  | attach
  | jobStart (job : BitVec 16)
  | jobStop (job : BitVec 16)
  | moveAbs (ax : Nat)
  | moveVel (ax : Nat)
  | axisStop (axes : BitVec 8)
  | axisResume (axes : BitVec 8)
  | home (ax : Nat)
  | survey
  | storeConfig
  | mapWrite (ch first : Nat) (entries : List (BitVec 4))
  | lifecycle (tgt : Nat)
  | blockReset
  | warmReset
  deriving DecidableEq, Repr

/-- An operation whose final reply is owed. -/
structure PendOp where
  kind : OpKind
  pkt  : Packet
  src  : Source
  seq  : Nat
  deriving DecidableEq, Repr

/-- The registers of one ring (02 R49-R53). -/
structure Ring where
  /-- Base address, 4 KB aligned (02 R52 BASE; 64) -/
  base : BitVec 64 := 0
  /-- LOG2 of the slot count (02 R52 SIZE; 8-12) -/
  log2 : Nat := 8
  /-- Consumer index (02 R50, R52 INDEX; 12) -/
  head : Nat := 0
  /-- Producer index (02 R50, R52 INDEX; 12) -/
  tail : Nat := 0
  /-- RING_CTL enable bit (02 R52; 1) -/
  en : Bool := false
  deriving DecidableEq, Repr

/-- A fetch of command-ring slots under way: the next slot whose bytes are to arrive, the tail it was issued for, the bytes of the packet that is not yet whole (02 R54). -/
structure Fetch where
  next : Nat
  stop : Nat
  buf  : Bytes
  deriving DecidableEq, Repr

/-- The packet engine, its registers and the Kettle queue (02). -/
structure PacketEngine where
  /-- Command ring (02 R52) -/
  cmd : Ring := {}
  /-- Reply ring (02 R52) -/
  rpl : Ring := {}
  /-- Event ring (02 R52) -/
  evt : Ring := {}
  /-- Immediate slot (02 R52, R55; 64 bytes) -/
  immSlot : Vector Word 16 := Vector.replicate 16 0
  /-- RING_STAT.IMM_BUSY (02 R52; 1) -/
  immBusy : Bool := false
  /-- RING_STAT.IMM_LOST (02 R52; 1, W1C) -/
  immLost : Bool := false
  /-- RING_STAT.EVT_LOST (02 R52; 1, W1C) -/
  evtLost : Bool := false
  /-- RING_STAT.RPL_LOST (02 R52; 1, W1C) -/
  rplLost : Bool := false
  /-- RING_STAT.IDX_ERR (02 R52; 1, W1C) -/
  idxErr : Bool := false
  /-- RING_STAT.CFG_ERR (02 R52; 1, W1C) -/
  cfgErr : Bool := false
  /-- RING_STAT.KETTLE_LOAD while Kettle is not stalled (02 R82; 8) -/
  load : BitVec 8 := 0
  /-- RING_STAT.KETTLE_STALL (02 R79; 1) -/
  stalled : Bool := false
  /-- Model clock at which the stall was declared (02 R61 code 0x0002) -/
  stallSince : Nat := 0
  /-- Fetch under way (02 R54) -/
  fetch : Option Fetch := none
  /-- Kettle queue, oldest first (02 R63; at most 64) -/
  queue : List QPacket := []
  /-- Model clock from which the 5 ms of R79 run (02 R79) -/
  takeFrom : Nat := 0
  /-- Reply hold buffer (02 The reply ring is full; at most 32) -/
  hold : List Reply := []
  /-- Replies that Kettle waits to write (02 The reply ring is full) -/
  kettleWait : List Reply := []
  /-- Event records dropped since the last 0x0003 record (02 R62) -/
  evtDropped : Nat := 0
  /-- Operations whose final reply is owed (02 R64) -/
  ops : List PendOp := []
  /-- Number of packets accepted so far, the order of arrival (02 R65) -/
  seq : Nat := 0
  /-- Kettle is held in reset by a failed ROM digest (13 R413) -/
  romFail : Bool := false
  /-- Kettle is rebooting in a warm reset (13 R416) -/
  rebooting : Bool := false
  deriving DecidableEq, Repr

/-! ### Host ports -/

/-- One MSI-X table entry (14 R427). -/
structure MsixEntry where
  addrLo : Word := 0
  addrHi : Word := 0
  data   : Word := 0
  /-- Vector control; bit 0 masks; masked at reset -/
  ctrl   : Word := 1
  deriving DecidableEq, Repr

/-- A host access held by flow control until RUN (13 R405, 14 R430). -/
inductive HostAccess where
  | write (bar : Bar) (off : Nat) (v : Word) (be : BitVec 4)
  | read (bar : Bar) (off : Nat)
  | bar4 (off : Nat) (write : Option (List (Option Byte))) (len : Nat) (errors : Bar4Errors)
  deriving DecidableEq, Repr

/-- The message that reports an error (14 R433). -/
inductive ErrorClass where
  | correctable | nonFatal | fatal
  deriving DecidableEq, Repr

/-- What the host controls in the configuration space (14 R422; the reset values are those of PCI Express, PRESUMED, log entry 7). -/
structure DevControl where
  /-- Max Payload Size in bytes (14 R422; 128 or 256) -/
  payload : Nat := 128
  /-- Max Read Request Size in bytes (14 R422; 128 to 512) -/
  readRequest : Nat := 512
  /-- ASPM L1 and the L1 PM Substates L1.1 and L1.2 enabled (14 R422; 1, 1, 1) -/
  l1 : Bool := false
  l11 : Bool := false
  l12 : Bool := false
  /-- LTR enabled (14 R422; 1) -/
  ltr : Bool := false
  /-- Completion timeout in µs, and its disable (14 R422; 50 to 10,000, default 10,000; 1) -/
  timeoutUs : Nat := 10000
  timeoutOff : Bool := false
  /-- Base addresses of BAR0, BAR2 and BAR4 (14 R424; 64 each) -/
  bars : Vector (BitVec 64) 3 := Vector.replicate 3 0
  deriving DecidableEq, Repr

/-- The identification words of the configuration space (14 R423). -/
structure ConfigSpace where
  /-- Vendor ID, Device ID (14 R423; 16, 16) -/
  vendor : BitVec 16 := 0x1D0A
  device : BitVec 16 := 0x4816
  /-- Revision ID (14 R423; 8) -/
  revision : Byte := 0xB1
  /-- Class code (14 R423; 24) -/
  classCode : BitVec 24 := 0x118000
  /-- Subsystem Vendor ID, Subsystem ID (14 R423; 16, 16) -/
  subVendor : BitVec 16 := 0x1D0A
  subsystem : BitVec 16 := 0x4816
  deriving DecidableEq, Repr

/-- The PCIe endpoint (14 R422-R435). -/
structure HostPort where
  /-- Identification words (14 R423) -/
  cfg : ConfigSpace := {}
  /-- Errors reported through AER and not cleared since, without repeats (14 R433) -/
  aer : List AerError := []
  /-- Errors that the host has programmed as fatal, and those it has masked (14 R433; PRESUMED from PCI Express at reset, log entry 7) -/
  aerFatal : List AerError := [.malformed, .dataLinkProtocol, .flowControl, .surpriseDown]
  aerMask : List AerError := []
  /-- The last error message sent (14 R433; output) -/
  aerSent : Option (AerError × ErrorClass) := none
  /-- What the host controls in the configuration space (14 R422, R424) -/
  ctl : DevControl := {}
  /-- The link is in L0 or a state it returns from by itself (13 R399, 14 R435) -/
  linkUp : Bool := false
  /-- HP_LINK.SPEED (14 R431; 4) -/
  speed : BitVec 4 := 0
  /-- HP_LINK.WIDTH (14 R431; 3) -/
  width : BitVec 3 := 0
  /-- HP_LINK.BME (14 R431, R478; 1) -/
  bme : Bool := false
  /-- HP_LINK.MSIX_EN (14 R431; 1) -/
  msixEn : Bool := false
  /-- HP_LINK.FUNC_MASK (14 R431; 1) -/
  funcMask : Bool := true
  /-- HP_LINK.DSTATE (14 R431; 2) -/
  dstate : BitVec 2 := 0
  /-- MSI-X table (14 R427; 32 entries of 16 bytes) -/
  msix : Vector MsixEntry 32 := Vector.replicate 32 {}
  /-- MSI-X pending bits (14 R427; 32) -/
  pba : BitVec 32 := 0
  /-- HP_RECOV (14 R431; 32) -/
  recov : Word := 0
  /-- HP_ERR (14 R431; 6, W1C) -/
  err : BitVec 6 := 0
  /-- BAR4_WIN (14 R431; 6) -/
  bar4Win : BitVec 6 := 0
  /-- _HI values latched by a read of _LO, by BAR2 offset of the _HI register (04 R140) -/
  hiLatch : List (Nat × Word) := []
  /-- Value of the last register read completed (output) -/
  readData : Word := 0
  /-- Bytes of the last BAR4 read completed (output) -/
  bar4Data : Bytes := []
  /-- Whether the last BAR4 read completed poisoned (10 R333; output) -/
  bar4Poisoned : Bool := false
  /-- Accesses held until RUN, oldest first (13 R405) -/
  held : List HostAccess := []
  /-- Bytes the device has written into host memory, canonical; unlisted bytes read 0 (02 R49, log entry 7) -/
  mem : List Host.Cell := []
  deriving DecidableEq, Repr

/-- The mirror port (14 R436-R445). -/
structure Mirror where
  /-- Mirror SRAM (14 R441; 4096 words of 16), sparse, unlisted words read 0 -/
  sram : List (Nat × BitVec 16) := []
  /-- Snapshot latch: word address of the low word, and the value's words (14 R442) -/
  latch : Option (Nat × List (BitVec 16)) := none
  /-- MB_STAT.SYNC, the strap (14 R437; 1); DESIGN CHOICE async -/
  sync : Bool := false
  /-- MB_D of the last read, none when the device drives nothing (14 R436; output) -/
  out : Option (BitVec 16) := none
  /-- A DOORBELL value held in AON until RUN (14 R445) -/
  heldTail : Option Nat := none
  /-- An IMM_GO held in AON until RUN (14 R445) -/
  heldGo : Bool := false
  deriving DecidableEq, Repr

/-! ### Counters, injection, fabric -/

/-- Trouble counters (15 R446-R450). -/
structure Counters where
  /-- The counters (15 R446; 128 of 16) -/
  val : Vector (BitVec 16) 128 := Vector.replicate 128 0
  /-- Saturation flags (15 R447; 128) -/
  sat : BitVec 128 := 0
  deriving DecidableEq, Repr

/-- Fault injection (15 R451-R456). -/
structure Injection where
  /-- Armed detector (15 R451 INJ_STAT.ARMED, DETECTOR) -/
  armed : Option Nat := none
  /-- SHOTS (15 R451; 8) -/
  shots : Nat := 0
  /-- TAKEN (15 R451; 8) -/
  taken : Nat := 0
  /-- The detector of the released shot that has not yet acted (15 R451 PENDING) -/
  released : Option Nat := none
  /-- INJ_STAT.REFUSED (15 R451; 1, W1C) -/
  refused : Bool := false
  deriving DecidableEq, Repr

/-- A route register (01 R38). -/
structure Route where
  en : Bool := false
  line : BitVec 6 := 0
  deriving DecidableEq, Repr

/-- The event fabric (01 R31-R39). -/
structure Fabric where
  /-- SRC_ROUTE (01 R38; 128 registers) -/
  src : Vector Route 128 := Vector.replicate 128 {}
  /-- DST_ROUTE EN and LINE (01 R38; 128 registers) -/
  dst : Vector Route 128 := Vector.replicate 128 {}
  /-- DST_ROUTE.PEND (01 R31, R38; 128) -/
  pend : BitVec 128 := 0
  /-- EV_LATCH (01 R38; 64, W1C) -/
  latch : BitVec 64 := 0
  /-- Source pulses on their way to their event lines, oldest first (01 R31, R43) -/
  raised : List Nat := []
  /-- How many of them, from the front, have been on their way for a FIRE tick: the source's synchroniser still holds them (01 R21, R43) -/
  aged : Nat := 0
  /-- Consumers outside CORE that hold a pulse in their pending flag, each with the model clock at which it acts (01 R31, R43) -/
  due : List (Nat × Nat) := []
  deriving DecidableEq, Repr

/-! ### Power, clocks, reset -/

/-- The four power states (13 R399). -/
inductive PowerState where
  | off | sleep | idle | run
  deriving DecidableEq, Repr

/-- Power, clocks and reset (13). -/
structure Power where
  /-- Every supply the device needs is present (16 R462, R465) -/
  supply : Bool := true
  /-- Power state (13 R399) -/
  state : PowerState := .run
  /-- The state that an entry in progress leads to (13 R403) -/
  entering : Option PowerState := none
  /-- A wake, power-on or pin-reset sequence is under way (13 R406, R407, R415); WAKING of the POWER word -/
  waking : Bool := false
  /-- The sequence under way runs the steps of R407 from the OTP sense on -/
  cold : Bool := false
  /-- Waiting for the switched rails or for RST_N (13 R413 step 2, 16 R462, R465) -/
  railWait : Bool := false
  /-- RST_N is low, or a pin reset is held (13 R415) -/
  pinHeld : Bool := false
  /-- CORE_PWR_EN output (13 R399; 1) -/
  corePwrEn : Bool := true
  /-- PWR_STAT.PREV (13 R421; 3) -/
  prev : BitVec 3 := 3
  /-- PWR_STAT.REFUSED (13 R421; 1, W1C) -/
  refused : Bool := false
  /-- PWR_CTL.OFF_AFTER (13 R421; 16; AON) -/
  offAfter : BitVec 16 := 0
  /-- WAKE_EN (13 R421; 32; AON) -/
  wakeEn : Word := 0x1F
  /-- WAKE_CAUSE (13 R421; 32, W1C; AON) -/
  wakeCause : Word := 0
  /-- AON_TIMER (13 R410, R421; 32; AON) -/
  aonTimer : Word := 0
  /-- Model clock at which AON_TIMER was written -/
  aonTimerAt : Nat := 0
  /-- CLK_STAT.XTAL_OK (13 R421; 1) -/
  xtalOk : Bool := false
  /-- CLK_STAT.REF_OK, and its lock bits: system, memory, PCIe, link PLL (13 R411, R421; 1, 4); all set in RUN after a reset -/
  refOk : Bool := true
  pllLock : BitVec 4 := 0xF
  /-- CLK_STAT.LOSS (13 R421; 4, W1C) -/
  lockLoss : BitVec 4 := 0
  /-- RST_CAUSE (13 R421; 9, W1C; AON) -/
  rstCause : BitVec 9 := 1
  /-- Model clock at the last entry into SLEEP (13 R401 OFF_AFTER) -/
  sleepAt : Nat := 0
  /-- Model clock at which the timebase stopped for SLEEP or OFF (13 R403, R408) -/
  aonFrom : Nat := 0
  /-- The sequence under way has sensed OTP (11 R360) -/
  sensed : Bool := true
  /-- Blocks held in a block reset (13 R417; BLOCKS bits) -/
  blockHeld : BitVec 17 := 0
  /-- CASC_MASTER strap (12 R375); DESIGN CHOICE low -/
  cascMaster : Bool := false
  deriving DecidableEq, Repr

/-- Interlocks (03 R110-R116). -/
structure Interlock where
  /-- Inputs asserted, HOPEN0-3, PAPER0-3, JAM0-3, E_STOP from bit 0 (03 R110; 13); DESIGN CHOICE none asserted -/
  inputs : BitVec 13 := 0
  /-- Model clock of the last assertion of each input (the model's own; 03 R110) -/
  inputAt : Vector Nat 13 := Vector.replicate 13 0
  /-- Trip latches head open, paper out, jam, emergency stop (03 R111; 4; AON) -/
  trips : BitVec 4 := 0xF
  /-- Model clock of the last assertion in each class, from which its 328 deasserted samples count (03 R113, R114) -/
  assertedAt : Vector Nat 4 := Vector.replicate 4 0
  /-- Levels of SENS0-15 (13 R404); DESIGN CHOICE low -/
  sens : BitVec 16 := 0
  deriving DecidableEq, Repr

/-! ### Position and motion -/

/-- One encoder input and its interpolator (04 R117-R121). -/
structure Encoder where
  /-- Accepted levels of ENCn_A and ENCn_B (04 R117); DESIGN CHOICE low (log entry 5) -/
  a : Bool := false
  b : Bool := false
  /-- The count (04 R117) -/
  count : Int := 0
  /-- Timebase and direction of the last five counts, newest first (04 R119) -/
  hist : List (Nat × Bool) := []
  /-- v as numerator and denominator, position units per FIRE tick (04 R119) -/
  vNum : Nat := 0
  vDen : Nat := 1
  /-- The position held when the interpolator holds (04 R118, R121) -/
  held : Option Int := none
  /-- Position units subtracted from every position: the INDEX of completed homings (07 R254) -/
  base : Int := 0
  deriving DecidableEq, Repr

/-- A speed change, or a span of constant speed when v0 = v1 (07 R239): speeds in position units per second, n trajectory updates. -/
structure Seg where
  v0 : Rat
  v1 : Rat
  n  : Nat
  deriving DecidableEq, Repr

/-- What a move runs to (07 R241, R242). -/
inductive Goal where
  | abs (target : Int)
  | vel (v : Rat)
  deriving DecidableEq, Repr

/-- A move and the values in force for it (07 R243, R245). -/
structure Move where
  goal : Goal
  prof : Nat
  v    : Nat
  a    : Nat
  j    : Nat
  deriving DecidableEq, Repr

/-- AXIS_STATUS STATE (02 R76). -/
inductive AxisState where
  | idle | moving | stopping | stopped | homing | fault
  deriving DecidableEq, Repr

/-- A homing under way (07 R252-R254). -/
structure HomeRun where
  dir : Nat
  qual : Nat
  chatter : Nat
  windowUs : Nat
  vFast : Nat
  vSlow : Nat
  backoff : Int
  /-- Phase 1-4; 5 decelerating to the end; 6 decelerating after phase 1; 7 the rest of the back-off -/
  phase : Nat
  /-- Position at which the switch qualified in the present phase -/
  mark : Int
  /-- INDEX and RESULT once the homing is ending -/
  index : Int
  result : Nat
  deriving DecidableEq, Repr

/-- The legs of the data-late sequence on the feed axis (07 R257, R259). -/
inductive Leg where
  | none | stopWeb | backup | rereg
  deriving DecidableEq, Repr

/-- One axis (07). -/
structure Axis where
  /-- Configured by AXIS_CONFIG (07 R238) -/
  configured : Bool := false
  /-- MODE (02 R71; 0-2) -/
  mode : Nat := 0
  /-- POLARITY (02 R71; 3) -/
  polarity : BitVec 3 := 0
  /-- WINDOW, V_MAX, A_MAX, J_MAX (02 R71, 07 R237; 32 each) -/
  window : Nat := 0
  vMax : Nat := 0
  aMax : Nat := 0
  jMax : Nat := 0
  /-- AXn_LNEG active (07 R250); DESIGN CHOICE inactive -/
  limNeg : Bool := false
  /-- AXn_LPOS active (07 R250); DESIGN CHOICE inactive -/
  limPos : Bool := false
  /-- COMMANDED, in 1/65536 position unit (07 R236) -/
  commanded : Int := 0
  /-- STATE (02 R76) -/
  state : AxisState := .idle
  /-- FAULT (02 R76; 0-4) -/
  fault : Nat := 0
  /-- The present or retained move (07 R248) -/
  move : Option Move := none
  /-- REMAINING retained (07 R248, R251) -/
  remaining : Int := 0
  /-- The plan: speed changes and spans still to run (07 R239) -/
  segs : List Seg := []
  /-- Updates of the first segment already run -/
  segAt : Nat := 0
  /-- Speed reached at the last update (07 R260), position units per second -/
  speed : Rat := 0
  /-- Deceleration of the stop in progress, A and J (07 R247) -/
  stopA : Nat := 0
  /-- FAULT with which the stop in progress ends (07 R250, R253) -/
  stopFault : Nat := 0
  /-- A that a DEFERRED KINEMATICS_SET left for the next move (07 R246) -/
  nextA : Option Nat := none
  /-- Homing under way (07 R252) -/
  homing : Option HomeRun := none
  /-- Leg of a data-late sequence (07 R257) -/
  leg : Leg := .none
  /-- The move a data-late sequence interrupted (07 R257) -/
  saved : Option Move := none
  /-- The last move run since AXIS_CONFIG, whose PROFILE, A and J a JOB_RESUME takes (07 R259) -/
  last : Option Move := none
  /-- Net count of STEPn edges since power-on (07 R236; output) -/
  steps : Int := 0
  /-- DIRn output (07 R236; 1) -/
  dirOut : Bool := false
  /-- The velocity move has reached its speed and reported it (07 R260) -/
  moved : Bool := false
  /-- The speed limit of R244 in force at the last plan, none without one -/
  vLim : Option Rat := none
  /-- X_B of a backup or X_T of the re-register leg, and v_R (07 R257, R259), position units and position units per second -/
  legX : Int := 0
  legV : Rat := 0
  /-- The interrupted move was in its final speed change to 0 at X_T (07 R257) -/
  legFinal : Bool := false
  /-- TARGET that the plan lands on at its last update (07 R241), none for a plan that ends at a speed or beyond the target -/
  landing : Option Int := none
  /-- The limit of R244 holds the planned peak below what the move's V would give -/
  limited : Bool := false
  /-- ENCODER at the last update (07 R260) -/
  encAt : Int := 0
  /-- ENn output (07 R235; 1) -/
  en : Bool := false
  deriving DecidableEq, Repr

/-! ### Heads -/

/-- HEAD_ID (03 R105). -/
structure HeadId where
  maker  : BitVec 16 := 0
  type   : Byte := 0
  size   : Byte := 0
  serial : Word := 0
  deriving DecidableEq, Repr

/-- A brew table (04 R131). -/
structure Brew where
  na : Nat := 0
  nb : Nat := 0
  tRef : Int := 0
  slope : Int := 0
  limit : Nat := 0
  groupDt : List Int := []
  pulseA : List Word := []
  pulseB : List Word := []
  deriving DecidableEq, Repr

/-- A rotation table (03 R94); the default of R96. -/
structure Rotation where
  slots : Nat := 8
  gTable : Nat := 4
  slotOf : List Nat := (List.range 32).map (· % 8)
  deriving DecidableEq, Repr

/-- A set of selections (04 R139 SH_SEL, SH_STITCH). -/
structure ShadowSet where
  rot : Nat := 0
  brewL : Nat := 0
  brewM : Nat := 0
  brewS : Nat := 0
  stitch : Nat := 0
  deriving DecidableEq, Repr

/-- An armed hand-over (04 R142, R146, R147): at the next boundary, at the boundary of a line, or while idle. -/
inductive Arm where
  | next
  | idle
  | line (n : Nat)
  deriving DecidableEq, Repr

/-- One pulse on a pulse line: rise and fall in quarter-ticks from the falling edge of HDn_LAT (04 R132). -/
abbrev Pulse := Int × Int

/-- One slot of a prepared period (03 R98, R100, 04 R135). -/
structure SlotPlan where
  groups : List Nat
  fireA  : List Pulse
  fireB  : List Pulse
  /-- Minimum length, of the last slot without its shift term (03 R100) -/
  len    : Nat
  deriving DecidableEq, Repr

/-- A prepared fire period (03 R99, 04 R143). -/
structure Period where
  line  : Nat
  /-- The composed codes, for a line that is prepared again (05 R194) -/
  raw   : List Code
  plan  : List SlotPlan
  codes : List Code
  /-- Fires no pulses although it runs: DRY (04 R154) or held (02 R78) -/
  quiet : Bool
  held  : Bool
  /-- 0 not due, 1 due on time, 2 due and late (04 R150) -/
  due   : Nat
  /-- Model clock of the preparation point; the line trigger is one clock later (04 R129) -/
  since : Nat
  /-- A Cosy period, which fires no line (09 R311) -/
  cosy  : Bool
  deriving DecidableEq, Repr

/-- The slot being fired and what the pads show (03 R88-R93). -/
structure Firing where
  period : Period
  slot   : Nat
  start  : Nat
  ended  : Bool
  mask   : Word
  fireA  : List Pulse
  fireB  : List Pulse
  deriving DecidableEq, Repr

/-- Identification of one channel (03 R106, R107). -/
structure Ident where
  /-- 0 IDENT sent, 1 waiting to retry, 2 CHALLENGE sent, 3 RESPONSE sent, 4 waiting to poll -/
  phase : Nat
  missing : Nat
  failed : Nat
  id : HeadId
  challenge : Bytes
  /-- Model clock of the CHALLENGE answer (03 R107) -/
  since : Nat
  /-- Model clock at the start of the last device frame, at the end of the wait for its answer, and from which the next may be sent (03 R103, R106, R107) -/
  sentAt : Nat
  waitEnd : Nat
  readyAt : Nat
  deriving DecidableEq, Repr

/-- A line in the FIFO (05 R160). -/
structure FifoLine where
  line : Nat
  codes : List Code
  deriving DecidableEq, Repr

/-- One head channel: configuration, tables, sets, FIFO, firing (03-06). -/
structure Chan where
  /-- Attached (03 R106) -/
  attached : Bool := false
  /-- HEAD_ID of the attached head (03 R105) -/
  headId : HeadId := {}
  /-- AUTH_FAIL found by the last attach (03 R107) -/
  authFail : Bool := false
  /-- Configured by HEAD_CONFIG (03 R106, R109) -/
  configured : Bool := false
  /-- INK, ROW, G_MAX, NOZZLES, PARTNER, CLK_DIV, QUIET, P_MAX (02 R71 HEAD_CONFIG) -/
  ink : Nat := 0
  row : Nat := 0
  gMax : Nat := 1
  nozzles : Nat := 64
  partner : Nat := 255
  clkDiv : Nat := 4
  quiet : Nat := 0
  pMax : Nat := 0
  /-- Brew tables small, medium, large (04 R131, R134; 8 slots each) -/
  brewS : Vector Brew 8 := Vector.replicate 8 {}
  brewM : Vector Brew 8 := Vector.replicate 8 {}
  brewL : Vector Brew 8 := Vector.replicate 8 {}
  /-- Rotation tables (03 R94, R96; 4 slots) -/
  rots : Vector Rotation 4 := Vector.replicate 4 {}
  /-- Shadow set: SH_SEL and SH_STITCH (04 R139) -/
  shadow : ShadowSet := {}
  /-- SH_LINE (04 R139; 32) -/
  shLine : Nat := 0
  /-- The armed hand-over, SH_CTL.PENDING (04 R142, R146) -/
  armed : Option Arm := none
  /-- Model clock of the write that armed it: the boundary lies in a later clock (04 R142) -/
  armedAt : Nat := 0
  /-- The armed hand-over that a commit of the clock `armedAt` replaced, with the set that detector 19 had fixed for it: it still governs a boundary in that
  clock (04 R142, R146) -/
  earlier : Option (Arm × Option ShadowSet) := none
  /-- Writes into the shadow set in one clock: the clock, the set before them, how many (04 R143, R145) -/
  recent : Option (Nat × ShadowSet × Nat) := none
  /-- The set taken at a preparation point, its line and the clock: live one clock later (04 R143) -/
  taken : Option (ShadowSet × Nat × Nat) := none
  /-- SH_CTL.AT_LATE (04 R139; 1, W1C) -/
  atLate : Bool := false
  /-- SH_CTL.HANDOVER_COLLIDE (04 R139; 1, W1C) -/
  collide : Bool := false
  /-- Live set: LIVE_SEL and LIVE_STITCH (04 R139) -/
  live : ShadowSet := {}
  /-- The set replaced at the last hand-over and the line of that hand-over (02 R72) -/
  prevSet : Option (ShadowSet × Nat) := none
  /-- Model clock of the preparation point of the last hand-over (04 R143, R145) -/
  handoverClock : Option Nat := none
  /-- Highest line of the open job whose boundary has passed (04 R146) -/
  boundary : Option Nat := none
  /-- A set that a shot of detector 19 fixed for the armed hand-over (15 R452) -/
  fixedSet : Option ShadowSet := none
  /-- HANDOVER_LINE (04 R139; 32) -/
  handoverLine : Nat := 0xFFFFFFFF
  /-- CH_CFG.DRY (04 R139; 1) -/
  dry : Bool := false
  /-- CH_CFG.POS_SRC (04 R139; 4) -/
  posSrc : Nat := 0
  /-- RATE_MAX (04 R139; 17) -/
  rateMax : Nat := 64000
  /-- ROW_OFFSET (04 R139; 32, signed) -/
  rowOffset : Int := 0
  /-- HEAD_OFFSET (04 R139; 64, signed) -/
  headOffset : Int := 0
  /-- A HEAD_OFFSET_LO write held (04 R140) -/
  heldLo : Option Word := none
  /-- FIRE_STAT S_EFF, G_EFF, COMP and the level of the last period prepared (04 R139) -/
  sEff : Nat := 0
  gEff : Nat := 0
  comp : Int := 0
  levelSeen : Nat := 0
  /-- LAST_LINE, LAST_TRIG (04 R139; 32, 64) -/
  lastLine : Nat := 0
  lastTrig : BitVec 64 := 0
  /-- FIRE_HOLD latch (02 R77; 1) -/
  hold : Bool := false
  /-- Cosy enabled (09 R311; 1) -/
  cosy : Bool := false
  /-- Cosy TARGET, 0.1 °C (02 R71; DESIGN CHOICE 450 before COSY_SET) -/
  cosyTarget : Int := 450
  /-- Cosy periods running (09 R311) -/
  warming : Bool := false
  /-- Model clock at which the last Cosy period began (09 R311) -/
  cosyAt : Option Nat := none
  /-- Applied throttle level (09 R300; 0-7) -/
  applied : Nat := 0
  /-- Model clock at which a rise began to wait for the feed (09 R300) -/
  riseSince : Option Nat := none
  /-- First line not yet composed, C (05 R172) -/
  nextCompose : Nat := 0
  /-- Next line to fire; lines below it fired, were skipped or fell below FROM (04 R130, 05 R160, R192) -/
  nextLine : Nat := 0
  /-- Composed lines, the next to fire first (05 R160; 8 lines) -/
  fifo : List FifoLine := []
  /-- The line packed for the next period: as composed, and its codes after the packing pass (05 R161) -/
  packed : Option (FifoLine × List Code) := none
  /-- The fire position of the next line was reached before its period was prepared (03 R99, 04 R129): 1 on time, 2 late -/
  dueEarly : Nat := 0
  /-- Model clock before which slot 0 does not begin: a shot of detector 20 (15 R452) -/
  lateUntil : Nat := 0
  /-- Lines skipped ahead of the channel's next line (04 R151, 05 R198) -/
  gone : List Nat := []
  /-- A line that was late while the channel was held: it is not consumed (05 R193) -/
  heldMiss : Option Nat := none
  /-- The prepared period whose slot 0 shifts or has shifted (03 R99) -/
  prepared : Option Period := none
  /-- The slot being fired or just ended, and the pads (03 R93) -/
  firing : Option Firing := none
  /-- Serial frame last shifted: nibbles of HDn_D, one for each period of HDn_CLK; empty while HDn_CLK, HDn_D and HDn_LAT stay low (03 R83, R88, R89; output) -/
  frame : List (BitVec 4) := []
  /-- How many clocks at the end of the frame have HDn_LAT high: the latch phase (03 R89; output) -/
  latClocks : Nat := 0
  /-- Model clock of the next slot boundary after a trip, at which head I/O stops (03 R112) -/
  ioStopAt : Option Nat := none
  /-- HDn_SPARE, low in every state (03 R83; output) -/
  spare : Bool := false
  /-- The last device frame on HDn_ID (03 R83, R104; output) -/
  idOut : Bytes := []
  /-- Model clock from which the line has been released for the 100 µs between transactions (03 R103) -/
  idFree : Nat := 0
  /-- Nozzle map of a channel of a dual-row pair before the changes of `mapChanges` (05 R187) -/
  mapBase : List (Nat × BitVec 4) := []
  /-- Changes of the map of a channel of a dual-row pair, oldest first, each with the job line from which it takes effect (05 R187) -/
  mapChanges : List (Nat × List (Nat × BitVec 4)) := []
  /-- A shutdown waits for the end of the slot (04 R156): 2 head, 3 die -/
  shutAtSlot : Nat := 0
  /-- Nozzle map, entries by nozzle (06 R205; 2048 of 4), sparse, unlisted entries are 0 -/
  map : List (Nat × BitVec 4) := []
  /-- Strainer run counters MISS, THIN, GOOD by nozzle (06 R232), sparse -/
  runs : List (Nat × (Nat × Nat × Nat)) := []
  /-- Identification under way (03 R106) -/
  ident : Option Ident := none
  /-- FIREA and FIREB pulses of the last millisecond, for the energy model (09 R306) -/
  pulses : Nat := 0
  deriving DecidableEq, Repr

/-- A HEAD_ATTACH under way (03 R106). -/
structure AttachRun where
  channels : ChMask
  auth : Bool
  present : ChMask
  authFail : ChMask
  ids : List (Nat × HeadId)
  deriving DecidableEq, Repr

/-! ### Jobs -/

/-- A layer descriptor (05 R165). -/
structure Layer where
  op : Nat
  base : Nat
  stride : Nat
  lines : Nat
  phase : Nat
  required : Bool
  deriving DecidableEq, Repr

/-- Job states (05 R189). -/
inductive JobState where
  | opened | arming | running | late | stopped | ended
  deriving DecidableEq, Repr

/-- The composition table as read at JOB_START (05 R162). -/
structure CompTable where
  passes : Nat := 0
  bidir : Bool := false
  recordBytes : Nat := 1024
  advance : Nat := 0
  imageRows : Nat := 0
  maskAddr : List Nat := []
  sub : List Word := []
  subCap : List Nat := []
  ch : List (Nat × Nat × Nat) := []
  deriving DecidableEq, Repr

/-- Steps of the data-late sequence (05 R194). -/
inductive LateStep where
  | none | stopping | backing | waiting
  deriving DecidableEq, Repr

/-- A record entry (05 R201). -/
structure Entry where
  type : Nat
  cause : Nat
  channel : Nat
  flags : Nat
  line : Nat
  count : Nat
  data : Nat
  deriving DecidableEq, Repr

/-- What the channels have done with one line (05 R199). -/
structure LineMark where
  fired : ChMask := 0
  skipped : ChMask := 0
  incomplete : ChMask := 0
  /-- Some channel skipped it, or left it incomplete, in an earlier shuttle pass (05 R181, R199) -/
  pastSkipped : Bool := false
  pastIncomplete : Bool := false
  deriving DecidableEq, Repr

/-- Check-bar setup of one job (06 R227). -/
structure CheckBar where
  port : Nat
  enable : Bool
  period : Nat
  phase : Nat
  steps : Nat
  stepLines : Nat
  drop : Nat
  hideOn : Nat
  confirm : Nat
  recover : Nat
  weakOn : Nat
  invalidPct : Nat
  minPix : Nat
  weakPix : Nat
  win : Nat
  camOffset : Int
  ch : List (Nat × Int × Int)
  deriving DecidableEq, Repr

/-- An open job (05). -/
structure Job where
  id : BitVec 16
  geometry : Nat
  feed : Nat
  channels : ChMask
  lines : Nat
  record : Nat
  pitch : Nat
  state : JobState := .opened
  /-- Layers L0-L3 (05 R165) -/
  layers : Vector (Option Layer) 4 := Vector.replicate 4 none
  /-- Composition table copy (05 R162) -/
  table : CompTable := {}
  /-- Mask copies (05 R178; 8 of 8,192 bytes) -/
  masks : List Bytes := []
  /-- START (02 R71) -/
  start : Int := 0
  /-- WAIT_COSY (02 R71) -/
  waitCosy : Bool := false
  /-- No line at or beyond this begins: JOB_STOP (05 R191) -/
  stopAt : Option Nat := none
  /-- Header counts (05 R200) -/
  completed : Nat := 0
  skipped : Nat := 0
  incomplete : Nat := 0
  resumes : Nat := 0
  entries : Nat := 0
  dropped : Nat := 0
  overflowed : Bool := false
  /-- The latest entry of each type, cause, channel and flags, which consecutive lines join, with its index; none for an entry not written (05 R201) -/
  latest : List (Option Nat × Entry) := []
  /-- Served dead nozzles at JOB_START, CH0 first (05 R200 SUBST_AT_START) -/
  substAtStart : List Nat := List.replicate 48 0
  /-- Lines not yet classified (05 R199) -/
  marks : List (Nat × LineMark) := []
  /-- Posted and coverage bits by (layer × 48 + channel) × 2048 + band line: bit 0 posted, bits 32-1 coverage (05 R171), sparse -/
  cover : List (Nat × BitVec 33) := []
  /-- Shuttle pass P (05 R181) -/
  pass : Nat := 0
  /-- Pass P has not armed: the lines of the pass before it are over (05 R183) -/
  passWait : Bool := false
  /-- Data-late sequence (05 R194): step, X_T, N_STOP, v_R, start of the wait -/
  late : LateStep := .none
  xT : Int := 0
  nStop : Nat := 0
  vR : Rat := 0
  waitFrom : Nat := 0
  /-- The arm comes from the data-late sequence (true) or from a start or resume -/
  rereg : Bool := false
  /-- The arm of a JOB_RESUME of a device-driven job with a move (05 R192) -/
  resumeMove : Bool := false
  /-- A RESUME entry waits for the first slot 0 after the arm: step-4 wait in µs and DATA (05 R194, R201) -/
  resumePending : Option (Nat × Nat) := none
  /-- Next line number of LINE_TRIGGER (04 R126) -/
  trigLine : Nat := 0
  /-- Check bar in force, and the setup for the next start (06 R228) -/
  bar : Option CheckBar := none
  nextBar : Option CheckBar := none
  /-- Channel and number of the bars observed (06 R230) -/
  barsSeen : List (Nat × Nat) := []
  /-- Channel and number of each bar line fired, with the model clock at which it was (06 R230: the camera lines captured over it come after) -/
  barAt : List ((Nat × Nat) × Nat) := []
  /-- Bar lines that a channel skipped, left incomplete, or fired with DRY set (06 R231) -/
  barBad : List (Nat × Nat) := []
  /-- The speed the feed was commanded to run at when the job stopped (05 R192) -/
  stopV : Rat := 0
  /-- FIFOs-full signals held by the master (12 R393), by device ID -/
  fullFrom : BitVec 8 := 0
  /-- The other devices that have the job, by device ID, as a data-late sequence finds them (12 R393) -/
  ringDevs : BitVec 8 := 0
  /-- FIFOs-full has been sent (12 R393) -/
  fullSent : Bool := false
  deriving DecidableEq, Repr

/-- A tile being read or copied (05 R173, R174). -/
structure Tile where
  id : Nat
  job : BitVec 16
  layer : Nat
  /-- 0 host memory, 1 image store, 2 DATA frames from another device, 3 host memory read for another device's tile (12 R392) -/
  source : Nat
  addr : Nat
  line : Nat
  ch : Nat
  nozzle : Nat
  width : Nat
  height : Nat
  /-- Rows marked or dropped so far -/
  rowsDone : Nat
  /-- Bytes written completely, as offset and length -/
  landed : List (Nat × Nat)
  lateCounted : Bool
  /-- The job is gone: nothing more is written (05 R174) -/
  orphan : Bool
  /-- The detector 23 shot: row 0 is taken as below C (15 R452) -/
  forceLate : Bool
  /-- Answered; kept while an earlier tile is in flight, whose data must not replace its own (05 R173) -/
  done : Bool
  pkt : Packet
  src : Source
  seq : Nat
  deriving DecidableEq, Repr

/-! ### Nozzle health -/

/-- Per-channel part of a survey setup: CAM, STATION, X0, XP, Y0 (06 R216). -/
structure SurveyCh where
  cam : Nat
  station : Nat
  x0 : Int
  xp : Int
  y0 : Int
  deriving DecidableEq, Repr

/-- Survey setup (06 R216). -/
structure SurveySetup where
  axis : Nat
  repeats : Nat
  frameUs : Nat
  trigWidth : Nat
  fireDelay : Nat
  strobe0 : Nat
  strobe1 : Nat
  strobeWidth : Nat
  win : Nat
  minArea : Nat
  vDead : Nat
  vWeak : Nat
  devWeak : Nat
  pixUm : Nat
  areaLo : Nat
  areaHi : Nat
  stationPos : List Int
  moveMs : List Nat
  ch : List SurveyCh
  deriving DecidableEq, Repr

/-- One capture to make: channel, group, drop size (06 R219). -/
structure Capture where
  ch : Nat
  group : Nat
  drop : Nat
  deriving DecidableEq, Repr

/-- One measurement of a seen drop: channel, nozzle, drop size; speed and deviation and area as exact fractions (06 R221). -/
structure Seen where
  ch : Nat
  nozzle : Nat
  drop : Nat
  speed : Rat
  dev : Rat
  area : Rat
  deriving DecidableEq, Repr

/-- A survey under way (06 R219). -/
structure SurveyRun where
  channels : ChMask
  since : Nat
  /-- Stations still to visit, the first being the present one -/
  stations : List Nat
  /-- The service axis is on its way -/
  moving : Bool
  /-- Captures still to make at the present station, one list for each camera -/
  work : List (List Capture)
  /-- Frames awaited in the present round, by camera; none between rounds -/
  awaited : Option (List Nat)
  /-- The present round has been repeated once (06 R224) -/
  repeated : Bool
  /-- A frame of the present round is bad -/
  roundBad : Bool
  seen : List Seen
  /-- Measurements of the present round, kept when the round is good -/
  roundSeen : List Seen
  roundsDone : Nat
  roundsAll : Nat
  percent : Nat
  /-- Channels classified -/
  classified : ChMask
  /-- DEAD and WEAK so far -/
  dead : Nat
  weak : Nat
  /-- Shadow maps by channel (06 R225) -/
  shadow : List (Nat × List (Nat × BitVec 4))
  /-- Model clock of the DW_TRIG of the last round, none before the first (06 R219, R224) -/
  roundAt : Option Nat
  deriving DecidableEq, Repr

/-- A line of the threshold ring (08 R290): port, trigger position, model clock at which it was written, bits. -/
structure RingLine where
  port : Nat
  key : Nat
  /-- Stripe of the frame that wrote it -/
  index : Nat := 0
  pos : Int
  at_ : Nat
  bits : List Bool
  /-- The frame carries a stripe-dropped or check-value mark (06 R231) -/
  marked : Bool
  deriving DecidableEq, Repr

/-- A camera line without a threshold line: port, web position, model clock, and whether its stripe was dropped (08 R285, 06 R231) or its port gives
Strainer no plane (08 R290). -/
structure LostLine where
  port : Nat
  pos : Int
  at_ : Nat
  dropped : Bool
  deriving DecidableEq, Repr

/-- Nozzle health outside the channels (06). -/
structure Health where
  /-- Survey setup (06 R216) -/
  setup : Option SurveySetup := none
  /-- Survey under way (06 R219) -/
  run : Option SurveyRun := none
  /-- Survey commit word (06 R225; 48; AON) -/
  commitWord : ChMask := 0
  /-- Shadow maps in the Kettle bank (06 R225) -/
  kettleShadow : List (Nat × List (Nat × BitVec 4)) := []
  /-- Threshold ring (08 R290; 512 KB), newest first -/
  ring : List RingLine := []
  /-- The camera lines that wrote no threshold line (08 R285, R290, 06 R230, R231) -/
  lost : List LostLine := []
  /-- DW_TRIG, STROBE0 and STROBE1 of the last round: rise and width in FIRE ticks (06 R215, R220; output) -/
  flashes : List (Nat × Nat) := []
  deriving DecidableEq, Repr

/-! ### Cameras -/

/-- Port setup (08 R262). -/
structure CamSetup where
  flags : BitVec 16
  bus : Nat
  context : Nat
  linePixels : Nat
  frameLines : Nat
  posSrc : Nat
  strobeMode : Nat
  trigGap : Nat
  strobeDelay : Nat
  strobeWidth : Nat
  timeoutUs : Nat
  trigStart : Int
  descBase : Nat
  descLog2 : Nat
  deriving DecidableEq, Repr

/-- Exposure settings of one generation (08 R271). -/
structure Exposure where
  gen : Nat := 0
  long : Nat := 0
  short : Nat := 0
  pitch : Nat := 0
  deriving DecidableEq, Repr

/-- A pipeline context (08 R276): the 1,120-byte body, empty for the start value of R277, and its sequence number. -/
structure Context where
  body : Bytes := []
  seq : Word := 0
  deriving DecidableEq, Repr

/-- A stripe in a stripe buffer (08 R283). -/
structure Stripe where
  /-- The frame, by the port's running count of frames, and the stripe's index in it -/
  key : Nat
  index : Nat
  lines : List (List Nat)
  /-- Trigger position of each line -/
  poss : List Int
  /-- Timebase at which its last line was in the buffer, or its frame closed; none before -/
  ready : Option Nat
  /-- Words of its lines that the pipeline's read finds with errors (10 R322, R323) -/
  errors : BankErrors := {}
  deriving DecidableEq, Repr

/-- A frame of which a stripe, a line or the end is still to come (08 R272-R275). -/
structure CamFrame where
  key : Nat
  num : Nat
  /-- Setup of the port for the frame -/
  setup : CamSetup
  /-- A trigger of the frame has fired -/
  begun : Bool
  exp : Exposure
  marks : BitVec 16
  /-- The port was disabled before the frame had all its triggers (08 R263) -/
  stopped : Bool
  /-- Timebase of its last leading edge (08 R269), and at which its last stripe was processed or dropped (08 R275) -/
  trigLast : Nat
  endTb : Nat
  trigTb : BitVec 64
  trigPos : Int
  ctxSeq : Word
  ctxBody : Bytes
  /-- Triggers of the frame so far, fired or skipped -/
  triggers : Nat
  /-- Input lines received, area mode -/
  lines : Nat
  /-- Input lines of the whole frame, and as the setup gives them, which places its rows in the output slots (08 R289) -/
  inLines : Nat
  fullLines : Nat
  /-- The data of the frame is complete or given up -/
  closed : Bool
  /-- Indexes of the stripes processed or dropped -/
  overs : List Nat
  dropped : Nat
  crcLines : Nat
  /-- Output setups in force for the frame (08 R289) -/
  outs : List (Option Bytes)
  wrote : List Bool
  /-- Last two tone-mapped and last two defect-corrected lines of the stripe processed last, and its index (08 R282) -/
  edge : List (List Nat)
  edgeOf : Nat
  /-- Output row and its planes R, G, B, IR, luma at the statistics tap (08 R286) -/
  rows : List (Nat × List (List Nat))
  deriving DecidableEq, Repr

/-- Statistics of a complete frame (08 R286, R287). -/
structure Stats where
  frame : Nat
  gen : Nat
  /-- Context sequence number (08 R273) -/
  ctxSeq : Word
  marks : BitVec 16
  /-- Plane number, four histograms of 256 bins, 128 zone words, for each plane produced -/
  planes : List (Nat × List (List Nat) × List Nat)
  deriving DecidableEq, Repr

/-- Data owed by a trigger (08 R264, R269): a whole frame in area mode, one input line in line mode. -/
structure Owed where
  key : Nat
  line : Nat
  pos : Int
  tb : Nat
  deriving DecidableEq, Repr

/-- One camera port (08). -/
structure CamPort where
  /-- Last setup that enabled the port (08 R262) -/
  setup : Option CamSetup := none
  /-- The port is enabled (08 R263) -/
  on : Bool := false
  /-- Exposure and generation last committed, those before it, timebase of the commit (08 R271, R272) -/
  exp : Exposure := {}
  prevExp : Exposure := {}
  commitAt : Nat := 0
  /-- Next frame number (08 R274; 32) -/
  nextFrame : Nat := 0
  /-- Frames begun, a key for each (the model's own) -/
  nextKey : Nat := 0
  /-- The next trigger lies beyond this position, in 1/65536 position unit (08 R263, R267) -/
  trigAfter : Int := 0
  /-- Earliest timebase for the next trigger (08 R268) -/
  trigFree : Nat := 0
  /-- Timebase of the last leading edge (08 R269) -/
  trigLast : Nat := 0
  /-- Data owed by triggers, oldest first (08 R264, R269) -/
  owed : List Owed := []
  /-- Key of the area frame being received (08 R264) -/
  recv : Option Nat := none
  /-- An area frame without a trigger is being discarded (08 R264) -/
  junk : Bool := false
  /-- A flash is armed (08 R270) -/
  flashArmed : Bool := false
  /-- A trigger is armed by the fabric (01 R37 consumers 0x12, 0x13) -/
  trigArmed : Bool := false
  /-- Frames not yet described, oldest first -/
  frames : List CamFrame := []
  /-- Stripe buffer, oldest first (08 R283) -/
  stripes : List Stripe := []
  /-- Pixels the stripe buffer holds at most (08 R283, 10 R327) -/
  capacity : Nat := 786432
  /-- Statistics held, newest first (08 R287; 8 frames) -/
  stats : List Stats := []
  /-- CAMn_TRIG and STROBEn pulses of the last trigger: rise and width, FIRE ticks (08 R267, R270; output); the level of STROBEn is State.strobePin, which a
  survey alone decides while it runs (06 R213) -/
  trigOut : List (Nat × Nat) := []
  strobeOut : List (Nat × Nat) := []
  deriving DecidableEq, Repr

/-- The camera block (08). -/
structure Camera where
  /-- CAM0, CAM1 -/
  ports : Vector CamPort 2 := Vector.replicate 2 {}
  /-- Pipeline contexts (08 R277) -/
  contexts : Vector Context 2 := Vector.replicate 2 {}
  /-- Output setups display, coding, machine vision (08 R288; 40 bytes); DESIGN CHOICE none produced before OUTPUT_CONFIG -/
  outputs : Vector (Option Bytes) 3 := Vector.replicate 3 none
  /-- The stripe in process with its port, and the timebase at which its processing begins (08 R284) -/
  current : Option (Nat × Stripe) := none
  currentAt : Nat := 0
  /-- Frame number, generation and context sequence number written into an output slot, by output, port and slot (08 R273); the spec gives them no
  place in the slot's layout (R289) -/
  slotTags : List ((Nat × Nat × Nat) × (Nat × Nat × Word)) := []
  /-- Port and context served last (08 R284) -/
  last : Option (Nat × Nat) := none
  deriving DecidableEq, Repr

/-! ### Thermal -/

/-- A head or die sensor (09). -/
structure SensorState where
  /-- Last four measurements, newest first, 0.1 °C (09 R292) -/
  meas : List Int := []
  /-- The value used in every comparison: the mean of the last measurements, or the substitute of a suspect sensor, 0.1 °C (09 R292, R308) -/
  value : Rat := 0
  /-- The value in 0.1 °C as held and reported (09 R291, R292; 16) -/
  shown : Int := 0
  /-- WARN, THROTTLE, SHUTDOWN, HYST, 0.1 °C (09 R295) -/
  warn : Int
  throttle : Int
  shutdown : Int
  hyst : Int := 30
  /-- WARN, THROTTLE, SHUTDOWN, HYST accepted and not yet in use (09 R296) -/
  next : Option (Int × Int × Int × Int) := none
  /-- Warning flag (09 R297) -/
  warning : Bool := false
  /-- Target level (09 R298; 0-7) -/
  target : Nat := 0
  /-- Up-timer and down-timer: model clock at their start (09 R298) -/
  upFrom : Option Nat := none
  downFrom : Option Nat := none
  /-- Shutdown latch (09 R302; 1; AON) -/
  latched : Bool := false
  /-- Measured since power-on: before that a die sensor lies in no range (11 R353 TEMP_OK) -/
  known : Bool := false
  /-- Suspect (09 R307, R309) -/
  suspect : Bool := false
  /-- Model clock from which the sensor has disagreed at every measurement (09 R307, R309) -/
  disagree : Option Nat := none
  /-- ΔT of the energy model, °C (09 R306) -/
  deltaT : Rat := 0
  deriving DecidableEq, Repr

/-- The thermal monitor (09). -/
structure Thermal where
  /-- Head sensors (09 R291, R295) -/
  heads : Vector SensorState 48 := Vector.replicate 48 { warn := 600, throttle := 650, shutdown := 750 }
  /-- Die sensors (09 R293, R295) -/
  dies : Vector SensorState 6 := Vector.replicate 6 { warn := 1000, throttle := 1100, shutdown := 1250 }
  /-- Shutdown-log words waiting in AON: sensor number and word (09 R304) -/
  logWait : List (Nat × Word) := []
  /-- Address of the log word whose programming has failed and that the first waiting word completes (09 R304; AON) -/
  logRetry : Option Nat := none
  deriving DecidableEq, Repr

/-! ### Memory -/

/-- The store setup (10 R331). -/
structure StoreCfg where
  rate : Nat
  channels : Nat
  ranks : Nat
  density : Nat
  deriving DecidableEq, Repr

/-- Copied registers and source bytes of a running transfer (10 R338, R342). -/
structure DmaRun where
  src : BitVec 64
  dst : BitVec 64
  count : Nat
  rate : Nat
  fill : Bool
  /-- Source bytes as they stood at the start, where the source is on the device -/
  start : Bytes
  deriving DecidableEq, Repr

/-- One DMA channel (10 R336). -/
structure Dma where
  /-- SRC, DST (10 R336; 64) -/
  src : BitVec 64 := 0
  dst : BitVec 64 := 0
  /-- _LO writes held (04 R140, 10 R336) -/
  srcLo : Option Word := none
  dstLo : Option Word := none
  /-- COUNT (10 R336; 32) -/
  count : Word := 0
  /-- LIVE (10 R336; 32) -/
  live : Nat := 0
  /-- RATE (10 R336; 6) -/
  rate : Nat := 0
  /-- OVERLAP_FILL (10 R336; 1) -/
  fill : Bool := false
  /-- The running transfer (10 R338) -/
  run : Option DmaRun := none
  /-- A START write held pending (10 R338); a fabric pulse held is DST_ROUTE.PEND -/
  pending : Bool := false
  deriving DecidableEq, Repr

/-- One on-chip bank (10 R318-R328). -/
structure Bank where
  /-- Background test enabled (10 R324) -/
  test : Bool := true
  /-- Next window (10 R324) -/
  window : Nat := 0
  /-- Windows to be tested out of turn, oldest first, and those so tested in this sweep (10 R322) -/
  retest : List Nat := []
  retested : List Nat := []
  /-- Fault map: failing rows, the i-th lies in spare row i (10 R326, R328; at most 16; AON) -/
  rows : List Nat := []
  /-- Rows retired: the i-th of a line-engine, motion or Kettle bank lies in retirement row i (10 R327; AON) -/
  retired : List Nat := []
  /-- What a line-engine bank holds since its last clear: bit 0 masks and lines of a started job, bit 1 posted and coverage bits, bit 2 a map,
  bit 3 the layer descriptors and tables of an opened job (05 R161, 10 R329; 4) -/
  wrote : BitVec 4 := 0
  deriving DecidableEq, Repr

/-- How the reads of the table and the masks of a JOB_START go (10 R333): how often they fail, 0-2, and how many words are corrected. -/
structure StartReads where
  failed : Nat
  corrected : Nat
  deriving DecidableEq, Repr

/-- Banks, image store and DMA (10). -/
structure Memory where
  /-- Image store (10 R330-R332), canonical, unlisted bytes read 0 (R331) -/
  store : List Host.Cell := []
  /-- Store setup in force, none while unconfigured (10 R331, R334; AON) -/
  cfg : Option StoreCfg := none
  /-- Setup being trained and cleared (10 R331) -/
  training : Option StoreCfg := none
  /-- Bytes of bank 15 that DMA has written (10 R318, R337), canonical, none where DMA has not written -/
  insp : List (Nat × Option Byte) := []
  /-- The camera pipeline has written to bank 15 since it was cleared (10 R329) -/
  inspUsed : Bool := false
  /-- The errors that a JOB_START row or a STATS_READ row tells of the reads of its packet, while that row is executed (the model's own; 10 R323, R333) -/
  startReads : Option StartReads := none
  statsReads : Option BankErrors := none
  /-- Banks 0-16 (10 R318) -/
  banks : Vector Bank 17 := Vector.replicate 17 {}
  /-- DMA channels (10 R336) -/
  dma : Vector Dma 16 := Vector.replicate 16 {}
  /-- K_FLEET as Caddy holds it, none when Caddy holds no keys (03 R107, 10 R329, 11 R359) -/
  caddy : Option Bytes := none
  /-- Words 24-245 of region 1, the keys of the management firmware, as Caddy holds them, none when it holds none (11 R359, R360) -/
  caddyKeys : List Word := []
  /-- Region 7's data as Caddy holds it, none when Caddy holds none (11 R360, R363) -/
  caddyFirm : List Word := []
  /-- Retrains and scrubs done (10 R330, R333) -/
  retrains : Nat := 0
  scrubs : Nat := 0
  deriving DecidableEq, Repr

/-! ### OTP -/

/-- The three reads of a word, data in bits 31-0 and check bits in bits 38-32 (11 R343, R346). -/
structure OtpWord where
  lo  : BitVec 39 := 0
  nom : BitVec 39 := 0
  hi  : BitVec 39 := 0
  deriving DecidableEq, Repr

/-- A programming command under way (11 R348-R354). -/
structure OtpRun where
  /-- 4 PROGRAM, 5 REBURN_WORD, 6 FINALISE_REGION, 7 a state word of LIFECYCLE_ADVANCE, 8 a shutdown log word -/
  kind : Nat
  /-- Words still to program, the first being the present one: address and target -/
  todo : List (Nat × BitVec 39)
  attempts : Nat
  /-- The first pulse has begun: Kettle has run since the command came (11 R351) -/
  begun : Bool := true
  /-- Regions that an advance finalises after the present words, and the state whose word it burns last, 0 once that word is among them (11 R364) -/
  regions : List Nat := []
  stateTo : Nat := 0
  deriving DecidableEq, Repr

/-- The resolved critical wires (11 R357, R360). -/
structure Wires where
  lifecycle : Nat := 0
  master : Bool := false
  compat : Bool := false
  debugLock : Bool := false
  inject : Bool := true
  bar4 : Bool := true
  gCap : Nat := 8
  headWarn : Int := 600
  headThrottle : Int := 650
  headShutdown : Int := 750
  dieWarn : Int := 1000
  dieThrottle : Int := 1100
  dieShutdown : Int := 1250
  /-- TH_MODE.BOUND_SRC and WEAK (09 R317) -/
  boundSrc : Nat := 1
  boundWeak : Bool := false
  /-- OTP_CRIT.SRC (11 R353) -/
  critSrc : Nat := 1
  deriving DecidableEq, Repr

/-- The OTP array and controller (11). -/
structure Otp where
  /-- The array (11 R343; 2048 words), sparse, unlisted words blank; DESIGN CHOICE all blank -/
  words : List (Nat × OtpWord) := []
  /-- AON copies of the last sense (11 R347, R360) -/
  aon : List (Nat × Word) := []
  /-- The six die temperatures, 0.1 °C, at which the AON copy of a word was taken (11 R347) -/
  aonTemp : List (Nat × List Int) := []
  /-- Weak words found (11 R347) -/
  weak : List Nat := []
  /-- OTP_ADDR (11 R353; 11) -/
  addr : BitVec 11 := 0
  /-- OTP_WDATA (11 R353; 32) -/
  wdata : Word := 0
  /-- OTP_RDATA (11 R353; 32) -/
  rdata : Word := 0
  /-- OTP_STAT ECC, ATTEMPTS, RESULT, WEAK (11 R353; 7, 4, 4, 1) -/
  ecc : BitVec 7 := 0
  attempts : Nat := 0
  result : Nat := 0
  weakBit : Bool := false
  /-- Unlock sequence: 0 closed, 1 first key written, 2 open (11 R353) -/
  key : Nat := 0
  keyAt : Nat := 0
  /-- The command running, OTP_STAT.BUSY (11 R351, R353) -/
  run : Option OtpRun := none
  /-- VPP_OTP at or above 1.71 V (11 R349, R353); DESIGN CHOICE present -/
  vppOk : Bool := true
  /-- TAMPER_STAT.SEEN (11 R353; 4, W1C; AON) -/
  tamperSeen : BitVec 4 := 0
  /-- TAMPER_STAT.CADDY_HOLD (11 R353, R366; 1; AON) -/
  caddyHold : Bool := false
  /-- TAMPER_CONFIG ENABLE and FILTER (11 R365; 4, 16; AON) -/
  tamperEn : BitVec 4 := 0xF
  tamperFilter : BitVec 16 := 2
  /-- Critical wires (11 R360) -/
  wires : Wires := {}
  /-- OTP_OK by region (02 R76, 11 R361; 8) -/
  regionOk : BitVec 8 := 0xFF
  /-- PATCH level (11 R359; 32) -/
  patch : Word := 0
  /-- The life-cycle advance under way, its target (11 R364) -/
  advance : Option Nat := none
  deriving DecidableEq, Repr

/-! ### WizerLink -/

/-- Port states (12 R369, R398). -/
inductive PortState where
  | down | training | up | parked
  deriving DecidableEq, Repr

/-- One WizerLink port (12). -/
structure Port where
  state : PortState := .down
  /-- SEQ of the next sequenced frame to number (12 R373; 12) -/
  txSeq : BitVec 12 := 0
  /-- Replay buffer: frames not acknowledged, oldest first (12 R373; 64) -/
  unacked : List Frame := []
  /-- Sequenced frames that wait for replay-buffer space, oldest first (12 R373) -/
  waiting : List Frame := []
  /-- Next SEQ expected (12 R373; 12) -/
  rxSeq : BitVec 12 := 0
  /-- A NAK is out: later frames are discarded (12 R373) -/
  nakked : Bool := false
  /-- Frames taken and not yet acknowledged, and when the first came (12 R373) -/
  unackedRx : Nat := 0
  rxFrom : Nat := 0
  /-- Successive repeats without an ACK, and the clock of the last send (12 R374) -/
  repeats : Nat := 0
  sentAt : Nat := 0
  /-- The last frame or columns sent that carry no sequence number (12 R370; output) -/
  lastFrame : Option Frame := none
  /-- FAULT columns last sent (12 R388; output) -/
  lastFault : Option Byte := none
  /-- RESET columns sent (12 R396; output) -/
  resetSent : Nat := 0
  /-- Bursts of IDLE columns sent on a parked link (12 R397; output) -/
  idleSent : Nat := 0
  /-- Hops to each ID through this port (12 R379) -/
  hops : List (Option Nat) := List.replicate 8 none
  /-- Devices reached through this port, those without an ID too (12 R380) -/
  others : Nat := 0
  /-- The hop counts and the devices that return when the port comes up again after a break or a park (12 R394, R397) -/
  hopsLast : List (Option Nat) := List.replicate 8 none
  othersLast : Nat := 0
  deriving DecidableEq, Repr

/-- A packet being put together from PKT segments (12 R390). -/
structure Assembly where
  origin : Byte
  pktId : BitVec 16
  kind : Nat
  bytes : Bytes
  deriving DecidableEq, Repr

/-- A command relayed by this device as ORIGIN (12 R390, R391). -/
structure Relayed where
  pktId : BitVec 16
  pkt : Packet
  src : Source
  /-- Its place in the order of arrival (02 R65) -/
  seq : Nat
  since : Nat
  deriving DecidableEq, Repr

/-- WizerLink (12). -/
structure Link where
  east : Port := {}
  west : Port := {}
  /-- WL_CTL.EN, POS_EN, POS_ENC (12 R398; 1, 1, 3) -/
  en : Bool := true
  posEn : Bool := false
  posEnc : Nat := 0
  /-- Device ID held on a ring, WL_STAT.ID_VALID and ID (12 R376, R398) -/
  id : Option (Fin 8) := none
  /-- On a ring without an ID (12 R377) -/
  noId : Bool := false
  /-- A port has come up since power-on or the last ring reset (12 R377) -/
  joined : Bool := false
  /-- WL_STAT.DEVICES (12 R398; 4); 1 standing alone -/
  devices : Nat := 1
  /-- WL_STAT.CLOSED, CONFLICT (12 R398; 1, 1) -/
  closed : Bool := false
  conflict : Bool := false
  /-- The ring is open only because ports of this device are not up (12 R394) -/
  closedLast : Bool := false
  /-- A second master is on the ring (12 R378) -/
  rival : Bool := false
  /-- Devices present by ID (12 R376) -/
  present : BitVec 8 := 0
  /-- IDs that devices have been seen to hold since power-on or the last ring reset (12 R376, R393) -/
  known : BitVec 8 := 0
  /-- Clock from which the ports have held their states, and no ring reset has come (12 R376) -/
  heldFrom : Nat := 0
  /-- Last LOCAL report of each device (12 R387, R389; 8 of 4) -/
  reports : Vector (BitVec 4) 8 := Vector.replicate 8 0
  /-- Last LOCAL report of a device without an ID (12 R377, R389; 4) -/
  strayReport : BitVec 4 := 0
  /-- Ring trip latches set by a FAULT column, until reports clear them (12 R389; 4) -/
  ringTrips : BitVec 4 := 0
  /-- WL_RTRIP.POSLOST (12 R386; 1) -/
  poslost : Bool := false
  /-- The LOCAL report last sent (12 R387; 4) -/
  localSent : BitVec 4 := 0xF
  /-- The fault byte of this device's own FAULT columns last sent, and the clock (12 R388) -/
  faultSent : Option (Byte × Nat) := none
  /-- FAULT columns forwarded: origin and classes byte, clock (12 R388) -/
  forwarded : List (Byte × Nat) := []
  /-- POS frames: last POS_SEQ taken, POSITION, VELOCITY (8.24), STAMP, arrival clock, VALID (12 R384, R385) -/
  posSeq : BitVec 16 := 0
  /-- POS_SEQ values taken, with the clock, whose other copy may still come (12 R385) -/
  posTaken : List (BitVec 16 × Nat) := []
  posPos : Int := 0
  posVel : Int := 0
  posStamp : Nat := 0
  posAt : Option Nat := none
  posValidAt : Option Nat := none
  posOk : Bool := false
  /-- Clock from which POS_OK has been set without a break (12 R386) -/
  posOkFrom : Nat := 0
  /-- The value P already reached (12 R385) -/
  posReached : Int := 0
  /-- POS_SEQ of the next POS frame sent (12 R384; 16) -/
  posTx : BitVec 16 := 0
  /-- T_TX of the last SYNC request sent on each port (12 R381) -/
  syncT1E : Nat := 0
  syncT1W : Nat := 0
  /-- Last offset estimates, newest first, in ps (12 R381; 16 exchanges) -/
  offsets : List Int := []
  /-- WL_ALIGN.OFFSET in ps (12 R398; 32) -/
  offset : Int := 0
  /-- The timebase has been stepped to an estimate (12 R382) -/
  stepped : Bool := false
  /-- The follower has had no path to the master since its last step or estimate (12 R395) -/
  lostMaster : Bool := false
  /-- The device was woken over the ring and wakes its next neighbour when a port comes up (12 R397) -/
  wakeOn : Bool := false
  /-- Rate r in steps of 2^-32 (12 R382) -/
  rate : Int := 0
  /-- The rate at the start of the present 1 ms of slewing, and its clock (12 R382) -/
  rateBase : Int := 0
  rateAt : Nat := 0
  /-- Fraction of the timebase, in 2^-32 FIRE tick (12 R382) -/
  tbFrac : Nat := 0
  /-- WL_STAT.ALIGNED (12 R398; 1); 1 on the master -/
  aligned : Bool := false
  /-- Clock from which the offset has lain outside ±2.5 ns (12 R382) -/
  outFrom : Option Nat := none
  /-- WL_BREAKS, WL_REPLAYS (12 R398; 32, 32) -/
  breaks : Word := 0
  replays : Word := 0
  /-- PKT_ID of the next packet relayed (12 R390; 16) -/
  pktId : BitVec 16 := 0
  /-- Packets being assembled, packets taken lately, packets relayed and not yet acknowledged (12 R390) -/
  assembly : List Assembly := []
  taken : List (Byte × BitVec 16) := []
  /-- DATA frames that have come before Kettle has handled the TILE_POST they belong to (12 R392) -/
  heldData : List Frame := []
  relayed : List Relayed := []
  /-- Relayed commands whose reply is still to come, with the source they came from -/
  awaiting : List Relayed := []
  deriving DecidableEq, Repr

/-- The whole block. -/
structure State where
  /-- The commands that wait, first in first out (the model's own) -/
  pending : List Instr := []
  /-- Model clock: FIRE ticks of elapsed time since the power-on (the model's own; log entry 4) -/
  clock : Nat := 0
  /-- Number of free values drawn (the model's own; log entry 6; DESIGN CHOICE 0) -/
  fresh : Nat := 0
  /-- Timebase, FIRE ticks (00 R11, 01 R19; 64) -/
  timebase : BitVec 64 := 0
  pwr : Power := {}
  pe : PacketEngine := {}
  host : HostPort := {}
  mirror : Mirror := {}
  tc : Counters := {}
  inj : Injection := {}
  fab : Fabric := {}
  ilk : Interlock := {}
  /-- ENC0-ENC7 (04 R117) -/
  enc : Vector Encoder 8 := Vector.replicate 8 {}
  /-- AX0-AX7 (07) -/
  axes : Vector Axis 8 := Vector.replicate 8 {}
  /-- CH0-CH47 (03) -/
  chans : Vector Chan 48 := Vector.replicate 48 {}
  /-- HEAD_ATTACH under way (03 R106) -/
  attach : Option AttachRun := none
  /-- Open jobs (02 R73, 14 R444 JOBS; four slots) -/
  jobs : Vector (Option Job) 4 := Vector.replicate 4 none
  /-- Tiles in flight, oldest first (05 R173, R174) -/
  tiles : List Tile := []
  health : Health := {}
  cam : Camera := {}
  therm : Thermal := {}
  mem : Memory := {}
  otp : Otp := {}
  link : Link := {}
  deriving DecidableEq, Repr

/-- The machine right after reset: the first moment in RUN after a power-on (13 R413) with nothing loaded from outside (log entry 5). -/
def State.reset : State := {}

end Sys2Proof.Machine
end

