-- ==== Sys2Proof/Machine/Ops.lean ====
section
/-! DEFINITION. The named operations over bits, bytes, sparse memory and the parts of State; check codes; trouble counters; source pulses. -/
namespace Sys2Proof.Machine

/-! ### Bits and bytes -/

/-- Bit range [hi:lo] of a number (00 R8). -/
def bits (n hi lo : Nat) : Nat := n / 2 ^ lo % 2 ^ (hi + 1 - lo)

/-- Bit i of a number. -/
def bit (n i : Nat) : Bool := n / 2 ^ i % 2 = 1

/-- A w-bit number read as two's complement. -/
def sext (w n : Nat) : Int := if n < 2 ^ (w - 1) then (n : Int) else (n : Int) - 2 ^ w

/-- Little-endian number of n bytes at an offset (00 R8); bytes beyond the end read 0. -/
def le (b : Bytes) (off n : Nat) : Nat :=
  ((b.drop off).take n).foldr (fun x acc => x.toNat + 256 * acc) 0

/-- Signed little-endian number. -/
def leS (b : Bytes) (off n : Nat) : Int := sext (8 * n) (le b off n)

/-- The n low bytes of a number, little-endian (00 R8). -/
def toLe : Nat → Nat → Bytes
  | 0, _ => []
  | n + 1, k => BitVec.ofNat 8 k :: toLe n (k / 256)

/-- The n low bytes of a two's-complement number, little-endian. -/
def toLeS (n : Nat) (k : Int) : Bytes := toLe n (k % (256 ^ n : Nat)).toNat

/-- All bytes of a range are 0. -/
def zeros (b : Bytes) (off n : Nat) : Bool := ((b.drop off).take n).all (· = 0)

/-- n bytes of zero. -/
def pad (n : Nat) : Bytes := List.replicate n 0

/-- A number from a Bool. -/
def b2n (b : Bool) : Nat := if b then 1 else 0

/-- Sets bit i of a bit vector to b. -/
def setBit {w : Nat} (v : BitVec w) (i : Nat) (b : Bool) : BitVec w :=
  if b then v ||| BitVec.ofNat w (2 ^ i) else v &&& ~~~ BitVec.ofNat w (2 ^ i)

/-- Ceiling of a division. -/
def ceilDiv (a b : Nat) : Nat := (a + b - 1) / b

/-- Division that truncates towards zero (00 R11). -/
def truncDiv (a b : Int) : Int := Int.tdiv a b

/-- The word as 64-bit value from its halves. -/
def join64 (lo hi : Word) : BitVec 64 := BitVec.ofNat 64 (lo.toNat + 2 ^ 32 * hi.toNat)

/-- Low and high words of a 64-bit value. -/
def loWord (v : BitVec 64) : Word := BitVec.ofNat 32 v.toNat
def hiWord (v : BitVec 64) : Word := BitVec.ofNat 32 (v.toNat / 2 ^ 32)

/-- A number as a register word. -/
def w32 (n : Nat) : Word := BitVec.ofNat 32 n

/-- A signed number as a 64-bit value. -/
def i64 (n : Int) : BitVec 64 := BitVec.ofInt 64 n

/-! ### Vectors -/

/-- Element i, or d outside. -/
def vget {α : Type} {n : Nat} (v : Vector α n) (i : Nat) (d : α) : α := (v[i]?).getD d

/-- Element i replaced; nothing outside. -/
def vset {α : Type} {n : Nat} (v : Vector α n) (i : Nat) (x : α) : Vector α n := v.setIfInBounds i x

/-! ### Sparse maps: strictly rising keys, no entry equal to the default -/

/-- Value at a key. -/
def sget {α : Type} (d : α) : List (Nat × α) → Nat → α
  | [], _ => d
  | (k, v) :: r, a => if a = k then v else if a < k then d else sget d r a

/-- The map with the value at a key replaced. -/
def sput {α : Type} [DecidableEq α] (d : α) : List (Nat × α) → Nat → α → List (Nat × α)
  | [], a, v => if v = d then [] else [(a, v)]
  | (k, w) :: r, a, v =>
    if a = k then (if v = d then r else (a, v) :: r)
    else if a < k then (if v = d then (k, w) :: r else (a, v) :: (k, w) :: r)
    else (k, w) :: sput d r a v

/-- Keys above a bound, strictly rising, no default value. -/
def swfFrom {α : Type} [DecidableEq α] (d : α) : Option Nat → List (Nat × α) → Bool
  | _, [] => true
  | b, (k, v) :: r => (match b with | none => true | some x => decide (x < k)) && decide (v ≠ d) && swfFrom d (some k) r

/-- Canonical form. -/
def swf {α : Type} [DecidableEq α] (d : α) (m : List (Nat × α)) : Bool := swfFrom d none m

/-- Canonical form of a byte memory whose unlisted bytes read 0. -/
def Mem.wf (m : List Host.Cell) : Bool := swf (0 : Byte) m

/-- One byte of memory. -/
def mget (m : List Host.Cell) (a : Nat) : Byte := sget 0 m a

/-- n bytes of memory from an address. -/
def mread (m : List Host.Cell) (a n : Nat) : Bytes := (List.range n).map (fun i => mget m (a + i))

/-- Bytes written from an address. -/
def mwrite (m : List Host.Cell) : Nat → Bytes → List Host.Cell
  | _, [] => m
  | a, b :: r => mwrite (sput 0 m a b) (a + 1) r

/-! ### Check codes -/

/-- One step of a reflected CRC. -/
def crcStep (poly c : BitVec 32) : BitVec 32 := if c.getLsbD 0 then (c >>> 1) ^^^ poly else c >>> 1

/-- One byte into a reflected CRC. -/
def crcByte (poly c : BitVec 32) (x : Byte) : BitVec 32 :=
  let f := crcStep poly
  f (f (f (f (f (f (f (f (c ^^^ x.setWidth 32))))))))

/-- CRC with reflected input and output, initial value and final XOR of all ones. -/
def crcReflected (poly : BitVec 32) (b : Bytes) : BitVec 32 :=
  b.foldl (crcByte poly) 0xFFFFFFFF ^^^ 0xFFFFFFFF

/-- CRC-32C (02 R46): polynomial 0x1EDC6F41, here bit-reversed. -/
def crc32c (b : Bytes) : BitVec 32 := crcReflected 0x82F63B78 b

/-- CRC-32 of WizerLink frames (12 R371): polynomial 0x04C11DB7, here bit-reversed. -/
def crc32 (b : Bytes) : BitVec 32 := crcReflected 0xEDB88320 b

/-- One step of the CRC-16 of 03 R104 and 08 R265. -/
def crc16Step (c : BitVec 16) : BitVec 16 := if c.getLsbD 15 then (c <<< 1) ^^^ 0x1021 else c <<< 1

/-- CRC-16, polynomial 0x1021, initial value 0xFFFF, no reflection, no final XOR. -/
def crc16 (b : Bytes) : BitVec 16 :=
  b.foldl (fun (c : BitVec 16) (x : Byte) =>
    let f := crc16Step
    f (f (f (f (f (f (f (f (c ^^^ ((x.setWidth 16 : BitVec 16) <<< 8)))))))))) 0xFFFF

/-- The primes below n, rising. -/
def primesBelow (n : Nat) : List Nat :=
  (List.range n).filter (fun p => decide (1 < p) && (List.range p).all (fun q => decide (q < 2) || p % q != 0))

/-- The whole part of the d-th root of x, found bit by bit from bit n - 1 down, r being the bits found so far. -/
def rootFrom (d x : Nat) : Nat → Nat → Nat
  | 0, r => r
  | n + 1, r => rootFrom d x n (if (r + 2 ^ n) ^ d ≤ x then r + 2 ^ n else r)

/-- The first 32 bits of the fraction of the d-th root of p. -/
def rootFraction (d p : Nat) : Word := w32 (rootFrom d (p * 2 ^ (32 * d)) 38 0)

/-- SHA-256's round constants: the cube roots of the first 64 primes (log entry 12: the published standard). -/
def shaK : List Word := (primesBelow 312).map (rootFraction 3)

/-- SHA-256's first hash value: the square roots of the first eight primes. -/
def shaInit : List Word := (primesBelow 20).map (rootFraction 2)

/-- The exclusive or of a word rotated right by each of the counts. -/
def turns (w : Word) (counts : List Nat) : Word := counts.foldl (fun acc k => acc ^^^ w.rotateRight k) 0

/-- The message schedule, newest word first, extended by n words. -/
def shaExtend : Nat → List Word → List Word
  | 0, w => w
  | n + 1, w =>
    let a := w.getD 1 0
    let b := w.getD 14 0
    let next := (turns a [17, 19] ^^^ (a >>> 10)) + (turns b [7, 18] ^^^ (b >>> 3)) + w.getD 15 0 + w.getD 6 0
    shaExtend n (next :: w)

/-- One SHA-256 round on (a, b, c, d, e, f, g, h). -/
def shaRound (v : List Word) (kw : Word) : List Word :=
  let a := v.getD 0 0
  let b := v.getD 1 0
  let c := v.getD 2 0
  let e := v.getD 4 0
  let f := v.getD 5 0
  let g := v.getD 6 0
  let choice := (e &&& f) ||| (~~~ e &&& g)
  let majority := (a &&& (b ||| c)) ||| (b &&& c)
  let t := kw + v.getD 7 0 + choice + turns e [6, 11, 25]
  [t + majority + turns a [2, 13, 22], a, b, c, t + v.getD 3 0, e, f, g]

/-- A big-endian word at an offset. -/
def beWord (b : Bytes) (i : Nat) : Word :=
  w32 (((b.drop i).take 4).foldl (fun acc x => 256 * acc + x.toNat) 0)

/-- One block of 64 bytes. -/
def shaBlock (h : List Word) (blk : Bytes) : List Word :=
  let w := (shaExtend 48 ((List.range 16).map (fun i => beWord blk (4 * i))).reverse).reverse
  let r := (shaK.zipWith (· + ·) w).foldl shaRound h
  h.zipWith (· + ·) r

/-- n blocks. -/
def shaBlocks : Nat → List Word → Bytes → List Word
  | 0, h, _ => h
  | n + 1, h, b => shaBlocks n (shaBlock h (b.take 64)) (b.drop 64)

/-- Big-endian bytes of a number. -/
def toBe (n k : Nat) : Bytes := (toLe n k).reverse

/-- SHA-256 (11 R345, 03 R107; log entry 12). -/
def sha256 (b : Bytes) : Bytes :=
  let m := b ++ [0x80] ++ pad ((119 - b.length % 64) % 64) ++ toBe 8 (8 * b.length)
  (shaBlocks (m.length / 64) shaInit m).flatMap (fun w => toBe 4 w.toNat)

/-- HMAC-SHA-256 (03 R107; log entry 12). -/
def hmac (key msg : Bytes) : Bytes :=
  let k := (if key.length > 64 then sha256 key else key)
  let k := k ++ pad (64 - k.length)
  sha256 (k.map (· ^^^ 0x5C) ++ sha256 (k.map (· ^^^ 0x36) ++ msg))

/-! ### Parts of the state -/

/-- The next free value (log entry 6) and the state with the counter advanced. -/
def State.draw (s : State) : Nat × State := (Config.freeNat s.fresh, { s with fresh := s.fresh + 1 })

/-- FIRE ticks in a microsecond and in a millisecond (00 R11). -/
def tickUs : Nat := 400
def tickMs : Nat := 400000

/-- Channel n. -/
def State.chan (s : State) (n : Nat) : Chan := vget s.chans n {}

/-- Channel n changed. -/
def State.modChan (s : State) (n : Nat) (f : Chan → Chan) : State :=
  { s with chans := vset s.chans n (f (s.chan n)) }

/-- Axis n. -/
def State.axis (s : State) (n : Nat) : Axis := vget s.axes n {}

/-- Axis n changed. -/
def State.modAxis (s : State) (n : Nat) (f : Axis → Axis) : State :=
  { s with axes := vset s.axes n (f (s.axis n)) }

/-- Encoder n. -/
def State.encoder (s : State) (n : Nat) : Encoder := vget s.enc n {}

/-- Encoder n changed. -/
def State.modEncoder (s : State) (n : Nat) (f : Encoder → Encoder) : State :=
  { s with enc := vset s.enc n (f (s.encoder n)) }

/-- The job in a slot. -/
def State.jobAt (s : State) (j : Nat) : Option Job := vget s.jobs j none

/-- The slot of the open job with an ID. -/
def State.jobSlot (s : State) (id : BitVec 16) : Option Nat :=
  (List.range 4).find? (fun j => (s.jobAt j).any (fun x => x.id = id))

/-- The job in a slot changed. -/
def State.modJob (s : State) (j : Nat) (f : Job → Job) : State :=
  { s with jobs := vset s.jobs j ((s.jobAt j).map f) }

/-- The channels of a mask, ascending. -/
def maskChans (m : ChMask) : List Nat := (List.range 48).filter (fun n => m.getLsbD n)

/-- The mask of channels that satisfy a test. -/
def chansWhere (p : Nat → Bool) : ChMask :=
  (List.range 48).foldl (fun m n => if p n then setBit m n true else m) 0

/-- The slot of the job that channel n belongs to. -/
def State.jobOf (s : State) (n : Nat) : Option Nat :=
  (List.range 4).find? (fun j => (s.jobAt j).any (fun x => x.channels.getLsbD n))

/-- Camera port p. -/
def State.port (s : State) (p : Nat) : CamPort := vget s.cam.ports p {}

/-- Camera port p changed. -/
def State.modPort (s : State) (p : Nat) (f : CamPort → CamPort) : State :=
  { s with cam := { s.cam with ports := vset s.cam.ports p (f (s.port p)) } }

/-- DMA channel k. -/
def State.dma (s : State) (k : Nat) : Dma := vget s.mem.dma k {}

/-- DMA channel k changed. -/
def State.modDma (s : State) (k : Nat) (f : Dma → Dma) : State :=
  { s with mem := { s.mem with dma := vset s.mem.dma k (f (s.dma k)) } }

/-- Bank b. -/
def State.bank (s : State) (b : Nat) : Bank := vget s.mem.banks b {}

/-- Bank b changed. -/
def State.modBank (s : State) (b : Nat) (f : Bank → Bank) : State :=
  { s with mem := { s.mem with banks := vset s.mem.banks b (f (s.bank b)) } }

/-- The defaults of a head and of a die sensor (09 R295). -/
def headDefault : SensorState := { warn := 600, throttle := 650, shutdown := 750 }
def dieDefault : SensorState := { warn := 1000, throttle := 1100, shutdown := 1250 }

/-- Head sensor c. -/
def State.headSensor (s : State) (c : Nat) : SensorState := vget s.therm.heads c headDefault

/-- Die sensor i. -/
def State.dieSensor (s : State) (i : Nat) : SensorState := vget s.therm.dies i dieDefault

/-- A sensor. -/
def State.sensor (s : State) : Sensor → SensorState
  | .head c => s.headSensor c
  | .die i => s.dieSensor i

/-- Head sensor c changed. -/
def State.modHead (s : State) (c : Nat) (f : SensorState → SensorState) : State :=
  { s with therm := { s.therm with heads := vset s.therm.heads c (f (s.headSensor c)) } }

/-- A sensor changed. -/
def State.modSensor (s : State) (x : Sensor) (f : SensorState → SensorState) : State :=
  match x with
  | .head c => s.modHead c f
  | .die i => { s with therm := { s.therm with dies := vset s.therm.dies i (f (s.dieSensor i)) } }

/-- The ports of WizerLink. -/
def State.wport (s : State) : Side → Port
  | .east => s.link.east
  | .west => s.link.west

/-- A WizerLink port changed. -/
def State.modWport (s : State) (p : Side) (f : Port → Port) : State :=
  match p with
  | .east => { s with link := { s.link with east := f s.link.east } }
  | .west => { s with link := { s.link with west := f s.link.west } }

/-- The other port. -/
def other : Side → Side
  | .east => .west
  | .west => .east

/-- The device ID it holds: 0 standing alone, 0xFF on a ring without an ID (12 R377). -/
def State.deviceId (s : State) : Nat :=
  match s.link.id with
  | some i => i
  | none => if s.link.noId then 0xFF else 0

/-- The device is the master of its ring or stands alone as master (12 R375). -/
def State.isMaster (s : State) : Bool := s.otp.wires.master

/-- The device stands alone (12 R377). -/
def State.standalone (s : State) : Bool := s.link.id.isNone && !s.link.noId

/-- The clock runs for blocks outside AON: RUN, or IDLE where the block is clocked there (13 R399). -/
def State.inRun (s : State) : Bool := s.pwr.supply && s.pwr.state = .run && !s.pwr.waking && !s.pwr.pinHeld
def State.inRunIdle (s : State) : Bool :=
  s.pwr.supply && (s.pwr.state = .run || s.pwr.state = .idle) && !s.pwr.pinHeld && !(s.pwr.waking && s.pwr.cold)

/-- The always-on domain is powered. -/
def State.aonOn (s : State) : Bool := s.pwr.supply

/-! ### Trouble counters and injected shots (15) -/

/-- A counter's value and flag after n detections (15 R447). -/
def bump (v : BitVec 16) (sat : Bool) (n : Nat) : BitVec 16 × Bool :=
  (BitVec.ofNat 16 (min 0xFFFF (v.toNat + n)), sat || decide (0xFFFF < v.toNat + n))

/-- n detections of counter k. -/
def State.countN (s : State) (k n : Nat) : State :=
  let r := bump (vget s.tc.val k 0) (s.tc.sat.getLsbD k) n
  { s with tc := { val := vset s.tc.val k r.1, sat := setBit s.tc.sat k r.2 } }

/-- One detection of counter k. -/
def State.count (s : State) (k : Nat) : State := s.countN k 1

/-- The counters selected by a mask cleared (15 R450). -/
def State.clearCounters (s : State) (m : BitVec 128) : State :=
  { s with tc := { val := Vector.ofFn (fun i : Fin 128 => if m.getLsbD i then 0 else vget s.tc.val i 0)
                   sat := s.tc.sat &&& ~~~ m } }

/-- A released shot of detector k waits (15 R455). -/
def State.shot (s : State) (k : Nat) : Bool := s.inj.released = some k

/-- The released shot has acted (15 R451, R455). -/
def State.shotTaken (s : State) : State :=
  { s with inj := { s.inj with released := none, taken := s.inj.taken + 1 } }

/-- A check of detector k that finds `real`: whether it detects, and the state with a meeting shot consumed (15 R455). -/
def State.detect (s : State) (k : Nat) (real : Bool) : Bool × State :=
  if s.shot k then (true, s.shotTaken) else (real, s)

/-! ### Source pulses (01 R31-R36) -/

/-- The AON sources (01 R35). -/
def aonSource (k : Nat) : Bool := (0x40 ≤ k && k ≤ 0x5F) || (0x62 ≤ k && k ≤ 0x65)

/-- The latch bit of a line set. -/
def State.latchLine (s : State) (l : BitVec 6) : State :=
  { s with fab := { s.fab with latch := setBit s.fab.latch l.toNat true } }

/-- The sources that pulse in CORE itself, without a synchroniser on their way (01 R18, R43): DMA completions, survey progress, EV_SOFT. -/
def coreSource (k : Nat) : Bool := k < 0x10 || k = 0x3C || 0x80 ≤ k

/-- A source pulses: on its way to its line in RUN and IDLE, where a pulse that finds the source's synchroniser still pending merges, counted unless the
source's route is disabled (01 R21, R34); in SLEEP and OFF an AON source sets its latch bit (01 R35). -/
def State.raise (s : State) (k : Nat) : State :=
  if s.inRunIdle then
    if s.fab.raised.contains k && !coreSource k then (if (vget s.fab.src k {}).en then s.count 3 else s)
    else { s with fab := { s.fab with raised := s.fab.raised ++ [k] } }
  else if aonSource k && (vget s.fab.src k {}).en then s.latchLine (vget s.fab.src k {}).line
  else s

/-- Part k of a line-engine bank's contents is written (05 R161, 10 R329). -/
def State.bankWrote (s : State) (b k : Nat) : State := s.modBank b (fun x => { x with wrote := setBit x.wrote k true })

/-! ### Image store -/

/-- Bits per channel and rank (10 R331). -/
def densityGb (d : Nat) : Nat :=
  match d with
  | 0 => 4
  | 1 => 6
  | 2 => 8
  | 3 => 12
  | _ => 16

/-- Usable bytes of a setup: 7/8 of the capacity (10 R332). -/
def storeBytesOf (c : StoreCfg) : Nat :=
  let ch := if c.channels = 0xF then 4 else if c.channels = 0x3 then 2 else 1
  ch * c.ranks * densityGb c.density * 2 ^ 27 / 8 * 7

/-- STORE: usable bytes now, 0 while unconfigured (10 R331, R334). -/
def State.storeBytes (s : State) : Nat :=
  match s.mem.cfg, s.mem.training with
  | some c, none => storeBytesOf c
  | _, _ => 0

/-- Bytes read from the image store. -/
def State.storeRead (s : State) (a n : Nat) : Bytes := mread s.mem.store a n

/-- Bytes written to the image store. -/
def State.storeWrite (s : State) (a : Nat) (b : Bytes) : State :=
  { s with mem := { s.mem with store := mwrite s.mem.store a b } }

end Sys2Proof.Machine
end

