-- ==== Sys2Proof/Machine/LinkTx.lean ====
section
/-! DEFINITION. Sending on WizerLink: frames, routing, relayed packets, fault columns (12 R370-R373, R379, R380, R387-R390). -/
namespace Sys2Proof.Machine

/-- Frame types (12 R370). -/
def tPOS : BitVec 4 := 1
def tSYNC : BitVec 4 := 2
def tPKT : BitVec 4 := 3
def tDATA : BitVec 4 := 4
def tFLT : BitVec 4 := 5
def tWAKE : BitVec 4 := 6
def tACK : BitVec 4 := 7
def tNAK : BitVec 4 := 8
def tTOPO : BitVec 4 := 9

/-- Types that are sequenced (12 R370). -/
def sequencedType (t : BitVec 4) : Bool := t = tPKT || t = tDATA || t = tFLT || t = tWAKE || t = tTOPO

/-- Class of a frame type (12 R370). -/
def frameClass (t : BitVec 4) : Nat := if t = tDATA then 3 else if t = tPKT || t = tWAKE then 2 else 1

/-- A frame among those that wait for room in the replay buffer: after those of its class, before those of a later one (12 R372). -/
def queueFrame (f : Frame) : List Frame → List Frame
  | [] => [f]
  | g :: r => if frameClass f.typ < frameClass g.typ then f :: g :: r else g :: queueFrame f r

/-- The header word of a frame (12 R370). -/
def frameWord (f : Frame) : Nat :=
  f.dest.toNat * 2 ^ 24 + f.payload.length / 4 * 2 ^ 16 + f.seq.toNat * 16 + f.typ.toNat

/-- A frame as its bytes after START, with its CRC (12 R370, R371). -/
def frameBytes (f : Frame) : Bytes :=
  let b := toLe 4 (frameWord f) ++ f.payload
  b ++ toLe 4 (crc32 b).toNat

/-- Route word (12 R371). -/
def routeWord (origin hops : Nat) : Bytes := toLe 1 origin ++ toLe 1 hops ++ [0, 0]

/-- A follower that holds an ID has stepped its timebase, as it does before any of its jobs arms (12 R382, 13 R408; log entry 28). -/
def State.stepMade (s : State) : Bool := s.isMaster || s.link.id.isNone || s.link.stepped

/-- A port is up. -/
def State.portUp (s : State) (p : Side) : Bool := (s.wport p).state = .up

/-- n frames sent again (12 R373). -/
def State.countReplays (s : State) (n : Nat) : State :=
  ({ s with link := { s.link with replays := s.link.replays + w32 n } }).countN 113 n

/-- Frames up to and with a sequence number leave the replay buffer. -/
def State.freeThrough (s : State) (p : Side) (seq : BitVec 12) : State :=
  match (s.wport p).unacked.findIdx? (fun f => f.seq = seq) with
  | some i => s.modWport p (fun q => { q with unacked := q.unacked.drop (i + 1), repeats := 0, sentAt := s.clock })
  | none => s

/-- Every unacknowledged frame sent again (12 R373). -/
def State.replay (s : State) (p : Side) : State :=
  let n := (s.wport p).unacked.length
  if n = 0 then s
  else
    (s.countReplays n).modWport p (fun q => { q with repeats := q.repeats + 1, sentAt := s.clock, lastFrame := q.unacked.getLast? })

/-- A frame put on a port that is up; a sequenced one is numbered and kept in the replay buffer, or waits for room there (12 R373). -/
def State.sendFrame (s : State) (p : Side) (f : Frame) : State :=
  if !s.portUp p then s
  else if sequencedType f.typ then
    let q := s.wport p
    if q.unacked.length < 64 then
      let f := { f with seq := q.txSeq }
      let s := s.modWport p (fun q => { q with txSeq := q.txSeq + 1, unacked := q.unacked ++ [f],
                                               sentAt := (if q.unacked = [] then s.clock else q.sentAt), lastFrame := some f })
      -- detector 113: the frame is answered as NAKed and sent again (15 R452, R455)
      if s.shot 113 && (p = .east || !s.portUp .east) then (s.shotTaken.freeThrough p (f.seq - 1)).replay p
      else s
    else s.modWport p (fun q => { q with waiting := queueFrame f q.waiting })
  else s.modWport p (fun q => { q with lastFrame := some { f with seq := 0 } })

/-- Waiting frames sent while the replay buffer has room. -/
def State.sendWaiting (s : State) (p : Side) : State :=
  let w := (s.wport p).waiting
  w.foldl (fun s f => s.sendFrame p f) (s.modWport p (fun q => { q with waiting := [] }))

/-- Hops to an ID through a port. -/
def State.hopsTo (s : State) (p : Side) (id : Nat) : Option Nat := ((s.wport p).hops.getD id none)

/-- The port and hop count for a unicast frame: fewer hops, East on a tie (12 R379). -/
def State.routeTo (s : State) (id : Nat) : Option (Side × Nat) :=
  match s.hopsTo .east id, s.hopsTo .west id with
  | some a, some b => if b < a then some (.west, b) else some (.east, a)
  | some a, none => some (.east, a)
  | none, some b => some (.west, b)
  | none, none => none

/-- HOPS of a broadcast copy out of a port, from the devices reached through it: on a closed ring all the others (12 R371, R380). -/
def copyHops (closed : Bool) (p : Side) (others : Nat) : Nat :=
  min 7 (if closed then (match p with | .east => (others + 1) / 2 | .west => others / 2) else others)

/-- Hops of a broadcast copy (12 R380). -/
def State.broadcastHops (s : State) (p : Side) : Nat := copyHops s.link.closed p (s.wport p).others

/-- A frame with a route word to one device. -/
def State.sendTo (s : State) (id : Nat) (typ : BitVec 4) (body : Bytes) : State :=
  match s.routeTo id with
  | none => s
  | some (p, h) => s.sendFrame p { typ := typ, dest := BitVec.ofNat 8 id, seq := 0, payload := routeWord s.deviceId h ++ body }

/-- A frame with a route word to all devices: both copies, none with HOPS 0 (12 R380). -/
def State.sendAll (s : State) (typ : BitVec 4) (body : Bytes) : State :=
  [Side.east, Side.west].foldl (fun s p =>
    let h := s.broadcastHops p
    if h = 0 then s
    else s.sendFrame p { typ := typ, dest := 0xFF, seq := 0, payload := routeWord s.deviceId h ++ body }) s

/-- Pieces of at most n bytes, at least one piece. -/
def pieces (n : Nat) : Nat → Bytes → List Bytes
  | 0, b => [b]
  | fuel + 1, b => if b.length ≤ n then [b] else b.take n :: pieces n fuel (b.drop n)

/-- A packet as the bodies of its PKT frames (12 R390). -/
def pktBodies (kind : Nat) (pktId : BitVec 16) (b : Bytes) : List Bytes :=
  let ps := pieces 248 17 b
  ps.zipIdx.map (fun (x : Bytes × Nat) =>
    toLe 1 kind ++ toLe 1 (x.2 + (if x.2 + 1 = ps.length then 0x80 else 0)) ++ toLe 2 pktId.toNat ++ x.1)

/-- The next PKT_ID (12 R390). -/
def State.takePktId (s : State) : BitVec 16 × State :=
  (s.link.pktId, { s with link := { s.link with pktId := s.link.pktId + 1 } })

/-- A packet sent to a device, or to all with ID 0xFF, under a PKT_ID. -/
def State.sendPkt (s : State) (id kind : Nat) (pktId : BitVec 16) (b : Bytes) : State :=
  (pktBodies kind pktId b).foldl (fun s x => if id = 0xFF then s.sendAll tPKT x else s.sendTo id tPKT x) s

/-- A packet sent under the device's next PKT_ID. -/
def State.sendNewPkt (s : State) (id kind : Nat) (b : Bytes) : State :=
  let r := s.takePktId
  r.2.sendPkt id kind r.1 b

/-- The LOCAL report: local trip latches, POSLOST in the jam class (12 R387). -/
def State.localReport (s : State) : BitVec 4 :=
  if s.link.poslost then s.ilk.trips ||| 4 else s.ilk.trips

/-- FAULT columns of this device for newly set classes, out of every up port (12 R388). -/
def State.sendFault (s : State) (classes : BitVec 4) : State :=
  if classes = 0 then s
  else
    let b : Byte := BitVec.ofNat 8 (classes.toNat + 16 * (s.deviceId % 8))
    [Side.east, Side.west].foldl (fun s p => if s.portUp p then s.modWport p (fun q => { q with lastFault := some b }) else s)
      { s with link := { s.link with faultSent := some (b, s.clock) } }

/-- An FLT frame with the LOCAL report (12 R387). -/
def State.sendFlt (s : State) : State := s.sendAll tFLT (toLe 4 s.localReport.toNat)

/-- FAULT columns and FLT on a change of the LOCAL report (12 R387, R388). -/
def State.reportLocal (s : State) : State :=
  let n := s.localReport
  if n = s.link.localSent then s
  else (({ s with link := { s.link with localSent := n } }).sendFault (n &&& ~~~ s.link.localSent)).sendFlt

end Sys2Proof.Machine
end

