-- ==== Sys2Proof/Machine/Rings.lean ====
section
/-! DEFINITION. Host memory writes, MSI-X vectors, the reply ring with its hold buffer, the event ring (02 R45-R62, 14 R426-R428). -/
namespace Sys2Proof.Machine

/-! ### Status codes (02 R68) -/

def stOK : BitVec 16 := 0x0000
def stPENDING : BitVec 16 := 0x0001
def stDEFERRED : BitVec 16 := 0x0002
def stBAD_OPCODE : BitVec 16 := 0x0010
def stBAD_LENGTH : BitVec 16 := 0x0011
def stBAD_PARAM : BitVec 16 := 0x0012
def stBAD_STATE : BitVec 16 := 0x0013
def stBUSY : BitVec 16 := 0x0014
def stCHECK_FAIL : BitVec 16 := 0x0015
def stREFUSED_LIFECYCLE : BitVec 16 := 0x0020
def stREFUSED_TEMPERATURE : BitVec 16 := 0x0021
def stREFUSED_INTERLOCK : BitVec 16 := 0x0022
def stTARGET_UNREACHABLE : BitVec 16 := 0x0030
def stTARGET_CONFLICT : BitVec 16 := 0x0031

/-! ### Host memory and vectors -/

/-- Bytes written into host memory. -/
def State.hostWrite (s : State) (a : Nat) (b : Bytes) : State :=
  { s with host := { s.host with mem := mwrite s.host.mem a b } }

/-- Entry v of the MSI-X table. -/
def State.msixEntry (s : State) (v : Nat) : MsixEntry := vget s.host.msix v {}

/-- The message of vector v can be sent: MSI-X Enable, function mask, entry mask, Bus Master Enable (14 R428, R478). -/
def State.vectorOpen (s : State) (v : Nat) : Bool :=
  s.host.msixEn && !s.host.funcMask && !(s.msixEntry v).ctrl.getLsbD 0 && s.host.bme

/-- Vector v raised: its message, or its PBA bit (14 R427, R428). -/
def State.raiseVector (s : State) (v : Nat) : State :=
  if s.vectorOpen v then
    let e := s.msixEntry v
    s.hostWrite (join64 e.addrLo e.addrHi).toNat (toLe 4 e.data.toNat)
  else { s with host := { s.host with pba := setBit s.host.pba v true } }

/-- One message for each vector that waits in the PBA and is now open (14 R428). -/
def State.flushVectors (s : State) : State :=
  (List.range 32).foldl (fun s v =>
    if s.host.pba.getLsbD v && s.vectorOpen v then
      ({ s with host := { s.host with pba := setBit s.host.pba v false } }).raiseVector v
    else s) s

/-! ### RING_STAT bits; vector 2 at a rise (02 R52, 14 R427) -/

def State.setCfgErr (s : State) : State :=
  if s.pe.cfgErr then s else ({ s with pe := { s.pe with cfgErr := true } }).raiseVector 2
def State.setIdxErr (s : State) : State :=
  if s.pe.idxErr then s else ({ s with pe := { s.pe with idxErr := true } }).raiseVector 2
def State.setRplLost (s : State) : State :=
  if s.pe.rplLost then s else ({ s with pe := { s.pe with rplLost := true } }).raiseVector 2
def State.setEvtLost (s : State) : State :=
  if s.pe.evtLost then s else ({ s with pe := { s.pe with evtLost := true } }).raiseVector 2
def State.setImmLost (s : State) : State :=
  if s.pe.immLost then s else ({ s with pe := { s.pe with immLost := true } }).raiseVector 2

/-- A bit of HP_ERR set (14 R431). -/
def State.setHpErr (s : State) (k : Nat) : State := { s with host := { s.host with err := setBit s.host.err k true } }

/-- HP_ERR for a failed read of the device (14 R433). -/
def readErrorBit : ReadError → Nat
  | .poisoned => 0
  | .unsupported => 1
  | .abort => 1
  | .timeout => 2
  | .unexpected => 1

/-- The AER report of a failed read of the device (14 R433). -/
def readErrorAer : ReadError → AerError
  | .poisoned => .poisoned
  | .unsupported => .unsupportedReceived
  | .abort => .abortReceived
  | .timeout => .timeout
  | .unexpected => .unexpectedCompletion

/-- The class of an error: correctable, or at the severity that the host has programmed (14 R433). -/
def HostPort.classOf (h : HostPort) (e : AerError) : ErrorClass :=
  match e with
  | .receiver | .badTlp | .badDllp | .replayTimeout | .replayRollover | .advisoryNonFatal => .correctable
  | _ => if h.aerFatal.contains e then .fatal else .nonFatal

/-- An error reported through AER (14 R433). -/
def State.reportAer (s : State) (e : AerError) : State :=
  { s with host := { s.host with aer := s.host.aer.insert e
                                 aerSent := (if s.host.aerMask.contains e then s.host.aerSent else some (e, s.host.classOf e)) } }

/-- An error that cannot come: no read times out while the host has disabled Completion Timeout (14 R422). -/
def readOff (e : Sys2Proof.ReadError) (off : Bool) : Bool := off && e = .timeout
def resultOff (r : Sys2Proof.ReadResult) (off : Bool) : Bool := match r with | .data _ => false | .error e => readOff e off

/-- A failed read of the device reported through AER and HP_ERR (14 R433). -/
def State.hostReadError (s : State) (e : ReadError) : State := (s.setHpErr (readErrorBit e)).reportAer (readErrorAer e)

/-! ### Packets as bytes -/

/-- Slots of a packet with so many parameter bytes (02 R47). -/
def slotsOf (len : Nat) : Nat := ceilDiv (16 + len) 64

/-- Bytes 0-11 of a header. -/
def headerBytes (opcode flags target tag len status qdepth : Nat) : Bytes :=
  toLe 2 opcode ++ toLe 1 flags ++ toLe 1 target ++ toLe 2 tag ++ toLe 2 len ++ toLe 2 status ++ toLe 2 qdepth

/-- A packet with its CRC, padded to whole slots (02 R45-R47). -/
def withCrc (head params : Bytes) : Bytes :=
  let b := head ++ toLe 4 (crc32c (head ++ [0, 0, 0, 0] ++ params)).toNat ++ params
  b ++ pad (64 * slotsOf params.length - b.length)

/-- The bytes of a reply written now (02 R45). -/
def State.replyBytes (s : State) (r : Reply) : Bytes :=
  if r.raw ≠ [] then r.raw ++ pad (64 * ceilDiv r.raw.length 64 - r.raw.length)
  else withCrc (headerBytes r.opcode.toNat 0 s.deviceId r.tag.toNat r.params.length r.status.toNat s.pe.queue.length) r.params

/-- A command packet as bytes, for the relay. -/
def packetBytes (p : Packet) : Bytes :=
  let head := headerBytes p.opcode.toNat p.flags.toNat p.target.toNat p.tag.toNat p.length 0 0
  head ++ toLe 4 (crc32c (head ++ [0, 0, 0, 0] ++ p.params)).toNat ++ p.params

/-! ### Rings -/

/-- Slots of a ring. -/
def Ring.slots (r : Ring) : Nat := 2 ^ r.log2

/-- Occupied slots. -/
def Ring.used (r : Ring) : Nat := (r.tail + r.slots - r.head) % r.slots

/-- Free slots: the producer never advances onto HEAD (02 R50). -/
def Ring.free (r : Ring) : Nat := r.slots - 1 - r.used

/-- Byte address of slot i. -/
def Ring.addr (r : Ring) (i : Nat) : Nat := r.base.toNat + 64 * (i % r.slots)

/-- Whole slots written from TAIL on, wrapping at the ring's end. -/
def State.writeSlots (s : State) (r : Ring) : Nat → Nat → Bytes → State
  | 0, _, _ => s
  | n + 1, i, b => (s.hostWrite (r.addr i) (b.take 64)).writeSlots r n (i + 1) (b.drop 64)

/-- A reply can be written into n slots. -/
def State.replyFits (s : State) (n : Nat) : Bool := s.pe.rpl.en && s.host.bme && decide (n ≤ s.pe.rpl.free)

/-- The bytes written into the reply ring, RPL_TAIL advanced, vector 0 (02 R49, 14 R426, R427). -/
def State.writeReply (s : State) (b : Bytes) : State :=
  let r := s.pe.rpl
  let n := b.length / 64
  let s := s.writeSlots r n r.tail b
  ({ s with pe := { s.pe with rpl := { r with tail := (r.tail + n) % r.slots } } }).raiseVector 0

/-- A reply sent back to the device that the command came from (12 R390). -/
def State.sendReply (s : State) (dest : Byte) (r : Reply) : State :=
  let head := headerBytes r.opcode.toNat 0 s.deviceId r.tag.toNat r.params.length r.status.toNat s.pe.queue.length
  s.sendNewPkt dest.toNat 1 (head ++ toLe 4 (crc32c (head ++ [0, 0, 0, 0] ++ r.params)).toNat ++ r.params)

/-- The oldest reply that Kettle waits to write leaves it: into the hold buffer, or to the device its command came from (12 R390); none does
while Kettle is stalled (02 R81) or starts up after a warm reset (13 R416), or the hold buffer is full. -/
def State.kettleWrites (s : State) : Option State :=
  match s.pe.kettleWait with
  | [] => none
  | k :: ks =>
    if s.pe.stalled || s.pe.rebooting then none
    else
      match k.relayTo with
      | some d => some (({ s with pe := { s.pe with kettleWait := ks } }).sendReply d k)
      | none => if s.pe.hold.length < 32 then some { s with pe := { s.pe with hold := s.pe.hold ++ [k], kettleWait := ks } } else none

/-- Held replies written as slots free, then those that Kettle waits to write (02 The reply ring is full; R81). -/
def State.drainReplies : Nat → State → State
  | 0, s => s
  | n + 1, s =>
    let next := match s.kettleWrites with
      | some t => State.drainReplies n t
      | none => s
    match s.pe.hold with
    | r :: rest =>
      let b := s.replyBytes r
      if s.replyFits (b.length / 64) then
        State.drainReplies n (({ s with pe := { s.pe with hold := rest } }).writeReply b)
      else next
    | [] => next

/-- Everything written that can be. -/
def State.drain (s : State) : State :=
  State.drainReplies (2 * (s.pe.hold.length + s.pe.kettleWait.length)) s

/-- A reply of Kettle: it waits while the hold buffer is full or Kettle is stalled (02 R81). -/
def State.kettleReply (s : State) (r : Reply) : State :=
  ({ s with pe := { s.pe with kettleWait := s.pe.kettleWait ++ [r] } }).drain

/-- A reply of the packet engine: dropped when the hold buffer is full, or by a shot of detector 1. -/
def State.engineReply (s : State) (r : Reply) : State :=
  let d := s.detect 1 (decide (32 ≤ s.pe.hold.length))
  if d.1 then (d.2.count 1).setRplLost
  else ({ d.2 with pe := { d.2.pe with hold := d.2.pe.hold ++ [r] } }).drain

/-- WANT_REPLY, ORDERED and BROADCAST (02 R45). -/
def Packet.wantReply (p : Packet) : Bool := p.flags.getLsbD 0
def Packet.ordered (p : Packet) : Bool := p.flags.getLsbD 1
def Packet.broadcast (p : Packet) : Bool := p.flags.getLsbD 2

/-- A reply to a packet, if one is due (02 R58), sent back to the device the command came from unless it is a broadcast (02 R67, 12 R390). -/
def State.reply (s : State) (kettle : Bool) (p : Packet) (src : Source) (status : BitVec 16) (params : Bytes) : State :=
  let r : Reply :=
    { opcode := p.opcode, tag := p.tag, status := status
      params := (if status = stOK || status = stDEFERRED || status = stCHECK_FAIL then params else []) }
  if p.wantReply || !(status = stOK || status = stDEFERRED || status = stPENDING) then
    match src with
    | .relay origin _ =>
      if p.broadcast then (if kettle then s.kettleReply r else s.engineReply r)
      else if kettle then s.kettleReply { r with relayTo := some origin }
      else s.sendReply origin r
    | _ => if kettle then s.kettleReply r else s.engineReply r
  else s

/-! ### Event ring -/

/-- An event record as one slot (02 R60). -/
def State.eventBytes (s : State) (opcode : Nat) (tb : BitVec 64) (code data : Nat) : Bytes :=
  withCrc (headerBytes opcode 0 s.deviceId 0 16 0 s.pe.queue.length)
    (toLe 8 tb.toNat ++ toLe 2 code ++ [0, 0] ++ toLe 4 data)

/-- An event record can be written. -/
def State.eventFits (s : State) : Bool := s.pe.evt.en && s.host.bme && decide (0 < s.pe.evt.free)

/-- The vector of a record: 1 for device events but ring break and for inputs 29-31, else v - 3 (14 R427). -/
def eventVector (fabric : Bool) (code : Nat) : Option Nat :=
  if fabric then (if code ≤ 28 then some (code + 3) else some 1)
  else if code = 0x0040 then none else some 1

/-- One record written and its vector raised. -/
def State.writeEvent (s : State) (fabric : Bool) (tb : BitVec 64) (code data : Nat) : State :=
  let r := s.pe.evt
  let s := s.hostWrite (r.addr r.tail) (s.eventBytes (if fabric then 0xE000 else 0xE100) tb code data)
  let s := { s with pe := { s.pe with evt := { r with tail := (r.tail + 1) % r.slots } } }
  match eventVector fabric code with
  | some v => s.raiseVector v
  | none => s

/-- A record dropped (02 R62). -/
def State.dropEvent (s : State) : State :=
  (({ s with pe := { s.pe with evtDropped := s.pe.evtDropped + 1 } }).count 2).setEvtLost

/-- The 0x0003 record once a slot is free again (02 R62). -/
def State.eventsLost (s : State) : State :=
  if s.pe.evtDropped ≠ 0 && s.eventFits then
    ({ s with pe := { s.pe with evtDropped := 0 } }).writeEvent false s.timebase 3 s.pe.evtDropped
  else s

/-- An event record written, or dropped and counted (02 R60-R62). -/
def State.event (s : State) (fabric : Bool) (tb : BitVec 64) (code data : Nat) : State :=
  let s := s.eventsLost
  let d := s.detect 2 (!s.eventFits)
  if d.1 then d.2.dropEvent else d.2.writeEvent fabric tb code data

/-- A device event at this moment (02 R61). -/
def State.deviceEvent (s : State) (code data : Nat) : State := s.event false s.timebase code data

end Sys2Proof.Machine
end

