-- ==== Sys2Proof/Machine/Position.lean ====
section
/-! DEFINITION. Encoder inputs, the interpolator, position sources (04 R117-R122, 12 R385). -/
namespace Sys2Proof.Machine

/-- Timebase as a number. -/
def State.now (s : State) : Nat := s.timebase.toNat

/-- Position by interpolation at a timebase (04 R120, R121). -/
def Encoder.position (e : Encoder) (now : Nat) : Int :=
  match e.held with
  | some p => p - e.base
  | none =>
    match e.hist with
    | [] => 64 * e.count - e.base
    | (t, up) :: _ =>
      let f : Nat := min 63 (e.vNum * (now - t) / e.vDen)
      64 * e.count + (if up then (f : Int) else -(f : Int)) - e.base

/-- ENCODER of an axis: 64 position units a count (07 R237, R251). -/
def Encoder.counted (e : Encoder) : Int := 64 * e.count - e.base

/-- The new velocity estimate after a count, from the newest-first history (04 R119). -/
def velocityEstimate (h : List (Nat × Bool)) : Nat × Nat :=
  match h with
  | (t, d) :: (t1, d1) :: rest =>
    match rest with
    | (_, d2) :: (_, d3) :: (t4, d4) :: _ =>
      if d1 = d && d2 = d && d3 = d && d4 = d then (256, t - t4)
      else if d1 = d then (64, t - t1) else (0, 1)
    | _ => if d1 = d then (64, t - t1) else (0, 1)
  | _ => (0, 1)

/-- One count in a direction (04 R117, R119). -/
def Encoder.counts (e : Encoder) (now : Nat) (up : Bool) : Encoder :=
  let h := ((now, up) :: e.hist).take 5
  let v := velocityEstimate h
  { e with count := e.count + (if up then 1 else -1), hist := h, vNum := v.1, vDen := v.2, held := none }

/-- v set to 0 and P held where it is (04 R118, R121). -/
def Encoder.hold (e : Encoder) (now : Nat) : Encoder :=
  { e with vNum := 0, vDen := 1, held := some (e.position now + e.base) }

/-- Ring position at a timebase, before the rule that it never runs back (12 R385). -/
def Link.extrapolated (l : Link) (now : Nat) : Int :=
  let t : Int := min ((now : Int) - l.posStamp) 10000
  l.posPos + Int.tdiv (l.posVel * t) (2 ^ 24)

/-- Ring position: it holds where a new frame would move it back (12 R385). -/
def Link.position (l : Link) (now : Nat) : Int :=
  let p := l.extrapolated now
  if l.posVel < 0 then min p l.posReached else if 0 < l.posVel then max p l.posReached else p

/-- The interpolated position of a source (04 R122). -/
def State.sourcePosition (s : State) (src : Nat) : Int :=
  if src = 8 then s.link.position s.now else (s.encoder src).position s.now

/-- Position a channel fires from. -/
def State.chanPosition (s : State) (n : Nat) : Int := s.sourcePosition (s.chan n).posSrc

/-- What new accepted levels of ENCn_A and ENCn_B do to the count (04 R117, R118): up when ENCn_A leads, down when ENCn_B leads, none when
neither changed. -/
def Encoder.moveTo (x : Encoder) (a b : Bool) : Option EncMove :=
  if a = x.a && b = x.b then none
  else if a ≠ x.a && b ≠ x.b then some .both
  else if a ≠ x.a then some (if a ≠ b then .up else .down)
  else some (if a = b then .up else .down)

/-- The position of a source moves in a direction (04 R125): that of its last count, and none while the interpolator holds. -/
def State.movesOn (s : State) (src : Nat) (back : Bool) : Bool :=
  if src = 8 then (if back then decide (s.link.posVel < 0) else decide (0 < s.link.posVel))
  else
    match (s.encoder src).held, (s.encoder src).hist with
    | none, (_, up) :: _ => up ≠ back
    | _, _ => false

/-- ENC_COUNT (04 R117-R119): the levels accepted, in RUN and IDLE (13 R400); both changed in one sample lose the count. -/
def execEncCount (e : Fin 8) (l : EncLevels) (s : State) : Host.Outcome State Fault Refusal :=
  match (s.encoder e.val).moveTo l.a l.b with
  | none => .next s
  | some m =>
  if !s.inRunIdle then .next s
  else
    let s := s.modEncoder e.val (fun x => { x with a := l.a, b := l.b })
    -- detector 17: the lowest input of a configured axis (15 R452)
    let lowest := (List.range 8).find? (fun n => (s.axis n).configured)
    let d := if lowest = some e.val then s.detect 17 (m = .both) else (m = .both, s)
    if d.1 then .next ((d.2.modEncoder e.val (fun x => x.hold s.now)).count 17)
    else .next (d.2.modEncoder e.val (fun x => x.counts s.now (m = .up)))

/-- INTERPOLATOR_TIMEOUT (04 R121): no count for 2,097,152 ticks. -/
def execInterpolatorTimeout (e : Fin 8) (s : State) : Host.Outcome State Fault Refusal :=
  match (s.encoder e.val).hist with
  | [] => .next s
  | (t, _) :: _ =>
    if s.inRunIdle && 2097152 ≤ s.now - t then .next (s.modEncoder e.val (fun x => x.hold s.now)) else .next s

end Sys2Proof.Machine
end

