-- ==== Sys2Proof/Machine/Profiles.lean ====
section
/-! DEFINITION. Profiles of speed changes and the planning of moves (07 R236-R246). -/
namespace Sys2Proof.Machine

/-! ### Square roots and sines (log entry 10) -/

/-- The largest n below 2^(k+1) added to acc with n * n at most x, bit by bit. -/
def isqrtBits (x : Nat) : Nat → Nat → Nat
  | 0, acc => acc
  | k + 1, acc => let c := acc + 2 ^ k; isqrtBits x k (if c * c ≤ x then c else acc)

/-- Smallest n with n * n at least q. -/
def ceilSqrt (q : Rat) : Nat :=
  let x := q.ceil.toNat
  let r := isqrtBits x 48 0
  if r * r < x then r + 1 else r

/-- Scale of the fixed-point sine. -/
def sinScale : Int := 10 ^ 30
/-- π at that scale. -/
def piFix : Int := 3141592653589793238462643383280
/-- π as a fraction. -/
def piRat : Rat := (piFix : Rat) / (sinScale : Rat)

/-- Taylor tail of the sine: 1 - x²/((2k)(2k+1)) (1 - ...), n terms. -/
def sinTail (x2 : Int) : Nat → Nat → Int
  | 0, _ => sinScale
  | n + 1, k => sinScale - x2 * sinTail x2 n (k + 1) / sinScale / ((2 * k) * (2 * k + 1) : Nat)

/-- sin(π k / n) for 0 ≤ k ≤ n, at sinScale. -/
def sinFix (k n : Nat) : Int :=
  let k := if n < 2 * k then n - k else k
  let x := piFix * k / n
  x * sinTail (x * x / sinScale) 15 1 / sinScale

/-- sin(π k / n) as a fraction. -/
def sinRat (k n : Nat) : Rat := (sinFix k n : Rat) / (sinScale : Rat)

/-- cos(π k / n) for 0 ≤ k ≤ n. -/
def cosRat (k n : Nat) : Rat := if 2 * k ≤ n then sinRat (n - 2 * k) (2 * n) else -sinRat (2 * k - n) (2 * n)

/-- Magnitude of a fraction. -/
def rabs (q : Rat) : Rat := if q < 0 then -q else q

/-- The integer part towards zero of a fraction (00 R11). -/
def rtrunc (q : Rat) : Int := q.num.tdiv q.den

/-! ### Speed changes -/

/-- Updates of 10 µs that a speed change takes (07 R240). -/
def changeUpdates (prof : Nat) (dv : Rat) (a j : Nat) : Nat :=
  let d := rabs dv
  if d = 0 then 0
  else
    let tA := (d * 100000 / (64 * a : Nat)).ceil.toNat
    let jj : Rat := (4096 * j : Nat)
    let q : Rat := if prof = 0 then piRat * piRat * d * 10000000000 / (2 * jj) else (57735 / 10000) * d * 10000000000 / jj
    max 1 (max tA (ceilSqrt q))

/-- Distance of a speed change of n updates (07 R239). -/
def changeDistance (v0 v1 : Rat) (n : Nat) : Rat := (v0 + v1) * n / 200000

/-- Speed after k of the n updates of a segment (07 R239). -/
def segSpeed (prof : Nat) (g : Seg) (k : Nat) : Rat :=
  if g.n ≤ k then g.v1
  else
    let s : Rat := (k : Rat) / g.n
    let f : Rat := if prof = 0 then (1 - cosRat k g.n) / 2 else s ^ 3 * (10 - 15 * s + 6 * s ^ 2)
    g.v0 + (g.v1 - g.v0) * f

/-- Position covered after k of the n updates of a segment (07 R239, integrated). -/
def segCovered (prof : Nat) (g : Seg) (k : Nat) : Rat :=
  if g.n = 0 then 0
  else if g.n ≤ k then changeDistance g.v0 g.v1 g.n
  else
    let s : Rat := (k : Rat) / g.n
    let f : Rat := if prof = 0 then s / 2 - sinRat k g.n / (2 * piRat) else s ^ 4 * (5 / 2 - 3 * s + s ^ 2)
    (g.v0 * s + (g.v1 - g.v0) * f) * g.n / 100000

/-! ### Plans -/

/-- The sum of the two changes through peak v, in the direction of travel (07 R241). -/
def twoChanges (prof a j : Nat) (v0 v : Rat) : Rat :=
  changeDistance v0 v (changeUpdates prof (v - v0) a j) + changeDistance v 0 (changeUpdates prof v a j)

/-- Largest v in [lo, lo + 2^k) that fits, for a test that holds up to some speed and not beyond; lo if none does. -/
def bisect (fits : Nat → Bool) (cap : Nat) : Nat → Nat → Nat
  | 0, lo => lo
  | k + 1, lo =>
    let c := lo + 2 ^ k
    bisect fits cap k (if c ≤ cap && fits c then c else lo)

/-- Largest v at or below n that fits, every speed tried. -/
def searchDown (fits : Nat → Bool) : Nat → Option Nat
  | 0 => if fits 0 then some 0 else none
  | n + 1 => if fits (n + 1) then some (n + 1) else searchDown fits n

/-- v_P: the largest speed from 0 to cap whose two changes fit in d (07 R241).  At and above the present speed the distance rises with v, so bisection gives the same as trying every speed. -/
def peakSpeed (prof a j : Nat) (v0 : Rat) (d : Rat) (cap : Nat) : Option Nat :=
  let fits := fun (v : Nat) => decide (twoChanges prof a j v0 v ≤ d)
  let lo := v0.ceil.toNat
  if lo ≤ cap && fits lo then some (bisect fits cap 32 lo)
  else searchDown fits (min cap lo)

/-- The three spans of an absolute move over a distance d ≥ 0 with a peak, speeds in the direction of travel; without one the change to 0 alone
(07 R241). -/
def planSpans (prof a j : Nat) (v0 : Rat) (d : Rat) (peak : Option Nat) : List Seg :=
  match peak with
  | none => [{ v0 := v0, v1 := 0, n := changeUpdates prof v0 a j }]
  | some vp =>
    let n1 := changeUpdates prof ((vp : Rat) - v0) a j
    let n2 := changeUpdates prof vp a j
    let rest := d - twoChanges prof a j v0 vp
    if vp = 0 then [{ v0 := v0, v1 := 0, n := n1 }]
    else
      let m := (rest * 100000 / (vp : Rat)).ceil.toNat
      let v : Rat := (d * 100000 - v0 * n1 / 2) / ((n1 : Rat) / 2 + m + (n2 : Rat) / 2)
      [{ v0 := v0, v1 := v, n := n1 }, { v0 := v, v1 := v, n := m }, { v0 := v, v1 := 0, n := n2 }].filter (fun g => g.n ≠ 0)

/-- A segment in the other direction. -/
def Seg.neg (g : Seg) : Seg := { v0 := -g.v0, v1 := -g.v1, n := g.n }

/-- COMMANDED in position units, the integer part. -/
def Axis.pos (a : Axis) : Int := a.commanded / 65536

/-- The speed cap of a move: its V or the limit of R244, in whole speed units (07 R241). -/
def Axis.cap (a : Axis) (v : Nat) : Nat :=
  match a.vLim with
  | some l => min v l.floor.toNat
  | none => v

/-- The axis with the plan of an absolute move from its present position and speed (07 R241, R246); `limited` where the limit of R244 lowers its peak.
A v_P of 0 covers no distance: an axis at speed then changes to 0, and stands short of TARGET until it is planned again; one that stands under a cap below
one speed unit stays (DEDUCED, log entry 10). -/
def Axis.planAbs (a : Axis) (m : Move) (target : Int) (final : Bool) : Axis :=
  let d : Rat := ((target * 65536 - a.commanded : Int) : Rat) / 65536
  let up := 0 < d || (d = 0 && 0 ≤ a.speed)
  let dir : Rat := if up then 1 else -1
  let v0 := dir * a.speed
  let peak := fun (cap : Nat) =>
    if v0 < 0 then none else peakSpeed m.prof m.a m.j v0 (rabs d) (if final then min cap v0.floor.toNat else cap)
  let p := peak (a.cap m.v)
  let short := p = some 0 && decide (twoChanges m.prof m.a m.j v0 0 ≠ rabs d) && (v0 ≠ 0 || a.cap m.v = 0)
  let segs := if short then (planSpans m.prof m.a m.j v0 (rabs d) none).filter (fun g => g.n ≠ 0) else planSpans m.prof m.a m.j v0 (rabs d) p
  { a with segs := if up then segs else segs.map Seg.neg, segAt := 0
           landing := if short then none else p.map (fun _ => target), limited := decide (a.cap m.v < m.v) && decide (peak m.v ≠ p) }

/-- The axis with one speed change to v. -/
def Axis.planVel (a : Axis) (prof acc jerk : Nat) (v : Rat) : Axis :=
  let n := changeUpdates prof (v - a.speed) acc jerk
  { a with segs := if n = 0 then [] else [{ v0 := a.speed, v1 := v, n := n }], segAt := 0, landing := none, limited := false }

/-- The signed speed a velocity move runs at, within the limit of R244. -/
def Axis.velTarget (a : Axis) (v : Rat) : Rat :=
  match a.vLim with
  | some l => if v < 0 then max v (-l) else min v l
  | none => v

/-- The move whose PROFILE, A and J the legs of a data-late sequence use (07 R257). -/
def Axis.legMove (a : Axis) : Move :=
  match a.saved with
  | some m => m
  | none => { goal := .vel 0, prof := 0, v := 0, a := a.aMax, j := a.jMax }

/-- The axis's present or interrupted move (07 R245, R257). -/
def Axis.present (a : Axis) : Option Move :=
  match a.saved with
  | some m => some m
  | none => a.move

/-- The backup leg planned: an absolute move to X_B with V = v_R (07 R257, R259). -/
def Axis.planBackup (a : Axis) (final : Bool) : Axis := a.planAbs { a.legMove with v := a.legV.floor.natAbs } a.legX final

/-- The re-register leg planned: a speed change to v'_R (07 R257). -/
def Axis.planRereg (a : Axis) : Axis := a.planVel a.legMove.prof a.legMove.a a.legMove.j (a.velTarget a.legV)

/-- The present move planned from the present position and speed. -/
def Axis.plan (a : Axis) (m : Move) (final : Bool) : Axis :=
  match m.goal with
  | .abs t => a.planAbs m t final
  | .vel v => a.planVel m.prof m.a m.j (a.velTarget v)

/-- The move is in its final speed change to 0. -/
def Axis.inFinal (a : Axis) : Bool :=
  match a.segs with
  | [g] => g.v1 = 0 && g.v0 ≠ 0
  | _ => false

/-- Direction in which the axis is commanded to move: -1, 0, 1. -/
def Axis.heading (a : Axis) : Int :=
  match a.segs with
  | g :: _ => if 0 < g.v0 + g.v1 then 1 else if g.v0 + g.v1 < 0 then -1 else 0
  | [] => if 0 < a.speed then 1 else if a.speed < 0 then -1 else 0

/-- The axis stands (07 R247). -/
def Axis.standing (a : Axis) : Bool :=
  match a.state with
  | .idle | .stopped | .fault => true
  | _ => false

/-- One trajectory update of position and speed (07 R236, R239): increments keep 16 fraction bits. -/
def Axis.advance (a : Axis) : Axis :=
  let prof := match a.homing, a.move with
    | some _, _ => 0
    | none, some m => m.prof
    | none, none => 0
  let r : Int × Rat × List Seg × Nat := match a.segs with
    | [] => (rtrunc (a.speed * 65536 / 100000), a.speed, [], 0)
    | g :: rest =>
      let k := a.segAt + 1
      let x := (segCovered prof g k - segCovered prof g a.segAt) * 65536
      let dx := rtrunc x
      if g.n ≤ k then (dx, g.v1, rest, 0) else (dx, segSpeed prof g k, a.segs, k)
  -- the last update of an absolute move sets TARGET exactly (R241)
  let c := match a.landing with
    | some t => if a.segs ≠ [] && r.2.2.1 = [] then t * 65536 else a.commanded + r.1
    | none => a.commanded + r.1
  let stepsNow := c / (64 * 65536)
  let stepsWas := a.commanded / (64 * 65536)
  { a with
    commanded := c, speed := r.2.1, segs := r.2.2.1, segAt := r.2.2.2
    steps := if a.mode = 2 then a.steps else a.steps + (stepsNow - stepsWas)
    dirOut := if r.1 = 0 then a.dirOut else (decide (0 < r.1) != a.polarity.getLsbD 0) }

/-- A stop with a deceleration, the remaining distance kept (07 R247): a larger A plans again, a standing axis is untouched. -/
def Axis.stop (a : Axis) (acc jerk fault : Nat) : Axis :=
  if a.standing then a
  else
    match a.state with
    | .stopping =>
      let a := if fault ≠ 0 then { a with stopFault := fault } else a
      if a.stopA < acc then
        { (a.planVel (match a.move with | some m => m.prof | none => 0) acc jerk 0) with stopA := acc }
      else a
    | .homing =>
      match a.homing with
      | some h =>
        if h.phase = 5 && acc ≤ a.stopA then a
        else { (a.planVel 0 acc jerk 0) with
               stopA := acc, stopFault := fault
               homing := some (if h.phase = 5 then h else { h with phase := 5, result := 4 }) }
      | none => a
    | _ =>
      -- the stop of a data-late sequence goes on where its A is no smaller
      let goesOn := a.leg = .stopWeb && decide (acc ≤ a.stopA)
      { (if goesOn then a else a.planVel (match a.move with | some m => m.prof | none => 0) acc jerk 0) with
        state := .stopping, stopA := (if goesOn then a.stopA else acc), stopFault := (if fault = 0 && a.leg = .stopWeb then a.stopFault else fault)
        move := (match a.saved with | some m => some m | none => a.move), saved := none, leg := .none }

/-- The levels of the limit inputs at POLARITY 0 (07 R235, R250). -/
def Axis.limNegPin (a : Axis) : Bool := a.limNeg != a.polarity.getLsbD 1
def Axis.limPosPin (a : Axis) : Bool := a.limPos != a.polarity.getLsbD 1

/-- REMAINING as AXIS_STATUS shows it: TARGET - COMMANDED of the present or interrupted absolute move (02 R76, 07 R248, R257). -/
def Axis.remainingNow (a : Axis) : Int :=
  match a.state with
  | .idle | .homing => 0
  | .stopped | .fault => a.remaining
  | _ =>
    match (match a.saved with | some m => some m | none => a.move) with
    | some m => (match m.goal with | .abs t => t - a.pos | .vel _ => 0)
    | none => 0

end Sys2Proof.Machine
end

