-- ==== Sys2Proof/Machine/Waveform.lean ====
section
/-! DEFINITION. Derived slots, slot lengths, pulse trains, compensation, minimum fire period, firing capacity (03 R94-R102, 04 R131-R138, 09 R299). -/
namespace Sys2Proof.Machine

/-! ### Levels and values of the thermal monitor -/

/-- The die level: the highest target of the die sensors (09 R298). -/
def State.dieLevel (s : State) : Nat := (List.range 6).foldl (fun m i => max m (s.dieSensor i).target) 0

/-- Target level of a channel (09 R298). -/
def State.targetLevel (s : State) (n : Nat) : Nat := max (s.headSensor n).target s.dieLevel

/-- Any die shutdown latch (09 R302). -/
def State.dieLatched (s : State) : Bool := (List.range 6).any (fun i => (s.dieSensor i).latched)

/-- The channel's shutdown is latched, by its head or a die (09 R302). -/
def State.shutdownLatched (s : State) (n : Nat) : Bool := (s.headSensor n).latched || s.dieLatched

/-! ### Rotation and derived slots -/

/-- Groups of a table slot, ascending (03 R94, R95). -/
def Rotation.groupsOf (r : Rotation) (slot : Nat) : List Nat :=
  (List.range 32).filter (fun g => r.slotOf.getD g 0 = slot)

/-- A list cut into runs of n (n at least 1). -/
def cutRuns (n : Nat) : Nat → List Nat → List (List Nat)
  | 0, _ => []
  | fuel + 1, l => if l = [] then [] else l.take n :: cutRuns n fuel (l.drop n)

/-- The slots of a period under an effective G (03 R98). -/
def Rotation.derived (r : Rotation) (gEff : Nat) : List (List Nat) :=
  let t := (List.range r.slots).map r.groupsOf
  if r.gTable ≤ gEff then t else t.flatMap (fun l => cutRuns (max 1 gEff) 32 l)

/-- T_SHIFT for n groups (03 R92). -/
def Chan.tShift (c : Chan) (n : Nat) : Nat := (n * (c.nozzles / 64) + 8) * c.clkDiv

/-- The rotation table of a slot number. -/
def Chan.rotation (c : Chan) (k : Nat) : Rotation := vget c.rots k {}

/-- G_THERM at a level (09 R299). -/
def gTherm (level g0 : Nat) : Nat := if level = 0 then 8 else max 1 (g0 * (8 - level) / 8)

/-- T_FLOOR at a level (09 R299). -/
def tFloor (level rateMax sEff : Nat) : Nat :=
  if level = 0 then 0 else ceilDiv 3200000000 ((8 - level) * rateMax * sEff)

/-- G_EFF under a rotation and level (03 R97). -/
def Chan.gEffAt (c : Chan) (r : Rotation) (level : Nat) : Nat :=
  let g0 := min (c.rotation c.live.rot).gTable c.gMax
  min r.gTable (min c.gMax (gTherm level g0))

/-! ### Brew tables -/

def Chan.small (c : Chan) (k : Nat) : Brew := vget c.brewS k {}
def Chan.medium (c : Chan) (k : Nat) : Brew := vget c.brewM k {}
def Chan.large (c : Chan) (k : Nat) : Brew := vget c.brewL k {}

/-- Fields of a pulse word (04 R132). -/
def pwStart (w : Word) : Nat := bits w.toNat 31 20
def pwWidth (w : Word) : Nat := bits w.toNat 17 6
def pwComp (w : Word) : Bool := w.getLsbD 3
/-- Rising edge, and width, in quarter-ticks. -/
def pwRise (w : Word) : Int := 4 * pwStart w + bits w.toNat 19 18
def pwLen (w : Word) : Int := 4 * pwWidth w + bits w.toNat 5 4

/-- A pulse with a width correction (04 R132). -/
def pulseOf (dw : Int) (w : Word) : Pulse := (pwRise w, pwRise w + pwLen w + (if pwComp w then dw else 0))

/-- ΔW of a table in a slot at a head temperature (04 R137). -/
def Brew.correction (b : Brew) (tHead : Int) (groups : List Nat) : Int :=
  let sum : Int := groups.foldl (fun a g => a + b.groupDt.getD g 0) 0
  let tSlot := tHead + truncDiv sum groups.length
  let w := truncDiv (b.slope * (tSlot - b.tRef)) 2560
  max (-(b.limit : Int)) (min (b.limit : Int) w)

/-- A pulse put into a list in order of rise. -/
def insertPulse (p : Pulse) : List Pulse → List Pulse
  | [] => [p]
  | q :: r => if p.1 ≤ q.1 then p :: q :: r else q :: insertPulse p r

/-- A pulse and the pulses after it, in order of rise, merged where they overlap (04 R135). -/
def mergeFrom (p : Pulse) : List Pulse → List Pulse
  | [] => [p]
  | q :: r => if q.1 ≤ p.2 then mergeFrom (p.1, max p.2 q.2) r else p :: mergeFrom q r

/-- Pulses in order of rise merged where they overlap (04 R135). -/
def mergePulses : List Pulse → List Pulse
  | [] => []
  | p :: r => mergeFrom p r

/-- The union of pulses on one line. -/
def union (ps : List Pulse) : List Pulse := mergePulses (ps.foldr insertPulse [])

/-- How a table's width correction is taken: at a temperature, or at +LIMIT (04 R137, R149). -/
inductive Comp where
  | at (tHead : Int)
  | limit
  deriving DecidableEq, Repr

/-- ΔW of a table in a slot. -/
def Comp.of (k : Comp) (b : Brew) (groups : List Nat) : Int :=
  match k with
  | .at t => b.correction t groups
  | .limit => b.limit

/-- The two trains of a slot under a set of selections (04 R135). -/
def Chan.trains (c : Chan) (sel : ShadowSet) (k : Comp) (groups : List Nat) : List Pulse × List Pulse :=
  let sm := c.small sel.brewS
  let md := c.medium sel.brewM
  let lg := c.large sel.brewL
  let list := fun (b : Brew) (ws : List Word) (n : Nat) => (ws.take n).map (pulseOf (k.of b groups))
  (union (list sm sm.pulseA sm.na ++ list lg lg.pulseA lg.na),
   union (list md md.pulseB md.nb ++ list lg lg.pulseB lg.nb))

/-- First whole tick at or after the last falling edge (04 R136). -/
def lastFall (a b : List Pulse) : Nat :=
  (a ++ b).foldl (fun m p => max m ((p.2 + 3) / 4).toNat) 0

/-- Lengths of the slots: the n_next of each, the last one given (03 R100). -/
def Chan.lengths (c : Chan) (slots : List (List Nat)) (tEnd floor shiftLast : Nat) : List Nat :=
  slots.zipIdx.map (fun (x : List Nat × Nat) =>
    let sh := match slots[x.2 + 1]? with
      | some nx => c.tShift nx.length
      | none => shiftLast
    max (tEnd + c.quiet) (max sh floor))

/-- T_END of a period: the largest of its slots (04 R136). -/
def Chan.periodEnd (c : Chan) (sel : ShadowSet) (k : Comp) (slots : List (List Nat)) : Nat :=
  slots.foldl (fun m g => let t := c.trains sel k g; max m (lastFall t.1 t.2)) 0

/-- P_MIN for a G and floor level (03 R102). -/
def Chan.pMin (c : Chan) (gEff level : Nat) (k : Comp) : Nat :=
  let r := c.rotation c.live.rot
  let slots := r.derived gEff
  let tEnd := c.periodEnd c.live k slots
  let first := match slots with | g :: _ => c.tShift g.length | [] => 0
  (c.lengths slots tEnd (tFloor level c.rateMax slots.length) first).foldl (· + ·) 0

/-- Lines per second that a channel can fire at a level (03 R102). -/
def Chan.lineRate (c : Chan) (tHead : Int) (level : Nat) : Rat :=
  let g := c.gEffAt (c.rotation c.live.rot) level
  let p := c.pMin g level (.at tHead)
  if p = 0 then (c.rateMax : Rat) else min ((400000000 : Rat) / p) (c.rateMax : Rat)

/-- The level whose capacity a channel reports: a rise that waits counts already (09 R300). -/
def State.reportedLevel (s : State) (n : Nat) : Nat :=
  let c := s.chan n
  if c.riseSince.isSome then max c.applied (s.targetLevel n) else c.applied

/-- The firing capacity of a job, none when no channel counts (03 R102, 09 R302). -/
def State.capacity (s : State) (j : Job) : Option Rat :=
  (maskChans j.channels).foldl (fun m n =>
    if s.shutdownLatched n then m
    else
      let r := (s.chan n).lineRate (s.headSensor n).shown (s.reportedLevel n)
      match m with
      | none => some r
      | some x => some (min x r)) none

/-- The job is in ARMING, RUNNING or LATE. -/
def Job.active (j : Job) : Bool :=
  match j.state with
  | .arming | .running | .late => true
  | _ => false

/-- The speed limit of a feed axis (07 R244); none when no such job runs. -/
def State.feedLimit (s : State) (ax : Nat) : Option Rat :=
  (List.range 4).foldl (fun m j =>
    match s.jobAt j with
    | some x =>
      if x.feed = ax && x.active then
        match s.capacity x with
        | some c =>
          let l := min ((s.axis ax).vMax : Rat) (c * x.pitch / 65536)
          (match m with | none => some l | some y => some (min l y))
        | none => m
      else m
    | none => m) none

/-! ### Applied levels (09 R300, R301) -/

/-- The applied level of a channel set; a change from 0 is counted. -/
def State.setApplied (s : State) (n l : Nat) : State :=
  let was := (s.chan n).applied
  let s := s.modChan n (fun c => { c with applied := l, riseSince := none })
  if was = 0 && l ≠ 0 then s.count 64 else s

/-- Rises that need not wait any more are applied: their channels' job is no longer active (09 R300). -/
def State.settleRises (s : State) (ns : List Nat) : State :=
  let ns := ns.filter (fun n => (s.chan n).riseSince.isSome && !s.shutdownLatched n)
  let s' := ns.foldl (fun s n => s.setApplied n (s.targetLevel n)) s
  if ns.any (fun n => (s.chan n).applied ≠ (s'.chan n).applied) then s'.raise 0x3A else s'

/-- Cosy periods run below TARGET − 0.5 °C and stop once the value reaches TARGET + 0.5 °C (09 R311). -/
def Chan.warmBy (c : Chan) (v : Rat) : Bool :=
  if v < (c.cosyTarget : Rat) - 5 then c.cosy else if (c.cosyTarget : Rat) + 5 ≤ v then false else c.warming

/-- The check of R149: 1 / P_MIN at the widest compensation is below 1.06 × RATE_MAX. -/
def Chan.noHeadroom (c : Chan) : Bool :=
  let r := c.rotation c.live.rot
  let p := c.pMin (min r.gTable c.gMax) 0 .limit
  decide (400000000 * 100 < 106 * c.rateMax * p)

end Sys2Proof.Machine
end

