-- ==== Sys2Proof/Machine/Pend.lean ====
section
/-! DEFINITION. Operations whose final reply is owed; bank repair (02 R64, 10 R322-R327). -/
namespace Sys2Proof.Machine

/-- The operations selected are over: each is answered, in order, with the status and parameters given. -/
def State.finishOps (s : State) (sel : PendOp → Bool) (ans : PendOp → BitVec 16 × Bytes) : State :=
  let done := s.pe.ops.filter sel
  let s := { s with pe := { s.pe with ops := s.pe.ops.filter (fun p => !sel p) } }
  done.foldl (fun s p => let a := ans p; s.reply true p.pkt p.src a.1 a.2) s

/-- An operation accepted: ACCEPTED_PENDING where the opcode has it, and its final reply owed (02 R58, R64, R70). -/
def State.startOp (s : State) (pending : Bool) (k : OpKind) (pkt : Packet) (src : Source) (seq : Nat) : State :=
  let s := if pending then s.reply true pkt src stPENDING [] else s
  { s with pe := { s.pe with ops := s.pe.ops ++ [{ kind := k, pkt := pkt, src := src, seq := seq }] } }

/-- FIRE_HOLD is latched, or DRY is set, on every channel that has an attached head (15 R453, 04 R154). -/
def State.firingStill (s : State) : Bool :=
  let ns := (List.range 48).filter (fun n => (s.chan n).attached)
  ns.all (fun n => (s.chan n).hold) || ns.all (fun n => (s.chan n).dry)

/-- In PRODUCTION, arming and shots are discarded at the moment firing is neither held nor in dry-fire mode (15 R456). -/
def State.injMoment (s : State) : State :=
  if s.otp.wires.lifecycle = 2 && !s.firingStill then { s with inj := { s.inj with armed := none, shots := 0, taken := 0, released := none } } else s

/-- Spare rows used (10 R326). -/
def Bank.used (k : Bank) : Nat := k.rows.length

/-- A row retired (10 R327). -/
def State.retireRow (s : State) (b row : Nat) : State := (s.modBank b (fun k => { k with retired := k.retired ++ [row] })).count 83

/-- A row of a bank repaired: a spare row, or retirement when none is left (10 R326, R327).  `stripe` names the port whose stripe buffer holds the row. -/
def State.repairRow (s : State) (b row : Nat) (stripe : Option Nat) : State :=
  let k := s.bank b
  if k.used < 16 then (s.modBank b (fun k => { k with rows := k.rows ++ [row] })).count 82
  else if b = 15 then
    match stripe with
    | some p => (s.modPort p (fun q => { q with capacity := q.capacity - 512 })).retireRow b row
    | none => s.retireRow b row
  else if b = 16 || k.retired.length < 8 then s.retireRow b row
  else s

/-- Bank sizes in bytes (10 R318). -/
def bankBytes (b : Nat) : Nat :=
  if b ≤ 11 then 512 * 1024 else if b = 12 then 1024 * 1024 else if b = 15 then 4 * 1024 * 1024 else if b = 16 then 64 * 1024 else 128 * 1024

/-- 64-byte windows of a bank (10 R325), and the row of a window (10 R318). -/
def bankWindows (b : Nat) : Nat := bankBytes b / 64
def windowRow (w : Nat) : Nat := w / 16

/-- A word of a window read with a single-bit error: the background test takes the window out of its turn, once in a sweep (10 R322). -/
def Bank.retestWindow (k : Bank) (w : Nat) : Bank :=
  if k.retested.contains w || !k.test then k else { k with retest := k.retest ++ [w], retested := k.retested ++ [w] }

/-- A read of a bank finds a single-bit error in a window (10 R322). -/
def State.bankCorrected (s : State) (b w : Nat) : State := (s.modBank b (fun k => k.retestWindow w)).count 80

/-- The window that the background test takes, and the bank with the test moved on: a window out of turn first, else the next in order, a new sweep
at the end of the bank (10 R322, R324). -/
def Bank.takeWindow (k : Bank) (b : Nat) : Nat × Bank :=
  match k.retest with
  | w :: r => (w, { k with retest := r })
  | [] =>
    let n := (k.window + 1) % bankWindows b
    (k.window, { k with window := n, retested := if n = 0 then [] else k.retested })

/-- An uncorrectable word met by a reader that does not name its row: the row is a free value (10 R323; log entry 6). -/
def State.bankUncorrectable (s : State) (b : Nat) (stripe : Option Nat) : State :=
  let r := s.draw
  (r.2.count 81).repairRow b (r.1 % 512) stripe

end Sys2Proof.Machine
end

