-- ==== Sys2Proof/Machine/Nozzles.lean ====
section
/-! DEFINITION. Job records and the nozzle map (05 R184, R199-R202, 06 R205-R211). -/
namespace Sys2Proof.Machine

/-! ### Lines and channels of a job -/

/-- Channels of a job, ascending. -/
def Job.chans (j : Job) : List Nat := maskChans j.channels

/-- The partner of a channel in a dual-row job (05 R180). -/
def State.partnerIn (s : State) (j : Job) (n : Nat) : Option Nat :=
  let p := (s.chan n).partner
  if j.geometry = 1 && decide (p < 48) && j.channels.getLsbD p && (s.chan p).partner = n && decide (p ≠ n) then some p else none

/-- The line in its fire period, its last slot not ended. -/
def Chan.inPeriod (c : Chan) : Option Period :=
  match c.firing with
  | some f => if f.period.cosy || (f.ended && decide (f.period.plan.length ≤ f.slot + 1)) then none else some f.period
  | none => none

/-- A slot of a Cosy period is being fired. -/
def Chan.inCosySlot (c : Chan) : Bool := c.firing.any (fun f => f.period.cosy && !f.ended)

/-- The first line from a line on that the channel has not skipped ahead of its next line. -/
def Chan.followingIn (gone : List Nat) : Nat → Nat → Nat
  | 0, line => line
  | n + 1, line => if gone.contains line then Chan.followingIn gone n (line + 1) else line

/-- The first line from a line on that the channel has not skipped ahead of its next line. -/
def Chan.following (c : Chan) (line : Nat) : Nat := Chan.followingIn c.gone c.gone.length line

/-- The channel's next line to fire: lines skipped ahead do not (05 R189, R191, R198). -/
def Chan.nextToFire (c : Chan) : Nat := c.following c.nextLine

/-- The channel has done with a line: the set replaced at the last hand-over is over with the last line that it governs (02 R72, 04 R144), at
that of a hand-over whose line goes back unprepared one line earlier. -/
def Chan.leftLine (c : Chan) (line : Nat) : Chan :=
  { c with prevSet := (match c.prevSet with
    | some x => if x.2 ≤ line || (x.2 = line + 1 && c.prepared.isNone) then none else some x
    | none => none) }

/-- The next line that a channel packs. -/
def Chan.nextPack (c : Chan) : Nat :=
  match c.packed, c.prepared with
  | some x, _ => x.1.line + 1
  | none, some p => p.line + 1
  | none, none => c.nextLine

/-- Lowest line not yet fired on every channel (05 R200): a line in its fire period has not fired. -/
def State.lowestLine (s : State) (j : Job) : Nat :=
  j.chans.foldl (fun m n =>
    let c := s.chan n
    min m (match c.inPeriod with | some p => min c.nextToFire p.line | none => c.nextToFire)) 0xFFFFFFFF

/-! ### The record -/

/-- The last pass of a job (05 R181). -/
def Job.lastPass (j : Job) : Bool :=
  j.geometry ≠ 2 || decide (ceilDiv j.table.imageRows (max 1 j.table.advance) + j.table.passes ≤ j.pass + 2)

/-- NEXT_LINE of the record header: before the last pass of a shuttle job no line has fired for the last time, so that no line below it is left out of
COMPLETED and the entries (05 R181, R199, R200). -/
def State.headerNext (s : State) (j : Job) : Nat := if j.lastPass then s.lowestLine j else 0

def JobState.code : JobState → Nat
  | .opened => 0
  | .arming => 1
  | .running => 2
  | .late => 3
  | .stopped => 4
  | .ended => 5

/-- The 256 bytes of the record header (05 R200). -/
def State.recordHeader (s : State) (j : Job) (st : Nat) : Bytes :=
  toLe 4 j.completed ++ toLe 4 j.skipped ++ toLe 4 j.incomplete ++ toLe 4 j.resumes ++
  toLe 4 j.entries ++ toLe 4 j.dropped ++ toLe 4 (s.headerNext j) ++ toLe 4 st ++
  j.substAtStart.flatMap (toLe 2) ++ pad 128

/-- The header written at RECORD + 512 (05 R162, R200). -/
def State.writeHeader (s : State) (j : Nat) : State :=
  match s.jobAt j with
  | some x => s.storeWrite (x.record + 512) (s.recordHeader x x.state.code)
  | none => s

/-- The 16 bytes of an entry (05 R201). -/
def entryBytes (e : Entry) : Bytes :=
  toLe 1 e.type ++ toLe 1 e.cause ++ toLe 1 e.channel ++ toLe 1 e.flags ++ toLe 4 e.line ++ toLe 4 e.count ++ toLe 4 e.data

/-- Two entries that consecutive lines share: same type, cause and channel (05 R201). -/
def Entry.joins (a b : Entry) : Bool :=
  (a.type = 1 || a.type = 2) && a.type = b.type && a.cause = b.cause && a.channel = b.channel && a.line + a.count = b.line

/-- Entries of the same kind, whatever their lines. -/
def Entry.sameKind (a b : Entry) : Bool :=
  a.type = b.type && a.cause = b.cause && a.channel = b.channel

/-- An entry added to the record of the job in a slot, or to the entry that the line before it has, which then carries the flags of both (log entry 38);
dropped and counted when the record is full (05 R201, R202). -/
def State.addEntry (s : State) (j : Nat) (e : Entry) : State :=
  match s.jobAt j with
  | none => s
  | some x =>
    match x.latest.find? (fun o => o.2.joins e) with
    | some (at?, old) =>
      let e' := { old with count := old.count + e.count, flags := old.flags ||| e.flags }
      let s := s.modJob j (fun x => { x with latest := (at?, e') :: x.latest.filter (fun o => !o.2.sameKind e) })
      match at? with
      | some i => s.storeWrite (x.record + 768 + 16 * i) (entryBytes e')
      | none => s
    | none =>
      let d := s.detect 25 (decide (x.table.recordBytes - 256 < 16 * (x.entries + 1)))
      let rest := x.latest.filter (fun o => !o.2.sameKind e)
      if d.1 then
        let s := d.2.modJob j (fun x => { x with dropped := x.dropped + 1, overflowed := true, latest := (none, e) :: rest })
        if x.overflowed then s else s.count 25
      else
        (d.2.modJob j (fun x => { x with entries := x.entries + 1, latest := (some x.entries, e) :: rest })).storeWrite
          (x.record + 768 + 16 * x.entries) (entryBytes e)

/-- The line is a bar line of the job's check bar: its index in the bar (06 R229). -/
def Job.barIndex (j : Job) (line : Nat) : Option Nat :=
  match j.bar with
  | some b =>
    if b.enable && decide (b.phase ≤ line) && decide (b.period ≠ 0) then
      let i := (line - b.phase) % b.period
      let top := b.ch.foldl (fun m x => if x.1 = 255 then m else max m (x.1 + 1)) 0
      if i < top * b.steps * b.stepLines then some i else none
    else none
  | none => none

/-- How a channel leaves a line. -/
inductive LineEnd where
  | fired
  | dry
  | skipped (cause : Nat)
  | incomplete (cause : Nat)
  deriving DecidableEq, Repr

/-- The mark of a line. -/
def Job.mark (j : Job) (line : Nat) : LineMark :=
  match j.marks.find? (fun m => m.1 = line) with
  | some m => m.2
  | none => {}

/-- Some channel recorded the line incomplete, or skipped it, in this pass or an earlier one (05 R199). -/
def LineMark.bad (m : LineMark) : Bool := m.pastIncomplete || m.incomplete ≠ 0
def LineMark.missed (m : LineMark) : Bool := m.pastSkipped || m.skipped ≠ 0

/-- A line counted, once for the job (05 R199): incomplete as soon as some channel recorded it so; skipped or completed once every channel has
done with it, in shuttle geometry in the last pass. -/
def Job.classify (j : Job) (line : Nat) (m : LineMark) : Job :=
  let rest := j.marks.filter (fun x => x.1 ≠ line)
  let j := if m.bad && !(j.mark line).bad then { j with incomplete := j.incomplete + 1 } else j
  if (m.fired ||| m.skipped ||| m.incomplete) = j.channels then
    if !j.lastPass then { j with marks := if m.bad || m.missed then (line, m) :: rest else rest }
    else if m.bad then { j with marks := rest }
    else if m.missed then { j with marks := rest, skipped := j.skipped + 1 }
    else { j with marks := rest, completed := j.completed + 1 }
  else { j with marks := (line, m) :: rest }

/-- The marks at the start of a shuttle pass: what earlier passes did to a line (05 R181, R199). -/
def Job.carriedMarks (j : Job) : List (Nat × LineMark) :=
  (j.marks.filter (fun x => x.2.bad || x.2.missed)).map (fun x => (x.1, { pastSkipped := x.2.missed, pastIncomplete := x.2.bad }))

/-- The job at its close: lines that some channel skipped, none left incomplete and some channel never reached count as skipped (05 R199). -/
def Job.closed (j : Job) : Job :=
  { j with skipped := j.skipped + (j.marks.filter (fun x => !x.2.bad && x.2.missed)).length }

/-- A bar line that Strainer must not observe on a channel (06 R231). -/
def Job.spoilBar (j : Job) (n line : Nat) : Job := if (j.barIndex line).isSome then { j with barBad := (n, line) :: j.barBad } else j

/-- A bar line fired on a channel, for Strainer (06 R230). -/
def Job.noteBar (j : Job) (n line clock : Nat) : Job :=
  if (j.barIndex line).isSome then { j with barAt := ((n, line), clock) :: j.barAt } else j

/-- What channel n has done with a line: recorded, classified, the header updated (05 R199-R201); a line fired with DRY counts as fired (04 R154). -/
def State.lineDone (s : State) (j n line : Nat) (k : LineEnd) : State :=
  let s := match k with
    | .fired => s
    | .dry => s
    | .skipped c => s.addEntry j { type := 1, cause := c, channel := n, flags := 0, line := line, count := 1, data := 0 }
    | .incomplete c => s.addEntry j { type := 2, cause := c, channel := n, flags := 0, line := line, count := 1, data := 0 }
  let s := s.modJob j (fun x =>
    let m := x.mark line
    x.classify line (match k with
      | .fired => { m with fired := setBit m.fired n true }
      | .dry => { m with fired := setBit m.fired n true }
      | .skipped _ => { m with skipped := setBit m.skipped n true }
      | .incomplete _ => { m with incomplete := setBit m.incomplete n true }))
  let s := s.modJob j (fun x => if k = .fired then x.noteBar n line s.clock else x.spoilBar n line)
  let s := match k with
    | .skipped _ => s
    | _ => s.modChan n (fun c => c.leftLine line)
  s.writeHeader j

/-- State of a job set, with the header (05 R200); level rises that waited for the feed of a job no longer active are applied (09 R300). -/
def State.setJobState (s : State) (j : Nat) (st : JobState) : State :=
  let s := (s.modJob j (fun x => { x with state := st })).writeHeader j
  match s.jobAt j with
  | some x => if x.active then s else s.settleRises x.chans
  | none => s

/-! ### The nozzle map -/

/-- STATE and SOURCE of an entry (06 R205). -/
def nzState (e : BitVec 4) : Nat := e.toNat % 4
def nzSource (e : BitVec 4) : Nat := e.toNat / 4
/-- An entry from SOURCE and STATE. -/
def nzEntry (source state : Nat) : BitVec 4 := BitVec.ofNat 4 (4 * source + state)
/-- The entry is in the dead class (05 R184, 06 R206). -/
def nzDead (e : BitVec 4) : Bool := 2 ≤ nzState e

/-- Entry of a nozzle; entries at or beyond NOZZLES read 0 (06 R209). -/
def Chan.entry (c : Chan) (j : Nat) : BitVec 4 := if j < c.nozzles then sget 0 c.map j else 0

/-- Dead nozzles of a map, ascending, on a head of n nozzles. -/
def deadOf (n : Nat) (m : List (Nat × BitVec 4)) : List Nat :=
  (m.filter (fun x => nzDead x.2 && decide (x.1 < n))).map (·.1)

/-- The served dead nozzles: the lowest 256 (05 R184). -/
def servedOf (n : Nat) (m : List (Nat × BitVec 4)) : List Nat := (deadOf n m).take 256

/-- Served dead nozzles of a channel now. -/
def Chan.served (c : Chan) : List Nat := servedOf c.nozzles c.map

/-- Entries written into a map. -/
def mapWrite (m : List (Nat × BitVec 4)) (changes : List (Nat × BitVec 4)) : List (Nat × BitVec 4) := changes.foldl (fun m x => sput 0 m x.1 x.2) m

/-- The map that governs a line: on a dual-row channel without the changes that take effect from a later line (05 R187). -/
def Chan.mapFor (c : Chan) (line : Nat) : List (Nat × BitVec 4) :=
  match c.mapChanges with
  | [] => c.map
  | l => (l.filter (fun x => decide (x.1 ≤ line))).foldl (fun m x => mapWrite m x.2) c.mapBase

/-- A change of the map that takes effect from a job line on both channels of the pair (05 R187). -/
def Chan.noteChange (c : Chan) (line : Nat) (changes : List (Nat × BitVec 4)) : Chan :=
  { c with mapBase := (if c.mapChanges = [] then c.map else c.mapBase), mapChanges := c.mapChanges ++ [(line, changes)], map := mapWrite c.map changes }

/-- The oldest changes that govern every line from a line on are part of the map before the others (05 R187). -/
def Chan.settleMaps (c : Chan) (low : Nat) : Chan :=
  let rest := c.mapChanges.dropWhile (fun x => decide (x.1 ≤ low))
  { c with mapChanges := rest
           mapBase := if rest = [] then [] else (c.mapChanges.takeWhile (fun x => decide (x.1 ≤ low))).foldl (fun m x => mapWrite m x.2) c.mapBase }

/-- Changes whose first line was the line to be packed next, and is not packed yet, take effect from the line that is packed next now (05 R187). -/
def Chan.moveChanges (c : Chan) (was now : Nat) : Chan :=
  { c with mapChanges := c.mapChanges.map (fun x => if was ≤ x.1 then (min x.1 now, x.2) else x) }

/-- Array nozzle address (00 R6).  DESIGN CHOICE (log entry 45): on a device that holds no ring ID, whose identifier is 0xFF, DEV is its low three bits, 7. -/
def State.nozzleAddress (s : State) (n j : Nat) : Nat := (s.deviceId % 8) * 2 ^ 17 + n * 2 ^ 11 + j

/-- The SUBST entries of a change from one map to another on channel n (06 R211, 05 R184). -/
def State.substEntries (s : State) (j n line : Nat) (old new : List (Nat × BitVec 4)) : State :=
  let c := s.chan n
  let oldDead := deadOf c.nozzles old
  let newDead := deadOf c.nozzles new
  let oldServed := oldDead.take 256
  let newServed := newDead.take 256
  let partner := match s.jobAt j with
    | some x => s.partnerIn x n
    | none => none
  let touched := (oldDead ++ newDead.filter (fun k => !oldDead.contains k)).filter (fun k =>
    (oldDead.contains k != newDead.contains k) || (oldServed.contains k != newServed.contains k))
  touched.foldl (fun s k =>
    let data := if !newDead.contains k then 2
      else if !newServed.contains k then 3
      else match partner with
        | some p => if nzDead ((s.chan p).entry k) then 0 else 1
        | none => 0
    s.addEntry j { type := 3, cause := nzSource (sget 0 new k), channel := n, flags := 0, line := line,
                   count := s.nozzleAddress n k, data := data }) s

/-- The line that the leading channel of a pair packs next, on a single channel its own; lines skipped ahead are never packed (05 R187, R198). -/
def State.leadPack (s : State) (j : Job) (n : Nat) : Nat :=
  let own := (s.chan n).following (s.chan n).nextPack
  match s.partnerIn j n with
  | some p => max own ((s.chan p).following (s.chan p).nextPack)
  | none => own

/-- The map of channel n changed: entries beyond NOZZLES ignored, SUBST entries, the overflow count (05 R184, 06 R209, R211). -/
def State.changeMap (s : State) (n : Nat) (changes : List (Nat × BitVec 4)) : State :=
  let c := s.chan n
  let old := c.map
  let changes := changes.filter (fun x => decide (x.1 < c.nozzles))
  let new := mapWrite old changes
  let slot := (List.range 4).find? (fun j => (s.jobAt j).any (fun x =>
    x.channels.getLsbD n && (match x.state with | .opened | .ended => false | _ => true)))
  let job := slot.bind s.jobAt
  let paired := job.any (fun x => (s.partnerIn x n).isSome)
  let line := match job with
    | some x => s.leadPack x n
    | none => c.nextPack
  let s := (s.modChan n (fun c => if paired then c.noteChange line changes else { c with map := new, mapBase := [], mapChanges := [] })).bankWrote (n / 4) 2
  let s := if old ≠ new && decide (256 < (deadOf c.nozzles new).length) then s.count 24 else s
  match slot with
  | some j => s.substEntries j n line old new
  | none => s

/-- Strainer's run counters of nozzles cleared (06 R210, R225). -/
def State.clearRuns (s : State) (n : Nat) (ks : List Nat) : State :=
  s.modChan n (fun c => { c with runs := c.runs.filter (fun x => !ks.contains x.1) })

end Sys2Proof.Machine
end

