-- ==== Sys2Proof/Machine/Compose.lean ====
section
/-! DEFINITION. Composition of a line and the packing pass as functions of the job, the layers and the maps (05 R160-R188, 06 R229). -/
namespace Sys2Proof.Machine

/-! ### Codes in bytes -/

/-- The four codes of a byte (05 R164). -/
def byteCodes (b : Byte) : List Code :=
  [BitVec.ofNat 2 b.toNat, BitVec.ofNat 2 (b.toNat / 4), BitVec.ofNat 2 (b.toNat / 16), BitVec.ofNat 2 (b.toNat / 64)]

/-- Larger of two codes in the order none, small, medium, large (05 R177). -/
def codeMax (a b : Code) : Code := if a.toNat < b.toNat then b else a

/-- One layer applied to a code (05 R177). -/
def applyLayer (op : Nat) (v u : Code) : Code :=
  if u = 0 then v else if op = 0 then u else if op = 1 then codeMax v u else 0

/-! ### Placement of layer data -/

/-- FIRST_CH and LAST_CH (05 R166). -/
def Job.firstCh (j : Job) : Nat := j.chans.headD 0
def Job.lastCh (j : Job) : Nat := j.chans.getLastD 0

/-- The channel whose slot of a layer a channel reads: the lower of a dual-row pair (05 R166). -/
def State.layerCh (s : State) (j : Job) (n : Nat) : Nat :=
  match s.partnerIn j n with
  | some p => min p n
  | none => n

/-- Store address of the channel-line of layer line l (05 R166). -/
def State.layerAddr (s : State) (j : Job) (d : Layer) (n l : Nat) : Nat :=
  if j.geometry = 2 then d.base + l * d.stride + j.table.imageRows / 4 * (n - j.firstCh)
  else d.base + l * d.stride + 512 * (s.layerCh j n - j.firstCh)

/-- Layer line of a variable layer or L0 that job line n reads in web geometry (05 R166). -/
def layerLine (layer : Nat) (d : Layer) (n : Nat) : Nat :=
  if d.lines = 0 then 0 else if layer = 0 then (n + d.phase) % d.lines else n % d.lines

/-- Key of the posted and coverage bits (05 R171). -/
def coverKey (layer n band : Nat) : Nat := (layer * 48 + n) * 2048 + band

/-- Posted and coverage bits of a line on a channel. -/
def State.coverOf (s : State) (j : Job) (layer n line : Nat) : BitVec 33 :=
  match vget j.layers layer none with
  | some d => sget 0 j.cover (coverKey layer (s.layerCh j n) (layerLine layer d line))
  | none => 0

/-- Codes of a bar line on a channel (06 R229). -/
def Job.barCodes (j : Job) (n nozzles i : Nat) : List Code :=
  match j.bar with
  | some b =>
    let per := b.steps * b.stepLines
    let slot := (b.ch.getD n (255, 0, 0)).1
    if slot = i / per then
      (List.range nozzles).map (fun k => if k % b.steps = i % per / b.stepLines then BitVec.ofNat 2 b.drop else 0)
    else List.replicate nozzles 0
  | none => List.replicate nozzles 0

/-! ### Composition -/

/-- Reverse passes (05 R183). -/
def Job.reverse (j : Job) : Bool := j.geometry = 2 && j.table.bidir && j.pass % 2 = 1

/-- Image column of a shuttle line (05 R181). -/
def Job.column (j : Job) (line : Nat) : Nat := if j.reverse then j.lines - 1 - line else line

/-- Image row that a nozzle prints in the present pass (05 R181); none outside the image. -/
def Job.rowOf (j : Job) (k : Nat) : Option Nat :=
  let y : Int := ((j.pass : Int) - j.table.passes + 1) * j.table.advance + k
  if k < j.table.passes * j.table.advance && decide (0 ≤ y) && decide (y < j.table.imageRows) then some y.toNat else none

/-- Channel-line bytes of a layer, uncorrectable words read as 0 (10 R333). -/
def State.layerBytes (s : State) (a len : Nat) (badWords : List Nat) : Bytes :=
  (s.storeRead a len).zipIdx.map (fun (x : Byte × Nat) => if badWords.contains (x.2 / 8) then 0 else x.1)

/-- The code of nozzle (or image row) k in channel-line bytes. -/
def codeAt (b : Bytes) (k : Nat) : Code := (byteCodes (b.getD (k / 4) 0)).getD (k % 4) 0

/-- The composed codes of a line on a channel (05 R177, R181).  `bad` lists uncorrectable words as layer and word. -/
def State.composed (s : State) (j : Job) (n line : Nat) (bad : List (Nat × Nat)) : List Code :=
  let nozzles := (s.chan n).nozzles
  let badOf := fun (k : Nat) => (bad.filter (fun x => x.1 = k)).map (·.2)
  let data : List (Option (Nat × Bytes × BitVec 33)) := (List.range 4).map (fun k =>
    match vget j.layers k none with
    | none => none
    | some d =>
      if j.geometry = 2 then
        some (d.op, s.layerBytes (s.layerAddr j d n (j.column line)) (j.table.imageRows / 4) (badOf k), 0)
      else
        some (d.op, s.layerBytes (s.layerAddr j d n (layerLine k d line)) (nozzles / 4) (badOf k), s.coverOf j k n line))
  (List.range nozzles).map (fun q =>
    match (if j.geometry = 2 then j.rowOf q else some q) with
    | none => 0
    | some y =>
      data.zipIdx.foldl (fun (v : Code) (x : Option (Nat × Bytes × BitVec 33) × Nat) =>
        match x.1 with
        | none => v
        | some (op, b, cov) =>
          if x.2 = 0 then codeAt b y
          else if j.geometry = 2 || cov.getLsbD (q / 64 + 1) then applyLayer op v (codeAt b y)
          else v) 0)

/-! ### Masks, substitution, stitch zones -/

/-- A mask bit (05 R178). -/
def maskBit (m : Bytes) (a b : Nat) : Bool := (m.getD (32 * (a % 256) + b % 256 / 8) 0).getLsbD (b % 8)

/-- Composition-table entry of a channel: MASK, OVL_LO, OVL_HI (05 R162). -/
def Job.chEntry (j : Job) (n : Nat) : Nat × Nat × Nat := j.table.ch.getD n (255, 0, 0)

/-- Codes that channel n owns on a line (05 R179-R181). -/
def State.owned (s : State) (j : Job) (n line : Nat) (codes : List Code) : List Code :=
  let mk := (j.chEntry n).1
  let m := j.masks.getD mk []
  codes.zipIdx.map (fun (x : Code × Nat) =>
    if j.geometry = 2 then
      (match j.rowOf x.2 with
       | some y => if maskBit (j.masks.getD (j.pass % max 1 j.table.passes) []) (j.column line) y then x.1 else 0
       | none => 0)
    else
      match s.partnerIn j n with
      | some p =>
        let one := mk = 255 || maskBit m line x.2
        if (decide (n < p)) = one then x.1 else 0
      | none => if mk = 255 || maskBit m line x.2 then x.1 else 0)

/-- The substitution table entry for dead code v and neighbour code u (05 R185). -/
def subEntry (w : Word) (v u : Code) : Code := BitVec.ofNat 2 (w.toNat / 4 ^ (4 * v.toNat + u.toNat))

/-- The codes after substitution (05 R184-R186): own masked codes, the partner's masked codes and map in a dual-row pair. -/
def substitute (nozzles : Nat) (sub : Word) (cap : Nat) (own : List Code) (map : List (Nat × BitVec 4))
    (partner : Option (List Code × List (Nat × BitVec 4) × Nat)) : List Code :=
  let dead := deadOf nozzles map
  let served := dead.take 256
  let pDead := match partner with | some p => deadOf p.2.2 p.2.1 | none => []
  let pServed := pDead.take 256
  let raiseFrom := fun (d : Nat) (u : Code) (acc : Code) =>
    let c := own.getD d 0
    if served.contains d && c ≠ 0 && (partner.isNone || pDead.contains d) then
      let e := subEntry sub c u
      codeMax acc (if cap < e.toNat then BitVec.ofNat 2 cap else e)
    else acc
  own.zipIdx.map (fun (x : Code × Nat) =>
    let k := x.2
    if dead.contains k then 0
    else
      let v := match partner with
        | some p => if pServed.contains k then codeMax x.1 (p.1.getD k 0) else x.1
        | none => x.1
      let v := if k = 0 then v else raiseFrom (k - 1) x.1 v
      if k + 1 < nozzles then raiseFrom (k + 1) x.1 v else v)

/-- D and T of the stitch dither (05 R188). -/
def ditherD (x y : Nat) : Nat :=
  let a := x ^^^ y
  let b := fun (v i : Nat) => v / 2 ^ i % 2
  128 * b a 0 + 64 * b y 0 + 32 * b a 1 + 16 * b y 1 + 8 * b a 2 + 4 * b y 2 + 2 * b a 3 + b y 3

/-- A code in the stitch zones of its channel (05 R188). -/
def stitch (nozzles lo hi idx k : Nat) (c : Code) : Code :=
  let t := fun (q w : Nat) => 256 * (q + 1) / (w + 1)
  let d := fun (q : Nat) => ditherD (idx % 16) (q % 16)
  let c := if k < lo then (if d k < t k lo then c else 0) else c
  if nozzles ≤ k + hi then (let q := k + hi - nozzles; if t q hi ≤ d q then c else 0) else c

/-- The codes of a line after the packing pass (05 R161, 06 R229); `badWords` are uncorrectable words of the line FIFO, 32 codes each (10 R323). -/
def State.packedCodes (s : State) (j : Job) (n line : Nat) (composed : List Code) (badWords : List Nat) : List Code :=
  let c := s.chan n
  match j.barIndex line with
  | some i => j.barCodes n c.nozzles i
  | none =>
    let composed := composed.zipIdx.map (fun (x : Code × Nat) => if badWords.contains (x.2 / 32) then 0 else x.1)
    let partner := match s.partnerIn j n with
      | some p => some (s.owned j p line composed, (s.chan p).mapFor line, (s.chan p).nozzles)
      | none => none
    let out := substitute c.nozzles (j.table.sub.getD c.ink 0) (j.table.subCap.getD c.ink 0)
      (s.owned j n line composed) (c.mapFor line) partner
    let e := j.chEntry n
    let idx := if j.geometry = 2 then j.column line else line
    out.zipIdx.map (fun (x : Code × Nat) => stitch c.nozzles e.2.1 e.2.2 idx x.2 x.1)

/-! ### LINE_COMPOSED -/

/-- Composition of the channel's next line may begin: the FIFO has space, where lines skipped ahead take none (05 R160, R176, R198, 06 R229). -/
def State.canCompose (s : State) (j : Job) (n : Nat) : Bool :=
  let c := s.chan n
  let line := c.nextCompose
  j.active && decide (line < c.nextLine + 8 + (c.gone.filter (fun l => decide (c.nextLine ≤ l && l < line))).length) && decide (c.fifo.length < 8) &&
  (j.lines = 0 || decide (line < j.lines)) &&
  !s.pwr.blockHeld.getLsbD (n / 4) && s.mem.cfg.isSome &&
  ((j.barIndex line).isSome || j.geometry = 2 ||
    (List.range 4).all (fun k => match vget j.layers k none with
      | some d => !d.required || (s.coverOf j k n line).getLsbD 0
      | none => true))

/-- Posted and coverage bits of a composed line cleared, in a pair once both channels have composed it (05 R171). -/
def State.clearCover (s : State) (slot n line : Nat) : State :=
  match s.jobAt slot with
  | none => s
  | some j =>
    let pairDone := match s.partnerIn j n with
      | some p => decide (line < (s.chan p).nextCompose)
      | none => true
    let cleared := (List.range 4).foldl (fun (m : List (Nat × BitVec 33)) (k : Nat) =>
      match vget j.layers k none with
      | some d => sput 0 m (coverKey k (s.layerCh j n) (layerLine k d line)) 0
      | none => m) j.cover
    if pairDone && j.geometry ≠ 2 then s.modJob slot (fun j => { j with cover := cleared }) else s

/-- The channel's first line not composed moves on to a line: the lines passed give up their posted and coverage bits, so that the next band cycle
never reads them (05 R171).  A band holds at most 2,048 lines. -/
def State.composeFrom (s : State) (slot n line : Nat) : State :=
  let was := (s.chan n).nextCompose
  let line := max was line
  let s := s.modChan n (fun c => { c with nextCompose := line })
  (List.range (min 2048 (line - was))).foldl (fun s i => s.clearCover slot n (line - 1 - i)) s

/-- Composition passes the lines that the channel has skipped ahead (05 R198). -/
def State.composeOn (s : State) (slot n : Nat) : State := s.composeFrom slot n ((s.chan n).following (s.chan n).nextCompose)

/-! ### The FIFO -/

/-- The job has no such line to begin: it lies beyond LINES or beyond a stop (05 R189, R191). -/
def Job.beyond (j : Job) (line : Nat) : Bool :=
  (j.lines ≠ 0 && decide (j.lines ≤ line)) || (match j.stopAt with | some l => decide (l ≤ line) | none => false)

/-- A job has 2 lines or more still to fire on a channel: lines skipped ahead are not fired (01 R36, 05 R198). -/
def Job.twoToFire (j : Job) (c : Chan) : Bool := !j.beyond (c.following (c.nextToFire + 1))

/-- A channel's FIFO changed: its source pulses when it falls below 2 lines while the job runs and has 2 lines or more still to fire (01 R36). -/
def State.modFifo (s : State) (slot n : Nat) (f : Chan → Chan) : State :=
  let was := (s.chan n).fifo.length
  let s := s.modChan n f
  let c := s.chan n
  let more := (s.jobAt slot).any (fun j => j.state = .running && j.twoToFire c)
  if 2 ≤ was && decide (c.fifo.length < 2) && more then s.raise (0x11 + n / 4) else s

/-! ### Uncorrectable words of a line engine's bank (10 R323) -/

/-- The masks that a job uses, read from the store (05 R178, R181). -/
def Job.masksUsed (j : Job) (t : CompTable) : List Nat :=
  if j.geometry = 2 then List.range t.passes
  else (List.range 8).filter (fun k => j.chans.any (fun n => (t.ch.getD n (255, 0, 0)).1 = k))

/-- The mask copies: 8,192 bytes for each mask used (05 R178).  DESIGN CHOICE (log entry 46): a MASK_ADDR whose 8,192 bytes run past the usable store, a case
that no rule lists, is taken, and the bytes beyond read as the store's unlisted bytes do. -/
def State.readMasks (s : State) (j : Job) (t : CompTable) : List Bytes :=
  (List.range 8).map (fun k => if (j.masksUsed t).contains k then s.storeRead (t.maskAddr.getD k 0) 8192 else [])

/-- The 32 codes of word w of a channel-line lost. -/
def zeroWord (w : Nat) (codes : List Code) : List Code := codes.zipIdx.map (fun (x : Code × Nat) => if x.2 / 32 = w then 0 else x.1)

/-- The line of a FIFO word, 64 words a line, with its codes lost. -/
def zeroFifo (w : Nat) (l : List FifoLine) : List FifoLine :=
  l.zipIdx.map (fun (x : FifoLine × Nat) => if x.2 = w / 64 then { x.1 with codes := zeroWord (w % 64) x.1.codes } else x.1)

/-- The line being fired has slots whose frames are still to be shifted from the slot buffer (03 R99). -/
def Chan.shifting (c : Chan) : Bool := c.firing.any (fun f => decide (f.slot + 2 < f.period.plan.length))

/-- The codes of a word of the prepared line, or of the packed one, lost. -/
def Chan.zeroPrepared (c : Chan) (w : Nat) : Chan := { c with prepared := c.prepared.map (fun p => { p with codes := zeroWord w p.codes }) }
def Chan.zeroPacked (c : Chan) (w : Nat) : Chan := { c with packed := c.packed.map (fun x => (x.1, zeroWord w x.2)) }

/-- A word of the slot buffer with its codes lost, in that line (10 R323): its words 0-63 hold the oldest line that still shifts or waits there, 64-127 the
next one; of the line being fired the slots not yet shifted lose them (log entry 39). -/
def Chan.zeroSlot (c : Chan) (w : Nat) : Chan :=
  if c.shifting then
    if w < 64 then { c with firing := c.firing.map (fun f => { f with period := { f.period with codes := zeroWord w f.period.codes } }) }
    else if c.prepared.isSome then c.zeroPrepared (w - 64)
    else c.zeroPacked (w - 64)
  else if w < 64 then c.zeroPrepared w
  else c.zeroPacked (w - 64)

/-- What an uncorrectable word of a line engine's bank does (10 R323). -/
def State.lineBankAction (s : State) (b : Nat) (r : BankRegion) : State :=
  match r with
  | .fifo n w => s.modChan n.val (fun c => { c with fifo := zeroFifo w c.fifo })
  | .slotBuffer n w => s.modChan n.val (fun c => c.zeroSlot w)
  | .posted k n line =>
    match s.jobOf n.val with
    | some slot => s.modJob slot (fun j => { j with cover := sput 0 j.cover (coverKey k.val n.val line) 1 })
    | none => s
  | .nozzleMap n w => s.changeMap n.val ((List.range 16).map (fun i => (16 * w + i, nzEntry 0 3)))
  | .masks =>
    (List.range 4).foldl (fun s slot =>
      match s.jobAt slot with
      | some j =>
        if j.state ≠ .opened && j.chans.any (fun n => n / 4 = b) then s.modJob slot (fun j => { j with masks := s.readMasks j j.table }) else s
      | none => s) s
  | _ => s

/-- Words of line engine b's bank that a reader finds with errors: corrected ones counted and their windows tested again (10 R322), uncorrectable ones
counted, repaired, acted on (10 R323). -/
def State.lineBankErrors {α : Type} (s : State) (b : Nat) (e : BadWords α) : State :=
  e.bank.foldl (fun s r => (s.bankUncorrectable b none).lineBankAction b r) (e.corrected.foldl (fun s w => s.bankCorrected b w) s)

/-- LINE_COMPOSED (05 R160): the channel's next line enters its FIFO; corrected and uncorrectable store words are counted (10 R333), and
uncorrectable words of the bank act before it (10 R323). -/
def execLineComposed (ch : Fin 48) (corrected : Nat) (unread : BadWords (Nat × Nat)) (s : State) : Host.Outcome State Fault Refusal :=
  match s.jobOf ch.val with
  | none => .next s
  | some slot =>
    match s.jobAt slot with
    | none => .next s
    | some j =>
      if !s.inRun || !s.canCompose j ch.val then .next s
      else
        let s := s.lineBankErrors (ch.val / 4) unread
        let j := (s.jobAt slot).getD j
        let line := (s.chan ch.val).nextCompose
        -- detectors 84 and 85: the next layer read (15 R452)
        let first := (List.range 4).find? (fun k => (vget j.layers k none).isSome)
        let d84 := if first.isSome then s.detect 84 false else (false, s)
        let n84 := corrected + (if d84.1 then 1 else 0)
        let d85 := if first.isSome then d84.2.detect 85 false else (false, d84.2)
        let bad := if d85.1 then (first.getD 0, 0) :: unread.words.filter (fun x => x ≠ (first.getD 0, 0)) else unread.words
        let s := (d85.2.countN 84 n84).countN 85 bad.length
        let codes := s.composed j ch.val line bad
        let s := s.modChan ch.val (fun c => { c with fifo := c.fifo ++ [{ line := line, codes := codes }] })
        .next ((s.composeFrom slot ch.val (line + 1)).composeOn slot ch.val)

end Sys2Proof.Machine
end

