-- ==== Sys2Proof/Machine/JobFlow.lean ====
section
/-! DEFINITION. Stops, trips, the packing pass, arming and the data-late sequence (03 R111-R115, 04 R130, R156-R158, 05 R161, R189-R198, 06 R226). -/
namespace Sys2Proof.Machine

/-! ### Surveys that end early -/

/-- The survey ends with a RESULT, the previous map in force (06 R226). -/
def State.endSurvey (s : State) (result : Nat) : State :=
  match s.health.run with
  | none => s
  | some r =>
    let s := { s with health := { s.health with run := none, flashes := [] } }
    s.finishOps (fun p => match p.kind with | .survey => true | _ => false)
      (fun _ => (stOK, toLe 4 result ++ toLe 4 r.dead ++ toLe 4 r.weak))

/-- The survey ends when a test on it holds. -/
def State.endSurveyIf (s : State) (p : SurveyRun → Bool) (result : Nat) : State :=
  match s.health.run with
  | some r => if p r then s.endSurvey result else s
  | none => s

/-- A stop, stall or limit on the service axis ends the survey (06 R226). -/
def State.endSurveyOn (s : State) (ax : Nat) : State := s.endSurveyIf (fun _ => s.health.setup.any (fun u => u.axis = ax)) 1

/-! ### Channels that stop -/

/-- Lines prepared or packed and not begun go back to the FIFO as composed (05 R194 step 1); with no line in its fire period the set replaced at the
last hand-over governs nothing more (02 R72). -/
def Chan.unprepare (c : Chan) : Chan :=
  let a := match c.prepared with | some p => [({ line := p.line, codes := p.raw } : FifoLine)] | none => []
  let b := match c.packed with | some x => [x.1] | none => []
  { c with prepared := none, packed := none, dueEarly := 0, fifo := a ++ b ++ c.fifo, prevSet := if c.inPeriod.isNone then none else c.prevSet }

/-- Lines prepared or packed on some channels of a job go back; a map change of which no line has been packed takes effect from the line that the leading
channel then packs first (05 R187, R194). -/
def State.putBack (s : State) (j : Job) (ns : List Nat) (f : Chan → Chan) : State :=
  let t := ns.foldl (fun s n => s.modChan n f) s
  j.chans.foldl (fun t n => t.modChan n (fun c => c.moveChanges (s.leadPack j n) (t.leadPack j n))) t

/-- Head I/O stops: HDn_CLK, HDn_D and HDn_LAT low, a data phase in progress abandoned without its latch phase (03 R112, 04 R156). -/
def Chan.stopIo (c : Chan) : Chan := { c with frame := [], latClocks := 0, ioStopAt := none }

/-- Length of the slot being fired, the shift of the next period counted in its last slot (03 R100). -/
def Chan.slotLength (c : Chan) (f : Firing) : Nat :=
  let own := match f.period.plan[f.slot]? with | some x => x.len | none => 0
  if f.slot + 1 < f.period.plan.length then own
  else
    match c.prepared with
    | some p => (match p.plan with | x :: _ => max own (c.tShift x.groups.length) | [] => own)
    | none => own

/-- The channel is cut: no slot begins or ends any more; head I/O stops at the next slot boundary, which is the end of the slot under way, or at once
between slots (03 R112). -/
def Chan.cut (c : Chan) : Chan :=
  match c.firing with
  | some f =>
    if f.ended then { c with firing := none, shutAtSlot := 0 }.stopIo
    else { c with firing := none, shutAtSlot := 0, ioStopAt := some (f.start + c.slotLength f) }
  | none => if c.ioStopAt.isSome then c else { c with shutAtSlot := 0 }.stopIo

/-- Lines prepared or packed at or beyond a line go back to the FIFO as composed (05 R191). -/
def Chan.dropBeyond (c : Chan) (l : Nat) : Chan :=
  if c.prepared.any (fun p => decide (l ≤ p.line)) then c.unprepare
  else
    match c.packed with
    | some x => if l ≤ x.1.line then { c with packed := none, fifo := x.1 :: c.fifo } else c
    | none => c

/-- The line in its fire period on channel n cut: incomplete, or skipped where the channel is held (03 R112, 04 R156, 02 R78). -/
def State.cutLine (s : State) (j n cause : Nat) : State :=
  let p := (s.chan n).inPeriod
  let s := s.modChan n Chan.cut
  match p with
  | some p => (s.lineDone j n p.line (if p.held then .skipped 3 else .incomplete cause)).modChan n (fun c => c.leftLine p.line)
  | none => s

/-- Every channel of a job has left its fire period. -/
def State.jobQuiet (s : State) (j : Job) : Bool := j.chans.all (fun n => (s.chan n).inPeriod.isNone)

/-- LAST of JOB_STOP: the lowest next line minus 1 (05 R191). -/
def State.lastLine (s : State) (j : Job) : Nat :=
  let l := j.chans.foldl (fun m n => min m (s.chan n).nextToFire) 0xFFFFFFFF
  if l = 0 then 0xFFFFFFFF else l - 1

/-- Final replies of JOB_STOP once every channel has stopped firing (05 R191). -/
def State.answerStops (s : State) (slot : Nat) : State :=
  match s.jobAt slot with
  | some j =>
    if s.jobQuiet j && !j.active then
      s.finishOps (fun p => match p.kind with | .jobStop i => i = j.id | _ => false) (fun _ => (stOK, toLe 4 (s.lastLine j)))
    else s
  | none => s

/-- Final reply of JOB_START when the job leaves ARMING (05 R190; log entry 16). -/
def State.answerStarts (s : State) (id : BitVec 16) : State :=
  s.finishOps (fun p => match p.kind with | .jobStart i => i = id | _ => false) (fun _ => (stOK, []))

/-- A stop request at A_MAX and J_MAX on an axis (07 R247, 06 R226). -/
def State.stopAxisMax (s : State) (ax : Nat) : State :=
  let t := s.modAxis ax (fun a => a.stop a.aMax a.jMax 0)
  if (s.axis ax).standing then t else t.endSurveyOn ax

/-- The feed speed commanded when a job stops, for its resume: 0 when the feed stands, v_R during a data-late sequence or a resume move, the speed of
the re-register leg on it (05 R192, R194; log entry 18). -/
def Axis.feedSpeed (a : Axis) (j : Job) : Rat :=
  if a.segs = [] && a.speed = 0 then 0
  else if a.leg = .rereg then a.velTarget a.legV
  else if j.late ≠ .none || j.resumeMove then j.vR
  else a.speed

/-- The job enters STOPPED: nothing not begun begins; the feed speed is kept for the resume (05 R189, R192). -/
def State.enterStopped (s : State) (slot : Nat) : State :=
  match s.jobAt slot with
  | none => s
  | some j =>
    let v := if j.feed < 8 then (s.axis j.feed).feedSpeed j else 0
    let s := s.putBack j j.chans Chan.unprepare
    let s := s.modJob slot (fun j => { j with
      late := .none, stopV := v, fullSent := false, fullFrom := 0, rereg := false, resumeMove := false, resumePending := none })
    let s := s.setJobState slot .stopped
    (s.answerStarts j.id).answerStops slot

/-- A running job stopped by a trip or a shutdown, with the stop request to its feed axis (03 R112, 04 R157). -/
def State.stopJob (s : State) (slot : Nat) : State :=
  match s.jobAt slot with
  | none => s
  | some j =>
    if j.active then
      let s := s.enterStopped slot
      if j.feed < 8 then s.stopAxisMax j.feed else s
    else s

/-- The next shuttle pass: its lines are composed, and it waits to be armed (05 R181, R183).  DESIGN CHOICE (log entry 17): the boundaries passed in
earlier passes still count as passed for AT_LATE (04 R146). -/
def State.nextPass (s : State) (slot : Nat) : State :=
  match s.jobAt slot with
  | none => s
  | some j =>
    let s := s.modJob slot (fun x => { x with pass := x.pass + 1, passWait := true, trigLine := 0, marks := x.carriedMarks, latest := [] })
    let s := j.chans.foldl (fun s n => s.modChan n (fun c =>
      { c with nextLine := 0, nextCompose := 0, fifo := [], packed := none, prepared := none, dueEarly := 0, gone := [], heldMiss := none })) s
    s.writeHeader slot

/-- ENDED once every line is fired, skipped or incomplete on every channel (05 R189); a shuttle job goes on to its next pass (05 R181). -/
def State.checkEnded (s : State) (slot : Nat) : State :=
  match s.jobAt slot with
  | none => s
  | some j =>
    let overs := match j.state with | .running | .stopped => true | _ => false
    if overs && j.lines ≠ 0 && s.jobQuiet j && j.chans.all (fun n => decide (j.lines ≤ (s.chan n).nextToFire)) then
      if j.lastPass then
        let s := s.setJobState slot .ended
        (s.deviceEvent 0x30 j.id.toNat).answerStops slot
      else s.nextPass slot
    else s

/-- Every line in its fire period cut, every running job stopped (03 R112); a job that has no line left ends (05 R189). -/
def State.tripJobs (s : State) (cause : Nat) : State :=
  (List.range 4).foldl (fun s slot =>
    match s.jobAt slot with
    | some j =>
      let s := j.chans.foldl (fun s n => s.cutLine slot n cause) s
      ((s.stopJob slot).checkEnded slot).answerStops slot
    | none => s) s

/-- The consequences of a trip of some classes beyond the gate (03 R112): head I/O, jobs, feeds, Cosy, surveys, sources. -/
def State.tripActs (s : State) (classes : BitVec 4) : State :=
  let s := s.tripJobs 1
  let s := { s with chans := s.chans.map Chan.cut }
  let s := if classes.getLsbD 3 then (List.range 8).foldl State.stopAxisMax s else s
  let s := s.endSurvey 1
  let s := if classes &&& 7 = 0 then s else s.raise 0x38
  if classes.getLsbD 3 then s.raise 0x39 else s

/-- Local trip latches set: their consequences, FAULT columns and FLT (03 R111, R112, 12 R387, R388).  DESIGN CHOICE (log entry 16): an assertion in a class
whose latch is set already is a trip again, its source pulse included; a ring latch already set is not. -/
def State.trip (s : State) (classes : BitVec 4) : State :=
  let s := { s with ilk := { s.ilk with
    trips := s.ilk.trips ||| classes
    assertedAt := Vector.ofFn (fun (k : Fin 4) => if classes.getLsbD k.val then s.clock else vget s.ilk.assertedAt k.val 0) } }
  (s.tripActs classes).reportLocal

/-- A trip latch acts: local, of the ring, or POSLOST (03 R111, R115, 12 R386, R389). -/
def State.tripped (s : State) : Bool := s.ilk.trips ≠ 0 || s.link.ringTrips ≠ 0 || s.link.poslost

/-- The gate lets pulses through: no trip latch and no reset (03 R25, R111). -/
def State.gateOpen (s : State) : Bool := !s.tripped && s.inRun && !s.pe.rebooting

/-! ### The end of a job -/

/-- A running job with a stop line has fired through it on every channel: STOPPED (05 R191). -/
def State.checkStopAt (s : State) (slot : Nat) : State :=
  match s.jobAt slot with
  | none => s
  | some j =>
    match j.stopAt with
    | some l =>
      if j.state = .running && s.jobQuiet j && j.chans.all (fun n => decide (l ≤ (s.chan n).nextToFire)) then
        s.enterStopped slot
      else s
    | none => s

/-! ### Fire positions -/

/-- The stitch delay that governs a line: that of a taken set from its line on (04 R128, R144). -/
def Chan.stitchFor (c : Chan) (line : Nat) : Nat :=
  match c.taken with
  | some x => if x.2.1 ≤ line then x.1.stitch else c.live.stitch
  | none => c.live.stitch

/-- Fire position of line n on a channel in 1/65536 position unit (04 R124, R128; reverse passes run the other way, log entry 17). -/
def State.firePos16 (s : State) (j : Job) (n line : Nat) : Int :=
  let c := s.chan n
  let st : Int := (c.stitchFor line * j.pitch / 16 : Nat)
  j.start * 65536 + (j.column line * j.pitch : Nat) + (c.headOffset + c.rowOffset) * 65536 + (if j.reverse then -st else st)

/-- Position of slot s of a line, of S slots (04 R128, 03 R101). -/
def State.slotPos (s : State) (j : Job) (n line slot slots : Nat) : Int :=
  let d : Int := (slot * j.pitch / max 1 slots : Nat)
  (s.firePos16 j n line + (if j.reverse then -d else d)) / 65536

/-- A position has been reached in the direction of travel (04 R125, R129). -/
def Job.reached (j : Job) (p target : Int) : Bool := if j.reverse then decide (p ≤ target) else decide (target ≤ p)

/-- A channel's position reaches a target while it moves in the job's direction of travel (04 R125). -/
def State.reaches (s : State) (j : Job) (n : Nat) (target : Int) : Bool :=
  s.movesOn (s.chan n).posSrc j.reverse && j.reached (s.chanPosition n) target

/-- A position lies behind in the direction of travel (04 R130). -/
def Job.passed (j : Job) (p target : Int) : Bool := if j.reverse then decide (p < target) else decide (target < p)

/-! ### Data late (05 R193-R198) -/

/-- The job may be ring-fed: a follower's job on ring position without a feed (05 R197). -/
def State.ringForm (s : State) (j : Job) : Bool :=
  j.feed = 255 && (s.chan j.firstCh).posSrc = 8 && s.link.id.isSome && s.link.id ≠ some 0

/-- The job is ring-fed (05 R197): whether the master has an open job with its ID and FEED 0-7 is a free value here (log entry 18). -/
def State.ringFed (s : State) (j : Job) : Bool × State :=
  if s.ringForm j then let d := s.draw; (d.1 % 2 = 1, d.2) else (false, s)

/-- The body of a job signal (12 R393). -/
def signalBody (signal : Nat) (id : BitVec 16) (nStop : Nat) : Bytes :=
  toLe 1 signal ++ [0] ++ toLe 2 id.toNat ++ toLe 4 nStop

/-- The first steps of a data-late sequence on a job: LATE, nothing not begun begins, source 0x3E, the counter (05 R194 step 1). -/
def State.enterLate (s : State) (slot line : Nat) : State :=
  match s.jobAt slot with
  | none => s
  | some j =>
    let x := s.chanPosition j.firstCh
    let v := if j.feed < 8 then (s.axis j.feed).speed else 0
    let s := s.putBack j j.chans Chan.unprepare
    let s := s.modJob slot (fun j => { j with late := .stopping, nStop := line, xT := x, vR := v, fullFrom := 0, fullSent := false, rereg := true })
    ((s.setJobState slot .late).raise 0x3E).count 22

/-- The feed axis begins the stop of a data-late sequence with the interrupted move's profile (07 R257); a stop in progress continues, with the FAULT that
it ends with, and the final speed change of the move is then over. -/
def Axis.stopWeb (a : Axis) : Axis :=
  let m := match a.move with | some m => m | none => { goal := .vel 0, prof := 0, v := 0, a := a.aMax, j := a.jMax }
  let fin := a.inFinal && decide (a.state ≠ .stopping)
  let a := match a.state with
    | .stopping => a
    | _ => { (a.planVel m.prof m.a m.j 0) with stopA := m.a, stopFault := 0 }
  { a with state := .moving, leg := .stopWeb, saved := some m, legFinal := fin }

/-- The data-late sequence on a job of this device; the master finds which of the ring's devices have the job, a free value for the sequence, and tells the
ring (05 R194, 12 R393; log entry 18). -/
def State.lateStart (s : State) (slot line : Nat) : State :=
  match s.jobAt slot with
  | none => s
  | some j =>
    let s := s.enterLate slot line
    let s := if j.feed < 8 then s.modAxis j.feed Axis.stopWeb else s
    if j.feed < 8 && s.link.id = some 0 then
      let d := s.draw
      (d.2.modJob slot (fun j => { j with ringDevs := s.link.known &&& 0xFE &&& BitVec.ofNat 8 d.1 })).sendNewPkt 0xFF 3 (signalBody 1 j.id line)
    else s

/-- C of the bits that a channel keeps or shares with its partner: the lower of the two (05 R171, R172). -/
def State.firstUncomposed (s : State) (j : Job) (n : Nat) : Nat :=
  match s.partnerIn j n with
  | some p => min (s.chan n).nextCompose (s.chan p).nextCompose
  | none => (s.chan n).nextCompose

/-- Posted and coverage bits without those of a line, on the channels where its slot of the band stands for it: from C on, and less than a band beyond
(05 R171, R172, R198). -/
def State.uncover (s : State) (j : Job) (line : Nat) : List (Nat × BitVec 33) :=
  (List.range 4).foldl (fun (m : List (Nat × BitVec 33)) (k : Nat) =>
    match vget j.layers k none with
    | some d => (j.chans.filter (fun n => decide (s.firstUncomposed j n ≤ line) && decide (line < s.firstUncomposed j n + d.lines))).foldl
        (fun (m : List (Nat × BitVec 33)) (n : Nat) => sput 0 m (coverKey k (s.layerCh j n) (layerLine k d line)) 0) m
    | none => m) j.cover

/-- A line left ahead of a channel's next line: its data dropped, composition moves past it (04 R151, 05 R198). -/
def State.dropLine (s : State) (slot n line : Nat) : State :=
  (s.modFifo slot n (fun c =>
    let c := match c.prepared with
      | some p => if p.line = line then { c with prepared := none, dueEarly := 0 } else c
      | none => c
    { c with packed := c.packed.filter (fun x => x.1.line ≠ line), fifo := c.fifo.filter (fun f => f.line ≠ line), gone := c.gone ++ [line] })).composeOn
    slot n

/-- A line skipped on every channel of an external job that has not begun it, its posted and coverage bits cleared (05 R198). -/
def State.externalSkip (s : State) (slot line : Nat) : State :=
  match s.jobAt slot with
  | none => s
  | some j =>
    let notBegun := j.chans.filter (fun n =>
      let c := s.chan n
      decide (c.nextLine ≤ line) && !c.gone.contains line)
    let partial_ := j.chans.any (fun n => decide (line < (s.chan n).nextLine) && !(j.mark line).skipped.getLsbD n)
    let s := s.modJob slot (fun x => { x with cover := s.uncover x line })
    let s := s.addEntry slot { type := 1, cause := 1, channel := 255, flags := (if partial_ then 1 else 0), line := line, count := 1, data := 0 }
    let s := notBegun.foldl (fun s n =>
      let s := s.dropLine slot n line
      s.modJob slot (fun x => let m := x.mark line
                              (x.classify line { m with skipped := setBit m.skipped n true }).spoilBar n line)) s
    (s.count 22).writeHeader slot

/-- A line is late on a channel (05 R193, R194, R197, R198); on a held channel it is noted as a line that is not consumed. -/
def State.lineLate (s : State) (slot n line : Nat) : State :=
  match s.jobAt slot with
  | none => s
  | some j =>
    if j.state ≠ .running then s
    else if (s.chan n).hold then s.modChan n (fun c => { c with heldMiss := some line })
    else if j.feed < 8 then s.lateStart slot line
    else
      let r := s.ringFed j
      if r.1 then (r.2.enterLate slot line).sendNewPkt 0 3 (signalBody 0 j.id line) else r.2.externalSkip slot line

/-! ### The packing pass -/

/-- The slot of the job with the lowest ID among those that satisfy a test (15 R452). -/
def State.lowestJob (s : State) (p : Job → Bool) : Option Nat :=
  ((List.range 4).foldl (fun (best : Option (Nat × Nat)) k =>
    match s.jobAt k with
    | some x => if p x && best.all (fun (b : Nat × Nat) => decide (x.id.toNat < b.1)) then some (x.id.toNat, k) else best
    | none => best) none).map (fun (b : Nat × Nat) => b.2)

/-- The lowest job in RUNNING. -/
def State.lowestRunning (s : State) : Option Nat := s.lowestJob (fun x => x.state = .running)

/-- A map that governs only lines which a channel and its partner have begun is given up; a line packed goes back unfired at a stop and is packed again
under its own map (05 R187, R194). -/
def State.pruneMaps (s : State) (j : Job) (n : Nat) : State :=
  match s.partnerIn j n with
  | some p =>
    let low := min (s.chan n).nextLine (s.chan p).nextLine
    (s.modChan n (fun c => c.settleMaps low)).modChan p (fun c => c.settleMaps low)
  | none => s

/-- No re-registration stands between the job and its speed: it is not at its arm or on the way to X_T (05 R196). -/
def State.webAtSpeed (s : State) (j : Job) : Bool := j.resumePending.isNone && (decide (8 ≤ j.feed) || (s.axis j.feed).leg = .none)

/-- The packing pass of a line on a channel (05 R161, R193): taken from the FIFO and packed, or late. -/
def State.packLine (s : State) (slot n line : Nat) (badWords : List Nat) : State :=
  match s.jobAt slot with
  | none => s
  | some j =>
    let c := s.chan n
    if (j.lines ≠ 0 && decide (j.lines ≤ line)) || (match j.stopAt with | some l => decide (l ≤ line) | none => false) ||
        c.gone.contains line || c.packed.isSome then s
    else
      -- detector 22: the line is taken as absent (15 R452); a held channel is no opportunity, nor is the web short of its speed (05 R196)
      let d := if s.lowestRunning = some slot && !c.hold && s.webAtSpeed j then s.detect 22 false else (false, s)
      match c.fifo with
      | f :: rest =>
        if f.line = line && !d.1 then
          let s := badWords.foldl (fun s _ => s.bankUncorrectable (n / 4) none) d.2
          let codes := s.packedCodes j n line f.codes badWords
          (s.modFifo slot n (fun c => { c with fifo := rest, packed := some (f, codes) })).pruneMaps j n
        else d.2.lineLate slot n line
      | [] => d.2.lineLate slot n line

/-! ### Arming -/

/-- Every FIFO holds 8 lines or the job's remaining lines (05 R190, R194 step 4). -/
def State.fifosFull (s : State) (j : Job) : Bool :=
  j.chans.all (fun n =>
    let c := s.chan n
    let have_ := c.fifo.length + (if c.packed.isSome then 1 else 0)
    decide (8 ≤ have_) || (j.lines ≠ 0 && decide (j.lines ≤ c.nextLine + have_ + (c.gone.filter (fun l => decide (c.nextLine ≤ l))).length)))

/-- The lines from the channel's next one that its position has passed, at most so many (04 R130). -/
def State.passedLines (s : State) (j : Job) (n : Nat) : Nat → Nat → Nat
  | 0, line => line
  | fuel + 1, line =>
    if j.lines ≠ 0 && decide (j.lines ≤ line) then line
    else if j.passed (s.chanPosition n) (s.slotPos j n line 0 1) then s.passedLines j n fuel (line + 1)
    else line

/-- How many lines the distance from the next line to the position can hold; at PITCH 0 every line has the one position.  DESIGN CHOICE (log entry 51):
a job without an end and with PITCH 0 skips none. -/
def State.passBound (s : State) (j : Job) (n : Nat) : Nat :=
  let c := s.chan n
  let d := (s.chanPosition n - s.slotPos j n c.nextLine 0 1).natAbs
  if j.pitch = 0 then j.lines - c.nextLine else (d + 1) * 65536 / j.pitch + 1

/-- A channel's next line moved on: the lines below it that it has not fired are skipped, each once (04 R130, 05 R192, R199). -/
def State.skipTo (s : State) (slot n first cause : Nat) : State :=
  let c := s.chan n
  let s := (List.range (first - c.nextLine)).foldl (fun s i =>
    if c.gone.contains (c.nextLine + i) then s else s.lineDone slot n (c.nextLine + i) (.skipped cause)) s
  let s := s.modFifo slot n (fun c => { c with
    nextLine := first, fifo := c.fifo.filter (fun f => decide (first ≤ f.line)), gone := c.gone.filter (fun l => decide (first ≤ l)), heldMiss := none })
  (s.composeFrom slot n first).composeOn slot n

/-- A channel armed: lines passed are skipped after a start or resume (04 R130), then the first line's packing pass. -/
def State.armChan (s : State) (slot n : Nat) (skip : Bool) : State :=
  match s.jobAt slot with
  | none => s
  | some j =>
    let c := s.chan n
    let first := c.following (if skip then s.passedLines j n (s.passBound j n) c.nextLine else c.nextLine)
    ((s.skipTo slot n first 4).packLine slot n first [])

/-- The job arms: RUNNING, every channel armed but between shuttle passes, the reply of JOB_START (05 R183, R190, R192, R194). -/
def State.armJob (s : State) (slot : Nat) (skip : Bool) : State :=
  match s.jobAt slot with
  | none => s
  | some j =>
    let s := s.modJob slot (fun j => { j with late := .none, fullSent := false, fullFrom := 0 })
    let s := s.setJobState slot .running
    let s := if j.passWait then s else j.chans.foldl (fun s n => s.armChan slot n skip) s
    ((s.answerStarts j.id).checkStopAt slot).checkEnded slot

/-- The data-late sequence or a resume move fails: STOPPED, with a RESUME entry marked FAILED (05 The backup move faults). -/
def State.failLate (s : State) (slot : Nat) : State :=
  match s.jobAt slot with
  | none => s
  | some j =>
    -- the wait of step 4, the one under way counted to here (05 R201)
    let wait := match j.resumePending with | some w => w.1 | none => if j.late = .waiting then (s.clock - j.waitFrom) / tickUs else 0
    (s.addEntry slot { type := 4, cause := 0, channel := 255, flags := 2, line := j.nStop, count := min wait 0xFFFFFFFF, data := (if j.rereg then 0 else 1) }).enterStopped slot

/-- The job whose data-late sequence or resume move an axis runs; `rereg`: the axis is on the re-register leg. -/
def State.legJob (s : State) (ax : Nat) (rereg : Bool) : Option Nat :=
  (List.range 4).find? (fun j => (s.jobAt j).any (fun x => x.feed = ax && (x.late ≠ .none || x.resumeMove || (rereg && x.resumePending.isSome))))

/-- A stop, stall or limit on an axis ends what it carries: a leg (05 The backup move faults) or a survey move (06 R226). -/
def State.axisInterrupted (s : State) (ax : Nat) (rereg : Bool) : State :=
  let s := match s.legJob ax rereg with
    | some j => s.failLate j
    | none => s
  s.endSurveyOn ax

end Sys2Proof.Machine
end

