-- ==== Sys2Proof/Machine/Firing.lean ====
section
/-! DEFINITION. Preparation points, hand-overs, slots, the fire positions of lines, arming and the data-late legs, Cosy periods (03 R83-R102, 04 R124-R159, 05 R183-R198, 09 R311-R312). -/
namespace Sys2Proof.Machine

/-! ### Frames -/

/-- GROUP_MASK of a slot (03 R89). -/
def groupMask (groups : List Nat) : Word := groups.foldl (fun m g => setBit m g true) 0

/-- Data phase of a group: one nibble a clock (03 R86, R88). -/
def groupNibbles (nozzles : Nat) (codes : List Code) (g : Nat) : List (BitVec 4) :=
  (List.range (nozzles / 64)).map (fun k =>
    BitVec.ofNat 4 ((codes.getD (g + 32 * (2 * k)) 0).toNat + 4 * (codes.getD (g + 32 * (2 * k + 1)) 0).toNat))

/-- The serial frame of a slot: data phase, then eight latch clocks (03 R88, R89). -/
def frameOf (nozzles : Nat) (codes : List Code) (groups : List Nat) : List (BitVec 4) :=
  groups.flatMap (groupNibbles nozzles codes) ++
  (List.range 8).map (fun m => BitVec.ofNat 4 ((groupMask groups).toNat / 16 ^ m))

/-- E_c of a slot: 1 for each small or medium drop, 2 for each large (09 R306). -/
def slotPulses (nozzles : Nat) (codes : List Code) (groups : List Nat) : Nat :=
  groups.foldl (fun a g => (List.range (nozzles / 32)).foldl (fun a k =>
    a + (match (codes.getD (g + 32 * k) 0).toNat with | 0 => 0 | 3 => 2 | _ => 1)) a) 0

/-! ### Hand-over -/

/-- The shadow set without the writes that landed in this clock (04 R143). -/
def Chan.shadowBefore (c : Chan) (clock : Nat) : ShadowSet :=
  match c.recent with
  | some x => if x.1 = clock then x.2.1 else c.shadow
  | none => c.shadow

/-- Shadow writes that landed in this clock. -/
def Chan.writesAt (c : Chan) (clock : Nat) : Nat :=
  match c.recent with
  | some x => if x.1 = clock then x.2.2 else 0
  | none => 0

/-- A commit arms a hand-over; it replaces one that is armed, for the boundaries after this clock (04 R142, R146). -/
def Chan.arm (c : Chan) (a : Arm) (clock : Nat) : Chan :=
  { c with armed := some a, armedAt := clock, fixedSet := none
           earlier := if c.armedAt < clock then c.armed.map (fun x => (x, c.fixedSet)) else c.earlier }

/-- The arm that governs a boundary in a clock: that of the last commit of an earlier clock, with a set fixed for it (04 R142). -/
def Chan.armAt (c : Chan) (clock : Nat) : Option (Arm × Option ShadowSet) :=
  if c.armedAt < clock then c.armed.map (fun x => (x, c.fixedSet)) else c.earlier

/-- The hand-over due at the boundary of a line: the set taken, if a write that armed it landed in an earlier clock (04 R142, R143, R146). -/
def Chan.takenAt (c : Chan) (line clock : Nat) : Option ShadowSet :=
  match c.armAt clock with
  | some (.line l, f) => if l ≤ line then some (f.getD (c.shadowBefore clock)) else none
  | some (_, f) => some (f.getD (c.shadowBefore clock))
  | none => none

/-- A set taken at the preparation point of a line (04 R143); a set that detector 19 fixed leaves the shadow set armed for the next boundary, and a
commit of this clock stays armed. -/
def Chan.takes (c : Chan) (set : ShadowSet) (line clock : Nat) : Chan :=
  if c.armedAt < clock then
    { c with taken := some (set, line, clock), handoverClock := some clock
             armed := if c.fixedSet.isSome then some .next else none, armedAt := clock, fixedSet := none, earlier := none }
  else { c with taken := some (set, line, clock), handoverClock := some clock, earlier := none }

/-- A shadow write that landed in a hand-over (04 R145, R148): COLLIDE, PENDING, source 0x1E, the counter. -/
def State.collides (s : State) (n : Nat) : State :=
  ((s.modChan n (fun c => { c.arm .next s.clock with collide := true })).raise 0x1E).count 19

/-- The hand-over due at the boundary of a line begins: the set is taken, and the writes of this clock collide with it (04 R143, R145). -/
def State.beginHandOver (s : State) (n line : Nat) : State :=
  let c := s.chan n
  match c.takenAt line s.clock with
  | some set => (List.range (c.writesAt s.clock)).foldl (fun s _ => s.collides n) (s.modChan n (fun c => c.takes set line s.clock))
  | none => s

/-- The line trigger of a hand-over has come: the taken set becomes live (04 R143). -/
def Chan.goLive (c : Chan) : Chan :=
  match c.taken with
  | some x => { c with live := x.1, prevSet := some (c.live, x.2.1), handoverLine := x.2.1, taken := none }
  | none => c

/-- A hand-over while idle (04 R147, R139 HANDOVER_LINE).  DESIGN CHOICE (log entry 51): it takes no two clocks, so a shadow write in the clock in which
the set becomes live is an ordinary write, without COLLIDE, PENDING or count (04 R143, R145). -/
def Chan.goIdle (c : Chan) : Chan :=
  { c with live := c.shadow, prevSet := none, handoverLine := 0xFFFFFFFF, armed := none, fixedSet := none, earlier := none }

/-- A hand-over completes on the channel in this clock: the clock after the set was taken, or after an idle COMMIT (04 R143, R147). -/
def Chan.liveDue (c : Chan) (clock : Nat) : Bool := c.taken.any (fun x => decide (x.2.2 < clock))
def Chan.idleDue (c : Chan) (clock : Nat) : Bool := c.armed = some .idle && decide (c.armedAt < clock)

/-- The hand-overs of this clock on a channel, each with source 0x1D (04 R143, R147, R148). -/
def State.handOver (s : State) (n : Nat) : State :=
  let s := if (s.chan n).liveDue s.clock then (s.modChan n Chan.goLive).raise 0x1D else s
  if (s.chan n).idleDue s.clock then (s.modChan n Chan.goIdle).raise 0x1D else s

/-- The hand-overs of this clock. -/
def State.handOvers (s : State) : State :=
  ((List.range 48).filter (fun n => (s.chan n).liveDue s.clock || (s.chan n).idleDue s.clock)).foldl State.handOver s

/-! ### PREPARATION_POINT -/

/-- The slots of a period, planned (03 R98-R100, 04 R135-R137). -/
def Chan.planSlots (c : Chan) (sel : ShadowSet) (k : Comp) (slots : List (List Nat)) (floor : Nat) : List SlotPlan :=
  let tEnd := c.periodEnd sel k slots
  (slots.zip (c.lengths slots tEnd floor 0)).map (fun x =>
    let t := c.trains sel k x.1
    { groups := x.1, fireA := t.1, fireB := t.2, len := x.2 })

/-- A preparation point may come: a packed line, and no slot of the previous period still to begin (03 R99). -/
def Chan.mayPrepare (c : Chan) : Bool :=
  c.packed.isSome && c.prepared.isNone &&
  (match c.firing with
   | some f => f.period.cosy || decide (f.period.plan.length ≤ f.slot + 1)
   | none => true)

/-- The selections that govern the brew tables of a line: a set taken at its boundary already (04 R143, R144). -/
def Chan.selFor (c : Chan) (line : Nat) : ShadowSet :=
  match c.taken with
  | some x => if x.2.1 ≤ line then x.1 else c.live
  | none => c.live

/-- The packed line prepared (03 R97-R100, 04 R135-R138, R143): G_EFF, rotation and slots, T_END, the compensation, the shift of slot 0. -/
def Chan.prepare (c : Chan) (f : FifoLine) (codes : List Code) (tHead : Int) (clock : Nat) : Chan :=
  let sel := c.selFor f.line
  let rot := c.rotation c.live.rot
  let g := c.gEffAt rot c.applied
  let slots := rot.derived g
  let k := Comp.at tHead
  let plan := c.planSlots sel k slots (tFloor c.applied c.rateMax slots.length)
  let first := match slots with | g :: _ => g | [] => []
  let p : Period := { line := f.line, raw := f.codes, plan := plan, codes := codes, quiet := c.dry, held := c.hold, due := c.dueEarly
                      since := clock, cosy := false }
  { c with
    packed := none, prepared := some p, dueEarly := 0, boundary := some (max f.line (c.boundary.getD 0))
    sEff := slots.length, gEff := g, comp := k.of (c.small sel.brewS) first, levelSeen := c.applied
    frame := frameOf c.nozzles (if c.hold then [] else codes) first, latClocks := 8, ioStopAt := none }

/-- PREPARATION_POINT (03 R99, 04 R137, R143, 05 R161): hand-over, plan, shift of slot 0, the packing pass of the next line.  `bad` are the
uncorrectable words that the packing pass meets (10 R323). -/
def execPreparationPoint (ch : Fin 48) (bad : BadWords Nat) (s : State) : Host.Outcome State Fault Refusal :=
  let n := ch.val
  match s.jobOf n with
  | none => .next s
  | some slot =>
    match s.jobAt slot with
    | none => .next s
    | some j =>
      let c := s.chan n
      if !s.inRun || j.state ≠ .running || !c.mayPrepare || s.shutdownLatched n || c.shutAtSlot ≠ 0 || s.pwr.blockHeld.getLsbD (n / 4) then .next s
      else
        match c.packed with
        | none => .next s
        | some (f, codes) =>
          let s := (s.beginHandOver n f.line).modChan n (fun c => c.prepare f codes (s.headSensor n).shown s.clock)
          let s := (s.lineBankErrors (n / 4) bad).packLine slot n (f.line + 1) bad.words
          -- a line skipped here may have been the last one left (05 R189, R191, R198)
          .next (if (s.chan n).packed.isSome then s else (s.checkStopAt slot).checkEnded slot)

/-! ### Fire positions -/

/-- The lowest channel of a job in RUNNING. -/
def State.lowestRunningChan (s : State) : Option Nat :=
  (List.range 48).find? (fun n => match s.jobOf n with
    | some j => (s.jobAt j).any (fun x => x.state = .running)
    | none => false)

/-- The channel leaves its next line without firing it, and packs the line after it (04 R151, 02 R78).  DEDUCED (log entry 39): a line skipped ahead has
no preparation point, so the packing pass of the line after it begins when its fire position is reached. -/
def State.passOver (s : State) (slot n line : Nat) : State :=
  let s := s.modFifo slot n (fun c => { c.leftLine line with
    nextLine := line + 1, dueEarly := 0, heldMiss := none
    prepared := c.prepared.filter (fun p => p.line ≠ line), packed := c.packed.filter (fun x => x.1.line ≠ line)
    fifo := c.fifo.filter (fun f => f.line ≠ line), gone := c.gone.filter (fun l => l ≠ line) })
  let s := (s.composeFrom slot n (line + 1)).composeOn slot n
  ((s.packLine slot n (line + 1) []).checkStopAt slot).checkEnded slot

/-- After a line has begun: the lines skipped ahead whose fire position is passed already are passed over, and the line after them is packed (04 R151). -/
def State.passGone (s : State) (slot n : Nat) : Nat → State
  | 0 => s
  | k + 1 =>
    match s.jobAt slot with
    | none => s
    | some j =>
      let line := (s.chan n).nextLine
      if (s.chan n).gone.contains line && j.reached (s.chanPosition n) (s.slotPos j n line 0 1) then (s.passOver slot n line).passGone slot n k
      else s

/-- The fire position of the line after a line that is due and has not begun is reached: that line is suppressed (04 R150, R151). -/
def State.overtaken (s : State) (slot n line : Nat) : State :=
  match s.jobAt slot with
  | none => s
  | some j =>
    if j.beyond line || !s.reaches j n (s.slotPos j n line 0 1) then s
    else
      -- a shot of detector 21 that meets the suppression is the same detection (15 R456)
      let s := if s.lowestRunningChan = some n then (s.detect 21 true).2 else s
      ((s.lineDone slot n line (.skipped 2)).count 21).dropLine slot n line

/-- A hand-over at the line lowered the stitch delay by more than one slot of the line before it, whose last slot then began beyond the fire position
(04 A hand-over lowers the stitch delay by more than one slot). -/
def Chan.stitchBack (c : Chan) (line : Nat) : Bool :=
  match c.firing with
  | some f =>
    let dropped := fun (old new : Nat) => decide (16 < (old - new) * f.period.plan.length)
    !f.period.cosy && f.period.line + 1 = line &&
    (c.taken.any (fun x => x.2.1 = line && dropped c.live.stitch x.1.stitch) || c.prevSet.any (fun x => x.2 = line && dropped x.1.stitch c.live.stitch))
  | none => false

/-- FIRE_POSITION_REACHED (04 R129, R150, R151): the next line is on time, late or suppressed. -/
def execFirePositionReached (ch : Fin 48) (s : State) : Host.Outcome State Fault Refusal :=
  let n := ch.val
  match s.jobOf n with
  | none => .next s
  | some slot =>
    match s.jobAt slot with
    | none => .next s
    | some j =>
      let c := s.chan n
      let line := c.nextLine
      let dueAlready := c.dueEarly ≠ 0 || (match c.prepared with | some p => p.due ≠ 0 | none => false)
      if !s.inRun || j.state ≠ .running || j.passWait || s.shutdownLatched n || c.shutAtSlot ≠ 0 then .next s
      else if dueAlready then .next (s.overtaken slot n (c.following (line + 1)))
      else if j.beyond line || !s.reaches j n (s.slotPos j n line 0 1) then .next s
      else if c.gone.contains line then .next (s.passOver slot n line)
      else if (c.hold || c.heldMiss = some line) && c.prepared.isNone && c.packed.isNone then
        .next ((s.lineDone slot n line (.skipped 3)).passOver slot n line)
      else
        let begun := !c.stitchBack line && (match c.firing with | some f => f.period.cosy || decide (f.period.plan.length ≤ f.slot + 1) | none => true)
        let lowest := s.lowestRunningChan = some n
        let d21 := if lowest then s.detect 21 (!begun) else (!begun, s)
        if d21.1 then
          let s := d21.2.count 21
          .next ((s.lineDone slot n line (.skipped 2)).passOver slot n line)
        else
          let lateReal := c.inPeriod.isSome
          let d20 := if lowest then d21.2.detect 20 lateReal else (lateReal, d21.2)
          let s := if d20.1 then d20.2.count 20 else d20.2
          let due := if d20.1 then 2 else 1
          let first := match c.prepared with | some p => (match p.plan with | x :: _ => x.len | [] => 0) | none => 0
          .next (s.modChan n (fun c => { c with
            lateUntil := (if d20.1 && !lateReal then s.clock + first else c.lateUntil)
            prepared := (match c.prepared with | some p => some { p with due := due } | none => none)
            dueEarly := (if c.prepared.isSome then 0 else due) }))

/-- LINE_TRIGGER (04 R126): the position of a running job has reached the position of its next line.  DESIGN CHOICE (log entry 47): a position passed
again after a data-late backup pulses no second time. -/
def execLineTrigger (j : Fin 4) (s : State) : Host.Outcome State Fault Refusal :=
  match s.jobAt j.val with
  | none => .next s
  | some x =>
    let pos := x.start + ((x.column x.trigLine * x.pitch : Nat) : Int) / 65536
    if s.inRun && x.state = .running && !x.passWait && (x.lines = 0 || decide (x.trigLine < x.lines)) && x.reached (s.chanPosition x.firstCh) pos then
      .next ((s.modJob j.val (fun x => { x with trigLine := x.trigLine + 1 })).raise 0x10)
    else .next s

/-! ### Slots -/

/-- Slot k of a period begins (03 R90-R93, R101): pulses only through an open gate, on a channel neither dry nor held. -/
def State.beginSlot (s : State) (n : Nat) (p : Period) (k : Nat) : State :=
  match p.plan[k]? with
  | none => s
  | some x =>
    let fires := s.gateOpen && !p.quiet && !p.held
    let c := s.chan n
    let next := match p.plan[k + 1]? with
      | some y => frameOf c.nozzles (if p.held then [] else p.codes) y.groups
      | none => c.frame
    s.modChan n (fun c => { c with
      firing := some { period := p, slot := k, start := s.clock, ended := false, mask := groupMask x.groups
                       fireA := if fires then x.fireA else [], fireB := if fires then x.fireB else [] }
      frame := next, latClocks := if next = [] then 0 else 8, ioStopAt := none
      pulses := if fires then c.pulses + slotPulses c.nozzles p.codes x.groups else c.pulses })

/-- The RESUME entry and source 0x3F at the first slot 0 after a re-registration (05 R194 step 5, R201). -/
def State.noteResume (s : State) (slot : Nat) : State :=
  match s.jobAt slot with
  | none => s
  | some j =>
    match j.resumePending with
    | none => s
    | some (wait, data) =>
      let s := s.modJob slot (fun j => { j with resumePending := none, resumes := (if data = 0 then j.resumes + 1 else j.resumes) })
      ((s.addEntry slot { type := 4, cause := 0, channel := 255, flags := 0, line := j.nStop, count := min wait 0xFFFFFFFF, data := data }).raise
        0x3F).writeHeader slot

/-- The channel is under survey (06 R210). -/
def State.underSurvey (s : State) (n : Nat) : Bool := s.health.run.any (fun r => r.channels.getLsbD n)

/-- Cosy periods may fire on a channel (09 R312). -/
def State.cosyAllowed (s : State) (n : Nat) : Bool :=
  let c := s.chan n
  let inJob := match s.jobOf n with | some j => (s.jobAt j).any (fun x => x.state = .running) | none => false
  c.cosy && !inJob && !s.underSurvey n && !c.hold && !s.shutdownLatched n && !c.dry && s.gateOpen && !s.pwr.blockHeld.getLsbD (n / 4)

/-- Cosy firing ends on a channel: nothing is driven, unless a line is prepared there, whose data stand ready (09 R312). -/
def Chan.endCosy (c : Chan) : Chan :=
  let c := { c with firing := none, shutAtSlot := 0 }
  if c.prepared.isSome then c else c.stopIo

/-- A Cosy period between two slots stops where Cosy may no longer fire (09 R312). -/
def State.cosyStop (s : State) (n : Nat) : State :=
  if !s.cosyAllowed n && (s.chan n).firing.any (fun f => f.period.cosy && f.ended) then s.modChan n Chan.endCosy else s

/-- The next slot of a Cosy period, once the slot before it has had its length (03 R101, 09 R311). -/
def State.cosySlot (s : State) (n : Nat) (f : Firing) : State :=
  let len := match f.period.plan[f.slot]? with | some x => x.len | none => 0
  if s.cosyAllowed n && decide (f.slot + 1 < f.period.plan.length) && decide (f.start + len ≤ s.clock) then s.beginSlot n f.period (f.slot + 1) else s

/-- SLOT_START (03 R101, 04 R129): slot 0 of a line that is due, the next slot of the line being fired, or of a Cosy period.  DESIGN CHOICE (log entry 51):
a line prepared under FIRE_HOLD and released before its slot 0 drives its pulses, the frame of that slot stays that of zero codes, and the line counts as
fired (02 R77, 03 R91).  DEDUCED (log entry 51): slot 0 waits for its fire
instant alone, position and the end of the slot before (04 R129), and not for its T_SHIFT on a channel that was idle. -/
def execSlotStart (ch : Fin 48) (s : State) : Host.Outcome State Fault Refusal :=
  let n := ch.val
  let s := s.cosyStop n
  match (s.chan n).firing.filter (fun f => f.period.cosy && (!f.ended || decide (f.slot + 1 < f.period.plan.length))) with
  | some f => .next (s.cosySlot n f)
  | none =>
  match s.jobOf n with
  | none => .next s
  | some slot =>
    match s.jobAt slot with
    | none => .next s
    | some j =>
      let c := s.chan n
      if !s.inRun || c.shutAtSlot ≠ 0 || s.shutdownLatched n || s.pwr.blockHeld.getLsbD (n / 4) then .next s
      else
        match c.inPeriod with
        | some p =>
          match c.firing with
          | none => .next s
          | some f =>
            let len := match p.plan[f.slot]? with | some x => x.len | none => 0
            if f.slot + 1 < p.plan.length && decide (f.start + len ≤ s.clock) &&
                j.reached (s.chanPosition n) (s.slotPos j n p.line (f.slot + 1) p.plan.length) then
              .next (s.beginSlot n p (f.slot + 1))
            else .next s
        | none =>
          match c.prepared with
          | none => .next s
          | some p =>
            if p.due = 0 || j.state ≠ .running || decide (s.clock < c.lateUntil) || decide (s.clock ≤ p.since) then .next s
            else
              let p := { p with held := c.hold }
              let s := s.modChan n (fun c => { c with
                prepared := none, nextLine := p.line + 1, lastLine := p.line, lastTrig := s.timebase, lateUntil := 0 })
              .next (((s.beginSlot n p 0).noteResume slot).passGone slot n c.gone.length)

/-- A slot of a Cosy period ends; Cosy firing stops here when it is no longer allowed (09 R312) or the head is shut down (04 R156). -/
def State.cosyEnd (s : State) (n : Nat) (f : Firing) : State :=
  let len := match f.period.plan[f.slot]? with | some x => x.len | none => 0
  if f.ended || decide (s.clock < f.start + len) then s
  else if s.cosyAllowed n && (s.chan n).shutAtSlot = 0 && decide (f.slot + 1 < f.period.plan.length) then
    s.modChan n (fun c => { c with firing := some { f with ended := true, fireA := [], fireB := [] } })
  else s.modChan n Chan.endCosy

/-- The slot boundary after a trip has come: head I/O stops (03 R112). -/
def State.ioStopDue (s : State) (n : Nat) : State := if (s.chan n).ioStopAt.any (fun t => decide (t ≤ s.clock)) then s.modChan n Chan.stopIo else s

/-- SLOT_END (03 R100, R112, 04 R150, R156, 05 R191, R199): the slot ends; its line may be complete; a shutdown or a trip stops the channel here. -/
def execSlotEnd (ch : Fin 48) (s : State) : Host.Outcome State Fault Refusal :=
  let n := ch.val
  match (s.chan n).firing.filter (fun f => f.period.cosy) with
  | some f => .next (if s.inRun then s.cosyEnd n f else s)
  | none =>
  match s.jobOf n with
  | none =>
    -- the job was closed while its last slot ran
    .next (match (s.chan n).firing with
      | some _ => s.modChan n (fun c => { c with firing := none, shutAtSlot := 0 }.stopIo)
      | none => s.ioStopDue n)
  | some slot =>
    let c := s.chan n
    match c.firing with
    | none => .next (s.ioStopDue n)
    | some f =>
      if !s.inRun || f.ended || decide (s.clock < f.start + c.slotLength f) then .next s
      else
        let last := decide (f.period.plan.length ≤ f.slot + 1)
        let s := s.modChan n (fun c => { c with firing := some { f with ended := true, fireA := [], fireB := [] } })
        let s :=
          if last then
            let s := s.lineDone slot n f.period.line (if f.period.held then .skipped 3 else if f.period.quiet then .dry else .fired)
            s.modChan n (fun c => c.leftLine f.period.line)
          else s
        let s :=
          if c.shutAtSlot = 0 then s
          else
            let s := if last then s else s.cutLine slot n c.shutAtSlot
            s.modChan n (fun c => { c with firing := none, shutAtSlot := 0 }.stopIo)
        .next (((s.checkStopAt slot).checkEnded slot).answerStops slot)

/-! ### Arming -/

/-- Temperatures in 0.1 °C: 15.0 °C (09 R314). -/
def coldLimit : Rat := 150

/-- An attached head is below 15 °C; a channel without a head is not measured (09 R292, R314; log entry 5). -/
def State.coldHead (s : State) (n : Nat) : Bool := (s.chan n).attached && decide ((s.headSensor n).value < coldLimit)

/-- A Cosy channel has reached its target (09 R313). -/
def State.cosyReached (s : State) (n : Nat) : Bool := decide (((s.chan n).cosyTarget : Rat) - 10 ≤ (s.headSensor n).value)

/-- The Cosy wait of a job is met (05 R190, 09 R314). -/
def State.cosyMet (s : State) (j : Job) : Bool :=
  !j.waitCosy || j.chans.all (fun n =>
    if (s.chan n).cosy then s.cosyReached n else decide (coldLimit ≤ (s.headSensor n).value))

/-- M = 95 × PITCH (05 R194). -/
def Job.margin (j : Job) : Rat := (95 * j.pitch : Nat) / (65536 : Rat)

/-- The axis stands on a leg: its plan has run out. -/
def Axis.atRest (a : Axis) : Bool := a.segs = [] && a.speed = 0

/-- The re-register leg: to v'_R, then constant to X_T (07 R257); after a resume the axis goes on at v'_R as a velocity move (R259).  DESIGN CHOICE (log
entry 52): a sequence that began with v_R = 0 runs its legs too, and this one then stands. -/
def State.startRereg (s : State) (slot : Nat) (resume : Bool) : State :=
  match s.jobAt slot with
  | none => s
  | some j =>
    if j.feed < 8 then
      let lim := s.feedLimit j.feed
      s.modAxis j.feed (fun a =>
        let a := { a with leg := .rereg, legX := j.xT, legV := j.vR, state := .moving, vLim := lim }
        let v := a.velTarget j.vR
        ({ a with saved := if resume then a.saved.map (fun (m : Move) => { m with goal := .vel v, v := v.floor.natAbs }) else a.saved }).planRereg)
    else s

/-- JOB_ARMED (05 R190, R192): full FIFOs, the Cosy wait, and the backup of a resume done.  DESIGN CHOICE (log entry 51): the RESUME entry with DATA 1 has
COUNT 0, as R201 gives only the wait of step 4 of a data-late sequence. -/
def execJobArmed (j : Fin 4) (s : State) : Host.Outcome State Fault Refusal :=
  match s.jobAt j.val with
  | none => .next s
  | some x =>
    let moved := !x.resumeMove || ((s.axis x.feed).leg = .backup && (s.axis x.feed).atRest)
    if s.inRun && x.state = .arming && s.fifosFull x && s.cosyMet x && moved && s.stepMade && !s.pe.stalled then
      let s := s.modJob j.val (fun x => { x with resumeMove := false, resumePending := (if x.resumeMove then some (0, 1) else x.resumePending) })
      let s := s.armJob j.val true
      .next (if x.resumeMove then s.startRereg j.val true else s)
    else .next s

/-- SHUTTLE_PASS_ARM (05 R183): the pass that waits, once the position lies before line 0 in its direction. -/
def execShuttlePassArm (j : Fin 4) (s : State) : Host.Outcome State Fault Refusal :=
  match s.jobAt j.val with
  | none => .next s
  | some x =>
    let before := x.chans.all (fun n =>
      let p := s.chanPosition n
      let f := s.slotPos x n 0 0 1
      if x.reverse then decide (f < p) else decide (p < f))
    if s.inRun && x.state = .running && x.passWait && before then
      let s := s.modJob j.val (fun x => { x with passWait := false })
      .next (((x.chans.foldl (fun s n => s.armChan j.val n false) s).checkStopAt j.val).checkEnded j.val)
    else .next s

/-! ### The legs of the data-late sequence -/

/-- The distance that the profile needs to reach v_R from standstill (05 R194 step 3). -/
def Axis.reach (a : Axis) (v : Rat) : Rat :=
  changeDistance 0 v (changeUpdates a.legMove.prof v a.legMove.a a.legMove.j)

/-- X_B from the position the leg refers to (05 R192, R194).  DESIGN CHOICE (log entry 52): rounded down to a whole position unit. -/
def State.backupTarget (s : State) (j : Job) (x : Int) (v : Rat) : Int :=
  ((x : Rat) - (s.axis j.feed).reach v - j.margin).floor

/-- The backup move: an absolute move to X_B with V = v_R (07 R257, R259); a limit that stopped the web shows its FAULT (R250). -/
def State.startBackup (s : State) (slot : Nat) (x : Int) (v : Rat) : State :=
  match s.jobAt slot with
  | none => s
  | some j =>
    let t := s.backupTarget j x v
    s.modAxis j.feed (fun a => ({ a with
      leg := .backup, legX := t, legV := v, state := .moving, fault := (if a.stopFault = 0 then a.fault else a.stopFault), stopFault := 0 }).planBackup false)

/-- LATE_WEB_STOPPED (05 R194 step 3): the feed stands at X_S and the backup begins. -/
def execLateWebStopped (j : Fin 4) (s : State) : Host.Outcome State Fault Refusal :=
  match s.jobAt j.val with
  | none => .next s
  | some x =>
    let a := s.axis x.feed
    if s.inRun && x.state = .late && x.late = .stopping && a.leg = .stopWeb && a.atRest then
      .next ((s.startBackup j.val x.xT x.vR).modJob j.val (fun x => { x with late := .backing }))
    else .next s

/-- LATE_BACKUP_DONE (05 R194 step 4): the feed stands at X_B and the wait begins. -/
def execLateBackupDone (j : Fin 4) (s : State) : Host.Outcome State Fault Refusal :=
  match s.jobAt j.val with
  | none => .next s
  | some x =>
    let a := s.axis x.feed
    if s.inRun && x.state = .late && x.late = .backing && a.leg = .backup && a.atRest then
      .next (s.modJob j.val (fun x => { x with late := .waiting, waitFrom := s.clock }))
    else .next s

/-- The master holds FIFOs-full from every device that has the job, reachable or not (12 R393). -/
def State.ringFull (s : State) (j : Job) : Bool := s.link.id ≠ some 0 || j.ringDevs &&& ~~~ j.fullFrom = 0

/-- The job of a sequence arms and re-registers (05 R194 step 5); the master tells the ring first (12 R393). -/
def State.reregister (s : State) (slot : Nat) : State :=
  match s.jobAt slot with
  | none => s
  | some j =>
    let wait := (s.clock - j.waitFrom) / tickUs
    let s := if j.feed < 8 && s.link.id = some 0 then s.sendNewPkt 0xFF 3 (signalBody 3 j.id j.nStop) else s
    let s := s.modJob slot (fun j => { j with resumePending := some (wait, 0) })
    (s.armJob slot false).startRereg slot false

/-- LATE_REREGISTER (05 R194 steps 4 and 5, 12 R393): full FIFOs; a ring-fed device reports them to the master.  DESIGN CHOICE (log entry 18): the wait in
its RESUME entry counts from that report to the arm signal (05 R201). -/
def execLateReregister (j : Fin 4) (s : State) : Host.Outcome State Fault Refusal :=
  match s.jobAt j.val with
  | none => .next s
  | some x =>
    if !s.inRun || x.state ≠ .late || !s.fifosFull x then .next s
    else if x.feed < 8 then
      if x.late = .waiting && s.ringFull x && s.stepMade then .next (s.reregister j.val) else .next s
    else if x.fullSent then .next s
    else .next ((s.modJob j.val (fun x => { x with fullSent := true, waitFrom := s.clock })).sendNewPkt 0 3 (signalBody 2 x.id x.nStop))

/-! ### Cosy -/

/-- A Cosy period prepared (09 R311): an ordinary fire period of the live rotation and the applied level, every code 0b01, FIREA from small table 7. -/
def Chan.cosyPeriod (c : Chan) (tHead : Int) (clock : Nat) : Chan × Period :=
  let rot := c.rotation c.live.rot
  let g := c.gEffAt rot c.applied
  let slots := rot.derived g
  let b := c.small 7
  let trains := slots.map (fun g => (g, union ((b.pulseA.take b.na).map (pulseOf (b.correction tHead g)))))
  let tEnd := trains.foldl (fun m x => max m (lastFall x.2 [])) 0
  let plan : List SlotPlan := (trains.zip (c.lengths slots tEnd (tFloor c.applied c.rateMax slots.length) 0)).map (fun x =>
    { groups := x.1.1, fireA := x.1.2, fireB := [], len := x.2 })
  let first := match slots with | g :: _ => g | [] => []
  ({ c with sEff := slots.length, gEff := g, comp := b.correction tHead first, levelSeen := c.applied },
   { line := 0, raw := [], plan := plan, codes := List.replicate c.nozzles 1, quiet := false, held := false, due := 1, since := clock, cosy := true })

/-- COSY_PERIOD (09 R311, R312): a fire period of sub-ejection pulses begins, at most 16,000 a second, while the head warms; its slots follow as
those of a line do. -/
def execCosyPeriod (ch : Fin 48) (s : State) : Host.Outcome State Fault Refusal :=
  let n := ch.val
  let c := s.chan n
  let warm := c.warmBy (s.headSensor n).value
  let busy := c.inPeriod.isSome || c.firing.any (fun f => f.period.cosy)
  let soon := match c.cosyAt with | some t => decide (s.clock < t + 25000) | none => false
  if !s.cosyAllowed n || busy || soon then .next s
  else if !warm then .next (s.modChan n (fun c => { c with warming := false }))
  else
    let q := c.cosyPeriod (s.headSensor n).shown s.clock
    .next ((s.modChan n (fun _ => { q.1 with warming := true, cosyAt := some s.clock })).beginSlot n q.2 0)

end Sys2Proof.Machine
end

