-- ==== Sys2Proof/Machine/Motion.lean ====
section
/-! DEFINITION. Axes: trajectory updates, stops, limits, stall, homing, and the motion opcodes (07). -/
namespace Sys2Proof.Machine

/-! ### Replies of Kettle -/

/-- A final reply of Kettle with parameters. -/
def State.answer (s : State) (p : Packet) (src : Source) (st : BitVec 16) (params : Bytes) : State := s.reply true p src st params

/-- A refusal or a plain OK. -/
def State.say (s : State) (p : Packet) (src : Source) (st : BitVec 16) : State := s.reply true p src st []

/-! ### Replies owed for axes -/

/-- Axis n has reached its target or speed, or stands: the move and resume replies (07 R249, R260). -/
def State.axisSettled (s : State) (n : Nat) : State :=
  let s := s.finishOps (fun (p : PendOp) => match p.kind with | .moveAbs k => k = n | .moveVel k => k = n | _ => false) (fun _ => (stOK, []))
  let s := { s with pe := { s.pe with ops := s.pe.ops.map (fun (p : PendOp) => match p.kind with
    | .axisResume m => { p with kind := .axisResume (setBit m n false) }
    | _ => p) } }
  s.finishOps (fun (p : PendOp) => match p.kind with | .axisResume m => m = 0 | _ => false) (fun _ => (stOK, []))

/-- REMAINING of the selected axes, 0 for the others (02 R76 AXIS_STOP). -/
def State.remainings (s : State) (m : BitVec 8) : Bytes :=
  (List.range 8).flatMap (fun k => toLeS 8 (if m.getLsbD k then (s.axis k).remainingNow else 0))

/-- AXIS_STOP replies whose axes all stand (07 R248). -/
def State.answerAxisStops (s : State) : State :=
  s.finishOps (fun (p : PendOp) => match p.kind with
      | .axisStop m => (List.range 8).all (fun k => !m.getLsbD k || (s.axis k).standing)
      | _ => false)
    (fun (p : PendOp) => match p.kind with | .axisStop m => (stOK, s.remainings m) | _ => (stOK, []))

/-- An axis stands: every reply that waits for it. -/
def State.axisStood (s : State) (n : Nat) : State := (s.axisSettled n).answerAxisStops

/-! ### Homing -/

/-- Direction of a homing. -/
def HomeRun.sign (h : HomeRun) : Int := if h.dir = 0 then -1 else 1

/-- A homing ends (07 R253, R254): state, fault, coordinates, reply, source.  INDEX of a homing that latched none is a free value. -/
def State.finishHome (s : State) (n : Nat) (h : HomeRun) : State :=
  let fault := if h.result = 1 then 3 else if h.result = 2 then 4 else if h.result = 3 then 1 else 0
  let s := s.modAxis n (fun a => { a with
    homing := none, state := (if fault = 0 then .idle else .fault), fault := fault, segs := [], speed := 0, move := none, remaining := 0
    commanded := (if h.result = 0 then a.commanded - h.index * 65536 else a.commanded)
    encAt := (if h.result = 0 then a.encAt - h.index else a.encAt) })
  let s := if h.result = 0 then s.modEncoder n (fun e => { e with base := e.base + h.index }) else s
  let d := if h.result = 0 then (h.index, s) else (let r := s.draw; ((r.1 : Int), r.2))
  let s := if h.result = 0 then d.2.raise (0x28 + n) else d.2
  let s := s.finishOps (fun (p : PendOp) => match p.kind with | .home k => k = n | _ => false)
    (fun _ => (stOK, toLe 4 h.result ++ toLeS 8 d.1))
  s.axisStood n

/-- A velocity span of a homing (07 R252). -/
def Axis.homeVel (a : Axis) (v : Int) : Axis := a.planVel 0 a.aMax a.jMax v

/-- The point at which the back-off ends: BACKOFF beyond the one at which the switch qualified inactive (07 R252). -/
def HomeRun.backTo (h : HomeRun) : Int := h.mark - h.sign * h.backoff

/-- The rest of the back-off planned. -/
def Axis.planBackOff (a : Axis) (h : HomeRun) : Axis :=
  { (a.planAbs { goal := .abs h.backTo, prof := 0, v := h.vFast, a := a.aMax, j := a.jMax } h.backTo false) with homing := some { h with phase := 7 } }

/-- The homing goes on when a phase has come to rest (07 R252); a back-off that ran past its end comes back to it. -/
def Axis.homeRest (a : Axis) (h : HomeRun) : Axis :=
  if h.phase = 6 then { (a.homeVel (-h.sign * h.vFast)) with homing := some { h with phase := 2 } }
  else if h.phase = 7 then
    if a.commanded = h.backTo * 65536 then { (a.homeVel (h.sign * h.vSlow)) with homing := some { h with phase := 3 } } else a.planBackOff h
  else a

/-- The homing decelerates to its end with a result. -/
def Axis.homeEnd (a : Axis) (h : HomeRun) (result : Nat) (index : Int) : Axis :=
  { (a.homeVel 0) with homing := some { h with phase := 5, result := result, index := index }, stopA := a.aMax }

/-- A limit or chatter ends a homing in whichever phase (07 R253); the last deceleration at A_MAX goes on.  DEDUCED (log entry 52): the first of the two
stands. -/
def Axis.homeFails (a : Axis) (h : HomeRun) (result : Nat) : Axis :=
  if h.phase = 5 && decide (a.aMax ≤ a.stopA) then { a with homing := some { h with result := result, index := 0 } } else a.homeEnd h result 0

/-- A limit or chatter has ended the homing already. -/
def HomeRun.failed (h : HomeRun) : Bool := h.phase = 5 && (h.result = 1 || h.result = 2)

/-! ### TRAJECTORY_UPDATE -/

/-- A speed that the plan reaches exceeds the limit (07 R244). -/
def Axis.overLimit (a : Axis) : Bool :=
  match a.vLim with
  | some l => a.segs.any (fun g => decide (l < rabs g.v1))
  | none => false

/-- The limit has risen above one that held the plan's peak down (07 R244). -/
def Axis.limitLifts (a : Axis) (lim : Option Rat) : Bool :=
  a.limited && (match a.vLim, lim with | some l, some n => decide (l < n) | some _, none => true | none, _ => false)

/-- A change of the speed limit replans a move or a leg that it bears on (07 R244). -/
def Axis.limitTo (a : Axis) (lim : Option Rat) : Axis :=
  if a.vLim = lim then a
  else
    let b := { a with vLim := lim }
    let again := b.overLimit || a.limitLifts lim
    match a.state, a.leg, a.move with
    | .moving, .backup, _ => if again then b.planBackup a.inFinal else b
    | .moving, .rereg, _ => if a.velTarget a.legV = b.velTarget a.legV then b else b.planRereg
    | .moving, .none, some m =>
      (match m.goal with
       | .abs _ => if again then b.plan m a.inFinal else b
       | .vel v => if a.velTarget v = b.velTarget v then b else b.plan m false)
    | _, _, _ => b

/-- The interrupted move carries on at X_T (07 R257). -/
def Axis.leaveLeg (a : Axis) : Axis :=
  match a.leg with
  | .rereg =>
    if a.legX * 65536 ≤ a.commanded then
      match a.saved with
      | some m => { a with leg := .none, saved := none, move := some m }.plan m a.legFinal
      | none => { a with leg := .none }
    else a
  | _ => a

/-- An absolute move that could not stop in its distance is planned again from standstill (07 R241). -/
def Axis.replanAtRest (a : Axis) : Axis :=
  match a.state, a.leg, a.move with
  | .moving, .backup, _ => if a.atRest && decide (a.commanded ≠ a.legX * 65536) then a.planBackup false else a
  | .moving, .none, some m =>
    (match m.goal with
     | .abs t => if a.atRest && decide (a.commanded ≠ t * 65536) then a.plan m false else a
     | .vel _ => a)
  | _, _, _ => a

/-- Phases of a homing at an update (07 R252): rest, and phase 4 without an index. -/
def Axis.homeStep (a : Axis) : Axis :=
  match a.homing with
  | some h =>
    if a.atRest && (h.phase = 6 || h.phase = 7) then a.homeRest h
    else if h.phase = 4 && decide (h.backoff ≤ (a.pos - h.mark).natAbs) then a.homeEnd h 4 0
    else a
  | none => a

/-- The deviation of MODE 1 exceeds WINDOW (07 R251). -/
def State.deviates (s : State) (n : Nat) : Bool :=
  let a := s.axis n
  a.configured && a.mode = 1 && a.window ≠ 0 && decide (a.window * 65536 < (a.commanded - (s.encoder n).counted * 65536).natAbs)

/-- A stall (07 R251, R253): steps stop at once, COMMANDED takes ENCODER.  DESIGN CHOICE (log entry 52): an idle axis that stalls has no move, so its
REMAINING is 0 and AXIS_RESUME and KINEMATICS_SET answer BAD_STATE. -/
def State.stall (s : State) (n : Nat) : State :=
  let enc := (s.encoder n).counted
  let a := s.axis n
  let s := (s.count 36).raise (0x30 + n)
  match a.homing with
  | some h => ((s.modAxis n (fun a => { a with commanded := enc * 65536, segs := [], speed := 0 })).finishHome n { h with result := 3 }).endSurveyOn n
  | none =>
    let m := match a.state, a.saved with
      | .idle, _ => none
      | _, some m => some m
      | _, none => a.move
    let rem : Int := match m with
      | some m => (match m.goal with | .abs t => t - enc | .vel _ => 0)
      | none => 0
    let s := s.modAxis n (fun a => { a with
      commanded := enc * 65536, segs := [], speed := 0, state := .fault, fault := 1, move := m, saved := none, leg := .none, remaining := rem })
    (s.axisInterrupted n (a.leg = .rereg)).axisStood n

/-- A leg at rest whose sequence is over: STATE 3, or 5 after a fault, with the interrupted move (07 R258). -/
def State.legOver (s : State) (n : Nat) : State :=
  let a := s.axis n
  if (a.leg = .stopWeb || a.leg = .backup) && a.atRest && a.state = .moving && (s.legJob n false).isNone then
    (s.modAxis n (fun a => { a with
      state := (if a.stopFault = 0 && a.fault = 0 then .stopped else .fault), fault := (if a.stopFault = 0 then a.fault else a.stopFault), stopFault := 0
      leg := .none, remaining := a.remainingNow, saved := none
      move := (match a.saved with | some m => some m | none => a.move) })).axisStood n
  else s

/-- One update of an axis. -/
def State.updateAxis (s : State) (n : Nat) : State :=
  let s := s.modAxis n (fun a => { a with encAt := (s.encoder n).counted })
  let a := s.axis n
  if !a.configured || a.mode = 2 then s
  else
    let lim := s.feedLimit n
    let s := s.modAxis n (fun a => ((((a.limitTo lim).advance).leaveLeg).replanAtRest).homeStep)
    let s := s.legOver n
    -- detector 36: the lowest axis in MODE 1 with a WINDOW (15 R452)
    let lowest := (List.range 8).find? (fun k => (s.axis k).configured && (s.axis k).mode = 1 && (s.axis k).window ≠ 0)
    let d := if lowest = some n then s.detect 36 (s.deviates n) else (s.deviates n, s)
    if d.1 then d.2.stall n else d.2

/-- TRAJECTORY_UPDATE (07 R236): every axis of a motion engine. -/
def execTrajectoryUpdate (me : Fin 2) (s : State) : Host.Outcome State Fault Refusal :=
  if !s.inRun || s.pwr.blockHeld.getLsbD (12 + me.val) then .next s
  else .next ((List.range 4).foldl (fun s k => s.updateAxis (4 * me.val + k)) s)

/-- MOVE_DONE (07 R260): TARGET or the speed reached.  DESIGN CHOICE (log entry 52): a velocity move that V_LIM holds below its V has reached its speed
there; an axis of an AXIS_RESUME pulses at its own goal. -/
def execMoveDone (ax : Fin 8) (s : State) : Host.Outcome State Fault Refusal :=
  let n := ax.val
  let a := s.axis n
  match a.state, a.leg, a.move with
  | .moving, .none, some m =>
    (match m.goal with
     | .abs t =>
       if a.atRest && a.commanded = t * 65536 then
         .next (((s.modAxis n (fun a => { a with state := .idle, remaining := 0 })).raise (0x28 + n)).axisStood n)
       else .next s
     | .vel _ =>
       if a.segs = [] && !a.moved then .next (((s.modAxis n (fun a => { a with moved := true })).raise (0x28 + n)).axisSettled n)
       else .next s)
  | _, _, _ => .next s

/-- AXIS_STANDS (07 R248, R253): a stop or the end of a homing has come to rest.  DESIGN CHOICE (log entry 52): no move-done event pulses here for an
AXIS_RESUME that a stop or a fault ends (07 R260). -/
def execAxisStands (ax : Fin 8) (s : State) : Host.Outcome State Fault Refusal :=
  let n := ax.val
  let a := s.axis n
  if !a.atRest then .next s
  else
    match a.state with
    | .stopping =>
      .next ((s.modAxis n (fun a => { a with
        remaining := a.remainingNow, state := (if a.stopFault = 0 then .stopped else .fault), fault := a.stopFault, stopFault := 0 })).axisStood n)
    | .homing =>
      (match a.homing with
       | some h => if h.phase = 5 then .next (s.finishHome n h) else .next s
       | none => .next s)
    | _ => .next s

/-! ### Stop requests -/

/-- A stop request on an axis, and what it ends (07 R247, R258). -/
def State.stopRequest (s : State) (n acc jerk fault : Nat) : State :=
  let a := s.axis n
  let s := s.modAxis n (fun a => a.stop acc jerk fault)
  if a.standing then s else s.axisInterrupted n (a.leg = .rereg)

/-- The stop request of an event consumer: the PROFILE, A and J of the present move, on a leg those of the interrupted one (07 R247, R257). -/
def State.stopByFabric (s : State) (n : Nat) : State :=
  match (s.axis n).present with
  | some m => s.stopRequest n m.a m.j 0
  | none => s.stopRequest n (s.axis n).aMax (s.axis n).jMax 0

/-- LIMIT_ACTIVE (07 R250, R253): a limit on the side of travel stops the axis; the other input ends a homing. -/
def execLimitActive (ax : Fin 8) (positive : Bool) (s : State) : Host.Outcome State Fault Refusal :=
  let n := ax.val
  let s := s.modAxis n (fun a => if positive then { a with limPos := true } else { a with limNeg := true })
  let a := s.axis n
  let towards := (positive && a.heading = 1) || (!positive && a.heading = -1)
  if !s.inRun || !a.configured then .next s
  else
    match a.homing with
    | some h =>
      if (h.dir = 1) = positive || h.failed then .next s
      else .next (((s.modAxis n (fun a => a.homeFails h 1)).raise (0x30 + n)).endSurveyOn n)
    | none =>
      if towards && !a.standing then .next ((s.stopRequest n a.aMax a.jMax 2).raise (0x30 + n)) else .next s

/-- LIMIT_INACTIVE (07 R250). -/
def execLimitInactive (ax : Fin 8) (positive : Bool) (s : State) : Host.Outcome State Fault Refusal :=
  .next (s.modAxis ax.val (fun a => if positive then { a with limPos := false } else { a with limNeg := false }))

/-- HOME_SWITCH_QUALIFIED (07 R252): the home switch qualifies at a level and the homing moves on. -/
def execHomeSwitchQualified (ax : Fin 8) (active : Bool) (s : State) : Host.Outcome State Fault Refusal :=
  let n := ax.val
  let a := s.axis n
  match a.homing with
  | none => .next s
  | some h =>
    if !s.inRun then .next s
    else if h.phase = 1 && active then
      -- detector 37: CHATTER at the first qualification (15 R452)
      let d := s.detect 37 false
      if d.1 then .next (((d.2.count 37).modAxis n (fun a => a.homeEnd h 2 0)).raise (0x30 + n))
      else .next (s.modAxis n (fun a => { (a.homeVel 0) with homing := some { h with phase := 6, mark := a.pos } }))
    else if h.phase = 2 && !active then
      .next (s.modAxis n (fun a => a.planBackOff { h with mark := a.pos }))
    else if h.phase = 3 && active then
      if a.mode = 0 then .next (s.modAxis n (fun a => a.homeEnd h 0 a.pos))
      else .next (s.modAxis n (fun a => { a with homing := some { h with phase := 4, mark := a.pos } }))
    else .next s

/-- INDEX_EDGE (07 R252 phase 4, R254). -/
def execIndexEdge (ax : Fin 8) (s : State) : Host.Outcome State Fault Refusal :=
  let n := ax.val
  match (s.axis n).homing with
  | some h =>
    if s.inRun && h.phase = 4 then .next (s.modAxis n (fun a => a.homeEnd h 0 (s.encoder n).counted)) else .next s
  | none => .next s

/-- CHATTER (07 R253): too many changes of the home switch end the homing. -/
def execChatter (ax : Fin 8) (s : State) : Host.Outcome State Fault Refusal :=
  let n := ax.val
  match (s.axis n).homing with
  | some h =>
    if s.inRun && !h.failed then .next (((s.count 37).modAxis n (fun a => a.homeFails h 2)).raise (0x30 + n)) else .next s
  | none => .next s

/-! ### The motion opcodes -/

/-- The axis is the FEED of an open job, or the POS_SRC of a channel of one (07 R238). -/
def State.axisInJob (s : State) (n : Nat) : Bool :=
  (List.range 4).any (fun j => (s.jobAt j).any (fun x => x.feed = n || x.chans.any (fun c => (s.chan c).posSrc = n)))

/-- The axis is the feed of a job in LATE (07 R258). -/
def State.lateFeed (s : State) (n : Nat) : Bool :=
  (List.range 4).any (fun j => (s.jobAt j).any (fun x => x.feed = n && x.state = .late))

/-- A motion in a direction leads towards an active limit (07 R242). -/
def Axis.towardsLimit (a : Axis) (d : Int) : Bool := (decide (0 < d) && a.limPos) || (decide (d < 0) && a.limNeg)

/-- Unsigned and signed fields of a packet's parameters. -/
def Packet.u (p : Packet) (off n : Nat) : Nat := le p.params off n
def Packet.i (p : Packet) (off n : Nat) : Int := leS p.params off n

/-- ENn is high: MODE 0 or 1 configured (07 R235, R238). -/
def Axis.drives (a : Axis) : Bool := a.configured && decide (a.mode ≠ 2)

/-- AXIS_CONFIG (07 R238); ENn rises only while the motion engine runs (07 R235). -/
def State.opAxisConfig (s : State) (p : Packet) (src : Source) (_seq : Nat) : State :=
  let n := p.u 0 1
  let mode := p.u 1 1
  let pol := p.u 2 2
  let v := p.u 8 4
  let a := p.u 12 4
  let j := p.u 16 4
  let x := s.axis n
  if 8 ≤ n then s.say p src stBAD_PARAM
  else if s.lateFeed n then s.say p src stBUSY
  else if s.axisInJob n then s.say p src stBAD_STATE
  else if !x.standing then s.say p src stBUSY
  else if 2 < mode || 7 < pol || v = 0 || 2147483647 < v || (mode ≠ 2 && decide (256000000 < v)) || a = 0 || j = 0 then s.say p src stBAD_PARAM
  else
    let flip := x.polarity.getLsbD 1 != decide (pol / 2 % 2 = 1)
    (s.modAxis n (fun x => { x with
      configured := true, mode := mode, polarity := BitVec.ofNat 3 pol, window := p.u 4 4, vMax := v, aMax := a, jMax := j
      state := .idle, fault := 0, move := none, saved := none, last := none, remaining := 0, segs := [], landing := none, nextA := none
      en := decide (mode ≠ 2) && !s.pwr.blockHeld.getLsbD (12 + n / 4)
      limNeg := (x.limNeg != flip), limPos := (x.limPos != flip) })).say p src stOK

/-- The move as the axis runs it: a DEFERRED A applies to the next move of the axis (07 R246; DEDUCED, log entry 20). -/
def Axis.nextMove (a : Axis) (m : Move) : Move := { m with a := a.nextA.getD m.a }

/-- A move accepted (07 R242). -/
def Axis.accept (a : Axis) (m : Move) : Axis :=
  { a with move := some m, last := some m, state := .moving, fault := 0, remaining := 0, leg := .none, saved := none, moved := false, stopA := 0, stopFault := 0, nextA := none }

/-- MOVE_ABS (07 R241, R242). -/
def State.opMoveAbs (s : State) (p : Packet) (src : Source) (seq : Nat) : State :=
  let n := p.u 0 1
  let a := s.axis n
  let t := p.i 4 8
  let v := p.u 12 4
  let acc := p.u 16 4
  let d := t * 65536 - a.commanded
  if s.tripped then s.say p src stREFUSED_INTERLOCK
  else if 8 ≤ n then s.say p src stBAD_PARAM
  else if !a.configured || a.mode = 2 || a.towardsLimit d then s.say p src stBAD_STATE
  else if !a.standing then s.say p src stBUSY
  else if 1 < p.u 1 1 || !zeros p.params 2 2 || v = 0 || a.vMax < v || acc = 0 || a.aMax < acc then s.say p src stBAD_PARAM
  else
    let m := a.nextMove { goal := .abs t, prof := p.u 1 1, v := v, a := acc, j := a.jMax }
    let lim := s.feedLimit n
    let s := s.startOp true (.moveAbs n) p src seq
    if d = 0 then
      ((s.modAxis n (fun a => { (a.accept m) with state := .idle })).raise (0x28 + n)).axisStood n
    else s.modAxis n (fun a => { ({ (a.accept m) with vLim := lim }.plan m false) with state := .moving })

/-- MOVE_VEL (07 R241, R242). -/
def State.opMoveVel (s : State) (p : Packet) (src : Source) (seq : Nat) : State :=
  let n := p.u 0 1
  let a := s.axis n
  let v := p.i 4 4
  let acc := p.u 8 4
  if s.tripped then s.say p src stREFUSED_INTERLOCK
  else if 8 ≤ n then s.say p src stBAD_PARAM
  else if !a.configured || a.mode = 2 || a.towardsLimit v then s.say p src stBAD_STATE
  else if !a.standing then s.say p src stBUSY
  else if 1 < p.u 1 1 || !zeros p.params 2 2 || a.vMax < v.natAbs || acc = 0 || a.aMax < acc then s.say p src stBAD_PARAM
  else
    let m := a.nextMove { goal := .vel v, prof := p.u 1 1, v := v.natAbs, a := acc, j := a.jMax }
    let lim := s.feedLimit n
    (s.startOp false (.moveVel n) p src seq).modAxis n (fun a => { (a.accept m) with vLim := lim }.plan m false)

/-- AXIS_STOP (07 R247, R248). -/
def State.opAxisStop (s : State) (p : Packet) (src : Source) (seq : Nat) : State :=
  let m : BitVec 8 := BitVec.ofNat 8 (p.u 0 1)
  if 1 < p.u 1 1 || !zeros p.params 2 2 then s.say p src stBAD_PARAM
  else
    let s := s.startOp true (.axisStop m) p src seq
    let s := (List.range 8).foldl (fun s n =>
      if m.getLsbD n then
        if p.u 1 1 = 1 then s.stopRequest n (s.axis n).aMax (s.axis n).jMax 0 else s.stopByFabric n
      else s) s
    s.answerAxisStops

/-- AXIS_RESUME may run on an axis: STATE 3, or 5 after a stall with a move to resume (07 R249, R253). -/
def Axis.resumable (a : Axis) : Bool :=
  match a.state with
  | .stopped => a.move.isSome
  | .fault => a.fault = 1 && a.move.isSome
  | _ => false

/-- Direction of the remaining motion. -/
def Axis.remainingDir (a : Axis) : Int :=
  match a.move with
  | some m => (match m.goal with | .abs t => t * 65536 - a.commanded | .vel v => v.num)
  | none => 0

/-- AXIS_RESUME (07 R249). -/
def State.opAxisResume (s : State) (p : Packet) (src : Source) (seq : Nat) : State :=
  let m : BitVec 8 := BitVec.ofNat 8 (p.u 0 1)
  let sel := (List.range 8).filter (fun n => m.getLsbD n)
  if s.tripped then s.say p src stREFUSED_INTERLOCK
  else if sel.any (fun n => s.lateFeed n) then s.say p src stBUSY
  else if sel.any (fun n => let a := s.axis n; !a.configured || a.mode = 2 || !a.resumable || a.towardsLimit a.remainingDir) then
    s.say p src stBAD_STATE
  else if !zeros p.params 1 3 then s.say p src stBAD_PARAM
  else
    let s := s.startOp true (.axisResume m) p src seq
    let s := sel.foldl (fun s n =>
      let lim := s.feedLimit n
      s.modAxis n (fun a => match a.move with
        | some mv =>
          let mv := a.nextMove mv
          { ({ (a.accept mv) with vLim := lim }.plan mv false) with state := .moving }
        | none => a)) s
    s.finishOps (fun q => match q.kind with | .axisResume k => k = 0 | _ => false) (fun _ => (stOK, []))

/-- HOME (07 R252, R255). -/
def State.opHome (s : State) (p : Packet) (src : Source) (seq : Nat) : State :=
  let n := p.u 0 1
  let a := s.axis n
  let vf := p.u 8 4
  let vs := p.u 12 4
  let bo := p.i 16 8
  if s.tripped then s.say p src stREFUSED_INTERLOCK
  else if 8 ≤ n then s.say p src stBAD_PARAM
  else if s.lateFeed n then s.say p src stBUSY
  else if !a.configured || a.mode = 2 || s.axisInJob n then s.say p src stBAD_STATE
  else if !a.standing then s.say p src stBUSY
  else if 1 < p.u 1 1 || p.u 2 1 = 0 || p.u 3 1 = 0 || p.u 4 4 = 0 || vf = 0 || a.vMax < vf || vs = 0 || a.vMax < vs || decide (bo ≤ 0) then
    s.say p src stBAD_PARAM
  else
    let h : HomeRun := { dir := p.u 1 1, qual := p.u 2 1, chatter := p.u 3 1, windowUs := p.u 4 4, vFast := vf, vSlow := vs,
                         backoff := bo, phase := 1, mark := a.pos, index := 0, result := 4 }
    (s.startOp true (.home n) p src seq).modAxis n (fun a =>
      { ({ a with move := none, fault := 0, remaining := 0, homing := some h, state := .homing, stopA := 0 }.homeVel (h.sign * vf)) with state := .homing })

/-- The position at which the present motion ends: TARGET, also on the re-register leg towards it, or X_B of a backup (07 R246, R257, R259); none for a
velocity. -/
def Axis.endsAt (a : Axis) (m : Move) : Option Int :=
  match a.leg, m.goal with
  | .none, .abs t | .rereg, .abs t => some t
  | .backup, _ => some a.legX
  | _, _ => none

/-- New values for the present move; on a leg they are those of the interrupted move, and a new V is that of a backup (DEDUCED, log entry 20). -/
def Axis.setMove (a : Axis) (mv : Move) (v : Nat) : Axis :=
  match a.leg with
  | .none => { a with move := some mv, last := some mv }
  | .backup => { a with saved := some mv, last := some mv, legV := if v = 0 then a.legV else v }
  | _ => { a with saved := some mv, last := some mv }

/-- The present move or leg planned again from the present position and speed (07 R246). -/
def Axis.planAgain (a : Axis) (mv : Move) : Axis :=
  match a.leg with
  | .none => a.plan mv a.inFinal
  | .rereg => a.planRereg
  | .backup => a.planBackup a.inFinal
  | .stopWeb => a

/-- KINEMATICS_SET (07 R245, R246).  DESIGN CHOICE (log entry 52): an axis in fault after a limit or a homing answers BAD_STATE, a row that R245 does not
give; and a J alone with which the stop does not fit is dropped with the reply OK, where R246 speaks of a change to A. -/
def State.opKinematicsSet (s : State) (p : Packet) (src : Source) (_seq : Nat) : State :=
  let n := p.u 0 1
  let a := s.axis n
  let v := p.u 4 4
  let acc := p.u 8 4
  let j := p.u 12 4
  if 8 ≤ n then s.say p src stBAD_PARAM
  else if s.lateFeed n then s.say p src stBUSY
  else if !a.configured || a.mode = 2 then s.say p src stBAD_STATE
  else
    match a.state, a.present with
    | .idle, _ | .homing, _ | _, none => s.say p src stBAD_STATE
    | .stopping, _ => s.say p src stBUSY
    | st, some m =>
      if st = .fault && a.fault ≠ 1 then s.say p src stBAD_STATE
      else if a.vMax < v || a.aMax < acc || a.jMax < j || !zeros p.params 1 3 then s.say p src stBAD_PARAM
      else
        let goal := match m.goal with
          | .vel x => if v = 0 then Goal.vel x else .vel (if x < 0 then -(v : Rat) else v)
          | g => g
        let mv : Move := { m with goal := goal, v := (if v = 0 then m.v else v), a := (if acc = 0 then m.a else acc), j := (if j = 0 then m.j else j) }
        let keepA := fun (a : Axis) => if acc = 0 then a.nextA else none
        match (if st = .moving then a.endsAt m else none) with
        | none =>
          (s.modAxis n (fun a =>
            let a := ({ a with nextA := keepA a, moved := a.moved && decide (goal = m.goal) }).setMove mv v
            if st = .moving then a.planAgain mv else a)).say p src stOK
        | some t =>
          let d := rabs (((t * 65536 - a.commanded : Int) : Rat) / 65536)
          let sp := rabs a.speed
          let fits := fun (acc j : Nat) => decide (changeDistance sp 0 (changeUpdates m.prof sp acc j) ≤ d)
          if fits mv.a mv.j then
            (s.modAxis n (fun a => (({ a with nextA := keepA a }).setMove mv v).planAgain mv)).say p src stOK
          else
            -- the old A goes on; V and J are applied as far as it allows (log entry 20)
            let mo : Move := { mv with a := m.a, j := (if fits m.a mv.j then mv.j else m.j) }
            let again := fits mo.a mo.j && (mo.v ≠ m.v || mo.j ≠ m.j)
            (s.modAxis n (fun a =>
              let a := ({ a with nextA := (if acc = 0 then a.nextA else some acc) }).setMove mo v
              if again then a.planAgain mo else a)).say p src (if acc = 0 then stOK else stDEFERRED)

/-- STATE as AXIS_STATUS gives it (02 R76). -/
def AxisState.code : AxisState → Nat
  | .idle => 0
  | .moving => 1
  | .stopping => 2
  | .stopped => 3
  | .homing => 4
  | .fault => 5

/-- AXIS_STATUS (02 R76, 07 R260). -/
def State.opAxisStatus (s : State) (p : Packet) (src : Source) (_seq : Nat) : State :=
  let n := p.u 0 1
  let a := s.axis n
  if 8 ≤ n || !zeros p.params 1 3 then s.say p src stBAD_PARAM
  else
    s.answer p src stOK (toLeS 8 a.pos ++ toLeS 8 a.encAt ++ toLeS 8 a.remainingNow ++ toLeS 4 (rtrunc a.speed) ++
      toLe 1 a.state.code ++ toLe 1 a.fault ++ [0, 0])

end Sys2Proof.Machine
end

