-- ==== Sys2Proof/Machine/Jobs.lean ====
section
/-! DEFINITION. The job opcodes: JOB_OPEN, LAYER_DEFINE, JOB_START, JOB_STOP, JOB_RESUME, JOB_CLOSE (02 R71-R73, 05 R162-R167, R180-R192). -/
namespace Sys2Proof.Machine

/-! ### Common refusals -/

/-- Bits 48-63 of a CHANNELS field are 0 and some bit is set (02 R71). -/
def channelsOk (m : Nat) : Bool := m ≠ 0 && decide (m < 2 ^ 48)

/-- A channel is attached and configured (03 R109). -/
def Chan.ready (c : Chan) : Bool := c.attached && c.configured

/-- A channel as a job that opens finds it: C is 0, nothing composed (05 R172). -/
def Chan.forJob (c : Chan) : Chan :=
  { c with nextCompose := 0, nextLine := 0, fifo := [], packed := none, prepared := none, dueEarly := 0, gone := [], heldMiss := none, mapBase := [], mapChanges := [], boundary := none }

/-! ### JOB_OPEN and LAYER_DEFINE -/

/-- JOB_OPEN (02 R71, R73, 03 R109, 05 R162, 10 R334; log entry 19). -/
def State.opJobOpen (s : State) (p : Packet) (src : Source) (_seq : Nat) : State :=
  let id : BitVec 16 := BitVec.ofNat 16 (p.u 0 2)
  let geo := p.u 2 1
  let feed := p.u 3 1
  let m : ChMask := BitVec.ofNat 64 (p.u 4 8)
  let chans := maskChans m
  let free := (List.range 4).find? (fun j => (s.jobAt j).isNone)
  match free with
  | none => s.say p src stBAD_STATE
  | some slot =>
    if (s.jobSlot id).isSome || chans.any (fun n => (s.jobOf n).isSome || !(s.chan n).ready) || s.storeBytes = 0 then s.say p src stBAD_STATE
    else if 2 < geo || (7 < feed && feed ≠ 255) || !channelsOk (p.u 4 8) || p.u 16 8 % 512 ≠ 0 || s.storeBytes < p.u 16 8 + 1536 || 2 ^ 48 ≤ p.u 24 8 then
      s.say p src stBAD_PARAM
    else
      let j : Job := { id := id, geometry := geo, feed := feed, channels := m, lines := p.u 12 4, record := p.u 16 8, pitch := p.u 24 8 }
      let s := { s with jobs := vset s.jobs slot (some j) }
      let s := chans.foldl (fun s n => (s.modChan n Chan.forJob).bankWrote (n / 4) 3) s
      (s.writeHeader slot).say p src stOK

/-- A DESCRIPTOR is in range for its layer (05 R165-R167).  DESIGN CHOICE (log entry 46): a shuttle layer extends over LINES whole strides, as
IMAGE_ROWS stands in a table that is read later; LINES and PHASE of a shuttle L0 are only range-checked, its columns are read by number. -/
def State.layerOk (s : State) (j : Job) (layer op : Nat) (d : Layer) (flags : Nat) : Bool :=
  let n := j.lastCh - j.firstCh + 1
  let width := if j.geometry = 2 then 0 else 512 * n
  let unit := if j.geometry = 2 then 64 else 512
  decide (layer ≤ 3) && decide (op ≤ 2) && d.base % 512 = 0 && d.stride % unit = 0 && decide (width ≤ d.stride) && decide (0 < d.stride) &&
  decide (flags ≤ 1) &&
  (if layer = 0 then op = 0 && !d.required && decide (1 ≤ d.lines) && decide (d.lines ≤ 16777216) && decide (d.phase < d.lines)
   else if j.geometry = 2 then d.lines = j.lines && d.phase = 0 && !d.required
   else (d.lines = 64 || d.lines = 128 || d.lines = 256 || d.lines = 512 || d.lines = 1024 || d.lines = 2048) && d.phase = 0) &&
  decide (d.base + (d.lines - 1) * d.stride + (if j.geometry = 2 then d.stride else width) ≤ s.storeBytes)

/-- LAYER_DEFINE (05 R165-R167).  DESIGN CHOICE (log entry 46): a second definition of a layer leaves its posted and coverage bits and the tiles in
flight as they are. -/
def State.opLayerDefine (s : State) (p : Packet) (src : Source) (_seq : Nat) : State :=
  let layer := p.u 2 1
  let d : Layer := { op := p.u 3 1, base := p.u 4 8, stride := p.u 12 4, lines := p.u 16 4, phase := p.u 20 4, required := p.u 24 1 % 2 = 1 }
  match s.jobSlot (BitVec.ofNat 16 (p.u 0 2)) with
  | none => s.say p src stBAD_STATE
  | some slot =>
    match s.jobAt slot with
    | none => s.say p src stBAD_STATE
    | some j =>
      if j.state ≠ .opened then s.say p src stBAD_STATE
      else if !s.layerOk j layer d.op d (p.u 24 1) || !zeros p.params 25 3 then s.say p src stBAD_PARAM
      else (s.modJob slot (fun j => { j with layers := vset j.layers layer (some d) })).say p src stOK

/-! ### The composition table -/

/-- The composition table as its bytes give it (05 R162). -/
def tableOf (b : Bytes) : CompTable :=
  { passes := le b 2 1, bidir := le b 3 1 % 2 = 1, recordBytes := le b 4 4, advance := le b 8 2, imageRows := le b 10 2
    maskAddr := (List.range 8).map (fun i => le b (16 + 8 * i) 8)
    sub := (List.range 8).map (fun i => w32 (le b (80 + 4 * i) 4))
    subCap := (List.range 8).map (fun i => le b (112 + i) 1)
    ch := (List.range 48).map (fun i => (le b (128 + 8 * i) 1, le b (129 + 8 * i) 1, le b (130 + 8 * i) 1)) }

/-- Masks 0 to n - 1 set each cell in exactly one mask (05 R182). -/
def partitioned (n : Nat) (masks : List Bytes) : Bool :=
  (List.range 65536).all (fun c => ((List.range n).filter (fun k => maskBit (masks.getD k []) (c / 256) (c % 256))).length = 1)

/-- The table passes R163 and R182.  DEDUCED (log entry 46): MASK and OVL of channels outside the job are not checked.  DESIGN CHOICE (log entry 51): a
value outside the range of R162 that R163 does not list (PASSES, ADVANCE, IMAGE_ROWS, MASK 8-254, OVL above 128) is BAD_PARAM. -/
def State.tableOk (s : State) (j : Job) (b : Bytes) : Bool :=
  let t := tableOf b
  le b 0 2 = 1 && decide (le b 3 1 ≤ 1) && zeros b 12 4 && zeros b 120 8 &&
  (List.range 48).all (fun i => zeros b (131 + 8 * i) 5) &&
  t.recordBytes % 64 = 0 && decide (1024 ≤ t.recordBytes) && decide (j.record + 512 + t.recordBytes ≤ s.storeBytes) &&
  t.maskAddr.all (fun a => a % 64 = 0) && t.subCap.all (fun c => decide (c ≤ 3)) &&
  j.chans.all (fun n =>
    let e := t.ch.getD n (255, 0, 0)
    let half := (s.chan n).nozzles / 2
    decide (e.2.1 ≤ min 128 half) && decide (e.2.2 ≤ min 128 half)) &&
  (if j.geometry = 2 then
    decide (1 ≤ t.passes) && decide (t.passes ≤ 8) && t.advance % 64 = 0 && t.imageRows % 64 = 0 && decide (0 < t.advance) && decide (0 < t.imageRows) &&
    j.chans.all (fun n => decide (t.passes * t.advance ≤ (s.chan n).nozzles)) &&
    (List.range t.passes).all (fun k => t.maskAddr.getD k 0 ≠ 0) && partitioned t.passes (s.readMasks j t) &&
    (List.range 4).all (fun k => match vget j.layers k none with
      | some d => decide (t.imageRows / 4 * (j.lastCh - j.firstCh + 1) ≤ d.stride)
      | none => true)
   else
    t.passes = 0 && t.advance = 0 && t.imageRows = 0 &&
    j.chans.all (fun n =>
      let k := (t.ch.getD n (255, 0, 0)).1
      k = 255 || (decide (k < 8) && t.maskAddr.getD k 0 ≠ 0)))

/-- The pairs of a dual-row job satisfy R180. -/
def State.pairsOk (s : State) (j : Job) (t : CompTable) : Bool :=
  j.geometry ≠ 1 || j.chans.all (fun n =>
    let c := s.chan n
    let p := c.partner
    let d := s.chan p
    p = 255 ||
    (j.chans.contains p && d.partner = n && p / 4 = n / 4 &&
     (t.ch.getD n (255, 0, 0)).1 = (t.ch.getD p (255, 0, 0)).1 &&
     decide (16 * j.pitch ≤ ((c.headOffset + c.rowOffset) - (d.headOffset + d.rowOffset)).natAbs * 65536)))

/-! ### JOB_START and JOB_RESUME -/

/-- A ban of R159 and R314 on a job. -/
def State.tempBan (s : State) (j : Job) (resume wait : Bool) : Bool :=
  (resume && j.chans.any s.shutdownLatched) ||
  (!wait && j.chans.any (fun n => decide ((s.headSensor n).value < coldLimit)))

/-- The conditions of R122, R149, R256, R383 fail. -/
def State.badFire (s : State) (j : Job) (resume : Bool) : Bool :=
  let src := (s.chan j.firstCh).posSrc
  (!resume && (j.chans.any (fun n => (s.chan n).posSrc ≠ src) || (j.feed < 8 && src ≠ j.feed) || (src = 8 && (s.isMaster || s.link.id.isNone)))) ||
  (j.chans.any (fun n => (s.chan n).posSrc = 8) && !s.isMaster && !(s.link.aligned && s.link.posOk)) ||
  (j.feed < 8 && !((s.axis j.feed).configured && (s.axis j.feed).mode = 1)) ||
  j.chans.any (fun n => (s.chan n).noHeadroom)

/-- A survey includes a channel of the job (06 R224). -/
def State.surveyHolds (s : State) (j : Job) : Bool := s.health.run.any (fun r => r.channels &&& j.channels ≠ 0)

/-- The setup of the check bar comes into force (06 R228); the bars of the setup before it are not observed any more. -/
def Job.takeBar (j : Job) : Job := match j.nextBar with | some b => { j with bar := some b, nextBar := none, barsSeen := [], barBad := [], barAt := [] } | none => j

/-- How the reads of the table and the masks go: as the JOB_START row told, a free value for a packet that came another way (10 R333; log entry 6): how
often they fail, 2 for a second failure, and how many words they correct. -/
def State.startErrors (s : State) : StartReads × State :=
  match s.mem.startReads with
  | some r => (r, s)
  | none =>
    let d := s.draw
    let e := d.2.draw
    ({ failed := d.1 % 3, corrected := e.1 }, e.2)

/-- JOB_START (05 R190, R162, R163, R178); the table or a mask read a second time when the first read failed (10 R333).  DESIGN CHOICE (log entry 51):
SUBST_AT_START is 0 for a channel outside the job (05 R200). -/
def State.opJobStart (s : State) (p : Packet) (src : Source) (seq : Nat) : State :=
  let wait := p.u 2 2
  if s.tripped then s.say p src stREFUSED_INTERLOCK
  else
    match s.jobSlot (BitVec.ofNat 16 (p.u 0 2)) with
    | none => s.say p src (if s.link.conflict then stTARGET_CONFLICT else stBAD_STATE)
    | some slot =>
      match s.jobAt slot with
      | none => s.say p src stBAD_STATE
      | some j =>
        let b := s.storeRead j.record 512
        let t := tableOf b
        if s.tempBan j false (wait % 2 = 1) then s.say p src stREFUSED_TEMPERATURE
        else if s.link.conflict then s.say p src stTARGET_CONFLICT
        else if j.state ≠ .opened || s.badFire j false then s.say p src stBAD_STATE
        else
        let r := s.startErrors
        let s := (r.2.countN 84 r.1.corrected).countN 85 r.1.failed
        if r.1.failed < 2 && !s.pairsOk j t then s.say p src stBAD_STATE
        else if s.surveyHolds j then s.say p src stBUSY
        else if 1 < wait || 2 ≤ r.1.failed || !s.tableOk j b then s.say p src stBAD_PARAM
        else
          let s := s.startOp false (.jobStart j.id) p src seq
          let s := s.modJob slot (fun j => { j.takeBar with
            table := t, masks := s.readMasks j t, start := p.i 4 8, waitCosy := wait % 2 = 1, rereg := false, trigLine := 0, pass := 0, passWait := false
            substAtStart := (List.range 48).map (fun n => if j.channels.getLsbD n then (s.chan n).served.length else 0) })
          (j.chans.foldl (fun s n => s.bankWrote (n / 4) 0) s).setJobState slot .arming

/-- The lines below FROM that a channel has not fired, skipped with CAUSE 5 (05 R192). -/
def State.skipBelow (s : State) (slot n from_ : Nat) : State :=
  match s.jobAt slot with
  | none => s
  | some j =>
    let c := s.chan n
    let first := max c.nextLine (if j.lines = 0 then from_ else min from_ j.lines)
    s.skipTo slot n first 5

/-- X_F: the smallest fire position among the first lines to fire (05 R192). -/
def State.firstFire (s : State) (j : Job) : Int :=
  let ps := (j.chans.filter (fun n => j.lines = 0 || decide ((s.chan n).nextToFire < j.lines))).map (fun n => s.slotPos j n (s.chan n).nextToFire 0 1)
  match ps with
  | [] => s.chanPosition j.firstCh
  | x :: r => r.foldl min x

/-- The retained move of an axis discarded (07 R259). -/
def Axis.discard (a : Axis) : Axis :=
  { a with remaining := 0, state := (if a.state = .stopped then .idle else a.state), move := (if a.state = .idle then a.move else none) }

/-- The feed's move of a resume (05 R192, 07 R259): at v_R = 0 no move, and any retained move is discarded.  DESIGN CHOICE (log entry 51): N_STOP of the
RESUME entry that follows is the lowest line not yet fired, which 05 R201 gives only for a data-late sequence. -/
def State.resumeFeed (s : State) (slot : Nat) : State :=
  match s.jobAt slot with
  | none => s
  | some j =>
    if 8 ≤ j.feed then s
    else
      let v := match s.feedLimit j.feed with | some l => min j.stopV l | none => j.stopV
      let a := s.axis j.feed
      match a.last with
      | some m =>
        if v ≤ 0 then s.modAxis j.feed Axis.discard
        else
          let xF := s.firstFire j
          let mv : Move := { m with goal := .vel v, v := v.floor.natAbs }
          let s := s.modAxis j.feed (fun a => { a with
            saved := some mv, move := some mv, last := some mv, remaining := 0, legFinal := false, fault := 0, moved := true, stopA := 0, stopFault := 0 })
          let s := s.modJob slot (fun j => { j with resumeMove := true, vR := v, xT := ((xF : Rat) - j.margin).floor, nStop := s.lowestLine j })
          s.startBackup slot xF v
      | none => s

/-- JOB_RESUME (05 R192, 07 R259). -/
def State.opJobResume (s : State) (p : Packet) (src : Source) (_seq : Nat) : State :=
  let wait := p.u 2 2
  if s.tripped then s.say p src stREFUSED_INTERLOCK
  else
    match s.jobSlot (BitVec.ofNat 16 (p.u 0 2)) with
    | none => s.say p src (if s.link.conflict then stTARGET_CONFLICT else stBAD_STATE)
    | some slot =>
      match s.jobAt slot with
      | none => s.say p src stBAD_STATE
      | some j =>
        let left := j.lines = 0 || j.chans.any (fun n => decide ((s.chan n).nextToFire < j.lines))
        let standing := 8 ≤ j.feed || (s.axis j.feed).standing
        if s.tempBan j true (wait % 2 = 1) then s.say p src stREFUSED_TEMPERATURE
        else if s.link.conflict then s.say p src stTARGET_CONFLICT
        else if !(j.state = .stopped || (j.state = .ended && left)) || s.badFire j true then s.say p src stBAD_STATE
        else if s.surveyHolds j || !standing then s.say p src stBUSY
        else if 1 < wait then s.say p src stBAD_PARAM
        else
          let s := j.chans.foldl (fun s n => s.skipBelow slot n (p.u 4 4)) s
          let s := s.modJob slot (fun j => { j.takeBar with waitCosy := wait % 2 = 1, stopAt := none, rereg := false, resumeMove := false, resumePending := none })
          let s := s.setJobState slot .arming
          (s.resumeFeed slot).say p src stOK

/-! ### JOB_STOP and JOB_CLOSE -/

/-- JOB_STOP (05 R191, JOB_STOP arrives during the sequence; log entry 20). -/
def State.opJobStop (s : State) (p : Packet) (src : Source) (seq : Nat) : State :=
  let id : BitVec 16 := BitVec.ofNat 16 (p.u 0 2)
  match s.jobSlot id with
  | none => s.say p src stBAD_STATE
  | some slot =>
    match s.jobAt slot with
    | none => s.say p src stBAD_STATE
    | some j =>
      let waiting := s.pe.ops.any (fun q => match q.kind with | .jobStop i => i = id | _ => false)
      if j.state = .opened || j.state = .ended then s.say p src stBAD_STATE
      else if waiting then s.say p src stBUSY
      else if 1 < p.u 2 2 then s.say p src stBAD_PARAM
      else
        let s := s.startOp false (.jobStop id) p src seq
        if p.u 2 2 = 1 && (j.state = .arming || j.state = .running) then
          let s := s.modJob slot (fun j => { j with stopAt := some (p.u 4 4 + 1) })
          let s := s.putBack j j.chans (fun c => c.dropBeyond (p.u 4 4 + 1))
          s.checkStopAt slot
        else if j.active then s.enterStopped slot
        else s.answerStops slot

/-- JOB_CLOSE (05 R189, R174). -/
def State.opJobClose (s : State) (p : Packet) (src : Source) (_seq : Nat) : State :=
  match s.jobSlot (BitVec.ofNat 16 (p.u 0 2)) with
  | none => s.say p src stBAD_STATE
  | some slot =>
    match s.jobAt slot with
    | none => s.say p src stBAD_STATE
    | some j =>
      if j.active then s.say p src stBAD_STATE
      else if !zeros p.params 2 2 then s.say p src stBAD_PARAM
      else
        let j := j.closed
        let s := s.storeWrite (j.record + 512) (s.recordHeader j 6)
        let s := s.finishOps (fun q => match q.kind with | .jobStop i => i = j.id | _ => false) (fun _ => (stOK, toLe 4 (s.lastLine j)))
        let s := j.chans.foldl (fun s n => s.modChan n (fun c => { c with prevSet := none })) s
        let s := { s with jobs := vset s.jobs slot none
                          tiles := s.tiles.map (fun (t : Tile) => if t.job = j.id then { t with orphan := true } else t) }
        s.answer p src stOK (toLe 4 j.completed ++ toLe 4 j.skipped ++ toLe 4 j.incomplete ++ toLe 4 j.resumes)

end Sys2Proof.Machine
end

