-- ==== Sys2Proof/Machine/Tiles.lean ====
section
/-! DEFINITION. Tiles: TILE_POST, the reads and copies that bring them, their rows and coverage (05 R169-R176, 12 R392). -/
namespace Sys2Proof.Machine

/-- Bytes of a tile row, and of the tile (05 R170). -/
def Tile.rowBytes (t : Tile) : Nat := t.width / 4
def Tile.bytes (t : Tile) : Nat := t.height * t.rowBytes

/-- First byte from an offset on that has not landed. -/
def landedTo (ps : List (Nat × Nat)) : Nat → Nat → Nat
  | 0, f => f
  | n + 1, f =>
    match ps.find? (fun p => decide (p.1 ≤ f) && decide (f < p.1 + p.2)) with
    | some p => landedTo ps n (p.1 + p.2)
    | none => f

/-- First byte from an offset on that a tile has not received. -/
def Tile.frontier (t : Tile) (from_ : Nat) : Nat := landedTo t.landed t.landed.length from_

/-- IMAGE_ROWS: the table's copy, or before JOB_START the table as it stands in the store (05 R162, R166; log entry 21). -/
def State.jobPlaced (s : State) (j : Job) : Job :=
  if j.state = .opened then { j with table := { j.table with imageRows := le (s.storeRead (j.record + 10) 2) 0 2 } } else j

/-- C of a channel, in a dual-row pair the lower of the two (05 R172). -/
def State.tileC (s : State) (j : Job) (n : Nat) : Nat :=
  match s.partnerIn j n with
  | some p => min (s.chan n).nextCompose (s.chan p).nextCompose
  | none => (s.chan n).nextCompose

/-- The row is written: its line is not composed yet (05 R172). -/
def State.rowLive (s : State) (j : Job) (t : Tile) (row : Nat) : Bool :=
  j.geometry = 2 || (!(t.forceLate && row = 0) && decide (s.tileC j t.ch ≤ t.line + row))

/-- A tile changed. -/
def State.modTile (s : State) (id : Nat) (f : Tile → Tile) : State :=
  { s with tiles := s.tiles.map (fun (t : Tile) => if t.id = id && t.source ≠ 3 then f t else t) }

/-- The tile loses rows: counted once (05 R172). -/
def State.lateTile (s : State) (t : Tile) : State :=
  if t.lateCounted then s else (s.count 23).modTile t.id (fun t => { t with lateCounted := true })

/-- Posted and coverage bits of a row set (05 R171). -/
def State.markRow (s : State) (slot : Nat) (t : Tile) (row : Nat) : State :=
  (s.bankWrote (t.ch / 4) 1).modJob slot (fun j =>
    match vget j.layers t.layer none with
    | some d =>
      if j.geometry = 2 then j
      else
        let key := coverKey t.layer t.ch (layerLine t.layer d (t.line + row))
        let runs : BitVec 33 := (List.range (t.width / 64)).foldl (fun (m : BitVec 33) i => setBit m (t.nozzle / 64 + i + 1) true) 1
        { j with cover := sput 0 j.cover key (sget 0 j.cover key ||| runs) }
    | none => j)

/-- A row marked, or dropped (05 R172, R174). -/
def State.markOrDrop (s : State) (slot id row : Nat) : State :=
  match s.jobAt slot, s.tiles.find? (fun (t : Tile) => t.id = id && t.source ≠ 3) with
  | some j, some t => if s.rowLive j t row then s.markRow slot t row else s.lateTile t
  | _, _ => s

/-- A tile is over: answered, and gone once no earlier tile is in flight (05 R173). -/
def State.endTile (s : State) (t : Tile) (st : BitVec 16) : State :=
  let s := s.modTile t.id (fun t => { t with done := true })
  let s := { s with tiles := s.tiles.dropWhile (fun (t : Tile) => t.done) }
  s.reply t.pkt.ordered t.pkt t.src st []

/-- A later tile has written this byte of a channel-line (05 R173). -/
def Tile.covers (u : Tile) (line col : Nat) : Bool :=
  decide (u.line ≤ line) && decide (line < u.line + u.height) && decide (u.nozzle / 4 ≤ col) && decide (col < u.nozzle / 4 + u.rowBytes) &&
  (let o := (line - u.line) * u.rowBytes + (col - u.nozzle / 4)
   u.landed.any (fun p => decide (p.1 ≤ o) && decide (o < p.1 + p.2)))

/-- Bytes of a tile written into the plane (05 R173, R174). -/
def State.writeTile (s : State) (j : Job) (t : Tile) (off : Nat) (data : Bytes) : State :=
  let later := ((s.tiles.dropWhile (fun (u : Tile) => u.id ≠ t.id)).drop 1).filter (fun (u : Tile) =>
    u.source ≠ 3 && u.job = t.job && u.layer = t.layer && u.ch = t.ch)
  match vget j.layers t.layer none with
  | none => s
  | some d =>
    data.zipIdx.foldl (fun s (x : Byte × Nat) =>
      let o := off + x.2
      let row := o / t.rowBytes
      let col := t.nozzle / 4 + o % t.rowBytes
      let l := if j.geometry = 2 then t.line + row else layerLine t.layer d (t.line + row)
      if s.rowLive j t row && !later.any (fun u => u.covers (t.line + row) col) then s.storeWrite (s.layerAddr j d t.ch l + col) [x.1] else s) s

/-- The outstanding reads of a tile whose job is gone are over (05 R174): when every byte has come, else a free value, as the spec does not say how many
reads are outstanding (log entry 22). -/
def State.orphanOver (s : State) (all : Bool) : Bool × State :=
  let d := s.draw
  if all then (true, s) else (d.1 % 2 = 1, d.2)

/-- Bytes of a tile arrive: written, rows marked in ascending order, the reply after the last row (05 R171-R174). -/
def State.landTile (s : State) (t : Tile) (off : Nat) (data : Bytes) : State :=
  let data := data.take (t.bytes - off)
  let t' := { t with landed := t.landed ++ [(off, data.length)] }
  if t.orphan then
    let d := s.orphanOver (decide (t.bytes ≤ t'.frontier 0))
    if d.1 then d.2.endTile t stBAD_STATE else d.2.modTile t.id (fun _ => t')
  else
    match s.jobSlot t.job with
    | none => s.endTile t stBAD_STATE
    | some slot =>
      match s.jobAt slot with
      | none => s
      | some j =>
        let j := s.jobPlaced j
        let s := s.writeTile j t off data
        let rows := t'.frontier 0 / t.rowBytes
        let s := s.modTile t.id (fun _ => { t' with rowsDone := rows })
        let s := (List.range (rows - t.rowsDone)).foldl (fun s i => s.markOrDrop slot t.id (t.rowsDone + i)) s
        if t.height ≤ rows then s.endTile t stOK else s

/-- A read for a tile fails at an offset: complete rows below stand, the reply is BUSY (05 R174). -/
def State.failTile (s : State) (t : Tile) (off : Nat) : State :=
  if t.orphan then
    let d := s.orphanOver false
    if d.1 then d.2.endTile t stBAD_STATE else d.2
  else
    match s.jobSlot t.job with
    | none => s.endTile t stBAD_STATE
    | some slot =>
      let rows := (List.range (off / t.rowBytes)).filter (fun r =>
        decide (t.rowsDone ≤ r) && decide ((r + 1) * t.rowBytes ≤ t.frontier (r * t.rowBytes)))
      let s := rows.foldl (fun s r => s.markOrDrop slot t.id r) s
      s.endTile t stBUSY

/-- The body of DATA frames: at most 244 bytes of tile data each (12 R392). -/
def dataBodies (xfer : BitVec 16) (off : Nat) (b : Bytes) : List Bytes :=
  (pieces 244 (b.length / 244 + 1) b).zipIdx.map (fun (x : Bytes × Nat) =>
    let p := x.1
    toLe 2 xfer.toNat ++ [0, 0] ++ toLe 4 (off + 244 * x.2) ++ p ++ pad ((4 - p.length % 4) % 4))

/-- Bytes of a tile read here for another device sent on as DATA frames (12 R392). -/
def State.sendTileData (s : State) (t : Tile) (off : Nat) (data : Bytes) : State :=
  let data := data.take (t.bytes - off)
  let xfer := match t.src with | .relay _ k => k | _ => 0
  let s := (dataBodies xfer off data).foldl (fun s b =>
    if t.pkt.target = 0xFF then s.sendAll tDATA b else s.sendTo t.pkt.target.toNat tDATA b) s
  let t' := { t with landed := t.landed ++ [(off, data.length)], done := decide (t.bytes ≤ ({ t with landed := t.landed ++ [(off, data.length)] }).frontier 0) }
  let s := { s with tiles := s.tiles.map (fun (u : Tile) => if u.id = t.id && u.source = 3 then t' else u) }
  { s with tiles := s.tiles.dropWhile (fun (t : Tile) => t.done) }

/-- A read for another device's tile fails: ORIGIN answers BUSY (02 R66; log entry 22). -/
def State.failTileData (s : State) (t : Tile) : State :=
  let s := { s with tiles := s.tiles.filter (fun (u : Tile) => !(u.id = t.id && u.source = 3)) }
  let xfer := match t.src with | .relay _ k => k | _ => 0
  let s := { s with link := { s.link with awaiting := s.link.awaiting.filter (fun (r : Relayed) => r.pktId ≠ xfer)
                                          relayed := s.link.relayed.filter (fun (r : Relayed) => r.pktId ≠ xfer) } }
  s.reply false t.pkt .ring stBUSY []

/-- The failed read of a tile is one detection, for whichever devices it reads (15 R455); none in SLEEP and OFF (15 R448). -/
def State.countTileFail (s : State) (ts : List Tile) : State :=
  if s.inRunIdle && ts.any (fun t => t.source = 3 || (!t.orphan && (s.jobSlot t.job).isSome)) then s.count 10 else s

/-- A read for the tiles of one packet fails at an offset of each (05 R174). -/
def State.failRead (s : State) (ts : List Tile) (off : Tile → Nat) : State :=
  ts.foldl (fun s t => if t.source = 0 then s.failTile t (off t) else s.failTileData t) (s.countTileFail ts)

/-- The tiles that are read from host memory here under a packet's number. -/
def State.readTiles (s : State) (id : Nat) : List Tile := s.tiles.filter (fun (t : Tile) => t.id = id && !t.done && (t.source = 0 || t.source = 3))

/-- Every tile read from host memory fails: Bus Master Enable is clear (14 R478; log entry 22). -/
def State.failTiles (s : State) : State :=
  (s.tiles.map (fun (t : Tile) => t.id)).eraseDups.foldl (fun s id => s.failRead (s.readTiles id) (fun t => t.frontier 0)) s

/-- A DATA frame (12 R392): written into the layer plane of its tile; held while the TILE_POST waits in Kettle's queue; discarded where there is none, as after
a refused TILE_POST. -/
def State.takeData (s : State) (f : Frame) : State :=
  let src : Source := .relay (BitVec.ofNat 8 (le f.payload 0 1)) (BitVec.ofNat 16 (le f.payload 4 2))
  match s.tiles.find? (fun (t : Tile) => t.source = 2 && !t.done && t.src = src) with
  | some t => s.landTile t (le f.payload 8 4) (f.payload.drop 12)
  | none =>
    if s.pe.queue.any (fun (q : QPacket) => q.pkt.opcode = 0x0310 && q.src = src) then { s with link := { s.link with heldData := s.link.heldData ++ [f] } }
    else s

/-- The DATA frames held for a TILE_POST that Kettle has handled: written, or discarded if it was refused (12 R392). -/
def State.landHeld (s : State) : State :=
  s.link.heldData.foldl (fun s f => s.takeData f) { s with link := { s.link with heldData := [] } }

/-- TILE_POST (05 R169, R170, R172, R175).  DESIGN CHOICE (log entry 50): Kettle goes on once it has taken an ORDERED tile, before the tile has landed
(02 R64, R70); and a SOURCE 1 tile whose bytes run past the usable store, a case that R169 does not list, is BAD_PARAM (log entry 51). -/
def State.opTilePost (s : State) (p : Packet) (src : Source) (seq : Nat) : State :=
  let answer := fun (s : State) (st : BitVec 16) => s.reply p.ordered p src st []
  let layer := p.u 2 1
  match s.jobSlot (BitVec.ofNat 16 (p.u 0 2)) with
  | none => answer s stBAD_STATE
  | some slot =>
    match s.jobAt slot with
    | none => answer s stBAD_STATE
    | some j0 =>
      let j := s.jobPlaced j0
      let relayed := match src with | .relay _ _ => true | _ => false
      let t : Tile :=
        { id := seq, job := j.id, layer := layer, source := (if relayed && p.u 3 1 = 0 then 2 else p.u 3 1), addr := p.u 4 8
          line := p.u 16 4, ch := p.u 20 1, nozzle := p.u 22 2, width := p.u 24 2, height := p.u 26 2
          rowsDone := 0, landed := [], lateCounted := false, orphan := false, forceLate := false, pkt := p, src := src, seq := seq, done := false }
      let open_ := if j.geometry = 2 then j.state = .opened else j.state ≠ .ended
      if !open_ then answer s stBAD_STATE
      else
      match vget j.layers layer none with
      | none => answer s (if 3 < layer then stBAD_PARAM else stBAD_STATE)
      | some d =>
        let reach := if j.geometry = 2 then j.table.imageRows else (s.chan t.ch).nozzles
        if layer = 0 || 1 < p.u 3 1 || 47 < t.ch || !j.channels.getLsbD t.ch || s.layerCh j t.ch ≠ t.ch ||
            t.nozzle % 64 ≠ 0 || t.width % 64 ≠ 0 || reach < t.nozzle + t.width || t.height = 0 || d.lines < (if j.geometry = 2 then t.line + t.height else t.height) ||
            p.u 12 4 ≠ t.bytes || t.addr % 4 ≠ 0 || (p.u 3 1 = 1 && decide (s.storeBytes < t.addr + t.bytes)) || p.u 21 1 ≠ 0 then answer s stBAD_PARAM
        else
          let c := s.tileC j t.ch
          if j.geometry ≠ 2 && decide (t.line + t.height ≤ c) then answer s stBAD_STATE
          else if j.geometry ≠ 2 && decide (c + d.lines < t.line + t.height) then answer s stBUSY
          else
            -- detector 23: row 0 is handled as lying below C, which web geometry alone has (05 R172, 15 R452)
            let q := if j.geometry = 2 then (false, s) else s.detect 23 (decide (t.line < c))
            let s := if q.1 then q.2.count 23 else q.2
            let t := { t with lateCounted := q.1, forceLate := q.1 }
            let s := { s with tiles := s.tiles ++ [t] }
            if t.width = 0 then
              ((List.range t.height).foldl (fun s r => s.markOrDrop slot t.id r) s).endTile t stOK
            else if t.source = 0 && !s.host.bme then s.failRead [t] (fun _ => 0)
            else s

/-- TILE_READ_COMPLETION (05 R174): one completion of a read for the tiles posted under an id, at an offset. -/
def execTileReadCompletion (id off : Nat) (r : ReadResult) (s : State) : Host.Outcome State Fault Refusal :=
  let ts := s.readTiles id
  if ts = [] || !s.inRun || resultOff r s.host.ctl.timeoutOff || !ts.any (fun t => decide (off < t.bytes)) then .next s
  else
    -- detector 10 (15 R452)
    let d := s.detect 10 false
    match (if d.1 then ReadResult.error .abort else r) with
    | .data b =>
      .next (ts.foldl (fun s t => if t.source = 0 then s.landTile t off b else s.sendTileData t off b) d.2)
    | .error e =>
      .next ((d.2.hostReadError e).failRead ts (fun _ => off))

/-- TILE_COPY_ROW (05 R173): the next row of a SOURCE 1 tile; its words with errors are counted, the uncorrectable ones read as 0 (10 R333). -/
def execTileCopyRow (id : Nat) (errors : ReadErrors) (s : State) : Host.Outcome State Fault Refusal :=
  match s.tiles.find? (fun (t : Tile) => t.id = id && t.source = 1 && !t.done) with
  | none => .next s
  | some t =>
    if !s.inRun then .next s
    else if t.orphan then .next (s.endTile t stBAD_STATE)
    else
      let a := t.addr + t.rowsDone * t.rowBytes
      let data := (s.storeRead a t.rowBytes).zipIdx.map (fun (x : Byte × Nat) => if errors.bad.contains ((a % 8 + x.2) / 8) then (0 : Byte) else x.1)
      .next (((s.countN 84 errors.corrected.length).countN 85 errors.bad.length).landTile t (t.rowsDone * t.rowBytes) data)

end Sys2Proof.Machine
end

