-- ==== Sys2Proof/Machine/Heads.lean ====
section
/-! DEFINITION. Heads: HEAD_ATTACH and its transactions, HEAD_CONFIG, tables, Cosy; interlock and sensor inputs (03 R94-R116, 04 R131-R134, 09 R311-R313). -/
namespace Sys2Proof.Machine

/-! ### HEAD_ATTACH -/

/-- HEAD_ID as bytes (03 R105). -/
def HeadId.bytes (h : HeadId) : Bytes := toLe 2 h.maker.toNat ++ [h.type, h.size] ++ toLe 4 h.serial.toNat

/-- HEAD_ID from bytes. -/
def headIdOf (b : Bytes) : HeadId :=
  { maker := BitVec.ofNat 16 (le b 0 2), type := b.getD 2 0, size := b.getD 3 0, serial := w32 (le b 4 4) }

/-- Big-endian frame of the device on HDn_ID: CODE, LEN, PAYLOAD, CHECK (03 R104). -/
def idFrameOf (code : Nat) (payload : Bytes) : Bytes :=
  let b := toLe 1 code ++ toLe 1 payload.length ++ payload
  b ++ toBe 2 (crc16 b).toNat

/-- FIRE ticks of a frame on HDn_ID: its start mark of 20 µs, then 10 µs a bit (03 R103). -/
def idFrameTicks (b : Bytes) : Nat := (20 + 80 * b.length) * tickUs

/-- The line is released at a model clock: the next transaction comes 100 µs later at the earliest (03 R103). -/
def Chan.released (c : Chan) (t : Nat) : Chan := { c with idFree := t + 100 * tickUs }

/-- A device frame sent on HDn_ID, once the line has been released for 100 µs: the wait for its answer ends 400 µs after it (03 R103, R104). -/
def State.sendId (s : State) (n : Nat) (i : Ident) (phase code : Nat) (payload : Bytes) : State :=
  let f := idFrameOf code payload
  s.modChan n (fun c =>
    let start := max s.clock c.idFree
    { (c.released (start + idFrameTicks f)) with idOut := f, ident := some { i with phase := phase, sentAt := start, waitEnd := start + idFrameTicks f + 400 * tickUs } })

/-- IDENT, CHALLENGE and RESPONSE sent (03 R104). -/
def State.sendIdent (s : State) (n : Nat) (i : Ident) : State := s.sendId n i 0 0x3C []
def State.sendChallenge (s : State) (n : Nat) (i : Ident) : State := s.sendId n i 2 0x5C i.challenge
def State.sendResponse (s : State) (n : Nat) (i : Ident) : State := s.sendId n i 3 0x6C []

/-- The identification of a channel at its start. -/
def Ident.start (t : Nat) : Ident :=
  { phase := 0, missing := 0, failed := 0, id := {}, challenge := [], since := t, sentAt := t, waitEnd := t, readyAt := t }

/-- HEAD_ATTACH (03 R106). -/
def State.opHeadAttach (s : State) (p : Packet) (src : Source) (seq : Nat) : State :=
  let m : ChMask := BitVec.ofNat 64 (p.u 0 8)
  let auth := p.u 8 4
  if (maskChans m).any (fun n => (s.jobOf n).isSome) then s.say p src stBAD_STATE
  else if s.attach.isSome then s.say p src stBUSY
  else if !channelsOk (p.u 0 8) || 1 < auth then s.say p src stBAD_PARAM
  else
    let s := s.startOp true .attach p src seq
    let s := { s with attach := some { channels := m, auth := auth = 1, present := 0, authFail := 0, ids := [] } }
    (maskChans m).foldl (fun s n => s.sendIdent n (Ident.start s.clock)) s

/-- The final reply once every channel is through (02 R76, 03 R106). -/
def State.finishAttach (s : State) : State :=
  match s.attach with
  | none => s
  | some r =>
    if (maskChans r.channels).any (fun n => (s.chan n).ident.isSome) then s
    else
      let s := { s with attach := none }
      let ids := (List.range 48).flatMap (fun n => match r.ids.find? (fun (x : Nat × HeadId) => x.1 = n) with
        | some x => x.2.bytes
        | none => pad 8)
      s.finishOps (fun q => match q.kind with | .attach => true | _ => false)
        (fun _ => (stOK, toLe 8 r.present.toNat ++ toLe 8 r.authFail.toNat ++ ids))

/-- The channel is found not present: detached and unconfigured (03 R106). -/
def State.notPresent (s : State) (n : Nat) : State :=
  (s.modChan n (fun c => { c with ident := none, attached := false, configured := false, headId := {}, authFail := false })).finishAttach

/-- The channel is present: attached, its sensor trusted again (03 R106 step 4, 09 R310). -/
def State.isPresent (s : State) (n : Nat) (id : HeadId) (fail : Bool) : State :=
  let s := s.modChan n (fun c => { c with
    ident := none, attached := true, headId := id, authFail := fail, configured := c.configured && decide (64 * id.size.toNat = c.nozzles) })
  let s := s.modHead n (fun y => { y with suspect := false, disagree := none })
  let s := { s with attach := (match s.attach with
    | some r => some { r with present := setBit r.present n true, authFail := (if fail then setBit r.authFail n true else r.authFail), ids := r.ids ++ [(n, id)] }
    | none => none) }
  s.injMoment.finishAttach

/-- The head is identified: authentication, or present (03 R107). -/
def State.identified (s : State) (n : Nat) (i : Ident) (id : HeadId) : State :=
  if s.attach.any (fun r => r.auth) then
    match s.mem.caddy with
    | none => s.isPresent n id true
    | some _ =>
      let d := s.draw
      d.2.sendChallenge n { i with id := id, challenge := toLe 16 d.1 }
  else s.isPresent n id false

/-- The response that a head must give (03 R107). -/
def expectedResponse (fleet : Bytes) (i : Ident) : Bytes :=
  (hmac (hmac fleet i.id.bytes) (i.challenge ++ i.id.bytes)).take 16

/-- A frame that the receiver takes: no code error, LEN and CHECK right (03 R104).  Its status and payload. -/
def IdFrame.taken (f : Sys2Proof.IdFrame) : Option (Nat × Bytes) :=
  let b := f.bytes
  let len := (b.getD 1 0).toNat
  let body := b.take (2 + len)
  if !f.codeError && b.length = 4 + len && decide (len ≤ 32) && b.drop (2 + len) = toBe 2 (crc16 body).toNat then
    some ((b.getD 0 0).toNat, body.drop 2)
  else none

/-- A failed or missing IDENT: again after a guard time, or not present after two missing or three in all (03 R106). -/
def State.identMissed (s : State) (n : Nat) (i : Ident) (guardUs : Nat) : State :=
  if 2 ≤ i.missing || 3 ≤ i.missing + i.failed then s.notPresent n
  else s.modChan n (fun c => { c with ident := some { i with phase := 1, readyAt := s.clock + guardUs * tickUs } })

/-- The next RESPONSE waits: 1 ms from the start of the last one, and where it was answered 100 µs from that answer (03 R107). -/
def State.pollAgain (s : State) (n : Nat) (i : Ident) (answered : Bool) : State :=
  s.modChan n (fun c => { c with ident := some { i with
    phase := 4, readyAt := max (i.sentAt + tickMs) (if answered then s.clock + 100 * tickUs else 0) } })

/-- 50 ms have passed since the CHALLENGE answer (03 R107). -/
def State.authLate (s : State) (i : Ident) : Bool := decide (i.since + 50 * tickMs ≤ s.clock)

/-- ID_ANSWER_MISSING (03 R104, R106, R107): 400 µs after the end of the device's frame. -/
def execIdAnswerMissing (ch : Fin 48) (s : State) : Host.Outcome State Fault Refusal :=
  let n := ch.val
  match (s.chan n).ident with
  | none => .next s
  | some i =>
    if !s.inRun || decide (s.clock < i.waitEnd) then .next s
    else if i.phase = 0 then .next (s.identMissed n { i with missing := i.missing + 1 } 1000)
    else if i.phase = 2 then .next (s.isPresent n i.id true)
    else if i.phase = 3 then .next (s.pollAgain n i false)
    else .next s

/-- ID_ANSWER (03 R104, R106, R107): none comes before the device's frame has ended, and one whose start mark came later than 400 µs after it is
missing. -/
def execIdAnswer (ch : Fin 48) (f : Sys2Proof.IdFrame) (s : State) : Host.Outcome State Fault Refusal :=
  let n := ch.val
  match (s.chan n).ident with
  | none => .next s
  | some i =>
    let a := IdFrame.taken f
    if !s.inRun || decide (s.clock + 400 * tickUs < i.waitEnd) then .next s
    else if i.waitEnd + idFrameTicks f.bytes < s.clock then execIdAnswerMissing ch s
    else
    let s := s.modChan n (fun c => c.released s.clock)
    if i.phase = 0 then
      let good := match a with | some (0, b) => b.length = 8 | _ => false
      -- detector 16 (15 R452)
      let d := s.detect 16 (!good)
      if d.1 then .next ((d.2.count 16).identMissed n { i with failed := i.failed + 1 } 100)
      else .next (d.2.identified n i (headIdOf (match a with | some x => x.2 | none => [])))
    else if i.phase = 2 then
      match a with
      | some (0, []) => .next (s.modChan n (fun c => { c with ident := some { i with phase := 4, since := s.clock, readyAt := s.clock + 100 * tickUs } }))
      | _ => .next (s.isPresent n i.id true)
    else if i.phase = 3 then
      if s.authLate i then .next (s.isPresent n i.id true)
      else
        match a with
        | some (0, b) =>
          if b.length = 16 then
            .next (s.isPresent n i.id (match s.mem.caddy with | some k => b ≠ expectedResponse k i | none => true))
          else .next (s.pollAgain n i true)
        | _ => .next (s.pollAgain n i true)
    else .next s

/-- IDENT_RETRY (03 R106): IDENT is sent again once the guard time is over. -/
def execIdentRetry (ch : Fin 48) (s : State) : Host.Outcome State Fault Refusal :=
  match (s.chan ch.val).ident with
  | some i => if s.inRun && i.phase = 1 && decide (i.readyAt ≤ s.clock) then .next (s.sendIdent ch.val i) else .next s
  | none => .next s

/-- RESPONSE_POLL (03 R107): RESPONSE is sent once the guard time is over. -/
def execResponsePoll (ch : Fin 48) (s : State) : Host.Outcome State Fault Refusal :=
  match (s.chan ch.val).ident with
  | some i => if s.inRun && i.phase = 4 && decide (i.readyAt ≤ s.clock) then .next (s.sendResponse ch.val i) else .next s
  | none => .next s

/-- AUTH_TIMEOUT (03 R107): 50 ms after the CHALLENGE answer. -/
def execAuthTimeout (ch : Fin 48) (s : State) : Host.Outcome State Fault Refusal :=
  match (s.chan ch.val).ident with
  | some i =>
    if s.inRun && (i.phase = 3 || i.phase = 4) && s.authLate i then .next (s.isPresent ch.val i.id true) else .next s
  | none => .next s

/-! ### HEAD_CONFIG -/

/-- HEAD_CONFIG (02 R71, 03 R109, 11 R360). -/
def State.opHeadConfig (s : State) (p : Packet) (src : Source) (_seq : Nat) : State :=
  let n := p.u 0 1
  let c := s.chan n
  let nz := p.u 4 2
  let pr := p.u 6 1
  let dv := p.u 7 1
  if 47 < n then s.say p src stBAD_PARAM
  else if !c.attached || (s.jobOf n).isSome then s.say p src stBAD_STATE
  else if 7 < p.u 1 1 || 3 < p.u 2 1 || p.u 3 1 = 0 || 8 < p.u 3 1 || nz < 64 || 2048 < nz || nz ≠ 64 * c.headId.size.toNat ||
      (47 < pr && pr ≠ 255) || dv < 4 || 64 < dv || 40000 < p.u 8 4 then s.say p src stBAD_PARAM
  else
    (s.modChan n (fun c => { c with
      configured := true, ink := p.u 1 1, row := p.u 2 1, gMax := min (p.u 3 1) s.otp.wires.gCap, nozzles := nz, partner := pr
      clkDiv := dv, quiet := p.u 8 4, pMax := p.u 12 4 })).say p src stOK

/-! ### Tables in use -/

/-- Selection of a drop size in a set: 1 small, 2 medium, 3 large. -/
def ShadowSet.brew (u : ShadowSet) (drop : Nat) : Nat := if drop = 1 then u.brewS else if drop = 2 then u.brewM else u.brewL

/-- A test holds of a set that R72 protects; `brew` leaves out the replaced set once its last brew line has ended. -/
def Chan.protects (c : Chan) (brew : Bool) (f : ShadowSet → Bool) : Bool :=
  f c.live || (c.armed.isSome && f c.shadow) || c.fixedSet.any f || c.earlier.any (fun x => x.2.any f) || c.taken.any (fun x => f x.1) ||
  c.prevSet.any (fun x => f x.1 && (!brew || c.inPeriod.any (fun p => decide (p.line < x.2))))

/-- A BREW body (04 R131). -/
def brewOf (b : Bytes) : Brew :=
  { na := le b 0 1, nb := le b 1 1, tRef := leS b 2 2, slope := leS b 4 2, limit := le b 6 2
    groupDt := (List.range 32).map (fun g => leS b (8 + g) 1)
    pulseA := (List.range 4).map (fun i => w32 (le b (40 + 4 * i) 4))
    pulseB := (List.range 4).map (fun i => w32 (le b (56 + 4 * i) 4)) }

/-- One pulse word in range under a LIMIT (04 R132, R133). -/
def pulseOk (limit : Nat) (w : Word) : Bool :=
  let l : Int := if pwComp w then limit else 0
  decide (8 ≤ pwStart w) && decide (1 ≤ pwWidth w) && w.toNat % 8 = 0 && decide (4 ≤ pwLen w - l) && decide (pwRise w + pwLen w + l ≤ 16380)

/-- Neighbouring pulses in ascending START order with a tick between them at +LIMIT (04 R133). -/
def pulsesApart (limit : Nat) : List Word → Bool
  | a :: b :: r =>
    let l : Int := if pwComp a then limit else 0
    decide (pwStart a ≤ pwStart b) && decide (pwRise a + pwLen a + l + 4 ≤ pwRise b) && pulsesApart limit (b :: r)
  | _ => true

/-- One list of pulse words: n in range, the rest 0 (04 R133). -/
def pulseListOk (limit n : Nat) (ws : List Word) : Bool :=
  (ws.take n).all (pulseOk limit) && pulsesApart limit (ws.take n) && (ws.drop n).all (· = 0)

/-- R133. -/
def Brew.ok (b : Brew) (drop : Nat) : Bool :=
  decide (b.na ≤ 4) && decide (b.nb ≤ 4) && (drop ≠ 1 || b.nb = 0) && (drop ≠ 2 || b.na = 0) && decide (b.limit ≤ 1023) &&
  pulseListOk b.limit b.na b.pulseA && pulseListOk b.limit b.nb b.pulseB

/-- BREW_LOAD (02 R71, R72, 04 R131-R133, 09 R311). -/
def State.opBrewLoad (s : State) (p : Packet) (src : Source) (_seq : Nat) : State :=
  let n := p.u 0 1
  let drop := p.u 1 1
  let k := p.u 2 1
  let c := s.chan n
  let b := brewOf (p.params.drop 4)
  if 47 < n || drop = 0 || 3 < drop || 7 < k then s.say p src stBAD_PARAM
  else if c.protects true (fun u => u.brew drop = k) || (drop = 1 && k = 7 && c.cosy) then s.say p src stBAD_STATE
  else if p.u 3 1 ≠ 0 || !b.ok drop then s.say p src stBAD_PARAM
  else
    (s.modChan n (fun c =>
      if drop = 1 then { c with brewS := vset c.brewS k b }
      else if drop = 2 then { c with brewM := vset c.brewM k b }
      else { c with brewL := vset c.brewL k b })).say p src stOK

/-- R95 on a ROTATION body. -/
def rotationOk (r : Rotation) : Bool :=
  decide (4 ≤ r.slots) && decide (r.slots ≤ 32) && decide (1 ≤ r.gTable) && decide (r.gTable ≤ 8) &&
  r.slotOf.all (fun x => decide (x < r.slots)) &&
  (List.range r.slots).all (fun t => decide (1 ≤ (r.groupsOf t).length) && decide ((r.groupsOf t).length ≤ r.gTable))

/-- ROTATION_LOAD (02 R71, R72, 03 R94, R95). -/
def State.opRotationLoad (s : State) (p : Packet) (src : Source) (_seq : Nat) : State :=
  let n := p.u 0 1
  let k := p.u 1 1
  let c := s.chan n
  let r : Rotation := { slots := p.u 4 1, gTable := p.u 5 1, slotOf := (List.range 32).map (fun g => p.u (8 + g) 1) }
  if 47 < n || 3 < k then s.say p src stBAD_PARAM
  else if c.protects false (fun u => u.rot = k) then s.say p src stBAD_STATE
  else if !zeros p.params 2 2 || !zeros p.params 6 2 || !rotationOk r then s.say p src stBAD_PARAM
  else (s.modChan n (fun c => { c with rots := vset c.rots k r })).say p src stOK

/-! ### COSY_SET -/

/-- COSY_SET (02 R71, 03 R115, 09 R311, R313). -/
def State.opCosySet (s : State) (p : Packet) (src : Source) (_seq : Nat) : State :=
  let m : ChMask := BitVec.ofNat 64 (p.u 0 8)
  let t := p.i 8 2
  let on := p.u 10 2 % 2 = 1
  let chans := maskChans m
  if s.tripped && on then s.say p src stREFUSED_INTERLOCK
  else if chans.any (fun n => !(s.chan n).ready || ((s.chan n).small 7).na = 0) then s.say p src stBAD_STATE
  else if !channelsOk (p.u 0 8) || 1 < p.u 10 2 ||
      (t ≠ 0 && (decide (t < 150) || chans.any (fun n => decide ((s.headSensor n).warn - (s.headSensor n).hyst < t)))) then s.say p src stBAD_PARAM
  else
    (chans.foldl (fun s n => s.modChan n (fun c => { c with
      cosy := on, cosyTarget := (if t = 0 then 450 else t), warming := c.warming && on })) s).say p src stOK

/-! ### Interlock and sensor inputs -/

/-- The class of an interlock input (03 R110). -/
def inputClass (i : Nat) : Nat := i / 4

/-- INTERLOCK_ASSERT (03 R111, R112): the latch of the class, and everything a trip does. -/
def execInterlockAssert (i : Fin 13) (s : State) : Host.Outcome State Fault Refusal :=
  if !s.aonOn then .next s
  else
    let s := { s with ilk := { s.ilk with inputs := setBit s.ilk.inputs i.val true, inputAt := s.ilk.inputAt.set i.val s.clock } }
    .next (s.trip (setBit 0 (inputClass i.val) true))

/-- Bit of a class. -/
def tripIndex : TripClass → Nat
  | .headOpen => 0
  | .paperOut => 1
  | .jam => 2
  | .emergency => 3

/-- 328 AON samples after the last assertion in a class (03 R113, R114). -/
def State.releaseDue (s : State) (k : Nat) : Bool := decide (328 * 390625 ≤ (s.clock - vget s.ilk.assertedAt k 0) * 32)

/-- INTERLOCK_RELEASE (03 R113): every input of the class has read deasserted on 328 AON samples, none of which lies before its last assertion. -/
def execInterlockRelease (c : TripClass) (s : State) : Host.Outcome State Fault Refusal :=
  let k := tripIndex c
  if !s.aonOn || !s.releaseDue k then .next s
  else
    let s := { s with ilk := { s.ilk with
      inputs := s.ilk.inputs &&& ~~~ (if k = 3 then 0x1000 else (0xF : BitVec 13) <<< (4 * k))
      trips := setBit s.ilk.trips k false } }
    .next s.reportLocal

end Sys2Proof.Machine
end

