-- ==== Sys2Proof/Machine/Otp.lean ====
section
/-! DEFINITION. OTP words, regions, the sense, programming, life cycle, tamper (11). -/
namespace Sys2Proof.Machine

/-! ### Words -/

/-- The 7-bit columns of odd weight that are not those of a check bit. -/
def otpCandidates : List (BitVec 7) :=
  ((List.range 128).filter (fun n => ((List.range 7).filter (fun i => bit n i)).length % 2 = 1 && ((List.range 7).filter (fun i => bit n i)).length ≠ 1)).map
    (BitVec.ofNat 7)

/-- n columns, each chosen among those not yet taken. -/
def pickColumns : Nat → List (BitVec 7) → List (BitVec 7)
  | 0, _ => []
  | n + 1, l =>
    let k := Config.otpPick n % l.length
    l.getD k 0 :: pickColumns n (l.eraseIdx k)

/-- The columns of the 32 data bits: distinct and of odd weight, so one wrong bit has the syndrome of its column and two wrong bits that of none
(11 R343: SEC-DED; which such code is left open, log entry 6). -/
def otpColumns : List (BitVec 7) := pickColumns 32 otpCandidates

/-- Check bits of a data word; those of a blank word are 0 (11 R343). -/
def otpCheckBits (d : Word) : BitVec 7 :=
  if d = 0 then 0 else otpColumns.zipIdx.foldl (fun (m : BitVec 7) (c : BitVec 7 × Nat) => if d.getLsbD c.2 then m ^^^ c.1 else m) 0

/-- The 39 bits of a data word. -/
def otpCode (d : Word) : BitVec 39 := BitVec.ofNat 39 (d.toNat + 2 ^ 32 * (otpCheckBits d).toNat)

/-- Data bits of a raw word. -/
def otpData (r : BitVec 39) : Word := w32 r.toNat

/-- A raw word is the code word of a data word. -/
def otpHolds (r : BitVec 39) (d : Word) : Bool := otpData r = d && r = otpCode d

/-- The word is a code word. -/
def otpValid (r : BitVec 39) : Bool := r = otpCode (otpData r)

/-- ECC on a raw word: data and whether a bit was corrected; none when uncorrectable (11 R343, R347). -/
def otpCorrect (r : BitVec 39) : Option (Word × Bool) :=
  if otpValid r then some (otpData r, false)
  else
    match (List.range 39).find? (fun i => otpValid (r ^^^ BitVec.ofNat 39 (2 ^ i))) with
    | some i => some (otpData (r ^^^ BitVec.ofNat 39 (2 ^ i)), true)
    | none => none

/-- A word of the array. -/
def State.otpWord (s : State) (a : Nat) : OtpWord := sget {} s.otp.words a

/-- Normal read (11 R346). -/
def State.otpRead (s : State) (a : Nat) : Option (Word × Bool) := otpCorrect (s.otpWord a).nom

/-- Data of the normal read, 0 when uncorrectable. -/
def State.otpVal (s : State) (a : Nat) : Word := match s.otpRead a with | some x => x.1 | none => 0

/-- The life-cycle state that region 2 decodes to (11 R362). -/
def State.otpLifecycle (s : State) : Nat :=
  (List.range 4).foldl (fun m k => if (s.otpWord (0x200 + k)).lo ≠ 0 then k + 1 else m) 0

/-- The state word of state k (11 R362). -/
def stateWord (k : Nat) : Word := w32 (0xA5C30000 + 256 * (0xFF - k) + k)

/-- The word is that of the present life-cycle state and does not read its exact pattern at both margins (11 R362). -/
def State.stateTorn (s : State) (a : Nat) : Bool :=
  let k := s.otpLifecycle
  k ≠ 0 && a = 0x200 + (k - 1) && (!otpHolds (s.otpWord a).lo (stateWord k) || !otpHolds (s.otpWord a).hi (stateWord k))

/-- A word is weak: margins differ, a correction, a change since the last sense, or found weak before (11 R347); and the present state word without its
exact pattern, whatever it reads (11 R362). -/
def State.otpWeak (s : State) (a : Nat) : Bool :=
  let w := s.otpWord a
  s.stateTorn a ||
  (match s.otpRead a with
   | some (d, c) => w.lo ≠ w.hi || c || d ≠ sget 0 s.otp.aon a || s.otp.weak.contains a
   | none => false)

/-- The six die temperatures, 0.1 °C. -/
def State.dieTemps (s : State) : List Int := (List.range 6).map (fun i => (s.dieSensor i).shown)

/-- A word found weak: kept, and counted when new (11 R347). -/
def State.findWeak (s : State) (a : Nat) : State :=
  if s.otp.weak.contains a then s
  else ({ s with otp := { s.otp with weak := s.otp.weak ++ [a] } }).count 97

/-! ### Regions -/

def otpAddr (region off : Nat) : Nat := 256 * region + off

/-- LOCK and JOURNAL patterns (11 R345). -/
def lockWord (r : Nat) : Word := w32 (0x4C4B0000 + 256 * r + (0xFF - r))
def journalWord (digest : Bytes) : Word := w32 (0x4A4E0000 + le digest 0 2)

/-- Regions that have a digest and a lock (11 R344). -/
def finalisable (r : Nat) : Bool := r ≠ 2 && r ≠ 6

/-- The region is locked, once its LOCK word verifies; a finalise is pending (11 R354, R355). -/
def State.otpLocked (s : State) (r : Nat) : Bool :=
  finalisable r && otpHolds (s.otpWord (otpAddr r 247)).lo (lockWord r) && otpHolds (s.otpWord (otpAddr r 247)).hi (lockWord r)
def State.otpPending (s : State) (r : Nat) : Bool :=
  finalisable r && (s.otpWord (otpAddr r 246)).lo ≠ 0 && !s.otpLocked r

/-- The digest of a region (11 R345). -/
def State.otpDigest (s : State) (r : Nat) : Bytes :=
  sha256 (toLe 1 r ++ (List.range 246).flatMap (fun k => toLe 4 (s.otpVal (otpAddr r k)).toNat))

/-- Word i of the DIGEST. -/
def digestWord (d : Bytes) (i : Nat) : Word := w32 (le d (4 * i) 4)

/-- Words that a region's integrity covers (11 R361). -/
def State.otpUncorrectable (s : State) (r : Nat) : Bool :=
  (List.range (if finalisable r then 246 else 256)).any (fun k => (s.otpRead (otpAddr r k)).isNone)

/-- The region fails its integrity check (11 R355, R361). -/
def State.otpFails (s : State) (r : Nat) : Bool :=
  s.otpUncorrectable r ||
  (finalisable r && (s.otpLocked r || s.otpPending r) &&
    (let d := s.otpDigest r
     (List.range 8).any (fun i =>
       (s.otpLocked r || (s.otpWord (otpAddr r (248 + i))).lo ≠ 0) && s.otpVal (otpAddr r (248 + i)) ≠ digestWord d i)))

/-! ### Field values -/

/-- R356: the value, and its source: 0 programmed, 1 open, 2 restrictive. -/
def resolve {α : Type} (isOpen failed weak blank : Bool) (v : Option α) (open_ restrictive : α) : α × Nat :=
  if failed || weak then (restrictive, 2)
  else if blank then (if isOpen then (open_, 1) else (restrictive, 2))
  else match v with
    | some x => (x, 0)
    | none => (restrictive, 2)

/-- A TEMP field in its range (11 R357). -/
def boundOf (n : Nat) (lo hi : Int) : Option Int := let t := sext 16 n; if lo ≤ t && t ≤ hi then some t else none

/-- The critical wires as a sense resolves them (11 R356, R357, R360-R363). -/
def State.senseWires (s : State) : Wires :=
  let failed := s.otpFails 3
  let isOpen := !s.otpLocked 3 && !s.otpPending 3
  let w := fun k => (s.otpVal (otpAddr 3 k)).toNat
  let weak := fun k => s.otpWeak (otpAddr 3 k)
  let w0 := w 0
  let res0 := decide (bits w0 15 10 ≠ 0) || decide (bits w0 31 20 ≠ 0)
  let two : Nat → Bool → Bool → Bool → Bool → Bool × Nat := fun lo a b open_ restr =>
    let n := bits w0 (lo + 1) lo
    resolve isOpen failed (weak 0) (n = 0 && !res0) (if res0 then none else if n = 1 then some a else if n = 2 then some b else none) open_ restr
  let ms := bits w0 1 0
  let master := resolve isOpen failed (weak 0) (ms = 0 && !res0)
    (if res0 then none else if ms = 1 then some s.pwr.cascMaster else if ms = 2 then some false else some true) s.pwr.cascMaster false
  let compat := two 2 false true false false
  let dlock := two 4 false true false true
  let inject := two 6 true false true false
  let bar4 := two 8 true false true false
  let g := bits w0 19 16
  let gcap := resolve isOpen failed (weak 0) (g = 0 && !res0) (if res0 || 8 < g then none else some g) 8 2
  let weakB := weak 1 || weak 2 || weak 3 || weak 4
  let bound := fun (n : Nat) (lo hi open_ restr : Int) => resolve isOpen failed weakB (n = 0) (boundOf n lo hi) open_ restr
  let hw := bound (bits (w 1) 15 0) 500 700 600 500
  let ht := bound (bits (w 1) 31 16) 550 750 650 550
  let hs := bound (bits (w 2) 15 0) 650 900 750 650
  let dw := bound (bits (w 3) 15 0) 900 1100 1000 900
  let dt := bound (bits (w 3) 31 16) 1000 1200 1100 1000
  let ds := bound (bits (w 4) 15 0) 1100 1250 1250 1100
  let bs := [hw.2, ht.2, hs.2, dw.2, dt.2, ds.2]
  let srcs := [master.2, compat.2, dlock.2, inject.2, bar4.2, gcap.2] ++ bs
  let lc := s.otpLifecycle
  { lifecycle := lc, master := master.1, compat := compat.1, debugLock := dlock.1 || lc = 2 || lc = 4, inject := inject.1, bar4 := bar4.1
    gCap := gcap.1, headWarn := hw.1, headThrottle := ht.1, headShutdown := hs.1, dieWarn := dw.1, dieThrottle := dt.1, dieShutdown := ds.1
    boundSrc := bs.foldl max 0, boundWeak := weakB
    critSrc := if srcs.all (fun x => x = 0) then 0 else if srcs.all (fun x => x = 1) then 1 else if srcs.all (fun x => x = 2) then 2 else 3 }

/-- A word read at all three reads: a correction and a new finding of a weak word are counted (11 R347). -/
def State.otpInspect (s : State) (a : Nat) : State :=
  let s := match s.otpRead a with | some (_, true) => s.count 96 | _ => s
  if s.otpWeak a then s.findWeak a else s

/-- The words of some regions that a normal read can find programmed or changed since the last sense. -/
def State.otpListed (s : State) (rs : List Nat) : List Nat :=
  (s.otp.words.map (·.1) ++ (s.otp.aon.map (·.1)).filter (fun a => (s.otpWord a) = {})).filter (fun a => rs.contains (a / 256))

/-- Every word of some regions read: corrections and new findings of weak words are counted (11 R347). -/
def State.inspectRegions (s : State) (rs : List Nat) : State := (s.otpListed rs).foldl State.otpInspect s

/-- Caddy is loaded: the decoded life-cycle state permits it and no tamper hold is set (11 R363, R364, R366). -/
def State.caddyLoads (s : State) : Bool := s.otpLifecycle ≤ 2 && !s.otp.caddyHold

/-- K_FLEET as Caddy may load it; none when it is unprovisioned (03 R107, 11 R359, R363, R366). -/
def State.fleetKey (s : State) : Option Bytes :=
  let b := (List.range 8).flatMap (fun k => toLe 4 (s.otpVal (otpAddr 1 (16 + k))).toNat)
  if s.otpFails 1 || !s.caddyLoads || b.all (fun x => x = 0) then none else some b

/-- The other keys of region 1 as Caddy may load them (11 R359, R360, R361, R363, R366). -/
def State.otherKeys (s : State) : List Word :=
  if s.otpFails 1 || !s.caddyLoads then [] else (List.range 222).map (fun k => s.otpVal (otpAddr 1 (24 + k)))

/-- Region 7's data as Caddy may load it (11 R360, R361, R363, R366). -/
def State.firmWords (s : State) : List Word :=
  if !s.otp.regionOk.getLsbD 7 || !s.caddyLoads then [] else (List.range 246).map (fun k => s.otpVal (otpAddr 7 k))

/-- Caddy wiped, and loaded from regions 1 and 7 where the decoded life-cycle state allows it (10 R329, 11 R360, R363, R364, R366). -/
def State.loadCaddy (s : State) : State :=
  { s with mem := { s.mem with caddy := s.fleetKey, caddyKeys := s.otherKeys, caddyFirm := s.firmWords } }
def State.wipeCaddy (s : State) : State := { s with mem := { s.mem with caddy := none, caddyKeys := [], caddyFirm := [] } }

/-- Caddy loaded again: its regions are read, so what those reads find is counted (11 R347, R364, 13 R416). -/
def State.reloadCaddy (s : State) : State := (if s.caddyLoads then s.inspectRegions [1, 7] else s).loadCaddy

/-- What the JTAG port gives (11 R363): boundary scan alone in PRODUCTION and SCRAPPED and where debug is locked. -/
def State.jtagOpen (s : State) : Bool := !s.otp.wires.debugLock && s.otp.wires.lifecycle ≠ 2 && s.otp.wires.lifecycle ≠ 4

/-- Patch records from an offset on: the highest level applied and the number rejected (11 R359). -/
def patchScan (words : List Word) : Nat → Nat → Bool → Word × Nat
  | 0, _, _ => (0, 0)
  | fuel + 1, k, reject =>
    let h := words.getD k 0
    if h = 0 || 246 ≤ k then (0, 0)
    else
      let x := Config.patchHeader h
      let n := 1 + x.2 + 16
      let r := patchScan words fuel (k + n) false
      if !reject && Config.patchVerifies ((words.drop k).take n) then (w32 (max x.1 r.1.toNat), r.2) else (r.1, r.2 + 1)

/-- Kettle applies the patch records (11 R359); a shot of detector 100 rejects the first one. -/
def State.applyPatches (s : State) : State :=
  let words := if (s.otp.regionOk).getLsbD 5 then (List.range 246).map (fun k => s.otpVal (otpAddr 5 k)) else []
  let d := if words.getD 0 0 = 0 then (false, s) else s.detect 100 false
  let r := patchScan words 246 0 d.1
  ({ d.2 with otp := { d.2.otp with patch := r.1 } }).countN 100 r.2

/-- A threshold at or below its bound (09 R295). -/
def SensorState.clamp (x : SensorState) (w t sh : Int) : SensorState := { x with warn := min x.warn w, throttle := min x.throttle t, shutdown := min x.shutdown sh }

/-- Every threshold at or below its bound (09 R295; log entry 23). -/
def State.clampThresholds (s : State) : State :=
  let w := s.otp.wires
  { s with therm := { s.therm with heads := s.therm.heads.map (fun x => x.clamp w.headWarn w.headThrottle w.headShutdown)
                                   dies := s.therm.dies.map (fun x => x.clamp w.dieWarn w.dieThrottle w.dieShutdown) } }

/-- Regions read at all three reads and checked: weak words, integrity with its counter, AON copies with their temperatures (11 R347, R360, R361);
detector 99 takes region 7 as failed (15 R452). -/
def State.readRegions (s : State) (rs : List Nat) : State :=
  let listed := s.otpListed rs
  let s := s.inspectRegions rs
  let s := rs.foldl (fun s r =>
    let f := s.otpFails r
    let d := if r = 7 then s.detect 99 f else (f, s)
    let s := if d.1 then d.2.count 99 else d.2
    { s with otp := { s.otp with regionOk := setBit s.otp.regionOk r (!d.1) } }) s
  let aon := listed.foldl (fun (m : List (Nat × Word)) (a : Nat) => sput 0 m a (s.otpVal a)) s.otp.aon
  let temps := listed.foldl (fun (m : List (Nat × List Int)) (a : Nat) => sput [] m a (if s.otpVal a = 0 then [] else s.dieTemps)) s.otp.aonTemp
  { s with otp := { s.otp with aon := aon, aonTemp := temps } }

/-- The factory repairs of region 0 in the fault map, unless the region fails its integrity check (10 R328, 11 R361): a row listed and not yet in
the map takes a spare. -/
def State.loadRepairs (s : State) : State :=
  if s.otpFails 0 then s
  else
    let words := (List.range 246).map (fun k => s.otpVal (otpAddr 0 k))
    if words.all (fun w => w = 0) then s
    else
      { s with mem := { s.mem with banks := Vector.ofFn (fun (i : Fin 17) =>
          let k := s.bank i.val
          let new := (Config.factoryRepairs words i.val).eraseDups.filter (fun r => !k.rows.contains r)
          { k with rows := k.rows ++ new.take (16 - k.rows.length) }) } }

/-- The start-up sense in hardware: regions 0, 2 and 3, the dedicated wires, the fault map, the bounds (11 R360, 13 R407). -/
def State.sense (s : State) : State :=
  let s := ({ s with otp := { s.otp with regionOk := 0 } }).readRegions [0, 2, 3]
  ({ s with otp := { s.otp with wires := s.senseWires } }.loadRepairs).clampThresholds

/-- The Subsystem IDs from word 4 of region 1 (11 R359, 14 R423). -/
def State.loadSubsystem (s : State) : State :=
  let w := s.otpVal (otpAddr 1 4)
  let c := if s.otp.regionOk.getLsbD 1 && w ≠ 0 then { subVendor := BitVec.ofNat 16 w.toNat, subsystem := BitVec.ofNat 16 (w.toNat / 65536) } else {}
  { s with host := { s.host with cfg := c } }

/-- What Kettle does before it accepts a packet: regions 1, 4, 5 and 7 read and checked, region 6 with them, Caddy loaded, patches applied (11 R360). -/
def State.kettleReads (s : State) : State := (((s.readRegions [1, 4, 5, 6, 7]).loadSubsystem).loadCaddy).applyPatches

/-- The ROM digest fails: Kettle stays in reset and reads nothing (13 R413). -/
def State.romFails (s : State) : State := ({ s with pe := { s.pe with romFail := true } }).count 103

/-! ### Programming -/

/-- Every die sensor that is not suspect lies within 0-85 °C (09 R316), which a sensor not yet measured since power-on does not (11 R353: reset 0). -/
def State.tempOk (s : State) : Bool :=
  (List.range 6).all (fun i => let d := s.dieSensor i; d.suspect || (d.known && decide (0 ≤ d.value) && decide (d.value ≤ 850)))

/-- OTP_STAT.BUSY (11 R353). -/
def State.otpBusy (s : State) : Bool := s.otp.run.isSome || s.otp.advance.isSome

/-- The result of a command (11 R353). -/
def State.otpResult (s : State) (result attempts : Nat) (a : Nat) : State :=
  { s with otp := { s.otp with result := result, attempts := attempts, weakBit := s.otpWeak a } }

/-- A word that PROGRAM never writes (11 R349, R345, R357-R359). -/
def otpReserved (r off : Nat) : Bool :=
  246 ≤ off || (r = 3 && 5 ≤ off) || (r = 4 && 244 ≤ off) || (r = 1 && 5 ≤ off && off ≤ 15)

/-- The life-cycle state allows PROGRAM, FINALISE_REGION, REBURN_WORD (11 R363). -/
def lifecycleAllows (lc kind r : Nat) : Bool :=
  match lc with
  | 0 => true
  | 1 => true
  | 2 => kind = 5 || r = 7
  | 3 => kind = 5
  | _ => false

/-- Every bit that is set lies within the target. -/
def within (x t : BitVec 39) : Bool := x &&& ~~~ t = 0

/-- The words that a finalise of region r burns (11 R354, R355). -/
def State.finaliseWords (s : State) (r : Nat) : List (Nat × BitVec 39) :=
  let d := s.otpDigest r
  let j := (otpAddr r 246, otpCode (journalWord d))
  let w := s.otpWord (otpAddr r 246)
  (if s.otpPending r && w.lo = j.2 && w.hi = j.2 then [] else [j]) ++
  (List.range 8).map (fun i => (otpAddr r (248 + i), otpCode (digestWord d i))) ++ [(otpAddr r 247, otpCode (lockWord r))]

/-- REBURN_WORD accepts a target for a word: the corrected normal read equals it, or the word is uncorrectable and its bits at margin-low lie
within the target (11 R348). -/
def State.reburnOk (s : State) (a : Nat) (t : BitVec 39) : Bool :=
  match s.otpRead a with
  | some (d, _) => otpCode d = t
  | none => within (s.otpWord a).lo t

/-- The first refusal of R349 for a programming command, or the words to program; those of a finalise follow from its steps 1 and 2. -/
def State.otpAdmit (s : State) (kind a : Nat) : Nat ⊕ List (Nat × BitVec 39) :=
  let r := a / 256
  let off := a % 256
  let w := s.otpWord a
  let t := otpCode s.otp.wdata
  if s.otp.key ≠ 2 then .inl 1
  else if !lifecycleAllows s.otp.wires.lifecycle kind r then .inl 3
  else if (kind = 4 && (r = 0 || r = 2 || r = 6 || s.otpLocked r || otpReserved r off)) ||
      (kind = 6 && (r = 0 || !finalisable r || s.otpLocked r)) then .inl 2
  else if kind = 4 && s.otpPending r then .inl 12
  else if !s.tempOk then .inl 4
  else if !s.otp.vppOk then .inl 5
  else if kind = 4 then (if w.lo = 0 then .inr [(a, t)] else .inl 6)
  else if kind = 5 then (if s.reburnOk a t then .inr [(a, t)] else .inl 7)
  else .inr []

/-- Kettle stands: stalled, rebooting or held in reset (02 R79, 13 R413, R416). -/
def State.kettleDown (s : State) : Bool := s.pe.stalled || s.pe.rebooting || s.pe.romFail

/-- The DATA words of a region read at normal read (11 R347, R354 step 1). -/
def State.readData (s : State) (g : Nat) : State :=
  (((List.range 246).map (otpAddr g)).filter (fun a => s.otpWord a ≠ {})).foldl State.otpInspect s

/-- A DATA word of the region is uncorrectable (11 R354). -/
def State.dataBroken (s : State) (g : Nat) : Bool := (List.range 246).any (fun k => (s.otpRead (otpAddr g k)).isNone)

/-- The command goes on once Kettle runs (11 R351).  Steps 1 and 2 of a finalise: the DATA words read, the words to burn; nothing is burned where one is
uncorrectable (11 R354, R355). -/
def State.otpBegin (s : State) : State :=
  match s.otp.run with
  | none => s
  | some r =>
    if s.kettleDown then s
    else if r.kind ≠ 6 || r.todo ≠ [] then { s with otp := { s.otp with run := some { r with begun := true } } }
    else
      let g := s.otp.addr.toNat / 256
      let s := s.readData g
      if s.dataBroken g then
        ({ s with otp := { s.otp with run := none } }).otpResult 11 0 (otpAddr g 0)
      else { s with otp := { s.otp with run := some { r with todo := s.finaliseWords g, begun := true } } }

/-- A programming command: refused, or BUSY with its words to program (11 R348-R351, R354). -/
def State.otpProgramCmd (s : State) (kind : Nat) : State :=
  let a := s.otp.addr.toNat
  let adm := s.otpAdmit kind a
  let s := { s with otp := { s.otp with key := 0 } }
  match adm with
  -- a refused REBURN_WORD has made its normal read (11 R347, R348)
  | .inl e => (if e = 7 then s.otpInspect a else s).otpResult e 0 a
  | .inr todo =>
    let s := if kind = 5 then s.otpInspect a else s
    -- detector 98 (15 R452)
    let d := if kind = 6 then (false, s) else s.detect 98 false
    if d.1 then (d.2.count 98).otpResult 8 0 a
    else ({ d.2 with otp := { d.2.otp with run := some { kind := kind, todo := todo, attempts := 0, begun := !s.kettleDown } } }).otpBegin

/-- The read is of protected data (11 R352). -/
def State.otpDenied (s : State) (a : Nat) : Bool :=
  let off := a % 256
  (a / 256 = 1 && 16 ≤ off && off ≤ 245) || (a / 256 = 7 && off ≤ 245 && 2 ≤ s.otp.wires.lifecycle)

/-- A READ command (11 R346, R347): detectors 96 and 97 act here (15 R452); the data of an uncorrectable word is a free value. -/
def State.otpReadCmd (s : State) : State :=
  let a := s.otp.addr.toNat
  let setData := fun (s : State) (d : Word) => { s with otp := { s.otp with rdata := d } }
  let n := s.otp.attempts
  if s.otpDenied a then (setData s 0).otpResult 10 n a
  else
    match s.otpRead a with
    | none => let d := s.draw; (setData d.2 (w32 d.1)).otpResult 11 n a
    | some (v, c) =>
      let d96 := s.detect 96 c
      let weak := d96.1 || s.otpWeak a
      let found := weak && !s.otp.weak.contains a
      let s := if d96.1 then d96.2.count 96 else d96.2
      -- a finding and the shot that meet are one detection (15 R456)
      let d97 := s.detect 97 false
      let s := if weak then d97.2.findWeak a else d97.2
      let s := (setData (if d97.1 && !found then s.count 97 else s) v).otpResult 0 n a
      if d97.1 then { s with otp := { s.otp with weakBit := true } } else s

/-- A margin read (11 R346): raw data, check bits in ECC. -/
def State.otpMarginCmd (s : State) (high : Bool) : State :=
  let a := s.otp.addr.toNat
  let n := s.otp.attempts
  if s.otpDenied a then ({ s with otp := { s.otp with rdata := 0, ecc := 0 } }).otpResult 10 n a
  else
    let raw := if high then (s.otpWord a).hi else (s.otpWord a).lo
    let s := { s with otp := { s.otp with rdata := otpData raw, ecc := BitVec.ofNat 7 (raw.toNat / 2 ^ 32) } }
    let s := if s.otpWeak a then s.findWeak a else s
    s.otpResult 0 n a

/-- A write of OTP_CMD (11 R353). -/
def State.otpCmd (s : State) (c : Nat) : State :=
  if s.otpBusy then s
  else
    match c with
    | 1 => s.otpReadCmd
    | 2 => s.otpMarginCmd false
    | 3 => s.otpMarginCmd true
    | 4 => s.otpProgramCmd 4
    | 5 => s.otpProgramCmd 5
    | 6 => s.otpProgramCmd 6
    | _ => s

/-- A write of OTP_KEY (11 R353). -/
def State.otpKeyWrite (s : State) (v : Nat) : State :=
  let k := v % 65536
  { s with otp := { s.otp with key := (if k = 0x6B31 then 1 else if k = 0xB72E && s.otp.key = 1 then 2 else 0), keyAt := s.clock } }

/-- OTP_KEY_TIMEOUT (11 R353): 1 ms without a command. -/
def execOtpKeyTimeout (s : State) : Host.Outcome State Fault Refusal :=
  if s.inRun && s.otp.keyAt + tickMs ≤ s.clock then .next { s with otp := { s.otp with key := 0 } } else .next s

/-- The array after a pulse: driven cells may set, no cell clears (11 R343, R350), and a cell that a read at a higher level finds programmed is found so
by every read at a lower one (11 R346). -/
def OtpWord.pulsed (w : OtpWord) (target lo nom hi : BitVec 39) : OtpWord :=
  { lo := w.lo ||| ((lo ||| nom ||| hi) &&& target), nom := w.nom ||| ((nom ||| hi) &&& target), hi := w.hi ||| (hi &&& target) }

/-- A word verified: its AON copy and weak flag updated (11 R350). -/
def State.otpVerified (s : State) (a : Nat) : State :=
  { s with otp := { s.otp with aon := sput 0 s.otp.aon a (s.otpVal a), aonTemp := sput [] s.otp.aonTemp a s.dieTemps, weak := s.otp.weak.filter (fun x => x ≠ a) } }

/-- The life-cycle wire takes a state, Caddy is wiped and loaded as that state permits, arming is looked at again, and the advance has its final reply (11
R364 steps 3 and 4, 15 R456). -/
def State.enterLifecycle (s : State) (k : Nat) : State :=
  let s := { s with otp := { s.otp with advance := none, wires := { s.otp.wires with lifecycle := k } } }
  s.wipeCaddy.reloadCaddy.injMoment.finishOps (fun p => match p.kind with | .lifecycle _ => true | _ => false) (fun _ => (stOK, []))

/-- A word that did not verify: a failure counted, and a new finding where its reads make it weak (11 R347, R350). -/
def State.otpFailed (s : State) (a : Nat) : State := let s := s.count 98; if s.otpWeak a then s.findWeak a else s

/-- A life-cycle advance that cannot go on: the state that region 2 decodes to, and its final reply (11 R362, R364). -/
def State.advanceStops (s : State) : State := if s.otp.advance.isNone then s else s.enterLifecycle s.otpLifecycle

/-- A programming command ends with a result. -/
def State.otpStop (s : State) (result attempts a : Nat) : State :=
  let adv := s.otp.run.any (fun r => r.kind = 7)
  let s := ({ s with otp := { s.otp with run := none } }).otpResult result attempts a
  if adv && result ≠ 0 then s.advanceStops else s

/-- The next part of an advance once its words are burned (11 R364): the next region's finalise, which burns nothing where a DATA word is uncorrectable,
and after the last region the state word. -/
def State.advanceNext (s : State) (r : OtpRun) (a : Nat) : State :=
  match r.regions with
  | g :: gs =>
    let s := s.readData g
    if s.dataBroken g then s.otpStop 11 0 (otpAddr g 0)
    else { s with otp := { s.otp with run := some { r with todo := s.finaliseWords g, attempts := 0, regions := gs } } }
  | [] =>
    if r.stateTo = 0 then s.otpStop 0 (r.attempts + 1) a
    else { s with otp := { s.otp with run := some { r with todo := [(otpAddr 2 (r.stateTo - 1), otpCode (stateWord r.stateTo))], attempts := 0, stateTo := 0 } } }

/-- A word of a finalise or an advance that is no longer blank is read before its first pulse (11 R347, R348, R355). -/
def State.reburnRead (s : State) (r : OtpRun) (a : Nat) : State :=
  if 6 ≤ r.kind && r.attempts = 0 && (s.otpWord a).lo ≠ 0 then s.otpInspect a else s

/-- OTP_PROGRAM_PULSE (11 R350): the reads of the word after the pulse; refused before it when temperature or VPP has left its range.  A word of a
finalise or an advance that is no longer blank is burned again under R348. -/
def execOtpProgramPulse (lo nom hi : BitVec 39) (s : State) : Host.Outcome State Fault Refusal :=
  match s.otp.run with
  | none => .next s
  | some r =>
    match r.todo with
    | [] => .next s.otpBegin
    | (a, t) :: rest =>
      if !s.inRun || s.kettleDown then .next s
      else if !s.tempOk then .next (s.otpStop 9 r.attempts a)
      else if !s.otp.vppOk then .next (s.otpStop 5 r.attempts a)
      else if 6 ≤ r.kind && r.attempts = 0 && (s.otpWord a).lo ≠ 0 && !s.reburnOk a t then .next ((s.reburnRead r a).otpStop 7 r.attempts a)
      else
        let w := (s.otpWord a).pulsed t lo nom hi
        let s := s.reburnRead r a
        let s := { s with otp := { s.otp with words := sput {} s.otp.words a w } }
        if w.lo = t && w.hi = t then
          let s := s.otpVerified a
          if rest = [] then .next (s.advanceNext r a)
          else .next { s with otp := { s.otp with run := some { r with todo := rest, attempts := 0 } } }
        else if 7 ≤ r.attempts then .next ((s.otpFailed a).otpStop 8 8 a)
        else .next { s with otp := { s.otp with run := some { r with attempts := r.attempts + 1 } } }

/-! ### The shutdown log -/

/-- Log words used: a word with any bit set, or uncorrectable (09 R304, 11 R361). -/
def State.logUsed (s : State) : Nat := ((List.range 64).filter (fun k => (s.otpWord (otpAddr 6 k)).lo ≠ 0)).length

/-- Log words used or taken by waiting words, a word whose programming failed counted once (09 R304). -/
def State.logTaken (s : State) : Nat :=
  let again := s.therm.logRetry.any (fun a => (s.otpWord a).lo ≠ 0)
  s.logUsed + s.therm.logWait.length - b2n again

/-- The address of the next log word: one whose programming failed is completed (09 R304); none in a full log. -/
def State.logAddr (s : State) : Option Nat :=
  match s.therm.logRetry with
  | some a => some a
  | none => if s.logUsed < 64 then some (otpAddr 6 s.logUsed) else none

/-- SHUTDOWN_LOG_WRITE (09 R304): the first waiting word is programmed; the operands are its reads afterwards; a log that the host filled meanwhile
takes no further word. -/
def execShutdownLogWrite (lo nom hi : BitVec 39) (s : State) : Host.Outcome State Fault Refusal :=
  match s.therm.logWait with
  | [] => .next s
  | (_, d) :: rest =>
    if !s.inRun || s.kettleDown || s.otpBusy || !s.tempOk || !s.otp.vppOk then .next s
    else
      let t := otpCode d
      match s.logAddr with
      | none => .next ({ s with therm := { s.therm with logWait := rest } }.count 67)
      | some a =>
        let w := (s.otpWord a).pulsed t lo nom hi
        let s := { s with otp := { s.otp with words := sput {} s.otp.words a w } }
        if w.lo = t && w.hi = t then .next { s.otpVerified a with therm := { s.therm with logWait := rest, logRetry := none } }
        else .next ({ s with therm := { s.therm with logRetry := some a } }.otpFailed a)

/-! ### Life cycle -/

/-- Transitions permitted (11 R364): a state to itself only while its own state word is weak. -/
def State.advanceAllowed (s : State) (tgt : Nat) : Bool :=
  let lc := s.otp.wires.lifecycle
  (lc = 0 && (tgt = 1 || tgt = 2)) || (lc = 1 && tgt = 2) || (lc = 2 && tgt = 3) || (tgt = 4 && lc ≠ 4) || (tgt = lc && tgt ≠ 0 && s.otpWeak (otpAddr 2 (tgt - 1)))

/-- LIFECYCLE_ADVANCE (02 R75, 11 R364): BLANK is a state that no transition leads to; a TO above 4 names no state and is a value out of range. -/
def State.opLifecycleAdvance (s : State) (p : Packet) (src : Source) (seq : Nat) : State :=
  let tgt := p.u 0 1
  if tgt ≤ 4 && !s.advanceAllowed tgt then s.say p src stREFUSED_LIFECYCLE
  else if !s.tempOk then s.say p src stREFUSED_TEMPERATURE
  else if (List.range 4).any (fun j => (s.jobAt j).isSome) then s.say p src stBAD_STATE
  else if s.otpBusy then s.say p src stBUSY
  else if 4 < tgt || p.u 4 4 ≠ 0x4C435943 || !zeros p.params 1 3 then s.say p src stBAD_PARAM
  else
    let s := s.startOp true (.lifecycle tgt) p src seq
    let fin := if tgt = 2 then [1, 3, 4, 5].filter (fun r => !s.otpLocked r) else []
    let r : OtpRun := { kind := 7, todo := [], attempts := 0, regions := fin, stateTo := tgt }
    ({ s with otp := { s.otp with advance := some tgt, run := some r } }).advanceNext r 0

/-- LIFECYCLE_ADVANCE_DONE (11 R364 steps 3 and 4). -/
def execLifecycleAdvanceDone (s : State) : Host.Outcome State Fault Refusal :=
  match s.otp.advance, s.otp.run with
  | some tgt, none =>
    if !s.inRun || s.kettleDown then .next s
    else .next (s.enterLifecycle tgt)
  | _, _ => .next s

/-! ### Tamper -/

/-- TAMPER_CONFIG (02 R75, 11 R365). -/
def State.opTamperConfig (s : State) (p : Packet) (src : Source) (_seq : Nat) : State :=
  let en : BitVec 4 := BitVec.ofNat 4 (p.u 0 1)
  if s.otp.tamperEn &&& ~~~ en ≠ 0 && decide (1 < s.otp.wires.lifecycle) then s.say p src stREFUSED_LIFECYCLE
  else if 15 < p.u 0 1 || p.u 1 1 ≠ 0 || p.u 2 2 = 0 then s.say p src stBAD_PARAM
  else ({ s with otp := { s.otp with tamperEn := en, tamperFilter := BitVec.ofNat 16 (p.u 2 2) } }).say p src stOK

/-- Bit of a detector (11 R353). -/
def tamperIndex : TamperDetector → Nat
  | .tamper0 => 0
  | .tamper1 => 1
  | .voltage => 2
  | .clockGlitch => 3

/-- What a tamper detection does beyond its SEEN bit (11 R366). -/
def State.tamperActs (s : State) : State :=
  let s := { s.wipeCaddy with otp := { s.otp with caddyHold := true } }
  (s.count 101).raise 0x65

/-- TAMPER_DETECT (11 R366). -/
def execTamperDetect (d : TamperDetector) (s : State) : Host.Outcome State Fault Refusal :=
  let k := tamperIndex d
  if s.aonOn && s.otp.tamperEn.getLsbD k then
    .next ({ s with otp := { s.otp with tamperSeen := setBit s.otp.tamperSeen k true } }).tamperActs
  else .next s

end Sys2Proof.Machine
end

