-- ==== Sys2Proof/Machine/Thermal.lean ====
section
/-! DEFINITION. The thermal monitor: measurements, throttle levels, shutdowns, suspect sensors, the thermal opcodes (09). -/
namespace Sys2Proof.Machine

/-! ### Applied levels (09 R300, R301) -/

/-- A rise of the channel waits for a feed: its job is device-driven and active. -/
def State.riseWaits (s : State) (n : Nat) : Bool :=
  match s.jobOf n with
  | some j => (s.jobAt j).any (fun x => x.feed < 8 && x.active)
  | none => false

/-- The target level of a channel applied, or its rise made to wait for the feed. -/
def State.applyTarget (s : State) (n : Nat) : State :=
  let c := s.chan n
  let t := s.targetLevel n
  if s.shutdownLatched n then s.modChan n (fun c => { c with riseSince := none })
  else if t = c.applied then s.modChan n (fun c => { c with riseSince := none })
  else if t < c.applied || !s.riseWaits n then s.setApplied n t
  else if s.shot 65 then (s.shotTaken.setApplied n t).count 65
  else s.modChan n (fun c => { c with riseSince := (match c.riseSince with | some x => some x | none => some s.clock) })

/-- The channels on which a sensor bears. -/
def sensorChans : Sensor → List Nat
  | .head c => [c.val]
  | .die _ => List.range 48

/-- One pulse of source 0x3A where applied levels differ from those before (09 R301). -/
def State.levelPulse (s before : State) (ns : List Nat) : State :=
  if ns.any (fun n => (before.chan n).applied ≠ (s.chan n).applied) then s.raise 0x3A else s

/-- Targets applied. -/
def State.applyTargets (s : State) (ns : List Nat) : State := (ns.foldl State.applyTarget s).levelPulse s ns

/-- Channels whose shutdown has been released prepare their periods at level 7 at once; the other targets are applied (09 R302, R305). -/
def State.applyReleased (s before : State) : State :=
  let ns := (List.range 48).filter (fun n => before.shutdownLatched n && !s.shutdownLatched n)
  ((List.range 48).foldl State.applyTarget (ns.foldl (fun s n => s.setApplied n 7) s)).levelPulse before (List.range 48)

/-! ### Calibration and references -/

/-- RES25, RTH, TCR, TAU of the head on a channel (11 R358); none without an entry, and an entry with a zero field or a reserved bit is absent. -/
def State.headEntry (s : State) (n : Nat) : Option (Nat × Nat × Nat × Nat) :=
  if !s.otp.regionOk.getLsbD 4 then none
  else
    let id := (s.chan n).headId
    let w := fun (k i : Nat) => (s.otpVal (otpAddr 4 (4 * k + i))).toNat
    match (List.range 61).find? (fun k =>
      bits (w k 0) 31 24 = 0xC4 && bits (w k 0) 23 16 = id.type.toNat && bits (w k 0) 15 0 = id.maker.toNat && id.type ≠ 0 && id.maker ≠ 0 &&
      w k 1 ≠ 0 && bits (w k 2) 31 16 ≠ 0 && bits (w k 2) 15 0 ≠ 0 && bits (w k 3) 31 16 = 0 && bits (w k 3) 15 0 ≠ 0) with
    | some k => some (w k 1, bits (w k 2) 31 16, bits (w k 2) 15 0, bits (w k 3) 15 0)
    | none => none

/-- Head temperature in 0.1 °C from a 14-bit code over 1.25 V at 100 µA (09 R291); none in conversion fault (09 R294). -/
def headTemp (code : Int) (e : Option (Nat × Nat × Nat × Nat)) : Option Rat :=
  match e with
  | none => none
  | some (res25, _, tcr, _) =>
    let v : Rat := (code : Rat) * 125 / (100 * 16384)
    let t : Rat := 250 + ((v * 10000) * 100 / (res25 : Rat) - 1) * 10000000 / (tcr : Rat)
    if (12 : Rat) / 10 ≤ v || v ≤ (2 : Rat) / 100 || t < -400 || 1500 < t then none else some t

/-- T_DIE: the highest value among the die sensors that are not suspect, 0.1 °C (09 R306). -/
def State.tDie (s : State) : Rat :=
  match ((List.range 6).filter (fun i => !(s.dieSensor i).suspect)).map (fun i => (s.dieSensor i).value) with
  | [] => 0
  | x :: r => r.foldl max x

/-- T_MOD of a head, 0.1 °C (09 R306). -/
def State.tMod (s : State) (n : Nat) : Rat := s.tDie + 10 * (s.headSensor n).deltaT

/-- Neighbours of a head sensor (09 R306). -/
def State.neighbours (s : State) (n : Nat) : List Nat :=
  (List.range 48).filter (fun q =>
    (q + 1 = n || q + 2 = n || q = n + 1 || q = n + 2) && (s.chan q).ready && (s.chan q).ink = (s.chan n).ink && !(s.headSensor q).suspect)

/-- REF of a head sensor, 0.1 °C (09 R307). -/
def State.headRef (s : State) (n : Nat) : Rat :=
  match s.neighbours n with
  | [] => s.tMod n
  | ns => 10 * (s.headSensor n).deltaT +
      (ns.foldl (fun (a : Rat) q => a + ((s.headSensor q).value - 10 * (s.headSensor q).deltaT)) 0) / (ns.length : Rat)

/-- Insertion into a rising list. -/
def insertRat (x : Rat) : List Rat → List Rat
  | [] => [x]
  | y :: r => if x ≤ y then x :: y :: r else y :: insertRat x r

/-- The median of the six die sensors, one of them at its new value (09 R309). -/
def State.dieMedian (s : State) (i : Nat) (v : Rat) : Rat :=
  let l := ((List.range 6).map (fun k => if k = i then v else (s.dieSensor k).value)).foldr insertRat []
  (l.getD 2 0 + l.getD 3 0) / 2

/-- The substitute value of a suspect sensor, 0.1 °C (09 R308, R309). -/
def State.substituteOf (s : State) : Sensor → Rat
  | .head n =>
    (match s.neighbours n.val with
     | [] => s.tMod n.val
     | q :: r => 50 + r.foldl (fun (m : Rat) k => max m (s.headSensor k).value) (s.headSensor q).value)
  | .die i =>
    match ((List.range 6).filter (fun k => k ≠ i.val)).map (fun k => (s.dieSensor k).value) with
    | [] => 0
    | x :: r => r.foldl max x

/-! ### Shutdown -/

/-- Number of a sensor in records: of the event, and of the log (02 R61, 09 R304). -/
def sensorEventId : Sensor → Nat
  | .head n => n.val
  | .die i => 0x100 + i.val
def sensorLogId : Sensor → Nat
  | .head n => n.val
  | .die i => 48 + i.val

/-- A shutdown log word in compatibility mode, or the count of a full log (09 R304); no injection burns an OTP cell (15 R455). -/
def State.logShutdown (s : State) (x : Sensor) (injected : Bool) : State :=
  if !s.otp.wires.compat || injected then s
  else
    let d := s.detect 67 (decide (64 ≤ s.logTaken))
    if d.1 then d.2.count 67
    else
      let t := (rtrunc ((s.sensor x).value / 10) % 1024).toNat
      let w := w32 (sensorLogId x * 2 ^ 26 + t * 65536 + (vget s.tc.val 66 0).toNat)
      { d.2 with therm := { d.2.therm with logWait := d.2.therm.logWait ++ [(sensorLogId x, w)] } }

/-- A channel stops at the end of its slot, or at once between slots; a data phase under way is abandoned (04 R156). -/
def State.shutChan (s : State) (n cause : Nat) : State :=
  let s := (match (s.jobOf n).bind s.jobAt with
    | some j => s.putBack j [n] Chan.unprepare
    | none => s.modChan n Chan.unprepare).modChan n Chan.stopIo
  match (s.chan n).firing with
  | none => s
  | some f =>
    if !f.ended then s.modChan n (fun c => { c with shutAtSlot := cause })
    else
      match s.jobOf n with
      | some slot => if (s.chan n).inPeriod.isSome then s.cutLine slot n cause else s.modChan n (fun c => { c with firing := none })
      | none => s.modChan n (fun c => { c with firing := none })

/-- The stop of a job by a shutdown (04 R157, R158): an active job stops; the shutdown of the device also stops the feed of a job in any other state. -/
def State.shutJob (s : State) (slot : Nat) (device : Bool) : State :=
  match s.jobAt slot with
  | some j => if j.active then s.stopJob slot else if device && j.feed < 8 then s.stopAxisMax j.feed else s
  | none => s

/-- A thermal shutdown (04 R156-R158, 09 R302-R304); `injected` where detector 66 made it (15 R455). -/
def State.shutdown (s : State) (x : Sensor) (injected : Bool) : State :=
  let s := s.modSensor x (fun y => { y with latched := true, target := 7, upFrom := none, downFrom := none })
  let s := ((s.count 66).deviceEvent 0x10 (sensorEventId x)).raise 0x3B
  let s := s.logShutdown x injected
  let device := match x with | .head _ => false | .die _ => true
  let cause := if device then 3 else 2
  let ns := sensorChans x
  let s := ns.foldl (fun s n => (s.shutChan n cause).modChan n (fun c => { c with riseSince := none })) s
  let hit := fun (j : Job) => ns.any (fun n => j.channels.getLsbD n)
  let s := (List.range 4).foldl (fun s slot =>
    match s.jobAt slot with
    | some j => if device || hit j then ((s.shutJob slot device).checkEnded slot).answerStops slot else s
    | none => s) s
  s.endSurveyIf (fun r => ns.any (fun n => r.channels.getLsbD n)) 1

/-! ### Measurements -/

/-- Settings accepted since the last measurement come into use (09 R296). -/
def SensorState.settle (y : SensorState) : SensorState :=
  match y.next with
  | some (w, t, sh, h) => { y with warn := w, throttle := t, shutdown := sh, hyst := h, next := none }
  | none => y

/-- The comparisons of a value: warning flag, target level, timers (09 R297, R298); the target of a latched sensor stays where the shutdown set it
(R303). -/
def SensorState.compare (y : SensorState) (clock : Nat) : SensorState :=
  let v := y.value
  let low := !y.latched && decide (v < ((y.throttle - y.hyst : Int) : Rat))
  let high := !y.latched && decide ((y.throttle : Rat) ≤ v)
  { y with
    warning := if (y.warn : Rat) ≤ v then true else if v < ((y.warn - y.hyst : Int) : Rat) then false else y.warning
    target := if high && y.upFrom.isNone then min 7 (y.target + 1) else y.target
    upFrom := if high && y.upFrom.isNone then some clock else y.upFrom
    downFrom := if low then (match y.downFrom with | some t => some t | none => some clock) else none }

/-- The mean of the last four measurements (09 R292); the first one fills all four (13 R409; log entry 11). -/
def meanOf (ms : List Int) : Rat := ((ms.foldl (· + ·) 0 : Int) : Rat) / ((max 1 ms.length : Nat) : Rat)

/-- A fraction held in units of 0.1 °C: which neighbour an inexact value takes is a free value (log entry 10). -/
def State.held (s : State) (q : Rat) : Int × State :=
  if (q.floor : Rat) = q then (q.floor, s)
  else let d := s.draw; (q.floor + (d.1 % 2 : Nat), d.2)

/-- The sensor marked suspect and counted (09 R294, R308, R309). -/
def State.markSuspect (s : State) (x : Sensor) : State :=
  let s := s.modSensor x (fun y => { y with suspect := true, disagree := none })
  s.count (match x with | .head _ => 68 | .die _ => 69)

/-- The lowest attached head. -/
def State.lowestHead (s : State) : Option Nat := (List.range 48).find? (fun n => (s.chan n).attached)

/-- The value of a sensor set, compared, and acted on (09 R297-R302, R311); `injected` where detector 66 gave it. -/
def State.takeValue (s : State) (x : Sensor) (v : Rat) (injected : Bool) : State :=
  let h := s.held v
  let s := h.2.modSensor x (fun y => ({ y with value := v, shown := h.1, known := true }).compare s.clock)
  let y := s.sensor x
  let s := match x with | .head n => s.modChan n.val (fun c => { c with warming := c.warmBy v }) | .die _ => s
  let s := if (y.shutdown : Rat) ≤ v && !y.latched then s.shutdown x injected else s
  s.applyTargets (sensorChans x)

/-- THERMAL_MEASUREMENT (09 R291-R294, R297-R302, R306-R309): `raw` is the 14-bit code of a head, 0.1 °C before trim of a die sensor. -/
def execThermalMeasurement (x : Sensor) (raw : Int) (s : State) : Host.Outcome State Fault Refusal :=
  let active := match x with | .head n => (s.chan n.val).attached | .die _ => true
  if !s.inRunIdle || !active then .next s
  else
    let s := s.modSensor x SensorState.settle
    let t : Option Rat := match x with
      | .head n => headTemp raw (s.headEntry n.val)
      | .die i => some (if s.otp.regionOk.getLsbD 0 then (Config.dieTrim i.val raw : Rat) else ((raw + 100 : Int) : Rat))
    let y := s.sensor x
    let s := if t.isNone && !y.suspect then s.markSuspect x else s
    -- detectors 64 and 66 (15 R452)
    let mine : Bool := match x with | .head n => decide (s.lowestHead = some n.val) | .die _ => false
    let d64 := if mine then s.detect 64 false else (false, s)
    let d66 := if mine then d64.2.detect 66 false else (false, d64.2)
    let s := d66.2
    let h : Int × State := match t with | some q => s.held q | none => (0, s)
    let forced : Option Int := if d66.1 then some y.shutdown else if d64.1 then some y.throttle else none
    let m := match forced with | some f => some f | none => (match t with | some _ => some h.1 | none => none)
    let s := match m with | some k => h.2.modSensor x (fun y => { y with meas := if y.meas = [] then List.replicate 4 k else (k :: y.meas).take 4 }) | none => h.2
    let own := meanOf (s.sensor x).meas
    let ref := match x with | .head n => s.headRef n.val | .die i => s.dieMedian i.val own
    let far := t.isSome && decide (80 < rabs (own - ref))
    let s := s.modSensor x (fun y => { y with disagree :=
      (if y.suspect || !far then none else match y.disagree with | some c => some c | none => some s.clock) })
    let v : Rat := match forced with
      | some f => (f : Rat)
      | none => if (s.sensor x).suspect then s.substituteOf x else own
    .next (s.takeValue x v d66.1)

/-- THROTTLE_UP_TIMER (09 R298). -/
def execThrottleUpTimer (x : Sensor) (s : State) : Host.Outcome State Fault Refusal :=
  let y := s.sensor x
  match y.upFrom with
  | none => .next s
  | some t =>
    if !s.inRunIdle || decide (s.clock < t + 10 * tickMs) then .next s
    else if (y.throttle : Rat) ≤ y.value then
      .next ((s.modSensor x (fun y => { y with target := min 7 (y.target + 1), upFrom := some s.clock })).applyTargets (sensorChans x))
    else .next (s.modSensor x (fun y => { y with upFrom := none }))

/-- THROTTLE_DOWN_TIMER (09 R298). -/
def execThrottleDownTimer (x : Sensor) (s : State) : Host.Outcome State Fault Refusal :=
  let y := s.sensor x
  match y.downFrom with
  | none => .next s
  | some t =>
    if !s.inRunIdle || decide (s.clock < t + 50 * tickMs) then .next s
    else .next ((s.modSensor x (fun y => { y with target := y.target - 1, downFrom := some s.clock })).applyTargets (sensorChans x))

/-- FEED_AT_CAPACITY (09 R300, 04 R153): the feed's line rate is at or below the reported capacity. -/
def execFeedAtCapacity (j : Fin 4) (s : State) : Host.Outcome State Fault Refusal :=
  match s.jobAt j.val with
  | none => .next s
  | some x =>
    let ok := match s.capacity x with
      | some c => decide (rabs (s.axis x.feed).speed ≤ c * x.pitch / 65536)
      | none => true
    let ns := x.chans.filter (fun n => (s.chan n).riseSince.isSome)
    if s.inRunIdle && x.feed < 8 && ok && ns ≠ [] then
      .next ((ns.foldl (fun s n => s.setApplied n (s.targetLevel n)) s).raise 0x3A)
    else .next s

/-- THROTTLE_WAIT_OVERRUN (09 R300): 200 ms after the rise. -/
def execThrottleWaitOverrun (ch : Fin 48) (s : State) : Host.Outcome State Fault Refusal :=
  match (s.chan ch.val).riseSince with
  | none => .next s
  | some t =>
    if s.inRunIdle && t + 200 * tickMs ≤ s.clock then
      .next (((s.setApplied ch.val (s.targetLevel ch.val)).raise 0x3A).count 65)
    else .next s

/-- ENERGY_MODEL_UPDATE (09 R306): every head, from the pulses of the last millisecond. -/
def execEnergyModelUpdate (s : State) : Host.Outcome State Fault Refusal :=
  if !s.inRunIdle then .next s
  else
    .next ((List.range 48).foldl (fun s n =>
      let c := s.chan n
      let s := match s.headEntry n with
        | some (_, rth, _, tau) =>
          let p : Rat := (c.pMax * c.pulses * 1000 : Nat) / ((2 * c.nozzles * max 1 c.rateMax : Nat) : Rat)
          s.modHead n (fun y => { y with deltaT := y.deltaT + ((rth : Rat) / 100 * (p / 1000) - y.deltaT) / (tau : Rat) })
        | none => s
      s.modChan n (fun c => { c with pulses := 0 })) s)

/-- SENSOR_SUSPECT (09 R307, R309): 100 ms of disagreement. -/
def execSensorSuspect (x : Sensor) (s : State) : Host.Outcome State Fault Refusal :=
  match (s.sensor x).disagree with
  | none => .next s
  | some t => if s.inRunIdle && t + 100 * tickMs ≤ s.clock then .next (s.markSuspect x) else .next s

/-! ### The thermal opcodes -/

/-- The sensors that CLASS and INDEX select (02 R71). -/
def selectSensors (cls idx : Nat) : List Sensor :=
  if cls = 0 then
    (if h : idx < 48 then [.head ⟨idx, h⟩] else if idx = 255 then (List.finRange 48).map .head else [])
  else if cls = 1 then
    (if h : idx < 6 then [.die ⟨idx, h⟩] else if idx = 255 then (List.finRange 6).map .die else [])
  else []

/-- A selected sensor refuses new settings with BAD_STATE (09 R296). -/
def State.configBlocked (s : State) (x : Sensor) (warn shutdown hyst : Int) : Bool :=
  decide ((shutdown : Rat) ≤ (s.sensor x).value) ||
  (match x with
   | .head n => (s.chan n.val).cosy && decide (warn - hyst ≤ (s.chan n.val).cosyTarget)
   | .die _ => false)

/-- THERMAL_CONFIG (02 R74, 09 R296): accepted settings come into use with the next measurement of each sensor. -/
def State.opThermalConfig (s : State) (p : Packet) (src : Source) (_seq : Nat) : State :=
  let w := p.i 2 2
  let t := p.i 4 2
  let sh := p.i 6 2
  let hy := p.i 8 2
  let xs := selectSensors (p.u 0 1) (p.u 1 1)
  let b := s.otp.wires
  let head := p.u 0 1 = 0
  if xs = [] then s.say p src stBAD_PARAM
  else if xs.any (fun x => s.configBlocked x w sh hy) then s.say p src stBAD_STATE
  else if (if head then b.headWarn else b.dieWarn) < w || (if head then b.headThrottle else b.dieThrottle) < t ||
      (if head then b.headShutdown else b.dieShutdown) < sh || t ≤ w || sh ≤ t || hy < 10 || 100 < hy ||
      w < (if head then 250 else 400) || !zeros p.params 10 2 then s.say p src stBAD_PARAM
  else
    (xs.foldl (fun s x => s.modSensor x (fun y => { y with next := some (w, t, sh, hy) })) s).say p src stOK

/-- Four bytes of THERMAL_STATUS (02 R76); `shut` tells whether firing is shut down there, by the sensor or the die. -/
def sensorBytes (y : SensorState) (level : Nat) (shut : Bool) : Bytes :=
  toLeS 2 y.shown ++ toLe 1 (if shut then 255 else level) ++
  toLe 1 (b2n y.suspect + 2 * b2n y.warning + 4 * b2n (decide (0 < level)) + 8 * b2n y.latched)

/-- THERMAL_STATUS (02 R76). -/
def State.opThermalStatus (s : State) (p : Packet) (src : Source) (_seq : Nat) : State :=
  s.answer p src stOK
    ((List.range 48).flatMap (fun n => let y := s.headSensor n; sensorBytes y (s.chan n).applied (s.shutdownLatched n)) ++
     (List.range 6).flatMap (fun i => let y := s.dieSensor i; sensorBytes y y.target y.latched))

/-- SHUTDOWN_RELEASE (02 R74, 09 R305). -/
def State.opShutdownRelease (s : State) (p : Packet) (src : Source) (_seq : Nat) : State :=
  let m : ChMask := BitVec.ofNat 64 (p.u 0 8)
  let ns := maskChans m
  let held := s.therm.logWait.any (fun x =>
    if x.1 < 48 then m.getLsbD x.1 && (s.headSensor x.1).latched else (s.dieSensor (x.1 - 48)).latched)
  if ns.any (fun n => let y := s.headSensor n; decide ((y.warn : Rat) < y.value)) ||
      (List.range 6).any (fun i => let y := s.dieSensor i; decide ((y.warn : Rat) ≤ y.value)) then s.say p src stREFUSED_TEMPERATURE
  else if !s.otp.wires.compat then s.say p src stBAD_STATE
  else if held then s.say p src stBUSY
  else if !channelsOk (p.u 0 8) then s.say p src stBAD_PARAM
  else
    let before := s
    let s := ns.foldl (fun s n => s.modHead n (fun y => { y with latched := false })) s
    let s := { s with therm := { s.therm with dies := s.therm.dies.map (fun (y : SensorState) => { y with latched := false }) } }
    (s.applyReleased before).say p src stOK

end Sys2Proof.Machine
end

