-- ==== Sys2Proof/Machine/Health.lean ====
section
/-! DEFINITION. Nozzle health: the map opcodes, the drop-watch survey, the check bar and Strainer (06). -/
namespace Sys2Proof.Machine

/-! ### NOZZLE_MAP_READ and NOZZLE_MAP_WRITE -/

/-- R209. -/
def mapRangeOk (p : Packet) : Bool :=
  let f := p.u 2 2
  let c := p.u 4 2
  decide (p.u 0 1 ≤ 47) && f % 8 = 0 && decide (8 ≤ c) && decide (c ≤ 2048) && c % 8 = 0 && decide (f + c ≤ 2048) &&
  p.u 1 1 = 0 && p.u 6 2 = 0

/-- NOZZLE_MAP_READ (06 R205, R209). -/
def State.opNozzleMapRead (s : State) (p : Packet) (src : Source) (_seq : Nat) : State :=
  if !mapRangeOk p then s.say p src stBAD_PARAM
  else
    let c := s.chan (p.u 0 1)
    let f := p.u 2 2
    s.answer p src stOK (p.params.take 8 ++
      (List.range (p.u 4 2 / 2)).map (fun i => BitVec.ofNat 8 ((c.entry (f + 2 * i)).toNat + 16 * (c.entry (f + 2 * i + 1)).toNat)))

/-- A map write applied: the entries, and Strainer's run counters of the nozzles written (06 R210). -/
def State.applyMapWrite (s : State) (n first : Nat) (es : List (BitVec 4)) : State :=
  let xs := es.zipIdx.map (fun (x : BitVec 4 × Nat) => (first + x.2, x.1))
  (s.changeMap n xs).clearRuns n (xs.map (·.1))

/-- A packing pass may be under way on a channel (06 R210). -/
def State.packing (s : State) (n : Nat) : Bool :=
  !s.pwr.blockHeld.getLsbD (n / 4) &&
  (match s.jobOf n with
   | some j => (s.jobAt j).any (fun x => x.state = .running)
   | none => false)

/-- NOZZLE_MAP_WRITE (06 R205, R209, R210): Kettle takes no other packet before the write is applied (02 R64, R70). -/
def State.opNozzleMapWrite (s : State) (p : Packet) (src : Source) (seq : Nat) : State :=
  let n := p.u 0 1
  if n ≤ 47 && s.underSurvey n then s.say p src stBUSY
  else if !mapRangeOk p then s.say p src stBAD_PARAM
  else
    let es := (p.params.drop 8).flatMap (fun b => [BitVec.ofNat 4 b.toNat, BitVec.ofNat 4 (b.toNat / 16)])
    if s.packing n then s.startOp false (.mapWrite n (p.u 2 2) es) p src seq
    else (s.applyMapWrite n (p.u 2 2) es).say p src stOK

/-- MAP_WRITE_APPLIED (06 R210): the oldest write that waits on the channel. -/
def execMapWriteApplied (ch : Fin 48) (s : State) : Host.Outcome State Fault Refusal :=
  match s.pe.ops.find? (fun q => match q.kind with | .mapWrite c _ _ => c = ch.val | _ => false) with
  | none => .next s
  | some o =>
    match o.kind with
    | .mapWrite c f es => if s.inRun then .next ((s.applyMapWrite c f es).finishOps (fun q => q = o) (fun _ => (stOK, []))) else .next s
    | _ => .next s

/-! ### STRAINER_CONFIG -/

/-- A survey setup (06 R216). -/
def setupOf (b : Bytes) : SurveySetup :=
  { axis := le b 4 1, repeats := le b 5 1, frameUs := le b 8 4, trigWidth := le b 12 4, fireDelay := le b 16 4, strobe0 := le b 20 4
    strobe1 := le b 24 4, strobeWidth := le b 28 2, win := le b 30 1, minArea := le b 32 2, vDead := le b 34 2, vWeak := le b 36 2
    devWeak := le b 38 2, pixUm := le b 40 2, areaLo := le b 42 1, areaHi := le b 43 1
    stationPos := (List.range 16).map (fun i => leS b (44 + 8 * i) 8)
    moveMs := (List.range 16).map (fun i => le b (172 + 2 * i) 2)
    ch := (List.range 48).map (fun i =>
      let o := 204 + 8 * i
      { cam := le b o 1, station := le b (o + 1) 1, x0 := (le b (o + 2) 2 : Nat), xp := leS b (o + 4) 2, y0 := (le b (o + 6) 2 : Nat) }) }

/-- R216 and R217. -/
def setupOk (b : Bytes) : Bool :=
  let u := setupOf b
  zeros b 1 3 && zeros b 6 2 && zeros b 31 1 && (decide (u.axis ≤ 7) || u.axis = 255) && decide (1 ≤ u.repeats) && decide (u.repeats ≤ 4) &&
  decide (1000 ≤ u.frameUs) && decide (u.frameUs ≤ 1000000) && decide (u.strobe0 < u.strobe1) && decide (1 ≤ u.strobeWidth) &&
  decide (1 ≤ u.win) && decide (u.win ≤ 15) && decide (u.fireDelay + u.strobe1 + u.strobeWidth ≤ u.trigWidth) &&
  decide (u.trigWidth < 400 * u.frameUs) && decide (u.vDead ≤ u.vWeak) && decide (u.areaLo < 100) && decide (100 < u.areaHi) &&
  u.ch.all (fun c => (decide (c.cam ≤ 3) || c.cam = 255) && decide (c.station ≤ 15) && (u.axis ≠ 255 || c.station = 0))

/-- A check-bar setup (06 R227). -/
def barOf (b : Bytes) : CheckBar :=
  { port := le b 6 1, enable := le b 7 1 % 2 = 1, period := le b 8 4, phase := le b 12 4, steps := le b 16 1, stepLines := le b 17 1
    drop := le b 18 1, hideOn := le b 19 1, confirm := le b 20 1, recover := le b 21 1, weakOn := le b 22 1, invalidPct := le b 23 1
    minPix := le b 24 1, weakPix := le b 25 1, win := le b 26 1, camOffset := leS b 28 8
    ch := (List.range 48).map (fun i => let o := 36 + 8 * i; (le b o 1, leS b (o + 2) 2, leS b (o + 4) 4)) }

/-- Length of a bar in lines (06 R228). -/
def CheckBar.length (b : CheckBar) : Nat :=
  (b.ch.foldl (fun m x => if x.1 = 255 then m else max m (x.1 + 1)) 0) * b.steps * b.stepLines

/-- R227 and R228. -/
def checkBarOk (b : Bytes) : Bool :=
  let u := barOf b
  zeros b 1 3 && zeros b 27 1 && decide (u.port ≤ 1) && decide (le b 7 1 ≤ 1) && decide (8 ≤ u.steps) && decide (u.steps ≤ 64) &&
  decide (1 ≤ u.stepLines) && decide (u.stepLines ≤ 8) && decide (1 ≤ u.drop) && decide (u.drop ≤ 3) && decide (1 ≤ u.hideOn) &&
  decide (u.hideOn ≤ 7) && decide (u.hideOn ≤ u.confirm) && decide (u.confirm ≤ 15) && decide (u.confirm < u.recover) && decide (u.recover ≤ 31) &&
  decide (1 ≤ u.weakOn) && decide (u.weakOn ≤ 15) && decide (1 ≤ u.invalidPct) && decide (u.invalidPct ≤ 100) && decide (u.minPix ≤ u.weakPix) &&
  decide (1 ≤ u.win) && decide (u.win ≤ 15) && u.ch.all (fun x => decide (x.1 ≤ 15) || x.1 = 255) &&
  (List.range 48).all (fun i => zeros b (37 + 8 * i) 1) && decide (u.length ≤ u.period)

/-- STRAINER_CONFIG (06 R216, R217, R227, R228). -/
def State.opStrainerConfig (s : State) (p : Packet) (src : Source) (_seq : Nat) : State :=
  if p.u 0 1 = 0 then
    if s.health.run.isSome then s.say p src stBUSY
    else if !setupOk p.params then s.say p src stBAD_PARAM
    else ({ s with health := { s.health with setup := some (setupOf p.params) } }).say p src stOK
  else if p.u 0 1 = 1 then
    match s.jobSlot (BitVec.ofNat 16 (p.u 4 2)) with
    | none => s.say p src stBAD_STATE
    | some slot =>
      match s.jobAt slot with
      | none => s.say p src stBAD_STATE
      | some j =>
        if j.state ≠ .opened && j.state ≠ .stopped then s.say p src stBAD_STATE
        else if j.geometry = 2 || !checkBarOk p.params then s.say p src stBAD_PARAM
        else (s.modJob slot (fun j => { j with nextBar := some (barOf p.params) })).say p src stOK
  else s.say p src stBAD_PARAM

/-! ### Surveys -/

/-- Drop sizes with pulses in the live brew selections (06 R218, R219). -/
def Chan.sizes (c : Chan) : List Nat :=
  (if (c.small c.live.brewS).na ≠ 0 then [1] else []) ++
  (if (c.medium c.live.brewM).nb ≠ 0 then [2] else []) ++
  (if (c.large c.live.brewL).na ≠ 0 || (c.large c.live.brewL).nb ≠ 0 then [3] else [])

/-- Setup of a channel. -/
def SurveySetup.chan (u : SurveySetup) (n : Nat) : SurveyCh := u.ch.getD n { cam := 255, station := 0, x0 := 0, xp := 0, y0 := 0 }

/-- Captures of one channel (06 R219). -/
def State.captures (s : State) (u : SurveySetup) (n : Nat) : List Capture :=
  (List.range 32).flatMap (fun g => (s.chan n).sizes.flatMap (fun d => List.replicate u.repeats { ch := n, group := g, drop := d }))

/-- Work of the cameras at a station (06 R219). -/
def State.stationWork (s : State) (u : SurveySetup) (m : ChMask) (st : Nat) : List (List Capture) :=
  (List.range 4).map (fun cam =>
    ((maskChans m).filter (fun n => (u.chan n).station = st && (u.chan n).cam = cam)).flatMap (s.captures u))

/-- Rounds at a station: the most captures of one camera (06 R223). -/
def roundsOf (w : List (List Capture)) : Nat := w.foldl (fun m l => max m l.length) 0

/-- Stations that hold a selected channel, ascending. -/
def SurveySetup.stations (u : SurveySetup) (m : ChMask) : List Nat :=
  (List.range 16).filter (fun st => (maskChans m).any (fun n => (u.chan n).station = st))

/-- The estimate in µs (06 R223). -/
def State.surveyEstimate (s : State) (u : SurveySetup) (m : ChMask) : Nat :=
  (u.stations m).foldl (fun a st =>
    a + (if u.axis = 255 then 0 else 1000 * u.moveMs.getD st 0) + roundsOf (s.stationWork u m st) * u.frameUs) 0

/-- The survey goes to its present station: the service axis moves there, or the rounds begin (06 R219).  An axis that cannot move ends it, and the move is
made with PROFILE 0: DESIGN CHOICE (log entry 24), the spec gives only the axis's configured limits. -/
def State.gotoStation (s : State) : State :=
  match s.health.run, s.health.setup with
  | some r, some u =>
    match r.stations with
    | [] => s
    | st :: _ =>
      let r := { r with work := s.stationWork u r.channels st, moving := decide (u.axis ≠ 255), awaited := none, repeated := false, roundBad := false, roundSeen := [] }
      let s := { s with health := { s.health with run := some r } }
      if u.axis = 255 then s
      else
        let a := s.axis u.axis
        let t := u.stationPos.getD st 0
        let d := t * 65536 - a.commanded
        if !a.configured || a.mode = 2 || !a.standing || a.towardsLimit d then s.endSurvey 1
        else
          let m : Move := { goal := .abs t, prof := 0, v := a.vMax, a := a.aMax, j := a.jMax }
          let lim := s.feedLimit u.axis
          s.modAxis u.axis (fun a =>
            if d = 0 then { (a.accept m) with state := .idle }
            else { ({ (a.accept m) with vLim := lim }.plan m false) with state := .moving })
  | _, _ => s

/-- SURVEY_START (06 R218). -/
def State.opSurveyStart (s : State) (p : Packet) (src : Source) (seq : Nat) : State :=
  let m : ChMask := BitVec.ofNat 64 (p.u 0 8)
  let ns := maskChans m
  let busyJob := fun n => match s.jobOf n with | some j => (s.jobAt j).any Job.active | none => false
  if s.tripped then s.say p src stREFUSED_INTERLOCK
  else if ns.any s.coldHead then s.say p src stREFUSED_TEMPERATURE
  else
    match s.health.setup with
    | none => s.say p src stBAD_STATE
    | some u =>
      if ns.any (fun n => !(s.chan n).ready || (s.chan n).sizes = [] || busyJob n) then s.say p src stBAD_STATE
      else if s.health.run.isSome then s.say p src stBUSY
      else if !channelsOk (p.u 0 8) || ns.any (fun n => (u.chan n).cam = 255) || decide (95000000 < s.surveyEstimate u m) then s.say p src stBAD_PARAM
      else
        let s := s.startOp true .survey p src seq
        let all := (u.stations m).foldl (fun a st => a + roundsOf (s.stationWork u m st)) 0
        let r : SurveyRun :=
          { channels := m, since := s.clock, stations := u.stations m, moving := false, work := [], awaited := none, repeated := false
            roundBad := false, seen := [], roundSeen := [], roundsDone := 0, roundsAll := all, percent := 0, classified := 0, dead := 0
            weak := 0, shadow := [], roundAt := none }
        ({ s with health := { s.health with run := some r } }).gotoStation

/-- SURVEY_MOVE_DONE (06 R219 step 1). -/
def execSurveyMoveDone (s : State) : Host.Outcome State Fault Refusal :=
  match s.health.run, s.health.setup with
  | some r, some u =>
    let a := s.axis u.axis
    let t := u.stationPos.getD (r.stations.headD 0) 0
    if s.inRun && r.moving && a.state = .idle && a.commanded = t * 65536 then
      .next { s with health := { s.health with run := some { r with moving := false } } }
    else .next s
  | _, _ => .next s

/-- The slot that a capture fires (06 R220), with all-zero codes in the frame of a held channel (03 R91); nothing fires on a held or shut-down channel or one whose line engine is in reset (02 R77, 09 R302, 01 R17). -/
def State.fireCapture (s : State) (u : SurveySetup) (k : Capture) : State :=
  let c := s.chan k.ch
  let t := c.trains c.live (.at (s.headSensor k.ch).shown) [k.group]
  let codes := (List.range c.nozzles).map (fun j => if j % 32 = k.group then (BitVec.ofNat 2 k.drop : Code) else 0)
  let held := c.hold || s.shutdownLatched k.ch || s.pwr.blockHeld.getLsbD (k.ch / 4)
  let sent := if c.hold then [] else codes
  let fires := s.gateOpen && !c.dry && !held
  let plan : List SlotPlan := [{ groups := [k.group], fireA := t.1, fireB := t.2, len := 0 }]
  let p : Period := { line := 0, raw := [], plan := plan, codes := codes, quiet := c.dry, held := held, due := 1, since := s.clock, cosy := false }
  s.modChan k.ch (fun c => { c with
    frame := if s.pwr.blockHeld.getLsbD (k.ch / 4) then [] else frameOf c.nozzles sent [k.group]
    latClocks := if s.pwr.blockHeld.getLsbD (k.ch / 4) then 0 else 8
    pulses := if fires then c.pulses + slotPulses c.nozzles codes [k.group] else c.pulses
    firing := some { period := p, slot := 0, start := s.clock + u.fireDelay, ended := true, mask := groupMask [k.group]
                     fireA := if fires then t.1 else [], fireB := if fires then t.2 else [] } })

/-- A round that failed: repeated once, then the survey ends (06 R224, R226). -/
def State.roundFailed (s : State) : State :=
  match s.health.run with
  | none => s
  | some r =>
    if r.repeated then s.endSurvey 2
    else
      ({ s with health := { s.health with run := some { r with repeated := true, awaited := none, roundBad := false, roundSeen := [] } } }).count 33

/-- SURVEY_ROUND (06 R219, R220, R224): FRAME_US after the last one; a frame still missing then fails that round. -/
def execSurveyRound (s : State) : Host.Outcome State Fault Refusal :=
  match s.health.run, s.health.setup with
  | some r, some u =>
    let due := match r.roundAt with | some t => decide (t + u.frameUs * tickUs ≤ s.clock) | none => true
    let caps := r.work.filterMap List.head?
    let cold := caps.any (fun k => s.coldHead k.ch)
    if !s.inRun || r.moving || !due || caps = [] then .next s
    else if r.awaited.isSome then .next s.roundFailed
    else if cold then .next s
    else
      let cams := (List.range 4).filter (fun c => (r.work.getD c []) ≠ [])
      let s := caps.foldl (fun s k => s.fireCapture u k) s
      .next { s with health := { s.health with
        run := some { r with awaited := some cams, roundAt := some s.clock }
        flashes := [(s.clock, u.trigWidth), (s.clock + u.fireDelay + u.strobe0, u.strobeWidth), (s.clock + u.fireDelay + u.strobe1, u.strobeWidth)] } }
  | _, _ => .next s

/-- Blobs by row, the nearest to Y0 first. -/
def insertBlob (b : Blob) : List Blob → List Blob
  | [] => [b]
  | c :: r => if b.row ≤ c.row then b :: c :: r else c :: insertBlob b r

/-- The drops of a frame (06 R221); of more than two blobs in a window the two nearest Y0 count (log entry 24). -/
def measureFrame (u : SurveySetup) (k : Capture) (nozzles : Nat) (bs : List Blob) : List Seen :=
  let c := u.chan k.ch
  (List.range (nozzles / 32)).filterMap (fun (m : Nat) =>
    let x : Rat := (c.x0 : Rat) + ((c.xp * m : Int) : Rat) / 256
    let w := (bs.filter (fun b => decide (rabs ((b.col : Rat) - x) ≤ (u.win : Rat)) && decide (c.y0 < b.row) && decide (u.minArea ≤ b.area))).foldr insertBlob []
    match w with
    | a :: b :: _ =>
      let rows : Rat := (b.row : Rat) - (a.row : Rat)
      let pix : Rat := (u.pixUm : Rat)
      let gap : Rat := ((u.strobe1 - u.strobe0 : Nat) : Rat)
      let col : Rat := (b.col : Rat)
      let size : Rat := ((a.area + b.area : Nat) : Rat)
      let nz : Nat := k.group + 32 * m
      some { ch := k.ch, nozzle := nz, drop := k.drop, speed := rows * pix * 400 / gap, dev := (col - x) * pix / 100, area := size / 2 }
    | _ => none)

/-- The mean of a list of fractions, 0 of none. -/
def meanRat (l : List Rat) : Rat := if l = [] then 0 else l.foldl (· + ·) 0 / (l.length : Rat)

/-- The median of a list of fractions, 0 of none. -/
def medianRat (l : List Rat) : Rat :=
  let t := l.foldr insertRat []
  let n := t.length
  if n = 0 then 0 else if n % 2 = 1 then t.getD (n / 2) 0 else (t.getD (n / 2 - 1) 0 + t.getD (n / 2) 0) / 2

/-- The class of a nozzle: 0 ok, 1 weak, 2 dead (06 R222); `med` gives the median area of each size. -/
def classOf (u : SurveySetup) (sizes : List Nat) (seen : List Seen) (med : Nat → Rat) (j : Nat) : Nat :=
  let at_ := fun (d : Nat) => seen.filter (fun x => x.nozzle = j && x.drop = d)
  let missing := fun (d : Nat) => decide (2 * (at_ d).length ≤ u.repeats)
  let some_ := fun (d : Nat) => (at_ d) ≠ []
  let speed := fun (d : Nat) => meanRat ((at_ d).map (·.speed))
  let big := sizes.getLastD 0
  if sizes.all missing || (some_ big && decide (speed big < (u.vDead : Rat))) then 2
  else if sizes.any (fun d => missing d ||
      (some_ d && (decide (speed d < (u.vWeak : Rat)) ||
        decide ((u.devWeak : Rat) < rabs (meanRat ((at_ d).map (·.dev)))) ||
        (let a := 100 * meanRat ((at_ d).map (·.area))
         decide (a < u.areaLo * med d) || decide (u.areaHi * med d < a))))) then 1
  else 0

/-- A channel classified after its last capture (06 R222).  DESIGN CHOICE (log entry 24): a nozzle that is missing at a size but was seen in some of its
captures counts among the seen nozzles of the median area. -/
def State.classifyChan (s : State) (u : SurveySetup) (r : SurveyRun) (n : Nat) : SurveyRun :=
  let c := s.chan n
  let seen := r.seen.filter (fun x => x.ch = n)
  let med := fun (d : Nat) => medianRat (((List.range c.nozzles).filter (fun j => seen.any (fun x => x.nozzle = j && x.drop = d))).map (fun j =>
    meanRat ((seen.filter (fun x => x.nozzle = j && x.drop = d)).map (·.area))))
  let classes := (List.range c.nozzles).map (classOf u c.sizes seen med)
  { r with classified := setBit r.classified n true
           dead := r.dead + (classes.filter (fun k => k = 2)).length
           weak := r.weak + (classes.filter (fun k => k = 1)).length
           shadow := r.shadow ++ [(n, classes.zipIdx.map (fun (x : Nat × Nat) => (x.2, nzEntry 1 x.1)))]
           seen := r.seen.filter (fun x => x.ch ≠ n) }

/-- The shadow maps copied into the live maps, entries with SOURCE 3 kept (06 R225). -/
def State.copyShadows (s : State) (maps : List (Nat × List (Nat × BitVec 4))) : State :=
  maps.foldl (fun s (x : Nat × List (Nat × BitVec 4)) =>
    let c := s.chan x.1
    (s.changeMap x.1 (x.2.filter (fun e => nzSource (c.entry e.1) ≠ 3))).clearRuns x.1 (x.2.map (·.1))) s

/-- The survey commits (06 R225). -/
def State.commitSurvey (s : State) : State :=
  match s.health.run with
  | none => s
  | some r =>
    let s := s.copyShadows r.shadow
    let s := { s with health := { s.health with run := none, commitWord := 0, kettleShadow := [], flashes := [] } }
    s.finishOps (fun p => match p.kind with | .survey => true | _ => false) (fun _ => (stOK, toLe 4 0 ++ toLe 4 r.dead ++ toLe 4 r.weak))

/-- A good round: its drops counted, progress reported, channels classified, the next station or the commit (06 R219, R222, R224, R225). -/
def State.roundDone (s : State) (u : SurveySetup) : State :=
  match s.health.run with
  | none => s
  | some r =>
    let before := r.work.filterMap List.head?
    let work := r.work.map (List.drop 1)
    let done := (before.map (·.ch)).filter (fun n => !work.any (fun l => l.any (fun k => k.ch = n)))
    let pct := 100 * (r.roundsDone + 1) / max 1 r.roundsAll
    let r' := { r with work := work, awaited := none, repeated := false, roundBad := false, seen := r.seen ++ r.roundSeen, roundSeen := []
                       roundsDone := r.roundsDone + 1, percent := pct }
    let r' := done.foldl (fun r n => s.classifyChan u r n) r'
    let s := { s with health := { s.health with run := some r' } }
    let s := (List.range (pct - r.percent)).foldl (fun s i => (s.deviceEvent 0x20 (r.percent + i + 1)).raise 0x3C) s
    if work.all (fun l => l = []) then
      match r'.stations with
      | _ :: (b :: rest) => ({ s with health := { s.health with run := some { r' with stations := b :: rest } } }).gotoStation
      | _ => s.commitSurvey
    else s

/-- RAW8, RAW10 and RAW12 (06 R212). -/
def dropRaw (f : DropFrame) : Bool := f.dataType = 0x2A || f.dataType = 0x2B || f.dataType = 0x2C

/-- The frame lacks its end, or is larger than R212 allows. -/
def dropOverrun (f : DropFrame) : Bool := !f.ended || decide (2048 < f.width) || decide (1024 < f.height)

/-- Link errors that the frame counts, one for each case (06 R214): each line of a data type that is not supported is a discarded packet. -/
def dropErrorCount (f : DropFrame) : Nat := f.errors.length + b2n (dropOverrun f) + (if (dropRaw f) then 0 else f.height)

/-- The receiver marks the frame bad (06 R214). -/
def dropBad (f : DropFrame) : Bool := (dropOverrun f) || f.errors.any (fun e => e = .headerMany || e = .crc)

/-- The blobs of the lines that are not discarded (06 R214, R221). -/
def dropSeen (f : DropFrame) : List Blob := if (dropRaw f) then f.blobs else []

/-- DROP_WATCH_FRAME (06 R212, R214, R221, R224): a frame not complete FRAME_US after its DW_TRIG fails its round. -/
def execDropWatchFrame (cam : Fin 4) (f : DropFrame) (s : State) : Host.Outcome State Fault Refusal :=
  match s.health.run, s.health.setup with
  | some r, some u =>
    if !s.inRun then .next s
    else
    -- detectors 32 and 33 (15 R452)
    let d32 := s.detect 32 (f.errors.any (fun e => e = .crc))
    let s := d32.2.countN 32 ((dropErrorCount f) + b2n (d32.1 && !f.errors.any (fun e => e = .crc)))
    match r.awaited with
    | none => .next s
    | some cams =>
      if !cams.contains cam.val then .next s
      else
        let d33 := s.detect 33 false
        let late := r.roundAt.any (fun t => decide (t + u.frameUs * tickUs < s.clock))
        let bad := (dropBad f) || late || d32.1 || d33.1
        let left := cams.filter (fun c => c ≠ cam.val)
        let seen := match (r.work.getD cam.val []).head? with
          | some k => if bad then [] else measureFrame u k (s.chan k.ch).nozzles (dropSeen f)
          | none => []
        let r := { r with awaited := some left, roundBad := r.roundBad || bad, roundSeen := r.roundSeen ++ seen }
        let s := { d33.2 with health := { d33.2.health with run := some r } }
        .next (if left ≠ [] then s else if r.roundBad then s.roundFailed else s.roundDone u)
  | _, _ => .next s

/-- SURVEY_TIMEOUT (06 R223, R226): 95 s. -/
def execSurveyTimeout (s : State) : Host.Outcome State Fault Refusal :=
  match s.health.run with
  | some r => if s.inRun && r.since + 95000 * tickMs ≤ s.clock then .next (s.endSurvey 1) else .next s
  | none => .next s

/-! ### Strainer -/

/-- The threshold lines captured first over each web position, oldest first (06 R230). -/
def firstPasses : List RingLine → List RingLine → List RingLine
  | [], acc => acc.reverse
  | x :: r, acc => if acc.all (fun y => decide (y.pos < x.pos)) then firstPasses r (x :: acc) else firstPasses r acc

/-- Set pixels of a nozzle's window (06 R230). -/
def windowPixels (ls : List RingLine) (lo hi : Int) (col : Rat) (win : Nat) : Nat :=
  (ls.filter (fun l => decide (lo ≤ l.pos) && decide (l.pos < hi))).foldl (fun a l =>
    a + (l.bits.zipIdx.filter (fun (x : Bool × Nat) => x.1 && decide (rabs ((x.2 : Rat) - col) ≤ (win : Rat)))).length) 0

/-- 0 present, 1 thin, 2 absent (06 R230). -/
def CheckBar.observe (b : CheckBar) (n : Nat) : Nat := if b.weakPix ≤ n then 0 else if b.minPix ≤ n then 1 else 2

/-- Run counters and state after an observation (06 R232): MISS, THIN, GOOD; none where the state stays. -/
def CheckBar.decide_ (b : CheckBar) (st : Nat) (runs : Nat × Nat × Nat) (o : Nat) : Option Nat × (Nat × Nat × Nat) :=
  let miss := runs.1 + 1
  let thin := runs.2.1 + 1
  let good := runs.2.2 + 1
  match st, o with
  | 0, 1 => if b.weakOn ≤ thin then (some 1, (0, 0, 0)) else (none, (0, thin, 0))
  | 0, 2 => if b.hideOn ≤ miss then (some 3, (miss, 0, 0)) else (none, (miss, 0, 0))
  | 1, 0 => if b.recover ≤ good then (some 0, (0, 0, 0)) else (none, (0, 0, good))
  | 1, 2 => if b.hideOn ≤ miss then (some 3, (miss, 0, 0)) else (none, (miss, 0, 0))
  | 3, 0 => (some 0, (0, 0, 0))
  | 3, 1 => (some 1, (0, 0, 0))
  | 3, 2 => if b.confirm ≤ miss then (some 2, (0, 0, 0)) else (none, (miss, 0, 0))
  | 2, 0 => if b.recover ≤ good then (some 0, (0, 0, 0)) else (none, (0, 0, good))
  | _, _ => (none, (0, 0, 0))

/-- First job line of bar k on a slot. -/
def CheckBar.slotLine (b : CheckBar) (k slot : Nat) : Nat := b.phase + k * b.period + slot * b.steps * b.stepLines

/-- Web position at which the camera sees a job line (06 R230). -/
def Job.barPos (j : Job) (b : CheckBar) (l : Nat) : Int := j.start + ((l * j.pitch : Nat) : Int) / 65536 + b.camOffset

/-- Model clock at which a channel fired the first line of its bar part; none before (06 R230). -/
def Job.barFrom (j : Job) (n first : Nat) : Option Nat := (j.barAt.find? (fun x => x.1 = (n, first))).map (fun x => x.2)

/-- The camera sees a web position in the bar part that begins at a job line. -/
def Job.inBar (j : Job) (b : CheckBar) (first : Nat) (x : Int) : Bool :=
  decide (j.barPos b first ≤ x) && decide (x < j.barPos b (first + b.steps * b.stepLines))

/-- The threshold lines of the bar part that begins at a job line, captured since a model clock (06 R230). -/
def State.barWindow (s : State) (j : Job) (b : CheckBar) (first since : Nat) : List RingLine :=
  (firstPasses (s.health.ring.filter (fun x => x.port = b.port && decide (since < x.at_))).reverse []).filter (fun x => j.inBar b first x.pos)

/-- The lines without a threshold line since then, by whether their stripes were dropped, with their positions. -/
def State.barMissing (s : State) (b : CheckBar) (since : Nat) (dropped : Bool) : List Int :=
  (s.health.lost.filter (fun x => x.port = b.port && decide (since < x.at_) && x.dropped = dropped)).map (fun x => x.pos)

/-- The observation of nozzle k in those lines (06 R230): 0 present, 1 thin, 2 absent. -/
def CheckBar.observation (b : CheckBar) (j : Job) (mine : List RingLine) (n first k : Nat) : Nat :=
  let e := b.ch.getD n (255, 0, 0)
  let a := first + k % b.steps * b.stepLines
  b.observe (windowPixels mine (j.barPos b a) (j.barPos b (a + b.stepLines)) ((e.2.1 : Rat) + ((e.2.2 * k : Int) : Rat) / 65536) b.win)

/-- A line of the bar part lay in a dropped stripe (06 R231). -/
def State.barLost (s : State) (j : Job) (b : CheckBar) (first since : Nat) : Bool := (s.barMissing b since true).any (j.inBar b first)

/-- The camera has captured the bar part since its first line was fired, and web beyond it, and no line of it on a port that gives Strainer no plane
(06 R230, 08 R290; log entry 43). -/
def State.barCaptured (s : State) (j : Job) (b : CheckBar) (first since : Nat) : Bool :=
  let end_ := j.barPos b (first + b.steps * b.stepLines)
  (s.health.ring.any (fun l => l.port = b.port && decide (since < l.at_) && decide (end_ ≤ l.pos)) ||
    (s.barMissing b since true).any (fun x => decide (end_ ≤ x))) &&
  (s.barWindow j b first since ≠ [] || s.barLost j b first since) && !(s.barMissing b since false).any (j.inBar b first)

/-- The lowest nozzle of a channel that Strainer may hide: SOURCE not 3, state ok or weak (06 R232). -/
def Chan.hidable (c : Chan) : Option Nat := (List.range c.nozzles).find? (fun k => nzSource (c.entry k) ≠ 3 && decide (nzState (c.entry k) ≤ 1))

/-- A job's enabled check bar checks the channel (06 R227). -/
def State.checksChan (s : State) (n : Nat) : Bool :=
  match (s.jobOf n).bind s.jobAt with
  | some j => j.bar.any (fun b => b.enable && (b.ch.getD n (255, 0, 0)).1 ≠ 255)
  | none => false

/-- The lowest checked channel of which p holds (15 R452). -/
def State.lowestChecked (s : State) (p : Nat → Bool) : Option Nat := (List.range 48).find? (fun k => s.checksChan k && p k)

/-- STRAINER_BAR_OBSERVED (06 R229-R233): bar number `bar` of the job on a channel, observed once, when the camera has captured it. -/
def execStrainerBarObserved (ch : Fin 48) (bar : Nat) (s : State) : Host.Outcome State Fault Refusal :=
  let n := ch.val
  match s.jobOf n with
  | none => .next s
  | some slot =>
    match s.jobAt slot with
    | none => .next s
    | some j =>
      match j.bar with
      | none => .next s
      | some b =>
        let e := b.ch.getD n (255, 0, 0)
        let c := s.chan n
        let first := b.slotLine bar e.1
        let lines := (List.range (b.steps * b.stepLines)).map (fun i => first + i)
        let since := (j.barFrom n first).getD 0
        if !s.inRun || !b.enable || e.1 = 255 || decide (c.nextLine < first + b.steps * b.stepLines) || s.underSurvey n ||
            j.barsSeen.contains (n, bar) || (j.barFrom n first).isNone || !s.barCaptured j b first since then .next s
        else
          let mine := s.barWindow j b first since
          let obs := (List.range c.nozzles).map (b.observation j mine n first)
          let absent := (obs.filter (fun o => o = 2)).length
          let spoilt := lines.any (fun l => j.barBad.contains (n, l)) || mine.any (fun x => x.marked) || s.barLost j b first since
          let s := s.modJob slot (fun j => { j with barsSeen := (n, bar) :: j.barsSeen })
          if spoilt then .next s
          else
            -- detectors 34 and 35 (15 R452)
            let d34 := if s.lowestChecked (fun _ => true) = some n then s.detect 34 (decide (b.invalidPct * c.nozzles < 100 * absent)) else (decide (b.invalidPct * c.nozzles < 100 * absent), s)
            if d34.1 then .next (d34.2.count 34)
            else
              let d35 := if s.lowestChecked (fun k => (s.chan k).hidable.isSome) = some n then d34.2.detect 35 false else (false, d34.2)
              let s := d35.2
              let forced := if d35.1 then c.hidable else none
              let res := obs.zipIdx.filterMap (fun (x : Nat × Nat) =>
                let e := c.entry x.2
                if nzSource e = 3 then none
                else if forced = some x.2 then some (x.2, some 3, (b.hideOn, 0, 0))
                else let r := b.decide_ (nzState e) (sget (0, 0, 0) c.runs x.2) x.1
                     some (x.2, r.1, r.2))
              let changes := res.filterMap (fun (x : Nat × Option Nat × (Nat × Nat × Nat)) => match x.2.1 with | some st => some (x.1, nzEntry 2 st) | none => none)
              let s := s.modChan n (fun c => { c with runs := res.foldl (fun m (x : Nat × Option Nat × (Nat × Nat × Nat)) => sput (0, 0, 0) m x.1 x.2.2) c.runs })
              let s := if changes = [] then s else s.changeMap n changes
              .next (changes.foldl (fun s x => if nzState x.2 = 3 then (s.raise 0x3D).count 35 else s.raise 0x3D) s)

end Sys2Proof.Machine
end

