-- ==== Sys2Proof/Machine/Image.lean ====
section
/-! DEFINITION. The image pipeline on one stripe (08 R276-R289): linearisation, HDR, tone map, defect correction, demosaic, colour, outputs, statistics.  Log entry 25. -/
namespace Sys2Proof.Machine

/-- A quotient whose rounding the spec does not give (log entry 25). -/
def openDiv (n d : Nat) : Nat := n / d + (if n % d ≠ 0 && Config.roundUp n d then 1 else 0)

/-- The nearest whole number; a tie is left open (log entry 25). -/
def nearest (n d : Nat) : Nat :=
  if 2 * (n % d) = d then n / d + (if Config.roundUp n d then 1 else 0) else (2 * n + d) / (2 * d)

/-- A quotient of either sign whose rounding the spec does not give. -/
def openDivI (n : Int) (d : Nat) : Int := n / d + (if n % d ≠ 0 && Config.roundUp n.natAbs d then 1 else 0)

/-- Clamped to 0 and a highest value. -/
def clampI (hi : Nat) (v : Int) : Nat := min hi v.toNat

/-! ### The context -/

/-- Fields of a context; an empty body is the start value of R277. -/
def Context.mosaic (b : Bytes) : Nat := le b 0 1
def Context.phase (b : Bytes) : Nat := le b 1 1
def Context.flags (b : Bytes) : Nat := le b 2 2

/-- R276 and R277. -/
def contextOk (b : Bytes) : Bool :=
  let m := le b 0 1
  let ph := le b 1 1
  decide (m ≤ 4) && decide (ph < 16) && (m = 0 || m = 4 || (decide (ph % 4 ≤ 1) && decide (ph / 4 ≤ 1))) && decide (le b 2 2 ≤ 3) &&
  decide (le b 4 2 ≤ 4095) && decide (le b 6 2 < le b 8 2) && zeros b 10 2 &&
  (List.range 3).all (fun i => decide (le b (12 + 2 * i) 2 ≤ 4095)) && zeros b 18 2 && zeros b 26 2 &&
  (List.range 3).all (fun i => decide (-2048 ≤ leS b (46 + 2 * i) 2) && decide (leS b (46 + 2 * i) 2 ≤ 2047)) &&
  zeros b 84 4 && (List.range 257).all (fun i => decide (le b (602 + 2 * i) 2 ≤ 4095)) && zeros b 1116 4

/-! ### Stages 1 and 2 -/

/-- Interpolation in a table of 16-bit points at an offset (08 R278). -/
def tablePoint (b : Bytes) (off step x : Nat) : Nat :=
  let i := x / step
  let lo : Int := le b (off + 2 * i) 2
  let hi : Int := le b (off + 2 * (i + 1)) 2
  (lo + Int.tdiv ((hi - lo) * (x % step : Nat)) step).toNat

/-- Linearisation of an input code (08 R278). -/
def linearise (b : Bytes) (bus x : Nat) : Nat :=
  let y := if bus = 1 then x * 16 else if bus = 2 then x * 256 else x
  if b = [] then y else tablePoint b 88 256 y

/-- Tone map of a 20-bit value to 12 bits (08 R279). -/
def toneMap (b : Bytes) (x : Nat) : Nat := if b = [] then x / 256 else tablePoint b 602 4096 x

/-- HDR merge of a long and a short exposure (08 R279). -/
def hdrMerge (b : Bytes) (long short l s : Nat) : Nat :=
  let k := nearest (256 * long) short
  let s' := min (s * k / 256) 0xFFFFF
  let lo := le b 6 2
  let hi := le b 8 2
  let w := if b = [] then Config.startBlend l % 257 else clampI 256 (256 * ((l : Int) - lo) / ((hi : Int) - lo))
  ((l : Int) + Int.tdiv (w * ((s' : Int) - l)) 256).toNat

/-- Two input lines as one output row. -/
def hdrRows (b : Bytes) (bus long short : Nat) : List (List Nat) → List (List Nat)
  | x :: y :: r => (x.zipWith (fun p q => toneMap b (hdrMerge b long short (linearise b bus p) (linearise b bus q))) y) :: hdrRows b bus long short r
  | _ => []

/-- Input lines to tone-mapped output rows. -/
def toneRows (b : Bytes) (bus : Nat) (e : Exposure) (ls : List (List Nat)) : List (List Nat) :=
  if e.short ≠ 0 then hdrRows b bus e.long e.short ls
  else ls.map (fun (l : List Nat) => l.map (fun x => toneMap b (16 * linearise b bus x)))

/-! ### Stages 3 and 4 -/

/-- Colour of a pixel in the pattern: 0 R, 1 G, 2 B, 3 IR, 4 C or mono (08 R280). -/
def colourAt (mosaic phase row col : Nat) : Nat :=
  let r := row + phase / 4
  let c := col + phase % 4
  let two := fun (a b d e : Nat) => if r % 2 = 0 then (if c % 2 = 0 then a else b) else (if c % 2 = 0 then d else e)
  match mosaic with
  | 0 => 4
  | 1 => two 0 1 1 2
  | 2 => two 0 1 4 2
  | 3 => two 0 1 3 2
  | _ => if r % 2 = 1 then (if c % 2 = 0 then 1 else 3) else if (r / 2 % 2 + c / 2) % 2 = 0 then (if c % 2 = 0 then 2 else 1) else (if c % 2 = 0 then 0 else 1)

/-- An index mirrored at 0 and at n − 1 (08 R282). -/
def mirrored (n : Nat) (i : Int) : Nat :=
  let j := i.natAbs
  if j < n then j else min (n - 1) (2 * (n : Int) - 2 - j).natAbs

/-- Row i of the neighbourhood of row r, among n rows: a row of the stripe, one of the two lines above it, where there are such, or a row mirrored at an
edge, which in a stripe of one or two rows may be one of those lines (08 R282). -/
def winRow (above : Bool) (n r i : Nat) : Int :=
  let y : Int := (r : Int) + i - 2
  if above then (if y < n then y else 2 * (n : Int) - 2 - y) else mirrored n y

/-- Column j of the neighbourhood of column c, among w columns (08 R282). -/
def winCol (w c j : Nat) : Nat := mirrored w ((c : Int) + j - 2)

/-- The 5 × 5 neighbourhood of a pixel: `above` holds the two lines before the first row, or none at the top of a frame. -/
def window (above rows : List (List Nat)) (r c : Nat) : List (List Nat) :=
  let w := (rows.headD []).length
  (List.range 5).map (fun (i : Nat) =>
    let y := winRow (above ≠ []) rows.length r i
    let line := if y < 0 then above.getD (y + 2).toNat [] else rows.getD y.toNat []
    (List.range 5).map (fun (j : Nat) => line.getD (winCol w c j) 0))

/-- The colours of that neighbourhood: those of the pixels it holds, the mirrored ones among them (08 R280, R282). -/
def windowColours (m ph : Nat) (above rows : List (List Nat)) (row0 r c : Nat) : List (List Nat) :=
  let w := (rows.headD []).length
  (List.range 5).map (fun (i : Nat) =>
    (List.range 5).map (fun (j : Nat) => colourAt m ph ((row0 : Int) + winRow (above ≠ []) rows.length r i).toNat (winCol w c j)))

/-- A list of numbers in rising order. -/
def insertNat (x : Nat) : List Nat → List Nat
  | [] => [x]
  | y :: r => if x ≤ y then x :: y :: r else y :: insertNat x r

/-- The median. -/
def medianNat (l : List Nat) : Nat :=
  let t := l.foldr insertNat []
  let n := t.length
  if n % 2 = 1 then t.getD (n / 2) 0 else openDiv (t.getD (n / 2 - 1) 0 + t.getD (n / 2) 0) 2

/-- Defect correction of one pixel from its neighbourhood and the colours there (08 R280). -/
def correct (b : Bytes) (win colours : List (List Nat)) (x : Nat) : Nat :=
  let mine := (colours.getD 2 []).getD 2 0
  let same := (win.zip colours).zipIdx.flatMap (fun (y : (List Nat × List Nat) × Nat) =>
    (y.1.1.zip y.1.2).zipIdx.filterMap (fun (z : (Nat × Nat) × Nat) =>
      if (y.2 ≠ 2 || z.2 ≠ 2) && z.1.2 = mine then some z.1.1 else none))
  let th := le b 4 2
  if same ≠ [] && (decide (same.foldl max 0 + th < x) || decide (x + th < same.foldl min 4095)) then medianNat same else x

/-- Stage 3 on the rows of a stripe that begins at a row of the frame. -/
def defects (b : Bytes) (above rows : List (List Nat)) (row0 : Nat) : List (List Nat) :=
  if Context.flags b % 2 = 0 then rows
  else rows.zipIdx.map (fun (y : List Nat × Nat) =>
    y.1.zipIdx.map (fun (z : Nat × Nat) =>
      correct b (window above rows y.2 z.2) (windowColours (Context.mosaic b) (Context.phase b) above rows row0 y.2 z.2) z.1))

/-- A plane has a colour of its own: R, G, B, IR, C. -/
def hasPlane (mosaic p : Nat) : Bool :=
  match p with
  | 3 => mosaic = 3 || mosaic = 4
  | 4 => true
  | _ => mosaic ≠ 0 && decide (mosaic ≤ 4)

/-- The planes R, G, B, IR and luma of one row at the statistics tap (08 R280); a plane not produced is empty. -/
def planesOf (b : Bytes) (above rows : List (List Nat)) (row0 r : Nat) : List (List Nat) :=
  let m := Context.mosaic b
  let ph := Context.phase b
  let line := rows.getD r []
  let cols := List.range line.length
  if m = 0 then [[], [], [], [], line]
  else
    let samp := fun p => cols.map (fun c =>
      Config.demosaic m ph p (window above rows r c) (windowColours m ph above rows row0 r c) ((row0 + r + ph / 4) % 4) ((c + ph % 4) % 4) % 4096)
    let ir := if hasPlane m 3 then samp 3 else []
    let leak := hasPlane m 3 && bit (Context.flags b) 1
    let rgb := fun p => if leak then (samp p).zipWith (fun v i => v - openDiv (le b (12 + 2 * p) 2 * i) 4096) ir else samp p
    let red := rgb 0
    let green := rgb 1
    let blue := rgb 2
    let luma := if m = 2 then samp 4 else (red.zipWith (fun x y => x + 2 * y) green).zipWith (fun x y => openDiv (x + y) 4) blue
    [red, green, blue, ir, luma]

/-! ### Stages 5 to 7 -/

/-- White balance and colour matrix of one pixel (08 R281). -/
def colour (b : Bytes) (px : List Nat) : List Nat :=
  if b = [] then px
  else
    let w := px.zipIdx.map (fun (x : Nat × Nat) => openDiv (x.1 * le b (20 + 2 * x.2) 2) 4096)
    (List.range 3).map (fun i =>
      clampI 4095 (openDivI ((List.range 3).foldl (fun (a : Int) j => a + leS b (28 + 6 * i + 2 * j) 2 * (w.getD j 0 : Nat)) 0) 4096 + leS b (46 + 2 * i) 2))

/-- A 12-bit value rounded to 8 bits. -/
def to8 (v : Nat) : Nat := min 255 (nearest v 16)

/-- R'G'B' of one row as 8-bit values; empty on a mono frame. -/
def rgb8 (b : Bytes) (p : List (List Nat)) : List (List Nat) :=
  if Context.mosaic b = 0 then []
  else (List.range (p.getD 0 []).length).map (fun c => (colour b [(p.getD 0 []).getD c 0, (p.getD 1 []).getD c 0, (p.getD 2 []).getD c 0]).map to8)

/-- A weighted sum in 1/10000, rounded and clamped to 8 bits. -/
def mix (r g b off : Int) (px : List Nat) : Nat :=
  let v := r * (px.getD 0 0 : Nat) + g * (px.getD 1 0 : Nat) + b * (px.getD 2 0 : Nat) + 10000 * off
  if v < 0 then 0 else min 255 (nearest v.toNat 10000)

/-- Y, U and V of one row (08 R281). -/
def yuvRow (b : Bytes) (p : List (List Nat)) : List Nat × List Nat × List Nat :=
  if Context.mosaic b = 0 then
    let y := (p.getD 4 []).map to8
    (y, y.map (fun _ => 128), y.map (fun _ => 128))
  else
    let q := rgb8 b p
    (q.map (mix 2990 5870 1140 0), q.map (mix (-1687) (-3313) 5000 128), q.map (mix 5000 (-4187) (-813) 128))

/-- Red, green and blue of one row as the display shows them. -/
def displayRgb (b : Bytes) (p : List (List Nat)) (k : Nat) : List Nat :=
  if Context.mosaic b = 0 then (p.getD 4 []).map to8 else (rgb8 b p).map (fun x => x.getD k 0)

/-- Groups of n consecutive elements, whole groups only. -/
def groupsOf {α : Type} (n : Nat) : Nat → List α → List (List α)
  | 0, _ => []
  | k + 1, l => l.take n :: groupsOf n k (l.drop n)

/-- Box averages of s × s pixels (08 R289). -/
def boxes (s : Nat) (rows : List (List Nat)) : List (List Nat) :=
  (groupsOf s (rows.length / s) rows).map (fun g =>
    (List.range ((g.headD []).length / s)).map (fun i =>
      openDiv (g.foldl (fun a (l : List Nat) => a + ((l.drop (s * i)).take s).foldl (· + ·) 0) 0) (s * s)))

/-- A byte from a number. -/
def byteOf (n : Nat) : Byte := BitVec.ofNat 8 n

/-- RGB565, red in the high bits (log entry 25). -/
def rgb565 (r g b : Nat) : Bytes := toLe 2 (r / 8 * 2048 + g / 4 * 32 + b / 8)

/-- Y0 U Y1 V of a row (08 R288). -/
def yuyv : List Nat → List Nat → List Nat → Bytes
  | y0 :: y1 :: ys, u0 :: u1 :: us, v0 :: v1 :: vs =>
    byteOf y0 :: byteOf (Config.chroma [u0, u1]) :: byteOf y1 :: byteOf (Config.chroma [v0, v1]) :: yuyv ys us vs
  | _, _, _ => []

/-- Interleaved chroma of two rows (08 R289). -/
def nvRow (u0 u1 v0 v1 : List Nat) : Bytes :=
  (List.range (u0.length / 2)).flatMap (fun i =>
    let q := fun (a b : List Nat) => byteOf (Config.chroma ((a.drop (2 * i)).take 2 ++ (b.drop (2 * i)).take 2))
    [q u0 u1, q v0 v1])

/-- Bits packed into bytes, bit i of byte b for pixel 8b + i (08 R289). -/
def packBits (l : List Bool) : Bytes :=
  (groupsOf 8 (ceilDiv l.length 8) l).map (fun g => byteOf (g.zipIdx.foldl (fun a (x : Bool × Nat) => a + b2n x.1 * 2 ^ x.2) 0))

/-- The machine-vision row: luma or IR, as 8-bit values; none where the frame has no IR plane (08 R288). -/
def visionRow (b : Bytes) (format : Nat) (p : List (List Nat)) : Option (List Nat) :=
  if format = 1 then (if hasPlane (Context.mosaic b) 3 then some ((p.getD 3 []).map to8) else none)
  else if Context.mosaic b = 0 || Context.mosaic b = 2 then some ((p.getD 4 []).map to8)
  else some (yuvRow b p).1

/-- Threshold bits of a row (08 R288). -/
def thresholdBits (setup : Bytes) (l : List Nat) : List Bool :=
  l.map (fun v => if bit (le setup 3 1) 1 then decide (v < le setup 4 2) else decide (le setup 4 2 ≤ v))

/-! ### Output setups -/

/-- R288 and R289 for one port of a setup. -/
def outPortOk (output scale : Nat) (setup : Bytes) (port pixels : Nat) : Bool :=
  let o := 8 + 16 * port
  let stride := le setup (o + 8) 4
  let m := if output = 2 then 512 else 64
  let least := if output = 0 then 2 * pixels / 2 ^ scale else pixels
  le setup o 8 % 64 = 0 && stride % m = 0 && decide (least ≤ stride) && decide (1 ≤ le setup (o + 12) 2) && decide (le setup (o + 12) 2 ≤ 64)

/-- Slot bytes (08 R289). -/
def slotBytes (output scale stride rows : Nat) : Nat :=
  match output with
  | 0 => stride * rows / 2 ^ scale
  | 1 => stride * rows * 3 / 2
  | _ => stride * rows * 9 / 8

/-! ### Statistics (08 R286) -/

/-- Histogram of a plane over a window. -/
def histogram (rows : List (Nat × List Nat)) (x0 y0 x1 y1 : Nat) : List Nat :=
  let vals := rows.flatMap (fun (r : Nat × List Nat) => if y0 ≤ r.1 && r.1 ≤ y1 then (r.2.take (x1 + 1)).drop x0 else [])
  (List.range 256).map (fun k => (vals.filter (fun v => v / 16 = k)).length)

/-- The span of part i of n of a length, the remainder in the last part. -/
def span (len n i : Nat) : Nat × Nat := (len / n * i, if i + 1 = n then len else len / n * (i + 1))

/-- Zone words of a plane. -/
def zoneWords (rows : List (Nat × List Nat)) (width height : Nat) : List Nat :=
  (List.range 128).map (fun z =>
    let y := span height 8 (z / 16)
    let x := span width 16 (z % 16)
    let vals := rows.flatMap (fun (r : Nat × List Nat) => if y.1 ≤ r.1 && r.1 < y.2 then (r.2.take x.2).drop x.1 else [])
    let mean := if vals = [] then Config.emptyZone % 65536 else openDiv (16 * vals.foldl (· + ·) 0) vals.length
    mean + 65536 * min 0xFFFF (vals.filter (fun v => v = 4095)).length)

/-- The statistics block of a frame. -/
def statsOf (f : CamFrame) : Stats :=
  let b := f.ctxBody
  let height := if f.exp.short ≠ 0 then f.inLines / 2 else f.inLines
  let ps := (List.range 5).filter (fun p => hasPlane (Context.mosaic b) p)
  { frame := f.num, gen := f.exp.gen, ctxSeq := f.ctxSeq, marks := f.marks
    planes := ps.map (fun p =>
      let rows := f.rows.map (fun (r : Nat × List (List Nat)) => (r.1, r.2.getD p []))
      (p, (List.range 4).map (fun h => histogram rows (le b (52 + 8 * h) 2) (le b (54 + 8 * h) 2) (le b (56 + 8 * h) 2) (le b (58 + 8 * h) 2)),
        zoneWords rows f.setup.linePixels height)) }

end Sys2Proof.Machine
end

