-- ==== Sys2Proof/Machine/Cameras.lean ====
section
/-! DEFINITION. Camera ports, triggers, frames, stripes, the camera opcodes (08). -/
namespace Sys2Proof.Machine

/-! ### Frames and stripes -/

/-- Line sensor (08 R262 FLAGS bit 1). -/
def CamSetup.line (u : CamSetup) : Bool := u.flags.getLsbD 1

/-- Input lines of a stripe (08 R283). -/
def CamSetup.stripeLines (u : CamSetup) : Nat := if u.line then 64 else 128

/-- HDR (08 R279). -/
def Exposure.hdr (e : Exposure) : Bool := e.short ≠ 0

/-- Input lines owed by one trigger of a line sensor (08 R269). -/
def CamFrame.perTrigger (f : CamFrame) : Nat := if f.exp.hdr then 2 else 1

/-- Triggers of a frame (08 R274). -/
def CamFrame.need (f : CamFrame) : Nat := if f.setup.line then max 1 (f.setup.frameLines / f.perTrigger) else 1

/-- Stripes of a frame. -/
def CamFrame.stripes (f : CamFrame) : Nat := ceilDiv f.inLines f.setup.stripeLines

/-- Rows that its setup gives a frame, by which its output slots are laid out (08 R289; log entry 25). -/
def CamFrame.slotRows (f : CamFrame) : Nat := if f.exp.hdr then f.fullLines / 2 else f.fullLines

/-- Output rows of a frame. -/
def CamFrame.outRows (f : CamFrame) : Nat := if f.exp.hdr then f.inLines / 2 else f.inLines

/-- A frame of a port. -/
def State.camFrame (s : State) (p key : Nat) : Option CamFrame := (s.port p).frames.find? (fun f => f.key = key)

/-- A frame changed. -/
def State.modFrame (s : State) (p key : Nat) (g : CamFrame → CamFrame) : State :=
  s.modPort p (fun q => { q with frames := q.frames.map (fun (f : CamFrame) => if f.key = key then g f else f) })

/-- The lowest enabled port (15 R452). -/
def State.lowestCam (s : State) : Option Nat := [0, 1].find? (fun p => (s.port p).on)

/-- Detector k at a check on port p, with a shot on the lowest enabled port only. -/
def State.detectCam (s : State) (k p : Nat) (real : Bool) : Bool × State :=
  if s.lowestCam = some p then s.detect k real else (real, s)

/-- A mark on a frame; its lines in the threshold ring carry marks 0 and 1 too (08 R275, 06 R231). -/
def State.markFrame (s : State) (p key bitNo : Nat) : State :=
  let s := s.modFrame p key (fun f => { f with marks := setBit f.marks bitNo true })
  if bitNo ≤ 1 then
    { s with health := { s.health with ring := s.health.ring.map (fun (l : RingLine) => if l.port = p && l.key = key then { l with marked := true } else l) } }
  else s

/-- Bytes written to the image store; those at or beyond STORE are lost (08 R275, R289, 10 R332). -/
def State.storePut (s : State) (a : Nat) (b : Bytes) : State := s.storeWrite a (b.take (s.storeBytes - a))

/-- The slot that an output writes for a frame, with its setup (08 R289). -/
def CamFrame.slotOf (f : CamFrame) (p output : Nat) : Option (Bytes × Nat) :=
  match f.outs.getD output none with
  | none => none
  | some u => if bit (le u 2 1) p && (output ≠ 2 || bit (le u 3 1) 0) then some (u, f.num % max 1 (le u (8 + 16 * p + 12) 2)) else none

/-- Descriptor bytes 4-63 (08 R275). -/
def State.descriptor (s : State) (p : Nat) (f : CamFrame) : Bytes :=
  let slots := (List.range 3).map (fun o =>
    match f.slotOf p o with
    | some x => if f.wrote.getD o false then byteOf x.2 else (0xFF : Byte)
    | none => (0xFF : Byte))
  toLe 2 f.exp.gen ++ toLe 2 f.marks.toNat ++ toLe 8 f.trigTb.toNat ++ toLeS 8 f.trigPos ++ toLe 8 (if f.overs = [] then s.now else f.endTb) ++ toLe 4 f.ctxSeq.toNat ++
    toLe 1 f.setup.context ++ [0] ++ toLe 2 f.outRows ++ toLe 2 f.stripes ++ toLe 2 f.dropped ++ toLe 2 f.crcLines ++ [0, 0] ++ slots ++ pad 13

/-- A frame whose data is over and whose stripes are all processed or dropped: statistics block and descriptor (08 R275, R286). -/
def State.finishFrame (s : State) (p key : Nat) : State :=
  match s.camFrame p key with
  | none => s
  | some f =>
    if !f.closed || decide (f.overs.length < f.stripes) then s
    else
      let s := s.modPort p (fun q => { q with frames := q.frames.filter (fun (g : CamFrame) => g.key ≠ key) })
      if !f.begun then s
      else
        let s := (s.modPort p (fun q => { q with stats := (statsOf f :: q.stats).take 8 })).raise 0x25
        let a := f.setup.descBase + 64 * (f.num % 2 ^ f.setup.descLog2)
        ((s.storePut (a + 4) (s.descriptor p f)).storePut a (toLe 4 f.num)).raise (0x22 + p)

/-- Strainer reads the threshold plane of the frame (08 R290). -/
def CamFrame.strained (f : CamFrame) (p : Nat) : Bool := match f.outs.getD 2 none with | some u => bit (le u 2 1) p | none => false

/-- Lines of a frame that write no threshold line: their stripe is dropped, or their port gives Strainer no plane (06 R231, 08 R290). -/
def State.loseLines (s : State) (p : Nat) (f : CamFrame) (poss : List Int) : State :=
  { s with health := { s.health with lost := poss.map (fun x => { port := p, pos := x, at_ := s.clock, dropped := f.strained p }) ++ s.health.lost } }

/-- A stripe dropped (08 R285). -/
def State.dropStripe (s : State) (p key idx : Nat) : State :=
  match s.camFrame p key with
  | none => s
  | some f =>
    if f.overs.contains idx then s
    else
      let poss := ((s.port p).stripes.filter (fun (x : Stripe) => x.key = key && x.index = idx)).flatMap (fun (x : Stripe) => x.poss)
      let s := (s.loseLines p f poss).modPort p (fun q => { q with stripes := q.stripes.filter (fun (x : Stripe) => x.key ≠ key || x.index ≠ idx) })
      let s := s.modFrame p key (fun f => { f with
        overs := idx :: f.overs, dropped := f.dropped + 1, endTb := s.now, edge := if f.edgeOf + 1 = idx then [] else f.edge })
      (((s.markFrame p key 0).raise 0x26).count 52).finishFrame p key

/-- The data of a frame is over: a partial stripe is ready (08 R283). -/
def State.endFrame (s : State) (p key : Nat) : State :=
  let s := s.modPort p (fun q =>
    { q with owed := q.owed.filter (fun (o : Owed) => o.key ≠ key), recv := (if q.recv = some key then none else q.recv)
             stripes := q.stripes.map (fun (x : Stripe) => if x.key = key && x.ready.isNone then { x with ready := some s.now } else x) })
  (s.modFrame p key (fun f => { f with closed := true })).finishFrame p key

/-- A frame closed before its data has arrived (08 R269): stripes that are not complete are dropped. -/
def State.closeFrame (s : State) (p key : Nat) : State :=
  match s.camFrame p key with
  | none => s
  | some f =>
    let s := s.loseLines p f (((s.port p).owed.filter (fun (o : Owed) => o.key = key)).map (fun (o : Owed) => o.pos))
    let s := (s.markFrame p key 3).modPort p (fun q =>
      { q with owed := q.owed.filter (fun (o : Owed) => o.key ≠ key), recv := (if q.recv = some key then none else q.recv) })
    let s := s.modFrame p key (fun f => { f with closed := true })
    let ready := fun i => ((s.port p).stripes.any (fun (x : Stripe) => x.key = key && x.index = i && x.ready.isSome)) ||
      s.cam.current.any (fun (c : Nat × Stripe) => c.1 = p && c.2.key = key && c.2.index = i)
    let s := ((List.range f.stripes).filter (fun i => !ready i)).foldl (fun s i => s.dropStripe p key i) s
    s.finishFrame p key

/-! ### Triggers -/

/-- The exposure in force at this moment: an edge takes new settings when its timebase is greater than the commit (08 R272). -/
def CamPort.inForce (q : CamPort) (now : Nat) : Exposure := if q.commitAt < now then q.exp else q.prevExp

/-- The line-sensor frame that has triggers still to come (08 R274). -/
def CamPort.openFrame (q : CamPort) : Option CamFrame := q.frames.find? (fun f => f.setup.line && !f.closed && !f.stopped && decide (f.triggers < f.need))

/-- Exposure and position, in 1/65536 position unit, of the next trigger (08 R263, R267). -/
def CamPort.nextTrigger (q : CamPort) (now : Nat) : Option (Exposure × Int) :=
  match q.setup with
  | none => none
  | some u =>
    let e := match q.openFrame with
      | some f => f.exp
      | none => q.inForce now
    if !q.on || e.long = 0 || e.pitch = 0 then none
    else
      let k : Nat := ((q.trigAfter - u.trigStart * 65536) / (e.pitch : Int) + 1).toNat
      some (e, u.trigStart * 65536 + (k * e.pitch : Nat))

/-- The port a new frame begins on, at a trigger index (08 R274). -/
def State.newFrame (s : State) (p : Nat) (u : CamSetup) (e : Exposure) : State :=
  s.modPort p (fun q =>
    let f : CamFrame :=
      { key := q.nextKey, num := q.nextFrame, setup := u, begun := false, exp := e, marks := 0, stopped := false, trigLast := 0, endTb := 0, trigTb := 0, trigPos := 0, ctxSeq := 0, ctxBody := []
        triggers := 0, lines := 0, inLines := (if u.line && e.hdr then 2 * max 1 (u.frameLines / 2) else u.frameLines), closed := false, overs := []
        fullLines := (if u.line && e.hdr then 2 * max 1 (u.frameLines / 2) else u.frameLines)
        dropped := 0, crcLines := 0, outs := [], wrote := [], edge := [], edgeOf := 0, rows := [] }
    { q with nextKey := q.nextKey + 1, nextFrame := (q.nextFrame + 1) % 0xFFFFFFFF, frames := q.frames ++ [f] })

/-- The first trigger of a frame fires: its settings, context and outputs (08 R272-R277, R289). -/
def State.beginFrame (s : State) (p key : Nat) (pos : Int) (e : Exposure) : State :=
  let s := s.modFrame p key (fun f =>
    let c : Context := vget s.cam.contexts f.setup.context {}
    { f with begun := true, exp := e, trigTb := s.timebase, trigPos := pos, ctxSeq := c.seq, ctxBody := c.body, outs := s.cam.outputs.toList })
  s.raise (0x20 + p)

/-- The strobe that goes with a trigger (08 R270): none while a survey runs. -/
def State.strobeFor (s : State) (q : CamPort) (u : CamSetup) : List (Nat × Nat) :=
  if (u.strobeMode = 1 || (u.strobeMode = 2 && q.flashArmed)) && s.health.run.isNone then [(s.now + u.strobeDelay, u.strobeWidth)] else []

/-- A pulse, by its start and width, covers a moment. -/
def inPulse (now : Nat) (x : Nat × Nat) : Bool := decide (x.1 ≤ now) && decide (now < x.1 + x.2)

/-- The levels of STROBE0 or STROBE1, and of DW_TRIG (06 R213, 08 R270): while a survey runs the survey alone drives them, also where a trigger before it was
to flash in it. -/
def State.strobePin (s : State) (p : Nat) : Bool :=
  if s.health.run.isSome then ((s.health.flashes.drop (1 + p)).take 1).any (inPulse s.clock) else (s.port p).strobeOut.any (inPulse s.now)
def State.dwTrigPin (s : State) : Bool := s.health.run.isSome && (s.health.flashes.take 1).any (inPulse s.clock)

/-- The key of the frame of the next trigger, and the state with the frame begun if it is a new one. -/
def State.triggerFrame (s : State) (p : Nat) (u : CamSetup) (e : Exposure) : Nat × State :=
  match (s.port p).openFrame with
  | some f => (f.key, s)
  | none => ((s.port p).nextKey, s.newFrame p u e)

/-- A line-sensor frame all of whose data is in or given up ends (08 R274). -/
def State.settleFrame (s : State) (p key : Nat) : State :=
  match s.camFrame p key with
  | none => s
  | some f =>
    if f.setup.line && !f.closed && decide (f.need ≤ f.triggers) && (s.port p).owed.all (fun (o : Owed) => o.key ≠ key) then s.endFrame p key else s

/-- A trigger position passes without a trigger: the event fabric routes a line to CAMn_TRIG and no pulse has armed one (01 R37; log entry 49). -/
def State.unarmed (s : State) (p : Nat) : Bool :=
  (vget s.fab.dst (0x12 + p) {}).en && !(s.port p).trigArmed && Config.trigNeedsArm

/-- CAM_TRIGGER (08 R267-R274): the position, moving in the positive direction, has reached the integer part of the next trigger position (04 R124). -/
def execCamTrigger (p : Fin 2) (s : State) : Host.Outcome State Fault Refusal :=
  let q := s.port p
  match q.setup, q.nextTrigger s.now with
  | some u, some (e, x) =>
    if !s.inRun || !s.movesOn u.posSrc false || decide (s.sourcePosition u.posSrc < x / 65536) then .next s
    else if s.unarmed p then .next (s.modPort p (fun q => { q with trigAfter := x }))
    else
      let s := s.modPort p (fun q => { q with trigAfter := x, trigArmed := false })
      let d := s.detectCam 50 p (decide (s.now < q.trigFree))
      let s := d.2
      if d.1 then
        let s := s.count 50
        if u.line then
          let t := s.triggerFrame p u e
          let s := t.2.modFrame p t.1 (fun f => { f with triggers := f.triggers + 1 })
          match s.camFrame p t.1 with
          | none => .next s
          | some f => .next ((((s.markFrame p t.1 2).loseLines p f [x / 65536]).dropStripe p t.1 ((f.triggers - 1) * f.perTrigger / f.setup.stripeLines)).settleFrame p t.1)
        else
          .next (((s.modPort p (fun q => { q with nextFrame := (q.nextFrame + 1) % 0xFFFFFFFF })).raise 0x26).count 52)
      else
        let t := s.triggerFrame p u e
        let s := t.2
        let pulses := (s.now, e.long) :: (if e.hdr then [(s.now + e.long + u.trigGap, e.short)] else [])
        let busy := s.now + e.long + (if e.hdr then u.trigGap + e.short else 0) + u.trigGap
        let strobe := s.strobeFor q u
        let s := s.modPort p (fun q => { q with trigFree := busy, trigLast := s.now, trigOut := pulses, strobeOut := strobe, flashArmed := false })
        let s := if (s.camFrame p t.1).any (fun f => f.begun) then s else s.beginFrame p t.1 (x / 65536) e
        match s.camFrame p t.1 with
        | none => .next s
        | some f =>
          let n := if u.line then f.perTrigger else 1
          let os := (List.range n).map (fun i => ({ key := f.key, line := f.triggers * f.perTrigger + i, pos := x / 65536, tb := s.now } : Owed))
          let s := s.modPort p (fun q => { q with owed := q.owed ++ os })
          .next (s.modFrame p t.1 (fun f => { f with triggers := f.triggers + 1, trigLast := s.now }))
  | _, _ => .next s

/-! ### Reception -/

/-- The port receives: it is enabled, or a frame is in progress (08 R263). -/
def CamPort.listens (q : CamPort) : Bool := q.on || q.owed ≠ [] || q.recv.isSome || q.junk

/-- The setup under which the port receives: that of the frame whose data is owed first, so that a frame in progress completes after the port was
disabled and enabled again (08 R263). -/
def State.recvSetup (s : State) (p : Nat) : Option CamSetup :=
  let q := s.port p
  let key := match q.recv with | some k => some k | none => (q.owed.head?).map (fun (o : Owed) => o.key)
  match key.bind (fun k => s.camFrame p k) with
  | some f => some f.setup
  | none => q.setup

/-- The port receives in line mode (or area mode). -/
def State.listening (s : State) (p : Nat) (line : Bool) : Bool :=
  s.inRun && (s.port p).listens && (s.recvSetup p).any (fun u => u.line = line)

/-- CAM_FRAME_BEGIN (08 R264). -/
def execCamFrameBegin (p : Fin 2) (s : State) : Host.Outcome State Fault Refusal :=
  let q := s.port p
  if !s.listening p false || q.recv.isSome || q.junk then .next s
  else
    match q.owed with
    | o :: _ => .next (s.modPort p (fun q => { q with recv := some o.key }))
    | [] => .next ((s.modPort p (fun q => { q with junk := true })).count 48)

/-- CAM_FRAME_END (08 R264): a frame that ends early has the lines received. -/
def execCamFrameEnd (p : Fin 2) (s : State) : Host.Outcome State Fault Refusal :=
  let q := s.port p
  if !s.inRun then .next s
  else
    match q.recv with
    | some k => .next ((s.modFrame p k (fun f => { f with inLines := f.lines })).endFrame p k)
    | none => .next (s.modPort p (fun q => { q with junk := false }))

/-- Pixels that lines hold. -/
def pixelsOf (ls : List (List Nat)) : Nat := ls.foldl (fun a l => a + l.length) 0

/-- Pixels in the stripe buffer of a port (08 R283, R284). -/
def State.bufferUsed (s : State) (p : Nat) : Nat :=
  let q := s.port p
  let waiting := q.stripes.foldl (fun a (x : Stripe) => a + pixelsOf x.lines) 0
  let now :=
    match s.cam.current with
    | some (c, x) =>
      if c = p then
        let w := (x.lines.headD []).length
        let freed := (s.now - s.cam.currentAt) * 3 / 2 / max 1 w
        (x.lines.length - min (freed - 2) (x.lines.length - 2)) * w
      else 0
    | none => 0
  -- the two lines kept of the stripe processed last, on a frame whose next stripe is not in process
  let busy := fun (f : CamFrame) => s.cam.current.any (fun (c : Nat × Stripe) => c.1 = p && c.2.key = f.key)
  let kept := q.frames.foldl (fun a (f : CamFrame) => if f.edge = [] || busy f then a else a + 2 * f.setup.linePixels) 0
  waiting + now + kept

/-- A line placed in its stripe (08 R283, R285). -/
def State.placeLine (s : State) (p key idx : Nat) (pos : Int) (line : List Nat) (e : BankErrors) : State :=
  match s.camFrame p key with
  | none => s
  | some f =>
    let sl := f.setup.stripeLines
    let k := idx / sl
    if f.overs.contains k then s.loseLines p f [pos]
    else
      let d := s.detectCam 52 p (decide ((s.port p).capacity < s.bufferUsed p + line.length))
      let s := d.2
      if d.1 then s.dropStripe p key k
      else
        let last := idx % sl = sl - 1 || idx + 1 = f.inLines
        let ready := if last then some s.now else none
        let s := s.modPort p (fun q =>
          if q.stripes.any (fun (x : Stripe) => x.key = key && x.index = k) then
            { q with stripes := q.stripes.map (fun (x : Stripe) =>
                if x.key = key && x.index = k then
                  { x with lines := x.lines ++ [line], poss := x.poss ++ [pos], ready := ready
                           errors := { corrected := x.errors.corrected ++ e.corrected, bad := x.errors.bad ++ e.bad } } else x) }
          else { q with stripes := q.stripes ++ [{ key := key, index := k, lines := [line], poss := [pos], ready := ready, errors := e }] })
        -- detector 51 (15 R452)
        if last && k = 0 && s.shot 51 && s.lowestCam = some p then (s.shotTaken.count 51).closeFrame p key else s

/-- The line as received and whether it is in check-value error (08 R262, R265, R266). -/
def receiveLine (u : CamSetup) (pixels : List Nat) (trailer : BitVec 16) : List Nat × Bool :=
  let w := if u.bus = 0 then 65536 else if u.bus = 1 then 4096 else 256
  let px := pixels.map (fun (x : Nat) => x % w)
  let sum := crc16 (px.flatMap (fun (x : Nat) => [BitVec.ofNat 8 (x / 256), BitVec.ofNat 8 x]))
  let line := px.take u.linePixels ++ List.replicate (u.linePixels - px.length) 0
  (line, decide (px.length ≠ u.linePixels) || (u.flags.getLsbD 2 && sum ≠ trailer))

/-- A line for which a trigger is owed (08 R264-R266). -/
def State.takeLine (s : State) (p : Nat) (o : Owed) (idx : Nat) (pixels : List Nat) (tail : LineTail) : State :=
  match s.camFrame p o.key with
  | none => s
  | some f =>
    let r := receiveLine f.setup pixels tail.trailer
    let s := { s with mem := { s.mem with inspUsed := true } }
    let d := s.detectCam 49 p r.2
    let s := d.2
    let s := if d.1 then
        ((s.modFrame p o.key (fun f => { f with crcLines := min 0xFFFF (f.crcLines + 1) })).markFrame p o.key 1).count 49
      else s
    s.placeLine p o.key idx o.pos r.1 tail.errors

/-- CAM_LINE (08 R264-R266, R285). -/
def execCamLine (p : Fin 2) (pixels : List Nat) (tail : LineTail) (s : State) : Host.Outcome State Fault Refusal :=
  let q := s.port p
  if s.listening p true then
    let d := s.detectCam 48 p (decide (q.owed = []))
    let s := d.2
    if d.1 then .next (s.count 48)
    else
      match q.owed with
      | [] => .next s
      | o :: rest =>
        let s := s.modPort p (fun q => { q with owed := rest })
        .next ((s.takeLine p o o.line pixels tail).settleFrame p o.key)
  else if s.listening p false then
    if q.junk then .next s
    else
      let d := s.detectCam 48 p q.recv.isNone
      let s := d.2
      if d.1 then .next (s.count 48)
      else
        match q.recv, q.owed with
        | some k, o :: _ =>
          match s.camFrame p k with
          | none => .next s
          | some f =>
            let s := s.modFrame p k (fun f => { f with lines := f.lines + 1 })
            let s := s.takeLine p o f.lines pixels tail
            if f.inLines ≤ f.lines + 1 && (s.camFrame p k).any (fun f => !f.closed) then .next (s.endFrame p k) else .next s
        | _, _ => .next s
  else .next s

/-- TIMEOUT_US of a frame has passed since a leading edge (08 R269). -/
def CamFrame.late (f : CamFrame) (tb now : Nat) : Bool := decide (tb + tickUs * f.setup.timeoutUs ≤ now)

/-- The frame that times out: the oldest data owed too long, or the rest of a line-sensor frame on a port that was disabled (08 R263, R269). -/
def State.timedOut (s : State) (p : Nat) : Option Nat :=
  match (s.port p).owed.find? (fun (o : Owed) => (s.camFrame p o.key).any (fun f => f.late o.tb s.now)) with
  | some o => some o.key
  | none => ((s.port p).frames.find? (fun (f : CamFrame) => f.stopped && !f.closed && f.late f.trigLast s.now)).map (fun (f : CamFrame) => f.key)

/-- CAM_TIMEOUT (08 R269). -/
def execCamTimeout (p : Fin 2) (s : State) : Host.Outcome State Fault Refusal :=
  if !s.inRun then .next s
  else
    match s.timedOut p with
    | some k => .next ((s.closeFrame p k).count 51)
    | none => .next s

/-! ### The pipeline -/

/-- The oldest ready stripe of a port whose earlier stripes are done (08 R284). -/
def State.readyStripe (s : State) (p : Nat) : Option Stripe :=
  match (s.port p).stripes with
  | x :: _ => if x.ready.isSome then some x else none
  | [] => none

/-- The port served next (08 R284). -/
def State.nextPort (s : State) : Option Nat :=
  match s.readyStripe 0, s.readyStripe 1 with
  | some _, some _ => if s.cam.last.any (fun (l : Nat × Nat) => l.1 = 0) then some 1 else some 0
  | some _, none => some 0
  | none, some _ => some 1
  | none, none => none

/-- The words of a stripe that the read of its buffer finds with errors: counted, their windows tested again or their rows repaired (10 R322, R323). -/
def State.stripeErrors (s : State) (p : Nat) (e : BankErrors) : State :=
  e.bad.foldl (fun s w => (s.count 81).repairRow 15 (windowRow w) (some p)) (e.corrected.foldl (fun s w => s.bankCorrected 15 w) s)

/-- STRIPE_START (08 R284, 10 R323). -/
def execStripeStart (s : State) : Host.Outcome State Fault Refusal :=
  if !s.inRun || s.pwr.blockHeld.getLsbD 14 || s.cam.current.isSome then .next s
  else
    match s.nextPort with
    | none => .next s
    | some p =>
      match s.readyStripe p with
      | none => .next s
      | some x =>
        -- detector 81: the stripe-buffer read is uncorrectable (15 R452, 10 R323)
        let s := s.stripeErrors p x.errors
        if s.shot 81 then .next ((if x.errors.bad = [] then s.shotTaken.count 81 else s.shotTaken).dropStripe p x.key x.index)
        else if x.errors.bad ≠ [] then .next (s.dropStripe p x.key x.index)
        else
          let ctx := ((s.camFrame p x.key).map (fun f => f.setup.context)).getD 0
          let wait := if s.cam.last.any (fun (l : Nat × Nat) => l ≠ (p, ctx)) then 86 else 0
          let s := s.modPort p (fun q => { q with stripes := q.stripes.drop 1 })
          .next { s with cam := { s.cam with current := some (p, x), currentAt := s.now + wait, last := some (p, ctx) } }

/-- Rows written from an address with a stride. -/
def State.putRows (s : State) (a stride : Nat) (rows : List Bytes) : State :=
  rows.zipIdx.foldl (fun s (r : Bytes × Nat) => s.storePut (a + stride * r.2) r.1) s

/-- The rows of a stripe written by one output (08 R289). -/
def State.writeOutput (s : State) (p output : Nat) (f : CamFrame) (row0 : Nat) (rows : List (List (List Nat))) : State :=
  match f.slotOf p output with
  | none => s
  | some (u, slot) =>
    let o := 8 + 16 * p
    let stride := le u (o + 8) 4
    let scale := le u 1 1
    let b := f.ctxBody
    let base := le u o 8 + slot * slotBytes output scale stride f.slotRows
    let done := fun (s : State) =>
      let s := { s with cam := { s.cam with slotTags :=
        ((output, p, slot), (f.num, f.exp.gen, f.ctxSeq)) :: s.cam.slotTags.filter (fun x => x.1 ≠ (output, p, slot)) } }
      s.modFrame p f.key (fun f => { f with wrote := (List.range 3).map (fun i => f.wrote.getD i false || i = output) })
    match output with
    | 0 =>
      let k := 2 ^ scale
      let lines :=
        if le u 0 1 = 0 then
          let r := boxes k (rows.map (fun (x : List (List Nat)) => displayRgb b x 0))
          let g := boxes k (rows.map (fun (x : List (List Nat)) => displayRgb b x 1))
          let l := boxes k (rows.map (fun (x : List (List Nat)) => displayRgb b x 2))
          (r.zip (g.zip l)).map (fun (x : List Nat × List Nat × List Nat) =>
            (x.1.zip (x.2.1.zip x.2.2)).flatMap (fun (y : Nat × Nat × Nat) => rgb565 y.1 y.2.1 y.2.2))
        else
          let yuv := rows.map (fun (x : List (List Nat)) => yuvRow b x)
          let y := boxes k (yuv.map (fun (x : List Nat × List Nat × List Nat) => x.1))
          let c := boxes k (yuv.map (fun (x : List Nat × List Nat × List Nat) => x.2.1))
          let v := boxes k (yuv.map (fun (x : List Nat × List Nat × List Nat) => x.2.2))
          (y.zip (c.zip v)).map (fun (x : List Nat × List Nat × List Nat) => yuyv x.1 x.2.1 x.2.2)
      done (s.putRows (base + stride * (row0 / k)) stride lines)
    | 1 =>
      let yuv := rows.map (fun (x : List (List Nat)) => yuvRow b x)
      let s := s.putRows (base + stride * row0) stride (yuv.map (fun (x : List Nat × List Nat × List Nat) => x.1.map byteOf))
      let pairs := groupsOf 2 (yuv.length / 2) yuv
      let uv := pairs.map (fun (g : List (List Nat × List Nat × List Nat)) =>
        let a := g.getD 0 ([], [], [])
        let c := g.getD 1 ([], [], [])
        nvRow a.2.1 c.2.1 a.2.2 c.2.2)
      done (s.putRows (base + stride * f.slotRows + stride * (row0 / 2)) stride uv)
    | _ =>
      let vs := rows.filterMap (fun (x : List (List Nat)) => visionRow b (le u 0 1) x)
      if vs = [] then s
      else
        let s := s.putRows (base + stride * row0) stride (vs.map (fun (x : List Nat) => x.map byteOf))
        done (s.putRows (base + stride * f.slotRows + stride / 8 * row0) (stride / 8) (vs.map (fun (x : List Nat) => packBits (thresholdBits u x))))

/-- Ring lines whose bytes fit in 512 KB, newest first (08 R290). -/
def ringFit : Nat → List RingLine → List RingLine
  | _, [] => []
  | room, l :: r => let n := ceilDiv l.bits.length 8; if n ≤ room then l :: ringFit (room - n) r else []

/-- The threshold plane of a stripe written to the ring (08 R290). -/
def State.writeRing (s : State) (p : Nat) (f : CamFrame) (x : Stripe) (rows : List (List (List Nat))) : State :=
  match f.outs.getD 2 none with
  | none => s.loseLines p f x.poss
  | some u =>
    if !bit (le u 2 1) p then s.loseLines p f x.poss
    else
      let step := if f.exp.hdr then 2 else 1
      let ls := rows.zipIdx.filterMap (fun (r : List (List Nat) × Nat) =>
        (visionRow f.ctxBody (le u 0 1) r.1).map (fun v =>
          ({ port := p, key := f.key, index := x.index, pos := x.poss.getD (step * r.2) f.trigPos, at_ := s.clock, bits := thresholdBits u v, marked := f.marks.toNat % 4 ≠ 0 } : RingLine)))
      { s with health := { s.health with ring := ringFit 524288 (ls.reverse ++ s.health.ring) } }

/-- A stripe processed (08 R278-R290). -/
def State.processStripe (s : State) (p : Nat) (f : CamFrame) (x : Stripe) : State :=
  let b := f.ctxBody
  let t := toneRows b f.setup.bus f.exp x.lines
  let row0 := x.index * (if f.exp.hdr then f.setup.stripeLines / 2 else f.setup.stripeLines)
  let w := f.setup.linePixels
  let r := s.draw
  let lost := x.index ≠ 0 && !(f.edge ≠ [] && f.edgeOf + 1 = x.index)
  let s := if lost then r.2 else s
  let edge := if x.index = 0 then [] else if lost then (List.range 4).map (fun i => (List.range w).map (fun c => Config.lostPixel r.1 i c % 4096)) else f.edge
  let d := defects b (edge.take 2) t row0
  let rows := (List.range d.length).map (fun i => planesOf b (edge.drop 2) d row0 i)
  let s := (s.writeOutput p 0 f row0 rows).writeOutput p 1 f row0 rows
  let s := (s.writeOutput p 2 f row0 rows).writeRing p f x rows
  s.modFrame p f.key (fun f => { f with overs := x.index :: f.overs, endTb := s.now, edge := t.drop (t.length - 2) ++ d.drop (d.length - 2), edgeOf := x.index
                                        rows := f.rows ++ rows.zipIdx.map (fun (y : List (List Nat) × Nat) => (row0 + y.2, y.1)) })

/-- STRIPE_DONE (08 R284, R286): at 600 MP/s, a pixel takes two thirds of a FIRE tick. -/
def execStripeDone (s : State) : Host.Outcome State Fault Refusal :=
  match s.cam.current with
  | none => .next s
  | some (p, x) =>
    if !s.inRun || decide (3 * (s.now - s.cam.currentAt) < 2 * pixelsOf x.lines) || decide (s.now < s.cam.currentAt) then .next s
    else
      let s := { s with cam := { s.cam with current := none } }
      match s.camFrame p x.key with
      | none => .next (s.raise 0x24)
      | some f => .next (((s.processStripe p f x).raise 0x24).finishFrame p x.key)

/-- The pipeline reset: every stripe waiting or in process is dropped (08 A stripe is ready while the pipeline is resetting). -/
def State.resetPipeline (s : State) : State :=
  let cur := s.cam.current
  let s := { s with cam := { s.cam with current := none } }
  let s := match cur with
    | some (p, x) => s.dropStripe p x.key x.index
    | none => s
  [0, 1].foldl (fun s p => (s.port p).stripes.foldl (fun s (x : Stripe) => s.dropStripe p x.key x.index) s) s

/-- The stripe of a port that holds an uncorrectable word of its buffer is dropped (10 R323): the i-th in the buffer, from the oldest on. -/
def State.spoilStripe (s : State) (p i : Nat) : State :=
  match (s.port p).stripes[i]? with
  | some x => s.dropStripe p x.key x.index
  | none => s

/-- The stripe of a port that wrote the i-th line of the threshold ring, from the newest on, holds an uncorrectable word there (10 R323): it is dropped under
08 R285 after its processing, so its lines leave the ring, its frame is marked, and DROPPED counts it while the frame is open. -/
def State.spoilRing (s : State) (p i : Nat) : State :=
  match (s.health.ring.filter (fun (l : RingLine) => l.port = p))[i]? with
  | none => s
  | some x =>
    let mine := fun (l : RingLine) => l.port = p && l.key = x.key && l.index = x.index
    let lost := (s.health.ring.filter mine).map (fun (l : RingLine) => ({ port := p, pos := l.pos, at_ := l.at_, dropped := true } : LostLine))
    let s := { s with health := { s.health with ring := s.health.ring.filter (fun l => !mine l), lost := lost ++ s.health.lost } }
    let s := s.modFrame p x.key (fun f => { f with dropped := f.dropped + 1 })
    (((s.markFrame p x.key 0).raise 0x26).count 52)

/-- Every frame closed and both ports disabled, their outputs low (13 R419 camera setups in a warm reset, 06 R213). -/
def State.disablePorts (s : State) : State :=
  [0, 1].foldl (fun s p =>
    let s := (s.port p).frames.foldl (fun s (f : CamFrame) => s.closeFrame p f.key) s
    s.modPort p (fun q => { q with on := false, flashArmed := false, trigArmed := false, junk := false, trigOut := [], strobeOut := [] })) s

/-! ### The opcodes -/

/-- A setup body (08 R262). -/
def camSetupOf (b : Bytes) : CamSetup :=
  { flags := BitVec.ofNat 16 (le b 4 2), bus := le b 6 1, context := le b 7 1, linePixels := le b 8 2, frameLines := le b 10 2, posSrc := le b 12 1
    strobeMode := le b 13 1, trigGap := le b 14 2, strobeDelay := le b 16 4, strobeWidth := le b 20 4, timeoutUs := le b 24 4, trigStart := leS b 28 8
    descBase := le b 36 8, descLog2 := le b 44 1 }

/-- R262 and R263. -/
def camSetupOk (b : Bytes) : Bool :=
  let u := camSetupOf b
  decide (le b 0 1 ≤ 1) && zeros b 1 3 && decide (u.flags.toNat < 128) && decide (u.bus ≤ 2) && decide (u.context ≤ 1) &&
  decide (64 ≤ u.linePixels) && u.linePixels % 64 = 0 && decide (u.linePixels ≤ (if u.line then 8192 else 4096)) && decide (1 ≤ u.frameLines) &&
  decide (u.posSrc ≤ 8) && decide (u.strobeMode ≤ 2) && decide (8 ≤ u.trigGap) && decide (1 ≤ u.strobeWidth) && decide (u.strobeWidth ≤ 65535) &&
  decide (1 ≤ u.timeoutUs) && decide (u.timeoutUs ≤ 1000000) && u.descBase % 4096 = 0 && decide (4 ≤ u.descLog2) && decide (u.descLog2 ≤ 12) &&
  zeros b 45 3

/-- FRAME_LINES is odd under settings that use HDR (08 R262; log entry 25). -/
def CamSetup.oddHdr (u : CamSetup) (e : Exposure) : Bool := e.hdr && u.frameLines % 2 = 1

/-- CAM_CONFIG (08 R262, R263): a frame in progress completes, whether the port stays disabled or is enabled again. -/
def State.opCamConfig (s : State) (p : Packet) (src : Source) (_seq : Nat) : State :=
  let n := p.u 0 1
  let u := camSetupOf p.params
  let enable := u.flags.getLsbD 0
  if n ≤ 1 && (s.port n).on && enable then s.say p src stBAD_STATE
  else if !camSetupOk p.params || (enable && u.oddHdr (s.port n).exp) then s.say p src stBAD_PARAM
  else if !enable then
    (s.modPort n (fun q => { q with on := false, frames := q.frames.map (fun (f : CamFrame) => { f with stopped := true }) })).say p src stOK
  else
    let x := 65536 * s.sourcePosition u.posSrc + 65535
    (s.modPort n (fun q => { q with setup := some u, on := true, nextFrame := 0, trigAfter := x })).say p src stOK

/-- CAM_EXPOSE (08 R271, R272). -/
def State.opCamExpose (s : State) (p : Packet) (src : Source) (_seq : Nat) : State :=
  let n := p.u 0 1
  let long := p.u 4 4
  let short := p.u 8 4
  let pitch := p.u 12 8
  if decide (1 < n) || !zeros p.params 1 3 || long = 0 || pitch = 0 || decide (2 ^ 48 ≤ pitch) ||
      (short ≠ 0 && (decide (long < short) || decide (16 * short < long))) ||
      (short ≠ 0 && (s.port n).on && (s.port n).setup.any (fun u => u.frameLines % 2 = 1)) then s.say p src stBAD_PARAM
  else
    let q := s.port n
    let gen := if q.exp.gen = 0xFFFF then 1 else q.exp.gen + 1
    let e : Exposure := { gen := gen, long := long, short := short, pitch := pitch }
    let here := match q.setup with
      | some u => 65536 * s.sourcePosition u.posSrc + 65535
      | none => q.trigAfter
    let after := if q.openFrame.isSome || q.exp.pitch = pitch then q.trigAfter else max q.trigAfter here
    let s := s.modPort n (fun q => { q with prevExp := (if q.commitAt = s.now then q.prevExp else q.exp), exp := e, commitAt := s.now, trigAfter := after })
    s.answer p src stOK (toLe 2 gen ++ [0, 0] ++ toLe 8 s.now)

/-- The errors that the read of a statistics block meets: as the STATS_READ row told, a free value for a packet that came another way (10 R322, R323; log
entry 6). -/
def State.statsErrors (s : State) : BankErrors × State :=
  match s.mem.statsReads with
  | some e => (e, s)
  | none =>
    let d := s.draw
    let w := d.1 / 3 % 65536
    (if d.1 % 3 = 0 then {} else if d.1 % 3 = 1 then { corrected := [w] } else { bad := [w] }, d.2)

/-- STATS_READ (08 R287, 02 R76); a block with an uncorrectable word is discarded (10 R323). -/
def State.opStatsRead (s : State) (p : Packet) (src : Source) (_seq : Nat) : State :=
  let n := p.u 0 1
  let plane := p.u 1 1
  let sel := p.u 2 1
  let fr := p.u 4 4
  if 1 < n then s.say p src stBAD_PARAM
  else
    let held := if fr = 0xFFFFFFFF then (s.port n).stats.head? else (s.port n).stats.find? (fun x => x.frame = fr)
    match held with
    | none => s.say p src stBAD_STATE
    | some x =>
      match x.planes.find? (fun (y : Nat × List (List Nat) × List Nat) => y.1 = plane) with
      | none => s.say p src stBAD_PARAM
      | some y =>
        if decide (4 < sel) || !zeros p.params 3 1 then s.say p src stBAD_PARAM
        else
          let data := if sel = 4 then y.2.2 else y.2.1.getD sel []
          let e := s.statsErrors
          let s := e.1.bad.foldl (fun s w => (s.count 81).repairRow 15 (windowRow w) none) (e.1.corrected.foldl (fun s w => s.bankCorrected 15 w) e.2)
          if e.1.bad ≠ [] then (s.modPort n (fun q => { q with stats := q.stats.filter (fun (z : Stats) => z.frame ≠ x.frame) })).say p src stBAD_STATE
          else s.answer p src stOK (toLe 4 x.frame ++ toLe 2 x.gen ++ toLe 1 sel ++ toLe 1 (x.marks.toNat % 4) ++ data.flatMap (fun (v : Nat) => toLe 4 v))

/-- OUTPUT_CONFIG (08 R288, R289); the fields of a port outside PORTS are checked as those of a listed one (log entry 25). -/
def State.opOutputConfig (s : State) (p : Packet) (src : Source) (_seq : Nat) : State :=
  let o := p.u 0 1
  let u := p.params.drop 4
  let fmt := le u 0 1
  let scale := le u 1 1
  let ok := decide (o ≤ 2) && zeros p.params 1 3 && decide (fmt ≤ (if o = 1 then 0 else 1)) &&
    (if o = 0 then decide (1 ≤ scale) && decide (scale ≤ 3) else scale = 0) && decide (le u 2 1 ≤ 3) &&
    decide (le u 3 1 ≤ (if o = 2 then 3 else 0)) && decide (le u 4 2 ≤ (if o = 2 then 255 else 0)) && zeros u 6 2 && zeros u 22 2 && zeros u 38 2 &&
    [0, 1].all (fun n => outPortOk o scale u n
      (((s.port n).setup.map (fun c => if (s.port n).on then c.linePixels else 0)).getD 0))
  if !ok then s.say p src stBAD_PARAM
  else ({ s with cam := { s.cam with outputs := vset s.cam.outputs o (some u) } }).say p src stOK

/-- CONTEXT_LOAD (08 R276, R277). -/
def State.opContextLoad (s : State) (p : Packet) (src : Source) (_seq : Nat) : State :=
  let c := p.u 0 1
  let b := p.params.drop 4
  if decide (1 < c) || !zeros p.params 1 3 || !contextOk b then s.say p src stBAD_PARAM
  else
    let old : Context := vget s.cam.contexts c {}
    ({ s with cam := { s.cam with contexts := vset s.cam.contexts c { body := b, seq := old.seq + 1 } } }).say p src stOK

end Sys2Proof.Machine
end

