-- ==== Sys2Proof/Machine/Memory.lean ====
section
/-! DEFINITION. Banks, image store and DMA (10): MEMTEST_CONFIG, STORE_CONFIG, scrub, retrain, the DMA channels. -/
namespace Sys2Proof.Machine

/-! ### MEMTEST_CONFIG -/

/-- The banks as a clear leaves them: tests enabled; the fault map is lost with the supply, else it stays and the test goes on at the next window
(10 R324, R328, R329). -/
def State.clearedBanks (s : State) (lost : Bool) : Vector Bank 17 :=
  Vector.ofFn (fun (i : Fin 17) => if lost then {} else { s.bank i.val with test := true, wrote := 0 })

/-- MEMTEST_CONFIG (10 R324, 02 R76). -/
def State.opMemtestConfig (s : State) (p : Packet) (src : Source) (_seq : Nat) : State :=
  let m := p.u 0 4
  if 2 ^ 17 ≤ m then s.say p src stBAD_PARAM
  else
    let s := (List.range 17).foldl (fun s b => s.modBank b (fun k => { k with test := bit m b })) s
    s.answer p src stOK ((List.range 17).map (fun b => byteOf (16 - (s.bank b).used)) ++ pad 3)

/-! ### STORE_CONFIG -/

/-- Space of a DMA address (10 R337). -/
def dmaSpace (a : BitVec 64) : Nat := a.toNat / 2 ^ 56

/-- A transfer has the store as source or destination (10 R331). -/
def DmaRun.usesStore (r : DmaRun) : Bool := dmaSpace r.src = 1 || dmaSpace r.dst = 1

/-- A transfer touches host memory (14 R435, R478). -/
def DmaRun.usesHost (r : DmaRun) : Bool := dmaSpace r.src = 0 || dmaSpace r.dst = 0

/-- STORE_CONFIG (10 R331). -/
def State.opStoreConfig (s : State) (p : Packet) (src : Source) (seq : Nat) : State :=
  let c : StoreCfg := { rate := p.u 0 1, channels := p.u 1 1, ranks := p.u 2 1, density := p.u 3 1 }
  if (List.range 4).any (fun j => (s.jobAt j).isSome) || [0, 1].any (fun n => (s.port n).on) ||
      (List.range 16).any (fun k => (s.dma k).run.any DmaRun.usesStore) then s.say p src stBAD_STATE
  else if s.mem.training.isSome || s.tiles.any (fun (t : Tile) => t.source = 1 && !t.done) then s.say p src stBUSY
  else if 3 < c.rate || (c.channels ≠ 1 && c.channels ≠ 3 && c.channels ≠ 15) || (c.ranks ≠ 1 && c.ranks ≠ 2) || 4 < c.density || !zeros p.params 4 4 then
    s.say p src stBAD_PARAM
  else
    let s := s.startOp false .storeConfig p src seq
    { s with mem := { s.mem with training := some c, store := [] } }

/-- STORE_CONFIG_DONE (10 R331). -/
def execStoreConfigDone (s : State) : Host.Outcome State Fault Refusal :=
  match s.mem.training with
  | none => .next s
  | some c =>
    if !s.inRun then .next s
    else
      let s := { s with mem := { s.mem with cfg := some c, training := none } }
      .next (s.finishOps (fun q => match q.kind with | .storeConfig => true | _ => false) (fun _ => (stOK, [])))

/-- PATROL_SCRUB (10 R333): the errors that one read of the whole usable store finds. -/
def execPatrolScrub (corrected uncorrectable : Nat) (s : State) : Host.Outcome State Fault Refusal :=
  if !s.inRun || s.storeBytes = 0 then .next s
  else
    let s := (s.countN 84 corrected).countN 85 uncorrectable
    .next { s with mem := { s.mem with scrubs := s.mem.scrubs + 1 } }

/-- STORE_RETRAIN (10 R330). -/
def execStoreRetrain (s : State) : Host.Outcome State Fault Refusal :=
  if !s.inRun || s.storeBytes = 0 then .next s
  else .next { s with mem := { s.mem with retrains := s.mem.retrains + 1 } }

/-! ### DMA -/

/-- Bank and offset of a bank address (10 R337). -/
def dmaBank (a : BitVec 64) : Nat := bits a.toNat 31 24
def dmaOffset (a : BitVec 64) : Nat := if dmaSpace a = 2 then bits a.toNat 23 0 else bits a.toNat 55 0

/-- A range from an offset below a size, that does not run past it (10 R337, R339). -/
def rangeIn (o count size : Nat) : Bool := decide (o < size) && decide (o + count ≤ size)

/-- A range that R339 accepts. -/
def State.dmaRangeOk (s : State) (a : BitVec 64) (count : Nat) (dst : Bool) : Bool :=
  let o := dmaOffset a
  a.toNat % 4 = 0 &&
  (match dmaSpace a with
   | 0 => s.host.bme && rangeIn o count (2 ^ 56)
   | 1 => rangeIn o count s.storeBytes
   | 2 => bits a.toNat 55 32 = 0 && decide (dmaBank a ≤ 15) && rangeIn o count (bankBytes (dmaBank a)) && (!dst || dmaBank a = 15)
   | _ => false)

/-- A part of a line-engine bank, its regions in the order of the table of 05 R161 (DEDUCED, log entry 9), that nothing has written since the clear: masks
and FIFOs, posted and coverage bits, maps, and the table copies. -/
def Bank.untouched (k : Bank) (o : Nat) : Bool :=
  if o < 80 * 1024 then !k.wrote.getLsbD 0
  else if o < 179 * 1024 then !k.wrote.getLsbD 1
  else if o < 185 * 1024 then !k.wrote.getLsbD 2
  else o < 186 * 1024 && !k.wrote.getLsbD 3

/-- A byte of a bank as DMA reads it (10 R318, log entry 9).  It reads 0 after a clear until its owner writes it (10 R329): the inspection bank until the
camera pipeline does, the regions of a line-engine bank until a job or a map does; the 8 KB of retirement rows hold nothing but the rows retired into them
(10 R327).  Microcode and working storage, and the Kettle and motion banks, hold what their owner works with from its start on, which the spec does not give. -/
def State.bankByte (s : State) (b o : Nat) : Byte :=
  let spare := bankBytes b - 8192
  if b = 15 then (sget none s.mem.insp o).getD (if s.mem.inspUsed then Config.bankByte b o else 0)
  else if spare ≤ o && decide ((s.bank b).retired.length ≤ (o - spare) / 1024) then 0
  else if b ≤ 11 && (s.bank b).untouched o then 0
  else Config.bankByte b o

/-- Bytes on the device at a DMA address; none for host memory. -/
def State.dmaBytes (s : State) (a : BitVec 64) (count : Nat) : Bytes :=
  match dmaSpace a with
  | 1 => s.storeRead (dmaOffset a) count
  | 2 => (List.range count).map (fun i => s.bankByte (dmaBank a) (dmaOffset a + i))
  | _ => []

/-- Bytes written into the inspection bank. -/
def inspWrite (m : List (Nat × Option Byte)) : Nat → Bytes → List (Nat × Option Byte)
  | _, [] => m
  | a, b :: r => inspWrite (sput none m a (some b)) (a + 1) r

/-- Bytes written at a DMA address. -/
def State.dmaWrite (s : State) (a : BitVec 64) (b : Bytes) : State :=
  match dmaSpace a with
  | 0 => s.hostWrite (dmaOffset a) b
  | 1 => s.storeWrite (dmaOffset a) b
  | _ => { s with mem := { s.mem with insp := inspWrite s.mem.insp (dmaOffset a) b } }

/-- Both ends lie in one space and, in bank space, one bank; host memory is never taken to overlap (10 R342). -/
def DmaRun.oneSpace (r : DmaRun) : Bool :=
  dmaSpace r.src = dmaSpace r.dst && dmaSpace r.src ≠ 0 && (dmaSpace r.src ≠ 2 || dmaBank r.src = dmaBank r.dst)

/-- D = DST − SRC where the ranges overlap with DST above SRC (10 R342). -/
def DmaRun.overlap (r : DmaRun) : Option Nat :=
  let d := dmaOffset r.dst - dmaOffset r.src
  if r.oneSpace && decide (0 < d) && decide (d < r.count) then some d else none

/-- The bytes that the destination receives from the source bytes (10 R342). -/
def DmaRun.deliver (r : DmaRun) (b : Bytes) : Bytes :=
  match r.overlap with
  | some d => if r.fill then (List.range r.count).map (fun i => b.getD (i % d) 0) else b
  | none => b

/-- The copy runs in descending order (10 R342). -/
def DmaRun.descends (r : DmaRun) : Bool := r.overlap.isSome && !r.fill

/-- n free bytes (log entry 6). -/
def State.freeBytes (s : State) (n : Nat) : Bytes × State :=
  ((List.range n).map (fun i => BitVec.ofNat 8 (Config.freeNat (s.fresh + i))), { s with fresh := s.fresh + n })

/-- Source bytes at the end of a transfer: a byte that changed meanwhile has its old or its new value (10 Another master writes). -/
def State.dmaSource (s : State) (r : DmaRun) : Bytes × State :=
  let now := s.dmaBytes r.src r.count
  if now = r.start then (r.start, s)
  else
    let d := s.draw
    ((r.start.zip now).zipIdx.map (fun (x : (Byte × Byte) × Nat) => if bit d.1 x.2 then x.1.1 else x.1.2), d.2)

/-- A consumer's pending flag. -/
def State.isPend (s : State) (k : Nat) : Bool := s.fab.pend.getLsbD k
def State.setPend (s : State) (k : Nat) (b : Bool) : State := { s with fab := { s.fab with pend := setBit s.fab.pend k b } }

/-- A channel starts with its registers (10 R338, R339). -/
def State.dmaBegin (s : State) (k : Nat) : State :=
  let c := s.dma k
  let n := c.count.toNat
  let r : DmaRun := { src := c.src, dst := c.dst, count := n, rate := c.rate, fill := c.fill, start := s.dmaBytes c.src n }
  let bad := n % 4 ≠ 0 || !s.dmaRangeOk c.src n false || !s.dmaRangeOk c.dst n true
  let d := s.detect 8 bad
  let s := d.2
  if d.1 then (s.modDma k (fun c => { c with live := 0 })).count 8
  else if n = 0 then (s.modDma k (fun c => { c with live := 0 })).raise k
  else s.modDma k (fun c => { c with run := some r, live := n })

/-- A start requested: held one deep while the channel runs, further ones merged (10 R338). -/
def State.dmaRequest (s : State) (k : Nat) (fabric : Bool) : State :=
  if (s.dma k).run.isSome then
    if (s.dma k).pending || s.isPend k then s.count 3
    else if fabric then s.setPend k true
    else s.modDma k (fun c => { c with pending := true })
  else s.dmaBegin k

/-- A start that was held runs (10 R338). -/
def State.dmaNext (s : State) (k : Nat) : State :=
  if (s.dma k).run.isNone && ((s.dma k).pending || s.isPend k) then ((s.modDma k (fun c => { c with pending := false })).setPend k false).dmaBegin k else s

/-- Bytes with the 8-byte words of a list read as 0, where the bytes begin at an address. -/
def zeroWords (a : Nat) (bad : List Nat) (b : Bytes) : Bytes := b.zipIdx.map (fun (x : Byte × Nat) => if bad.contains ((a % 8 + x.2) / 8) then (0 : Byte) else x.1)

/-- The part of a transfer that stands when it ends where it is: how much is a free value (10 R341). -/
def State.dmaPart (s : State) (r : DmaRun) : Nat × State :=
  let d := s.draw
  let n := 4 * (d.1 % (r.count / 4 + 1))
  let b := if dmaSpace r.src = 0 then d.2.freeBytes r.count else d.2.dmaSource r
  let all := r.deliver b.1
  let s := if r.descends then b.2.dmaWrite (r.dst + BitVec.ofNat 64 (r.count - n)) (all.drop (r.count - n)) else b.2.dmaWrite r.dst (all.take n)
  (r.count - n, s)

/-- A transfer ended where it stands as for a host error (10 R341, 14 R435, R478). -/
def State.dmaFail (s : State) (k : Nat) : State :=
  match (s.dma k).run with
  | none => s
  | some r =>
    let d := s.dmaPart r
    ((d.2.modDma k (fun c => { c with run := none, live := d.1 })).count 9).dmaNext k

/-- DMA_HOST_ERROR (10 R341): the bytes written so far, and how the read failed. -/
def execDmaHostError (k : Fin 16) (written : Bytes) (e : ReadError) (s : State) : Host.Outcome State Fault Refusal :=
  match (s.dma k).run with
  | none => .next s
  | some r =>
    if !s.inRun || readOff e s.host.ctl.timeoutOff || dmaSpace r.src ≠ 0 || decide (r.count < written.length) then .next s
    else
      let s := (s.dmaWrite r.dst written).hostReadError e
      let s := (if s.shot 9 then s.shotTaken else s).modDma k (fun c => { c with run := none, live := r.count - written.length })
      .next ((s.count 9).dmaNext k)

/-- Transfers that touch host memory end: Bus Master Enable is clear (14 R478). -/
def State.dmaLoseHost (s : State) : State :=
  (List.range 16).foldl (fun s k => if (s.dma k).run.any DmaRun.usesHost then s.dmaFail k else s) s

/-- The DMA controller reset: transfers end where they stand, starts held are discarded, registers reset (10 The DMA controller is block-reset). -/
def State.dmaReset (s : State) : State :=
  let s := (List.range 16).foldl (fun s k => match (s.dma k).run with | some r => (s.dmaPart r).2 | none => s) s
  { s with mem := { s.mem with dma := Vector.replicate 16 {} }, fab := { s.fab with pend := s.fab.pend &&& ~~~ (0xFFFF : BitVec 128) } }

end Sys2Proof.Machine
end

