-- ==== Sys2Proof/Machine/Link.lean ====
section
/-! DEFINITION. WizerLink without the relay: ports, sequencing, ring breaks, IDs, alignment, ring position, faults (12). -/
namespace Sys2Proof.Machine

/-! ### Reception and forwarding -/

/-- Route word of a frame (12 R371). -/
def frameOrigin (f : Frame) : Nat := le f.payload 0 1
def frameHops (f : Frame) : Nat := le f.payload 1 1

/-- The frame with HOPS lowered by 1 (12 R379). -/
def frameLowered (f : Frame) : Frame := { f with payload := f.payload.take 1 ++ toLe 1 (frameHops f - 1) ++ f.payload.drop 2 }

/-- This device takes the frame (12 R379). -/
def State.takes (s : State) (f : Frame) : Bool :=
  f.dest = 0xFE || f.dest = 0xFF || (match s.link.id with | some i => f.dest.toNat = i.val | none => s.isMaster && f.dest = 0)

/-- An ACK or a NAK sent (12 R373). -/
def State.sendCtl (s : State) (p : Side) (typ : BitVec 4) (seq : BitVec 12) : State :=
  s.modWport p (fun q => { q with lastFrame := some { typ := typ, dest := 0xFE, seq := seq, payload := [] } })

/-- ACK for every frame taken (12 R373). -/
def State.sendAck (s : State) (p : Side) : State :=
  (s.sendCtl p tACK ((s.wport p).rxSeq - 1)).modWport p (fun q => { q with unackedRx := 0 })

/-- NAK for the first sequence missing, once (12 R373). -/
def State.sendNak (s : State) (p : Side) : State :=
  if (s.wport p).nakked then s
  else (s.sendCtl p tNAK (s.wport p).rxSeq).modWport p (fun q => { q with nakked := true })

/-- The port receives frames. -/
def State.linkOn (s : State) (p : Side) : Bool := s.inRunIdle && s.portUp p

/-- The lowest port that is up. -/
def State.lowestUp (s : State) : Option Side := if s.portUp .east then some .east else if s.portUp .west then some .west else none

/-- A frame discarded with a frame error (12 R370, R371). -/
def State.frameError (s : State) (p : Side) (sequenced : Bool) : State := let s := s.count 112; if sequenced then s.sendNak p else s

/-- A shot of detector 112 waits for the next frame on this port (15 R452). -/
def State.crcShot (s : State) (p : Side) : Bool := s.shot 112 && s.lowestUp = some p

/-- Sequencing of a received frame (12 R373): whether it is taken in order, and the state with ACK or NAK sent. -/
def State.inOrder (s : State) (p : Side) (f : Frame) : Bool × State :=
  if s.crcShot p then (false, s.shotTaken.frameError p (sequencedType f.typ))
  else if !sequencedType f.typ then (true, s)
  else
    let q := s.wport p
    if f.seq = q.rxSeq then
      let s := s.modWport p (fun q => { q with rxSeq := q.rxSeq + 1, nakked := false, unackedRx := q.unackedRx + 1
                                               rxFrom := (if q.unackedRx = 0 then s.clock else q.rxFrom) })
      (true, if 16 ≤ (s.wport p).unackedRx then s.sendAck p else s)
    else if (q.rxSeq - f.seq).toNat ≤ 64 then (false, s.sendAck p)
    else (false, s.sendNak p)

/-- The HOPS that a frame needs to leave through a port (12 R379, R380). -/
def State.newHops (s : State) (p : Side) (f : Frame) : Option Nat :=
  if f.dest = 0xFF then some (s.broadcastHops p) else s.hopsTo p f.dest.toNat

/-- A frame sent again through another port with new HOPS (12 A ring break happens while a packet is being relayed). -/
def State.reroute (s : State) (p : Side) (f : Frame) : State :=
  match s.newHops p f with
  | some h => if h = 0 then s else s.sendFrame p { f with payload := f.payload.take 1 ++ toLe 1 h ++ f.payload.drop 2 }
  | none => s

/-- Forwarding of a frame with a route word (12 R379); one for a device beyond a broken port takes the remaining path (12 R394). -/
def State.forward (s : State) (p : Side) (f : Frame) : State :=
  if f.dest = 0xFE then s
  else if f.dest = 0xFF then (if 1 < frameHops f then s.sendFrame (other p) (frameLowered f) else s)
  else if s.takes f then s
  else if 1 < frameHops f then (if s.portUp (other p) then s.sendFrame (other p) (frameLowered f) else s.reroute p f)
  else s.count 112

/-- A frame received: sequenced, forwarded, and handled if it is for this device. -/
def State.receive (s : State) (p : Side) (f : Frame) (handle : State → State) : State :=
  let d := s.inOrder p f
  if d.1 then
    let s := if f.typ = tACK || f.typ = tNAK || f.typ = tSYNC then d.2 else d.2.forward p f
    if d.2.takes f then handle s else s
  else d.2

/-! ### Ring breaks -/

/-- A port has changed its state, or a ring reset has come: the 1 ms before a first numbering begins again (12 R376). -/
def State.portsMoved (s : State) : State := { s with link := { s.link with heldFrom := s.clock } }

/-- A follower left without a path to the master starts its alignment again (12 R395). -/
def State.checkPath (s : State) : State :=
  if !s.isMaster && s.link.id.isSome && (s.routeTo 0).isNone then { s with link := { s.link with lostMaster := true, offsets := [] } } else s

/-- A port without a link: its outputs stay as they were last, its numbering begins again (12 R373). -/
def Port.cleared (q : Port) (x : PortState) : Port :=
  { state := x, lastFrame := q.lastFrame, lastFault := q.lastFault, resetSent := q.resetSent, idleSent := q.idleSent }

/-- A port is down, and a ring break is counted and told here if it was up (12 R394). -/
def State.portLost (s : State) (p : Side) : State :=
  let q := s.wport p
  let up := decide (q.state = .up)
  let s := ((s.modWport p (fun _ => { q.cleared .down with
    hopsLast := (if up then q.hops else q.hopsLast), othersLast := (if up then q.others else q.othersLast) })).portsMoved).checkPath
  if !up then s
  else
    let s := { s with link := { s.link with breaks := s.link.breaks + 1, closed := false, closedLast := s.link.closedLast || s.link.closed } }
    ((s.count 114).deviceEvent 0x40 (match p with | .east => 0 | .west => 1)).raise 0x60

/-- A port goes down: a ring break if it was up, with a notice and every frame not acknowledged through the other port (12 R393, R394). -/
def State.portDown (s : State) (p : Side) : State :=
  let q := s.wport p
  let o := other p
  let s := s.portLost p
  if q.state ≠ .up || !s.portUp o then s
  else
    let s := s.sendFrame o { typ := tTOPO, dest := 0xFF, seq := 0, payload := routeWord s.deviceId (max 1 (s.broadcastHops o)) }
    (q.unacked ++ q.waiting).foldl (fun s f => s.reroute o f) (s.countReplays q.unacked.length)

/-- RING_BREAK (12 R394). -/
def execRingBreak (p : Side) (s : State) : Host.Outcome State Fault Refusal :=
  if s.linkOn p then .next (s.portDown p) else .next s

/-- RETRAIN_E and RETRAIN_W (12 R398): the port is taken down and trains again. -/
def State.retrain (s : State) (p : Side) : State := if s.link.en then s.portDown p else s

/-- Both ports down together, so that nothing is sent (13 R417, 12 R398 EN). -/
def State.portsDown (s : State) : State := (s.portLost .east).portLost .west

/-- WL_COMMA_LOCK (12 R369). -/
def execWlCommaLock (p : Side) (s : State) : Host.Outcome State Fault Refusal :=
  let q := s.wport p
  if s.inRunIdle && s.link.en && !s.pwr.blockHeld.getLsbD 16 && (q.state = .down || q.state = .parked) then .next (s.modWport p (fun q => { q with state := .training })).portsMoved
  else .next s

/-- A port that comes up again after a break: its hop counts return, unless a frame has brought others (12 R394). -/
def Port.comesUp (q : Port) : Port :=
  let lost := q.hops.all (fun x => x.isNone)
  { q with state := .up, hops := (if lost then q.hopsLast else q.hops), others := (if lost then q.othersLast else q.others)
           hopsLast := List.replicate 8 none, othersLast := 0 }

/-- The neighbour through a port when it was last up (12 R379, R397). -/
def Port.wasNext (q : Port) (k : Nat) : Bool := q.hopsLast.getD k none = some 1

/-- The ring closes with a port: through the other port too every device is reached, the neighbour of the closing port last (12 R380, R394). -/
def Port.ringCloses (o q : Port) : Port :=
  { o with others := q.othersLast
           hops := o.hops.zipIdx.map (fun (x : Option Nat × Nat) => if x.1.isNone && q.wasNext x.2 then some q.othersLast else x.1) }

/-- WL_PORT_UP (12 R369, R377, R394). -/
def execWlPortUp (p : Side) (s : State) : Host.Outcome State Fault Refusal :=
  if s.inRunIdle && (s.wport p).state = .training then
    let q := s.wport p
    let s := (s.modWport p Port.comesUp).portsMoved
    -- the link PLL has lock (13 R412, R421)
    let s := { s with pwr := { s.pwr with pllLock := setBit s.pwr.pllLock 3 true } }
    let closes := s.link.closedLast && s.portUp (other p)
    let s := if closes then s.modWport (other p) (fun o => o.ringCloses q) else s
    let s := { s with link := { s.link with closed := s.link.closed || closes, closedLast := s.link.closedLast && !closes
                                            present := (List.range 8).foldl (fun (m : BitVec 8) k => if q.wasNext k then setBit m k true else m) s.link.present } }
    -- the next neighbour, which may be parked, is woken in turn (R397)
    let onwards := s.link.wakeOn && (s.wport (other p)).state ≠ .up
    let s := if onwards then s.modWport (other p) (fun q => { q with idleSent := q.idleSent + 1 }) else s
    let s := { s with link := { s.link with wakeOn := false } }
    let joins := s.link.id.isNone && !s.isMaster
    .next { s with link := { s.link with joined := true, noId := s.link.noId || joins
                                         devices := (if joins && !s.link.noId then 0 else s.link.devices) } }
  else .next s

/-! ### IDs and hop counts -/

/-- The devices that an enumeration frame reaches in turn, by the ID each holds, numbered: one without an ID takes the lowest that is free, if any is
(12 R376); with the IDs then held. -/
def numberRing : BitVec 8 → List (Option (Fin 8)) → List (Option Nat) × BitVec 8
  | held, [] => ([], held)
  | held, some i :: r =>
    let x := numberRing (setBit held i.val true) r
    (some i.val :: x.1, x.2)
  | held, none :: r =>
    match (List.range 8).find? (fun i => !held.getLsbD i) with
    | some i =>
      let x := numberRing (setBit held i true) r
      (some i :: x.1, x.2)
    | none =>
      let x := numberRing held r
      (none :: x.1, x.2)

/-- Hops to each ID: its place among the devices that a frame reaches through a port (12 R379). -/
def hopsAmong (ids : List (Option Nat)) : List (Option Nat) := (List.range 8).map (fun k => (ids.findIdx? (fun x => x = some k)).map (· + 1))

/-- RING_ENUMERATE (12 R376): the first numbering waits until the ports have held their states for 1 ms; the devices that the frame reaches in turn through
each port of the master, by the ID each holds; on a closed ring all are reached through East, and on an open one a device that is not reached, cut off or
parked, keeps its ID (13 R408). -/
def execRingEnumerate (closed : Bool) (east west : List (Option (Fin 8))) (s : State) : Host.Outcome State Fault Refusal :=
  if !s.inRunIdle || !s.isMaster || s.link.conflict || (!s.portUp .east && !s.portUp .west) ||
      (s.link.present = 0 && decide (s.clock < s.link.heldFrom + tickMs)) then .next s
  else
    let west := if closed then [] else west
    let held := ((east ++ west).filterMap id).foldl (fun (m : BitVec 8) (i : Fin 8) => setBit m i.val true) (if closed then 1 else s.link.known ||| 1)
    let e := numberRing held east
    let w := numberRing e.2 west
    let through := if closed then e.1.reverse else w.1
    let s := { s with link := { s.link with id := some 0, noId := false, closed := closed, devices := 1 + ((e.1 ++ w.1).filterMap id).length
                                            present := w.2, known := s.link.known ||| w.2, joined := true } }
    let s := (s.modWport .east (fun q => { q with hops := hopsAmong e.1, others := east.length })).modWport .west (fun q =>
      { q with hops := hopsAmong through, others := through.length })
    .next ([Side.east, Side.west].foldl (fun s p =>
      let h := s.broadcastHops p
      if h = 0 then s else s.sendFrame p { typ := tTOPO, dest := 0xFF, seq := 0, payload := routeWord 0 h }) s)

/-- Number of devices that a frame shows present. -/
def topoCount (t : Topo) : Nat := (t.present.filter (fun x => x)).length

/-- Hop counts and presence as a TOPO frame brings them (12 R379). -/
def State.takeTopo (s : State) (t : Topo) : State :=
  let present : BitVec 8 := t.present.zipIdx.foldl (fun (m : BitVec 8) (x : Bool × Nat) => setBit m x.2 x.1) 0
  let s := { s with link := { s.link with closed := t.closed, present := present, known := s.link.known ||| present, devices := topoCount t } }
  ((s.modWport .east (fun q => { q with hops := t.hopsEast, others := t.sideEast })).modWport .west (fun q =>
    { q with hops := t.hopsWest, others := t.sideWest })).checkPath

/-- The conflict flag as a TOPO frame leaves it (12 R378): set by a second master's, cleared once that device has left through a reset that makes it sense
its role again; a second master that has left otherwise leaves it to the next ring reset. -/
def State.meetMasters (s : State) : RingMasters → State
  | .one => s
  | .second => { s with link := { s.link with conflict := true, rival := true } }
  | .left => { s with link := { s.link with rival := false } }
  | .sensedAgain => { s with link := { s.link with conflict := false, rival := false } }

/-- A TOPO frame as the sequencing and the forwarding see it (12 R370-R373, R379). -/
def topoFrame (t : Topo) : Frame := { typ := tTOPO, dest := 0xFF, seq := t.seq, payload := routeWord t.origin.toNat t.hops }

/-- An enumeration frame of the device's own master taken by a follower (12 R376, R377). -/
def State.takeEnumeration (s : State) (t : Topo) : State :=
  if s.isMaster || t.masters = .second then s
  else
    let s := match s.link.id, t.offer with
      | some _, _ => s
      | none, some i => { s with link := { s.link with id := some i, noId := false, stepped := false, offsets := [] } }
      | none, none => { s.count 115 with link := { s.link with noId := true } }
    s.takeTopo t

/-- TOPO_ENUMERATION (12 R376-R379). -/
def execTopoEnumeration (p : Side) (t : Topo) (s : State) : Host.Outcome State Fault Refusal :=
  if s.linkOn p then .next (s.receive p (topoFrame t) (fun s => (s.meetMasters t.masters).takeEnumeration t)) else .next s

/-- A break notice taken (12 R379, R394): one of a device that was no neighbour through a port of this device that is lost tells of another break, after
which neither a closed ring nor the counts of before return with that port. -/
def State.takeBreak (s : State) (t : Topo) : State :=
  let k := t.origin.toNat
  let here := s.link.east.wasNext k || s.link.west.wasNext k
  let forget := fun (q : Port) => if here then q else { q with hopsLast := List.replicate 8 none, othersLast := 0 }
  let s := (s.modWport .east forget).modWport .west forget
  ({ s with link := { s.link with closedLast := s.link.closedLast && here } }).takeTopo { t with closed := false }

/-- TOPO_BREAK_NOTICE (12 R378, R379, R394). -/
def execTopoBreakNotice (p : Side) (t : Topo) (s : State) : Host.Outcome State Fault Refusal :=
  if s.linkOn p then .next (s.receive p (topoFrame t) (fun s => (s.meetMasters t.masters).takeBreak t)) else .next s

/-- A neighbour parks: its port is marked, and the device cannot be reached, through the other port either (12 R397). -/
def State.markParked (s : State) (p : Side) : State :=
  let gone := fun (k : Nat) => decide (s.hopsTo p k = some 1)
  let present : BitVec 8 := (List.range 8).foldl (fun (m : BitVec 8) k => if gone k then setBit m k false else m) s.link.present
  let ring := s.link.closed
  let s := (s.modWport p (fun q => { q.cleared .parked with hopsLast := q.hops, othersLast := q.others })).modWport (other p) (fun q =>
    { q with hops := q.hops.zipIdx.map (fun (x : Option Nat × Nat) => if gone x.2 then none else x.1), others := q.others - b2n ring })
  ({ s with link := { s.link with closed := false, closedLast := s.link.closedLast || ring, present := present } }.portsMoved).checkPath

/-- TOPO_PARK_NOTICE (12 R373, R397). -/
def execTopoParkNotice (n : ParkNotice) (s : State) : Host.Outcome State Fault Refusal :=
  if s.linkOn n.port then
    .next (s.receive n.port { typ := tTOPO, dest := 0xFE, seq := n.seq, payload := routeWord 0 1 } (fun s => s.markParked n.port))
  else .next s

/-! ### Ring position -/

/-- Jobs that take ring position run here (12 R386). -/
def State.ringJobs (s : State) : Bool :=
  (List.range 4).any (fun j => (s.jobAt j).any (fun x => x.active && x.chans.any (fun n => (s.chan n).posSrc = 8)))

/-- POS_OK clears; with a job on ring position, POSLOST trips (12 R385, R386). -/
def State.losePos (s : State) : State :=
  if !s.link.posOk then s
  else
    let s := { s with link := { s.link with posOk := false } }
    if s.ringJobs && !s.isMaster then (({ s with link := { s.link with poslost := true } }).tripActs 4).reportLocal else s

/-- A POS frame taken by a follower, the first copy of its POS_SEQ (12 R384, R385); a copy that comes 50 µs after it is none (DESIGN CHOICE, log entry 53). -/
def State.takePos (s : State) (f : Frame) : State :=
  let l := s.link
  let seq : BitVec 16 := BitVec.ofNat 16 (le f.payload 4 2)
  let taken := l.posTaken.filter (fun (x : BitVec 16 × Nat) => decide (s.clock < x.2 + 50 * tickUs))
  if s.isMaster || taken.any (fun (x : BitVec 16 × Nat) => x.1 = seq) || f.payload.length < 28 then s
  else
    let reached := if l.posAt.isSome then l.position s.now else leS f.payload 8 8
    let valid := bit (le f.payload 7 1) 0
    { s with link := { l with posSeq := seq, posTaken := (seq, s.clock) :: taken, posPos := leS f.payload 8 8, posVel := leS f.payload 16 4, posStamp := le f.payload 20 8
                              posAt := some s.clock, posReached := reached, posValidAt := (if valid then some s.clock else l.posValidAt)
                              posOk := l.posOk || valid, posOkFrom := (if valid && !l.posOk then s.clock else l.posOkFrom) } }

/-- POS (12 R385). -/
def execPos (p : Side) (f : Frame) (s : State) : Host.Outcome State Fault Refusal :=
  if s.linkOn p && f.typ = tPOS then .next (s.receive p f (fun s => s.takePos f)) else .next s

/-- Velocity in 8.24 position units per FIRE tick (12 R384). -/
def Encoder.velocity24 (e : Encoder) : Int :=
  let v : Int := (e.vNum * 2 ^ 24 / max 1 e.vDen : Nat)
  match e.hist with
  | (_, true) :: _ => v
  | _ => -v

/-- POS_SEND (12 R384). -/
def execPosSend (s : State) : Host.Outcome State Fault Refusal :=
  let l := s.link
  if !s.inRunIdle || !s.isMaster || !l.posEn || l.conflict || !l.en then .next s
  else
    let e := s.encoder l.posEnc
    let body := toLe 2 l.posTx.toNat ++ toLe 1 l.posEnc ++ toLe 1 (b2n (s.axis l.posEnc).configured) ++ toLeS 8 (e.position s.now) ++
      toLeS 4 e.velocity24 ++ toLe 8 s.now
    .next (({ s with link := { l with posTx := l.posTx + 1 } }).sendAll tPOS body)

/-- POS_TIMEOUT (12 R385): 50 µs without a frame with VALID set. -/
def execPosTimeout (s : State) : Host.Outcome State Fault Refusal :=
  if s.inRunIdle && s.link.posOk && decide ((s.link.posValidAt.getD 0) + 50 * tickUs ≤ s.clock) then .next s.losePos else .next s

/-- POSLOST_CLEAR (12 R386). -/
def execPoslostClear (s : State) : Host.Outcome State Fault Refusal :=
  if s.inRunIdle && s.link.poslost && s.link.posOk && decide (s.link.posOkFrom + 10 * tickMs ≤ s.clock) then
    .next ({ s with link := { s.link with poslost := false } }).reportLocal
  else .next s

/-! ### Timebase alignment -/

/-- The port towards the master (12 R379, R381); East where there is none, as WL_HOPS shows it. -/
def State.upstream (s : State) : Side :=
  match s.routeTo 0 with
  | some (p, _) => p
  | none => .east

/-- SYNC_SEND (12 R381). -/
def execSyncSend (s : State) : Host.Outcome State Fault Refusal :=
  if !s.inRunIdle then .next s
  else
    let body := [0, 0, 0, 0] ++ toLe 8 s.now ++ pad 16
    let s := [Side.east, Side.west].foldl (fun s p => s.sendFrame p { typ := tSYNC, dest := 0xFE, seq := 0, payload := body }) s
    .next { s with link := { s.link with syncT1E := (if s.portUp .east then s.now else s.link.syncT1E)
                                         syncT1W := (if s.portUp .west then s.now else s.link.syncT1W) } }

/-- A job on ring position runs: the timebase is not stepped under it (12 R382, R395). -/
def State.ringRuns (s : State) : Bool :=
  (List.range 4).any (fun j => (s.jobAt j).any (fun x => (x.state = .running || x.state = .late) && x.chans.any (fun n => (s.chan n).posSrc = 8)))

/-- A rate within ±300 ppm, in steps of 2^-32 (12 R382). -/
def rateOf (x : Int) : Int := max (-1288490) (min 1288490 x)

/-- The alignment after 16 exchanges (12 R381, R382): a step at first, and after a time without a path to the master unless a job runs (R395), with a rate
within ±300 ppm; afterwards a new rate that corrects by at most 1 ns in each 1 ms.  The law of the rate is open (log entry 28). -/
def State.align (s : State) (est : Int) : State :=
  let l := s.link
  let os := (est :: l.offsets).take 16
  if os.length < 16 then { s with link := { l with offsets := os } }
  else
    let mean := openDivI (os.foldl (· + ·) 0) 16
    let running := (List.range 4).any (fun j => (s.jobAt j).any (fun x => x.state = .running))
    let d := s.draw
    if (!l.stepped && !s.ringRuns) || (l.lostMaster && !running) then
      let ticks := openDivI mean 2500
      let r := rateOf ((d.1 % 2576981 : Nat) - 1288490)
      { d.2 with timebase := s.timebase + i64 ticks
                 link := { l with offsets := [], offset := mean - 2500 * ticks, stepped := true, lostMaster := false, outFrom := none, rate := r
                                  rateBase := r, rateAt := s.clock, aligned := true } }
    else
      let w := if l.rateAt + tickMs ≤ s.clock then (l.rate, s.clock) else (l.rateBase, l.rateAt)
      let r := rateOf (w.1 + (d.1 % 8589 : Nat) - 4294)
      let inside := decide (mean.natAbs ≤ 2500)
      { d.2 with link := { d.2.link with offsets := os, offset := mean, rate := r, rateBase := w.1, rateAt := w.2, lostMaster := false, aligned := l.aligned || inside
                                         outFrom := (if inside then none else some (l.outFrom.getD s.clock)) } }

/-- What four timestamps hold below a FIRE tick, in UIs of 200 ps, 0 to 12 each (12 R381): the frames show whole ticks, so it is free (log entry 28). -/
def uiPart (d : Nat) : Int :=
  let u := fun (k : Nat) => ((d / 13 ^ k % 13 : Nat) : Int)
  (u 1 - u 0) - (u 3 - u 2)

/-- A SYNC frame (12 R381): a request is answered, a reply through the port towards the master gives an estimate in ps. -/
def State.takeSync (s : State) (p : Side) (f : Frame) : State :=
  let b := f.payload
  if le b 0 1 = 0 then
    s.sendFrame p { typ := tSYNC, dest := 0xFE, seq := 0, payload := [1, 0, 0, 0] ++ toLe 8 s.now ++ (b.drop 4).take 8 ++ toLe 8 s.now }
  else
    let t1 := match p with | .east => s.link.syncT1E | .west => s.link.syncT1W
    if s.isMaster || s.link.id.isNone || !(s.routeTo 0).any (fun r => r.1 = p) || le b 12 8 ≠ t1 then s
    else
      let d : Int := ((le b 20 8 : Int) - t1) - ((s.now : Int) - le b 4 8)
      let x := s.draw
      x.2.align (1250 * d + 100 * uiPart x.1)

/-- SYNC (12 R381, R382). -/
def execSync (p : Side) (f : Frame) (s : State) : Host.Outcome State Fault Refusal :=
  if s.linkOn p && f.typ = tSYNC && 28 ≤ f.payload.length then .next (s.receive p f (fun s => s.takeSync p f)) else .next s

/-- ALIGN_LOST (12 R382). -/
def execAlignLost (s : State) : Host.Outcome State Fault Refusal :=
  match s.link.outFrom with
  | some t =>
    if s.inRunIdle && !s.isMaster && s.link.aligned && decide (t + 100 * tickUs ≤ s.clock) then
      .next (({ s with link := { s.link with aligned := false } }).count 116)
    else .next s
  | none => .next s

/-! ### Faults across the ring -/

/-- Ring trip latches set (12 R389): they act as local ones (03 R111, R112). -/
def State.ringTrip (s : State) (classes : BitVec 4) : State :=
  let new := classes &&& ~~~ s.link.ringTrips
  let s := { s with link := { s.link with ringTrips := s.link.ringTrips ||| classes } }
  if new = 0 then s else s.tripActs new

/-- Two matching columns among three (12 R388). -/
def matching (a b c : Byte) : Option Byte := if a = b || a = c then some a else if b = c then some b else none

/-- A FAULT column of this device's own (12 R388): its ID names it; ID 7 may also be what a device without an ID sends, so there, and without an ID, it is
one with the byte sent within the last 2 µs (log entry 27). -/
def State.ownFault (s : State) (b : Byte) : Bool :=
  bits b.toNat 6 4 = s.deviceId % 8 &&
  (s.link.id.any (fun i => decide (i.val < 7)) || s.link.faultSent.any (fun (x : Byte × Nat) => x.1 = b && decide (s.clock < x.2 + 2 * tickUs)))

/-- FAULT_COLUMN (12 R388). -/
def execFaultColumn (p : Side) (b1 b2 b3 : Byte) (s : State) : Host.Outcome State Fault Refusal :=
  match matching b1 b2 b3 with
  | none => .next s
  | some b =>
    if !s.linkOn p || bit b.toNat 7 || s.ownFault b then .next s
    else
      let s := s.ringTrip (BitVec.ofNat 4 b.toNat)
      let lately := s.link.forwarded.filter (fun (x : Byte × Nat) => decide (s.clock < x.2 + 2 * tickUs))
      if lately.any (fun (x : Byte × Nat) => x.1 = b) then .next s
      else
        let s := { s with link := { s.link with forwarded := (b, s.clock) :: lately } }
        .next (if s.portUp (other p) then s.modWport (other p) (fun q => { q with lastFault := some b }) else s)

/-- A LOCAL report of another device, by its ID or of one without (12 R389). -/
def State.takeReport (s : State) (f : Frame) : State :=
  let d := frameOrigin f
  let r : BitVec 4 := BitVec.ofNat 4 (le f.payload 4 1)
  let s := { s with link := { s.link with reports := vset s.link.reports d r, strayReport := (if d < 8 then s.link.strayReport else r) } }
  let s := s.ringTrip r
  let still : BitVec 4 := (List.range 8).foldl (fun (m : BitVec 4) i => if i = s.deviceId then m else m ||| vget s.link.reports i 0) s.link.strayReport
  ({ s with link := { s.link with ringTrips := s.link.ringTrips &&& still } }).raise 0x61

/-- FLT (12 R387, R389). -/
def execFlt (p : Side) (f : Frame) (s : State) : Host.Outcome State Fault Refusal :=
  if s.linkOn p && f.typ = tFLT then .next (s.receive p f (fun s => if frameOrigin f = s.deviceId && s.deviceId ≠ 0xFF then s else s.takeReport f)) else .next s

/-- FLT_REFRESH (12 R387). -/
def execFltRefresh (s : State) : Host.Outcome State Fault Refusal :=
  if s.inRunIdle then .next ({ s with link := { s.link with localSent := s.localReport } }).sendFlt else .next s

/-! ### Acknowledgement and replay -/

/-- ACK (12 R373). -/
def execAck (p : Side) (seq : BitVec 12) (s : State) : Host.Outcome State Fault Refusal :=
  if !s.linkOn p then .next s
  else if s.crcShot p then .next (s.shotTaken.frameError p false)
  else .next ((s.freeThrough p seq).sendWaiting p)

/-- NAK (12 R373, R374). -/
def execNak (p : Side) (seq : BitVec 12) (s : State) : Host.Outcome State Fault Refusal :=
  if !s.linkOn p then .next s
  else if s.crcShot p then .next (s.shotTaken.frameError p false)
  else
    let s := s.freeThrough p (seq - 1)
    if 4 ≤ (s.wport p).repeats && (s.wport p).unacked ≠ [] then .next (s.portDown p) else .next ((s.replay p).sendWaiting p)

/-- ACK_TIMER (12 R373). -/
def execAckTimer (p : Side) (s : State) : Host.Outcome State Fault Refusal :=
  let q := s.wport p
  if s.linkOn p && q.unackedRx ≠ 0 && decide (q.rxFrom + tickUs ≤ s.clock) then .next (s.sendAck p) else .next s

/-- REPLAY_TIMEOUT (12 R373, R374). -/
def execReplayTimeout (p : Side) (s : State) : Host.Outcome State Fault Refusal :=
  let q := s.wport p
  if s.linkOn p && q.unacked ≠ [] && decide (q.sentAt + 10 * tickUs ≤ s.clock) then
    (if 4 ≤ q.repeats then .next (s.portDown p) else .next (s.replay p))
  else .next s

/-- WL_FRAME_ERROR (12 R370, R371). -/
def execWlFrameError (p : Side) (sequenced : Bool) (s : State) : Host.Outcome State Fault Refusal :=
  if s.linkOn p then .next ((if s.crcShot p then s.shotTaken else s).frameError p sequenced) else .next s

/-! ### Ring reset -/

/-- What a ring reset clears on a device (12 R377, R396, 13 R418); the conflict flag unless a second master is still on the ring (12 R378). -/
def State.ringResetState (s : State) : State :=
  let s := s.losePos
  let l := s.link
  let up := s.portUp .east || s.portUp .west
  let id := if s.isMaster && up then l.id else none
  let forget := fun (q : Port) => { q with hops := List.replicate 8 none, others := 0, hopsLast := List.replicate 8 none, othersLast := 0 }
  let s := ((s.modWport .east forget).modWport .west forget).portsMoved
  let l := s.link
  let s := { s with link := { l with id := id, noId := !s.isMaster && up, joined := up, conflict := l.conflict && l.rival
                                     present := 0, known := 0, devices := (if up then b2n id.isSome else 1), closed := false, closedLast := false
                                     reports := Vector.replicate 8 0, strayReport := 0, ringTrips := 0, stepped := false, offsets := [], aligned := false, outFrom := none } }
  { s with pwr := { s.pwr with rstCause := s.pwr.rstCause ||| 0x80 }, mirror := { s.mirror with out := none } }

/-- RESET columns out of the ports that are up. -/
def State.sendReset (s : State) (ps : List Side) : State :=
  ps.foldl (fun s p => if s.portUp p then s.modWport p (fun q => { q with resetSent := q.resetSent + 16 }) else s) s

/-- A write of WL_CTL.RING_RESET (12 R396): ignored on a follower. -/
def State.ringResetWrite (s : State) : State := if s.isMaster then (s.sendReset [.east, .west]).ringResetState else s

/-- RESET_COLUMNS_RECEIVED (12 R396). -/
def execResetColumnsReceived (p : Side) (s : State) : Host.Outcome State Fault Refusal :=
  if s.linkOn p && !s.isMaster then .next ((s.sendReset [other p]).ringResetState) else .next s

/-! ### RING_STATUS and RING_MAP -/

/-- Port state as RING_STATUS and WL_STAT give it (12 R369, R398). -/
def PortState.code : PortState → Nat
  | .down => 0
  | .training => 1
  | .up => 2
  | .parked => 3

/-- WL_STAT.DEVICES (02 R76, 12 R377, R398). -/
def State.ringDevices (s : State) : Nat := if s.standalone then 1 else s.link.devices

/-- WL_STAT.ALIGNED (12 R398). -/
def State.isAligned (s : State) : Bool := s.isMaster || s.link.aligned

/-- RING_STATUS (02 R76): a parked port reads as down (log entry 27). -/
def State.opRingStatus (s : State) (p : Packet) (src : Source) (_seq : Nat) : State :=
  let port := fun x => match (s.wport x).state with | .parked => 0 | y => y.code
  s.answer p src stOK (toLe 1 s.ringDevices ++ toLe 1 (b2n s.isMaster + 2 * b2n s.link.conflict + 4 * b2n s.link.closed) ++
    toLe 1 (port .east) ++ toLe 1 (port .west) ++ toLe 4 s.link.breaks.toNat ++ toLe 4 s.link.replays.toNat ++ toLeS 4 s.link.offset)

/-- RING_MAP (02 R76): the role of another device is master for ID 0, follower else; its stepping, which no frame brings, and a missing hop count are free values. -/
def State.opRingMap (s : State) (p : Packet) (src : Source) (_seq : Nat) : State :=
  let d := s.draw
  let s := d.2
  let me := s.deviceId
  let hop := fun x i => match s.hopsTo x i with | some h => byteOf h | none => byteOf (d.1 / 256 ^ (8 + i))
  let entries := (List.range 8).flatMap (fun i =>
    if i = me then [1, 0, 0, 0xB1, byteOf (b2n s.isMaster), 0, 0, 0]
    else if s.link.present.getLsbD i then [1, hop .east i, hop .west i, byteOf (d.1 / 256 ^ i), byteOf (b2n (decide (i = 0))), 0, 0, 0]
    else pad 8)
  s.answer p src stOK entries

end Sys2Proof.Machine
end

