-- ==== Sys2Proof/WellFormed.lean ====
section
/-! DEFINITION. Which commands an agent outside the block can send at all; exec has a meaning for every term, these or others. -/
namespace Sys2Proof

/-- LENGTH is a 16-bit field (02 R45). -/
def Cmd.wf (c : Cmd) : Bool := c.params.length < 65536

/-- A register lies on a word of its BAR (14 R424: BAR0 64 KB, BAR2 1 MB). -/
def registerWf (bar : Bar) (off : Nat) : Bool :=
  off % 4 = 0 && (match bar with
    | .bar0 => off < 0x10000
    | .bar2 => off < 0x100000)

/-- A speed and a width of the link that the endpoint supports (14 R422). -/
def linkListed (speed : BitVec 4) (width : BitVec 3) : Bool := (speed = 1 || speed = 2 || speed = 3) && (width = 1 || width = 2 || width = 4)

/-- A WizerLink frame of a type: up to 256 payload bytes in whole words (12 R370). -/
def Frame.wf (f : Frame) (typ : Nat) : Bool :=
  f.typ.toNat = typ && f.payload.length ≤ 256 && f.payload.length % 4 = 0

/-- A topology frame names each of the eight device IDs once and has HOPS from 1 to 7 (12 R371, R376-R379). -/
def Topo.wf (t : Topo) : Bool :=
  t.hopsEast.length = 8 && t.hopsWest.length = 8 && t.present.length = 8 && decide (1 ≤ t.hops) && decide (t.hops ≤ 7)

/-- A write of a mirror word that is accepted: DOORBELL, IMM_GO and WAKE, and E_STOP with its value (14 R445). -/
def mirrorAccepts (a : BitVec 12) (v : BitVec 16) : Bool :=
  a = 0xFF0 || a = 0xFF1 || a = 0xFF2 || (a = 0xFF3 && v = 0xE5E5)

/-- A region of the bank of the line engine that serves a channel (10 R318). -/
def BankRegion.servesWith (ch : Fin 48) : BankRegion → Bool
  | .fifo n _ | .slotBuffer n _ | .posted _ n _ | .nozzleMap n _ => n.val / 4 = ch.val / 4
  | .masks | .other => true
  | .working | .stripe _ _ | .thresholdRing _ _ | .statistics _ _ => false

/-- Windows of a bank of so many windows (10 R325). -/
def BankErrors.wf (e : BankErrors) (windows : Nat) : Bool := e.corrected.all (fun w => decide (w < windows)) && e.bad.all (fun w => decide (w < windows))

/-- A command that the world outside can bring. -/
def Instr.wf : Instr → Bool
  | .ping c | .getInfo c | .setPower c | .blockReset c | .headAttach c | .headConfig c | .brewLoad c
  | .rotationLoad c | .cosySet c | .jobOpen c | .layerDefine c | .jobStop c | .jobResume c
  | .jobClose c | .tilePost c | .axisConfig c | .moveAbs c | .moveVel c | .axisStop c | .axisResume c
  | .home c | .kinematicsSet c | .axisStatus c | .camConfig c | .camExpose c
  | .outputConfig c | .contextLoad c | .surveyStart c | .nozzleMapRead c | .nozzleMapWrite c
  | .strainerConfig c | .thermalConfig c | .thermalStatus c | .shutdownRelease c | .memtestConfig c
  | .storeConfig c | .countersRead c | .countersClear c | .injectArm c | .inject c | .ringStatus c
  | .ringMap c | .lifecycleAdvance c | .tamperConfig c | .fireHold c | .fireRelease c | .eStop c
  | .mirrorSnap c => c.wf
  | .jobStart c => c.toCmd.wf
  | .statsRead c => c.toCmd.wf && c.errors.wf 65536
  | .ringReadCompletion d r => d.length % 64 = 0 && r.length % 64 = 0
  | .registerWrite bar off _ _ | .loRegisterRead bar off => registerWf bar off
  | .fireConfigWrite _ off _ => [0x1C, 0x20, 0x24].contains off
  | .shadowWrite _ off _ => [0x00, 0x04].contains off
  | .eventPulse l => l.all (fun (n : Nat) => n < 0x80) && l.Nodup
  | .bar4Access off write len _ =>
      0 < len && off + len ≤ 2 ^ 28 && (match write with
        | none => true
        | some l => l.length = len)
  | .mirrorWriteRejected a v => !mirrorAccepts a v
  | .pcieLinkUp speed width => linkListed speed width
  | .preparationPoint ch b => b.words.all (fun (n : Nat) => n < 128) && b.bank.all (BankRegion.servesWith ch) && b.corrected.all (fun (w : Nat) => w < 8192)
  | .lineComposed ch _ b => b.words.all (fun (p : Nat × Nat) => p.1 < 4 && p.2 < 128) && b.bank.all (BankRegion.servesWith ch) &&
      b.corrected.all (fun (w : Nat) => w < 8192)
  | .thermalMeasurement _ raw => -32768 ≤ raw && raw < 32768
  | .idAnswer _ f => f.bytes.length < 256
  | .camLine _ px t => px.all (fun (n : Nat) => n < 65536) && t.errors.wf 65536
  | .topoEnumeration _ t | .topoBreakNotice _ t => t.wf
  | .pos _ f => f.wf 1
  | .sync _ f => f.wf 2
  | .pkt _ f | .relayCommand _ f | .relayReply _ f | .deliveryAcknowledgement _ f | .jobSignalLate _ f
  | .jobSignalStopFiring _ f | .jobSignalFifosFull _ f | .jobSignalArm _ f => f.wf 3
  | .data _ f => f.wf 4
  | .flt _ f => f.wf 5
  | .wakeFrame _ f => f.wf 6
  | .strainerBarObserved _ bar => bar < 2 ^ 32
  | .immDoorbell _ | .cmdTail _ | .ringReadError _ | .kettleTakePacket | .kettleStall | .kettleRecover
  | .kettleLoadUpdate _ | .rplHead _ | .evtHead _ | .ringCtlReset _ | .cmdEn _ | .rplEn _ | .evtEn _
  | .headOffsetHiWrite _ _ | .commit _ | .commitAt _ | .evSoft _ | .dmaStart _ _ | .dmaComplete _ _
  | .dmaHostError _ _ _ | .tcClear _ _ | .injGo _ | .otpKey _ | .otpKeyTimeout | .otpRead
  | .otpReadMarginLo | .otpReadMarginHi | .otpProgram | .otpReburnWord | .otpFinaliseRegion
  | .otpProgramPulse _ _ _ | .shutdownLogWrite _ _ _ | .lifecycleAdvanceDone | .warmReset _
  | .warmResetDone | .pwrReqSleep | .pwrReqIdle | .pwrReqOff | .offAfter | .lowStateEntered
  | .aonTimerExpiry | .wakeRequest _ | .wakeComplete | .powerOn _ _ _ _ | .supplyMonitorTrip _
  | .rstNAssert | .rstNRelease | .pllLockLoss _ | .fundamentalReset | .hotReset | .functionLevelReset
  | .pcieLinkDown | .pcieRecovery _ | .busMasterEnable _ | .msixUnmask _ | .completionTimeout _
  | .mirrorRead _ _ | .mirrorBadAccess | .doorbell _ | .immGo _ | .wake _ | .mirrorEStop _
  | .mirrorRefresh | .interlockAssert _ | .interlockRelease _ | .sensorInputEdge _ _ | .tamperDetect _
  | .encCount _ _ | .interpolatorTimeout _ | .lineTrigger _ | .firePositionReached _ | .slotStart _
  | .slotEnd _ | .jobArmed _ | .shuttlePassArm _ | .lateWebStopped _ | .lateBackupDone _
  | .lateReregister _ | .tileReadCompletion _ _ _ | .tileCopyRow _ _ | .mapWriteApplied _
  | .throttleUpTimer _ | .throttleDownTimer _ | .feedAtCapacity _ | .throttleWaitOverrun _
  | .energyModelUpdate | .sensorSuspect _ | .cosyPeriod _ | .trajectoryUpdate _ | .moveDone _
  | .axisStands _ | .limitActive _ _ | .homeSwitchQualified _ _ | .indexEdge _ | .chatter _
  | .idAnswerMissing _ | .identRetry _ | .responsePoll _ | .authTimeout _ | .surveyMoveDone
  | .surveyRound | .dropWatchFrame _ _ | .surveyTimeout | .camTrigger _ | .camFrameBegin _
  | .camFrameEnd _ | .camTimeout _ | .stripeStart | .stripeDone | .backgroundTestWindow _ _
  | .patrolScrub _ _ | .storeRetrain | .storeConfigDone | .wlCommaLock _ | .wlPortUp _ | .ringBreak _
  | .retrainE | .retrainW | .ringReset | .resetColumnsReceived _ | .ringEnumerate _ _ _
  | .topoParkNotice _ | .wlSignalDetect _ | .posSend | .posTimeout | .poslostClear | .syncSend
  | .alignLost | .faultColumn _ _ _ _ | .fltRefresh | .ack _ _ | .nak _ _ | .ackTimer _
  | .replayTimeout _ | .wlFrameError _ _ | .relayTimeout _ | .xtalQualified | .switchedRailsInRange
  | .limitInactive _ _ | .blockResetDone => true

end Sys2Proof
end

