-- ==== Sys2Proof/Machine/Power.lean ====
section
/-! DEFINITION. Power states, wakes, clocks, the resets and what each does to each item (13, 11 R360, 16 R462-R465). -/
namespace Sys2Proof.Machine

/-! ### The packet engine and the endpoint under resets -/

/-- A fetch of the command ring from CMD_HEAD to CMD_TAIL (02 R54, 14 R478). -/
def State.startFetch (s : State) : State :=
  let r := s.pe.cmd
  if s.inRun && s.pwr.entering.isNone && r.en && s.host.bme && s.pe.fetch.isNone && r.head ≠ r.tail then
    { s with pe := { s.pe with fetch := some { next := r.head, stop := r.tail, buf := [] } } }
  else s

/-- RING_RESET: enables cleared, the Kettle queue and the hold buffer emptied without replies (02 R52, R53). -/
def State.ringReset (s : State) : State :=
  { s with pe := { s.pe with cmd := { s.pe.cmd with en := false }, rpl := { s.pe.rpl with en := false }, evt := { s.pe.evt with en := false }
                             queue := [], hold := [], fetch := none } }

/-- Bus Master Enable cleared (14 R478). -/
def State.clearBme (s : State) : State :=
  let s := { s with host := { s.host with bme := false }, pe := { s.pe with fetch := none } }
  s.failTiles.dmaLoseHost

/-- Bus Master Enable set: ring fetches, held replies, events lost and vectors resume (14 R478). -/
def State.setBme (s : State) : State :=
  let s := { s with host := { s.host with bme := true } }
  ((s.startFetch.drain).eventsLost).flushVectors

/-- The endpoint's configuration returns to its reset values (13 R420). -/
def State.resetEndpoint (s : State) : State :=
  { s with host := { s.host with msixEn := false, funcMask := true, dstate := 0, msix := Vector.replicate 32 {}, pba := 0, ctl := {} } }

/-- A conventional reset of the PCIe function: the endpoint and the ring registers as RING_RESET, nothing else (13 R420). -/
def State.conventionalReset (s : State) : State := (s.resetEndpoint.ringReset).clearBme

/-- The link is down (14 R435, 13 R405). -/
def State.linkLost (s : State) : State := { s with host := { s.host with linkUp := false, speed := 0, width := 0 } }

/-- A Link Down that the device did not cause, reported as Surprise Down (14 R433, R435); counted in RUN and IDLE (15 R448). -/
def State.pcieDown (s : State) : State :=
  let t := s.conventionalReset.linkLost.reportAer .surpriseDown
  if s.inRunIdle then t.count 7 else t

/-- FUNDAMENTAL_RESET (13 R420): it alone clears the AER registers, which PCI Express makes sticky (PRESUMED, log entry 7). -/
def execFundamentalReset (s : State) : Host.Outcome State Fault Refusal :=
  if s.pwr.supply then
    let s := s.conventionalReset.linkLost
    .next { s with host := { s.host with aer := [], aerFatal := ({} : HostPort).aerFatal, aerMask := [] } }
  else .next s

/-- HOT_RESET (13 R420). -/
def execHotReset (s : State) : Host.Outcome State Fault Refusal := if s.pwr.supply then .next s.conventionalReset else .next s

/-- FUNCTION_LEVEL_RESET (13 R420). -/
def execFunctionLevelReset (s : State) : Host.Outcome State Fault Refusal := if s.pwr.supply then .next s.conventionalReset else .next s

/-- PCIE_LINK_DOWN (14 R435). -/
def execPcieLinkDown (s : State) : Host.Outcome State Fault Refusal :=
  if s.host.linkUp then .next (if s.shot 7 && s.inRunIdle then s.shotTaken else s).pcieDown else .next s

/-- A recovery counted (14 R434). -/
def State.recovered (s : State) : State := ({ s with host := { s.host with recov := s.host.recov + 1 } }).count 6

/-- PCIE_RECOVERY (14 R434): `counted` is false for a change of speed or width at the host's request and for an exit from L1. -/
def execPcieRecovery (counted : Bool) (s : State) : Host.Outcome State Fault Refusal :=
  if s.inRunIdle && s.host.linkUp && counted then .next (if s.shot 6 then s.shotTaken else s).recovered else .next s

/-- PCIE_LINK_UP (13 R405, 14 R422, R431): the PCIe PLL has lock. -/
def execPcieLinkUp (speed : BitVec 4) (width : BitVec 3) (s : State) : Host.Outcome State Fault Refusal :=
  if s.inRunIdle && !s.host.linkUp && linkListed speed width then
    .next { s with host := { s.host with linkUp := true, speed := speed, width := width }, pwr := { s.pwr with pllLock := setBit s.pwr.pllLock 2 true } }
  else .next s

/-- Size of BAR0, BAR2 or BAR4, 0 for BAR4 without its critical wire (14 R424). -/
def State.barSize (s : State) (k : Nat) : Nat :=
  match k with
  | 0 => 2 ^ 16
  | 1 => 2 ^ 20
  | _ => if s.otp.wires.bar4 then 2 ^ 28 else 0

/-- A dword of a BAR as it reads: each BAR is 64-bit, BAR4 alone prefetchable; BAR4 and BAR5 read 0 while BAR4 is not present (14 R424). -/
def State.barRead (s : State) (i : Fin 6) : Word :=
  let k := i.val / 2
  let a := (vget s.host.ctl.bars k 0).toNat
  if s.barSize k = 0 then 0
  else if i.val % 2 = 1 then w32 (a / 2 ^ 32)
  else w32 (a % 2 ^ 32 + (if k = 2 then 0xC else 4))

/-- A dword of a BAR written: the address bits above its size (14 R424). -/
def State.barWrite (s : State) (i : Fin 6) (v : Word) : State :=
  let k := i.val / 2
  let a := (vget s.host.ctl.bars k 0).toNat
  let n := if i.val % 2 = 1 then a % 2 ^ 32 + v.toNat * 2 ^ 32 else a / 2 ^ 32 * 2 ^ 32 + v.toNat
  if s.barSize k = 0 then s
  else { s with host := { s.host with ctl := { s.host.ctl with bars := vset s.host.ctl.bars k (BitVec.ofNat 64 (n / s.barSize k * s.barSize k)) } } }

/-- A write of the configuration space (14 R422, R424, R431, R433, R478); a completion timeout outside ranges A and B changes nothing. -/
def State.configWrite (s : State) (w : ConfigWrite) : State :=
  let ctl := fun (c : DevControl) => { s with host := { s.host with ctl := c } }
  let c := s.host.ctl
  match w with
  | .bme on => if s.host.bme = on then s else if on then s.setBme else s.clearBme
  | .power d3 => { s with host := { s.host with dstate := (if d3 then 3 else 0) } }
  | .payload wide => ctl { c with payload := (if wide then 256 else 128) }
  | .readRequest n => ctl { c with readRequest := 128 * 2 ^ n.val }
  | .aspm l1 l11 l12 => ctl { c with l1 := l1, l11 := l11, l12 := l12 }
  | .ltr on => ctl { c with ltr := on }
  | .timeout us off => if 50 ≤ us && us ≤ 10000 then ctl { c with timeoutUs := us, timeoutOff := off } else s
  | .severity e f => { s with host := { s.host with aerFatal := (if f then s.host.aerFatal.insert e else s.host.aerFatal.erase e) } }
  | .mask e m => { s with host := { s.host with aerMask := (if m then s.host.aerMask.insert e else s.host.aerMask.erase e) } }
  | .clear e => { s with host := { s.host with aer := s.host.aer.erase e } }
  | .bar i v => s.barWrite i v

/-- BUS_MASTER_ENABLE (14 R478), the row that stands for every write of the configuration space (DESIGN CHOICE, log entry 7). -/
def execBusMasterEnable (w : ConfigWrite) (s : State) : Host.Outcome State Fault Refusal := if s.inRunIdle then .next (s.configWrite w) else .next s

/-- Link states that the endpoint supports (14 R422). -/
inductive LinkPower where
  | down | l0 | l1 | l11 | l12
  deriving DecidableEq, Repr

/-- The state of the link in SLEEP: L1.2 where the host has enabled it, otherwise the deepest state enabled; in RUN and IDLE L0, which the link leaves for L1
and returns to by itself (13 R399). -/
def State.linkPower (s : State) : LinkPower :=
  let c := s.host.ctl
  if !s.host.linkUp then .down
  else if s.pwr.state ≠ .sleep then .l0
  else if c.l12 then .l12
  else if c.l11 then .l11
  else if c.l1 then .l1
  else .l0

/-! ### Time in AON -/

/-- AON clocks in a span of FIRE ticks: 32.768 kHz (13 R408). -/
def aonClocks (ticks : Nat) : Nat := ticks * 32 / 390625

/-- FIRE ticks that the timebase gains for so many AON clocks: 12,207.03125 each (13 R408). -/
def aonGain (clocks : Nat) : Nat := clocks * 390625 / 32

/-- The timebase is counted in AON (13 R403, R408). -/
def State.tbStopped (s : State) : Bool := match s.pwr.state with | .sleep | .off => true | _ => false

/-- The timebase as AON counts it; after a power-on or pin reset it stands at 0 until RUN (13 R408, R419). -/
def State.aonTimebase (s : State) : BitVec 64 :=
  if s.tbStopped && !(s.pwr.cold && s.pwr.prev ≠ 0) then s.timebase + BitVec.ofNat 64 (aonGain (aonClocks (s.clock - s.pwr.aonFrom))) else s.timebase

/-- A time in milliseconds has passed in AON: within 5 % while the crystal has not qualified (13 R410). -/
def State.aonPassed (s : State) (from_ ms : Nat) : Bool :=
  if s.pwr.xtalOk then decide (from_ + ms * tickMs ≤ s.clock) else decide (ms * tickMs * 95 ≤ (s.clock - from_) * 100)

/-! ### Entering a lower state -/

/-- The status that refuses an entry (13 R402). -/
def State.entryRefused (s : State) (tgt : PowerState) : Option (BitVec 16) :=
  let jobs := (List.range 4).filterMap s.jobAt
  let axes := (List.range 8).map s.axis
  let vel := fun (a : Axis) => match a.state, a.move with
    | .moving, some m => (match m.goal with | .vel _ => true | .abs _ => false)
    | _, _ => false
  if jobs.any Job.active || (List.range 48).any (fun n => (s.chan n).cosy) || [0, 1].any (fun p => (s.port p).on) || axes.any vel ||
      (s.isMaster && s.link.posEn) || (tgt = .off && jobs ≠ []) then some stBAD_STATE
  else if axes.any (fun a => !a.standing) || s.health.run.isSome || (List.range 16).any (fun k => (s.dma k).run.isSome || (s.dma k).pending || s.isPend k) ||
      s.otpBusy || s.mem.training.isSome then some stBUSY
  else none

/-- An accepted entry begins: the packet engine stops fetching (13 R403 step 1). -/
def State.enter (s : State) (tgt : PowerState) : State :=
  { s with pwr := { s.pwr with entering := some tgt }, pe := { s.pe with fetch := none } }

/-- AON_TIMER written (13 R410, R421). -/
def State.setAonTimer (s : State) (ms : Nat) : State := { s with pwr := { s.pwr with aonTimer := w32 ms, aonTimerAt := s.clock } }

/-- The state that SET_POWER asks for, where that is a lower one (02 R71). -/
def lowerState (n : Nat) : Option PowerState := if n = 1 then some .sleep else if n = 2 then some .idle else none

/-- SET_POWER: the entry is checked before the reserved bytes (02 R56, 13 R401, R402). -/
def State.opSetPower (s : State) (p : Packet) (src : Source) (_seq : Nat) : State :=
  let bad := !zeros p.params 1 3
  match lowerState (p.u 0 1) with
  | none => s.say p src (if bad || p.u 0 1 ≠ 3 then stBAD_PARAM else stOK)
  | some t =>
    match s.entryRefused t with
    | some st => s.say p src st
    | none => if bad then s.say p src stBAD_PARAM else ((s.say p src stOK).setAonTimer (p.u 4 4)).enter t

/-- A PWR_CTL request (13 R401, R402). -/
def State.powerRequest (s : State) (tgt : PowerState) : State :=
  if (s.entryRefused tgt).isSome then { s with pwr := { s.pwr with refused := true } } else s.enter tgt

/-- OFF_AFTER (13 R401, R402): refused with a job open. -/
def execOffAfter (s : State) : Host.Outcome State Fault Refusal :=
  let n := s.pwr.offAfter.toNat
  if s.pwr.supply && s.pwr.state = .sleep && !s.pwr.waking && !s.pwr.pinHeld && n ≠ 0 && s.pwr.entering.isNone && s.aonPassed s.pwr.sleepAt (1000 * n) &&
      (s.entryRefused .off).isNone then .next (s.enter .off)
  else .next s

/-- WizerLink ports parked, with a park notice out of each (12 R397). -/
def State.park (s : State) : State :=
  [Side.east, Side.west].foldl (fun s p =>
    let s := if s.portUp p then s.sendFrame p { typ := tTOPO, dest := 0xFE, seq := 0, payload := routeWord s.deviceId 1 } else s
    (s.modWport p (fun q => q.cleared .parked)).portsMoved) s

/-- The pulses on their way when the fabric stops: those of AON sources are recorded in the latch, the others are lost (01 R35, 13 R403). -/
def State.stopFabric (s : State) : State :=
  let s' := { s with fab := { s.fab with raised := [], aged := 0 } }
  (s.fab.raised.filter (fun k => aonSource k && (vget s.fab.src k {}).en)).foldl (fun s k => s.latchLine (vget s.fab.src k {}).line) s'

/-- DIRn and ENn low (07 R235, 13 R400). -/
def Axis.outputsLow (a : Axis) : Axis := { a with dirOut := false, en := false }

/-- LOW_STATE_ENTERED (13 R403). -/
def execLowStateEntered (s : State) : Host.Outcome State Fault Refusal :=
  match s.pwr.entering with
  | none => .next s
  | some tgt =>
    if !s.pwr.supply || s.pwr.pinHeld || s.pwr.waking then .next s
    else
      let deep := match tgt with | PowerState.sleep | PowerState.off => true | _ => false
      let first := deep && !s.tbStopped
      let parked := s.park
      let s : State := if first then parked.stopFabric else s
      let s : State := if tgt = PowerState.off then (s.conventionalReset.linkLost) else s
      let s : State := { s with chans := s.chans.map (fun c => { c with firing := none, shutAtSlot := 0 }.stopIo), axes := s.axes.map Axis.outputsLow }
      let from_ := if first then s.clock else s.pwr.aonFrom
      let slept := if tgt = PowerState.sleep then s.clock else s.pwr.sleepAt
      .next { s with pwr := { s.pwr with
        state := tgt, entering := none, refOk := s.pwr.refOk && !deep, pllLock := (if deep then 0 else s.pwr.pllLock), corePwrEn := decide (tgt ≠ PowerState.off), aonFrom := from_, sleepAt := slept } }

/-! ### Resets -/

/-- A programming command cut by a reset: the pulse that has begun completes, and what it leaves is free (11 R350, 13 A reset arrives during a finalise);
nothing is burned where Kettle has not begun (11 R351). -/
def State.otpAbort (s : State) : State :=
  match s.otp.run with
  | none => { s with otp := { s.otp with advance := none } }
  | some r =>
    match r.todo with
    | [] => { s with otp := { s.otp with run := none, advance := none } }
    | (a, t) :: _ =>
      if !r.begun then { s with otp := { s.otp with run := none, advance := none } }
      else
      let x := s.draw
      let y := x.2.draw
      let z := y.2.draw
      let w := (s.otpWord a).pulsed t (BitVec.ofNat 39 x.1) (BitVec.ofNat 39 y.1) (BitVec.ofNat 39 z.1)
      { z.2 with otp := { z.2.otp with words := sput {} z.2.otp.words a w, run := none, advance := none } }

/-- Injection after a reset: only a released shot of detector 99 or 100 is held (15 R456). -/
def Injection.afterReset (i : Injection) : Injection :=
  match i.released with
  | some k => if k = 99 || k = 100 then { released := some k } else {}
  | none => {}

/-- Route registers of the AON sources (01 R35). -/
def Fabric.aonRoutes (f : Fabric) : Vector Route 128 := Vector.ofFn (fun (i : Fin 128) => if aonSource i.val then vget f.src i.val {} else {})

/-- A sensor after a reset that clears thresholds: the value held stays (13 R409, R419), so does its latch but at power-on, with the target of a
shutdown (09 R302, R303), and a suspect mark that the reset does not end (09 R310). -/
def SensorState.afterReset (x d : SensorState) (latch suspect : Bool) : SensorState :=
  let held := latch && x.latched
  { d with value := x.value, shown := x.shown, known := latch && x.known, latched := held, target := if held then 7 else d.target, suspect := suspect && x.suspect }

/-- The normal reads of the programmed words: what AON holds once power-on has cleared the earlier copies (11 R347). -/
def State.otpCopies (s : State) : List (Nat × Word) :=
  s.otp.words.foldl (fun (m : List (Nat × Word)) (x : Nat × OtpWord) => sput 0 m x.1 (s.otpVal x.1)) []

/-- The die temperatures that stand with those copies (11 R347). -/
def State.otpCopyTemps (s : State) : List (Nat × List Int) :=
  s.otpCopies.map (fun x => (x.1, s.dieTemps))

/-- Power-on, pin reset and wake from OFF, item by item (13 R413, R419); `first` is power-on, `wake` the wake from OFF.  The sequence that follows ends in RUN. -/
def State.coldReset (s : State) (first wake : Bool) : State :=
  let s := s.otpAbort
  let d : State := {}
  let m := s.mem
  { d with
    pending := s.pending, clock := s.clock, fresh := s.fresh
    timebase := (if wake then s.timebase else 0)
    pwr := { d.pwr with
      state := .off, waking := true, cold := true, refOk := false, pllLock := 0, sensed := false, railWait := s.pwr.railWait, pinHeld := s.pwr.pinHeld, prev := (if wake then 0 else 3)
      offAfter := (if first then 0 else s.pwr.offAfter), wakeEn := (if first then 0x1F else s.pwr.wakeEn)
      wakeCause := (if first then 0 else s.pwr.wakeCause), aonTimer := (if first then 0 else s.pwr.aonTimer), aonTimerAt := s.pwr.aonTimerAt
      aonFrom := s.pwr.aonFrom, sleepAt := s.pwr.sleepAt, xtalOk := !first && s.pwr.xtalOk
      rstCause := (if first then 1 else if wake then s.pwr.rstCause ||| 0x100 else s.pwr.rstCause ||| 2), cascMaster := s.pwr.cascMaster }
    host := { d.host with mem := s.host.mem, readData := s.host.readData, bar4Data := s.host.bar4Data, bar4Poisoned := s.host.bar4Poisoned }
    link := { d.link with heldFrom := s.clock }
    mirror := (if first then { sync := s.mirror.sync } else { s.mirror with heldTail := none, heldGo := false, out := none })
    tc := (if first then {} else s.tc)
    inj := s.inj.afterReset
    fab := (if first then {} else { src := s.fab.aonRoutes, latch := s.fab.latch })
    ilk := { s.ilk with trips := (if first then 0xF else s.ilk.trips), assertedAt := (if first then Vector.replicate 4 s.clock else s.ilk.assertedAt) }
    axes := s.axes.map (fun a => { limNeg := a.limNegPin, limPos := a.limPosPin })
    enc := s.enc.map (fun e => { a := e.a, b := e.b })
    therm := { heads := s.therm.heads.map (fun x => x.afterReset headDefault (!first) (!first))
               dies := s.therm.dies.map (fun x => x.afterReset dieDefault (!first) (!first && !wake))
               logWait := (if first then [] else s.therm.logWait), logRetry := (if first then none else s.therm.logRetry) }
    cam := { d.cam with ports := s.cam.ports.map (fun q => if first then {} else { capacity := q.capacity }) }
    mem := { store := (if first then [] else m.store), cfg := (if first || m.training.isSome then none else m.cfg), banks := s.clearedBanks first
             retrains := m.retrains, scrubs := m.scrubs }
    otp := { words := s.otp.words, aon := (if first then s.otpCopies else s.otp.aon)
             aonTemp := (if first then s.otpCopyTemps else s.otp.aonTemp), weak := s.otp.weak, vppOk := s.otp.vppOk
             wires := (if first then {} else s.otp.wires), tamperSeen := (if first then 0 else s.otp.tamperSeen), caddyHold := !first && !wake && s.otp.caddyHold
             tamperEn := (if first then 0xF else s.otp.tamperEn), tamperFilter := (if first then 2 else s.otp.tamperFilter) } }

/-- The sequence goes on to the OTP sense once rails and RST_N allow (13 R407, R413, R415, 11 R360). -/
def State.senseOnce (s : State) : State :=
  if s.pwr.sensed || s.pwr.pinHeld || !s.pwr.supply then s
  else ({ s with pwr := { s.pwr with sensed := true } }).sense

/-- Jobs freed without a record (13 R419): their tiles write nothing more and are answered when their reads are over (05 R174). -/
def State.freeJobs (s : State) : State :=
  { s with jobs := Vector.replicate 4 none
           tiles := s.tiles.map (fun (t : Tile) => if t.source = 3 then t else { t with orphan := true }) }

/-- A channel after a warm reset (13 R419): tables, map, head, HEAD_CONFIG, hold, thermal level and run counters kept. -/
def Chan.warm (c : Chan) : Chan :=
  { attached := c.attached, headId := c.headId, authFail := c.authFail, configured := c.configured, ink := c.ink, row := c.row, gMax := c.gMax
    nozzles := c.nozzles, partner := c.partner, clkDiv := c.clkDiv, quiet := c.quiet, pMax := c.pMax, brewS := c.brewS, brewM := c.brewM, brewL := c.brewL
    rots := c.rots, hold := c.hold, cosyTarget := c.cosyTarget, applied := c.applied, riseSince := c.riseSince, map := c.map, runs := c.runs }

/-- An axis unconfigured with coordinates 0 and its outputs low (13 R417). -/
def Axis.cleared (a : Axis) : Axis := { limNeg := a.limNegPin, limPos := a.limPosPin, steps := a.steps }

/-- An encoder whose coordinate is 0 (13 R417). -/
def Encoder.zeroed (e : Encoder) : Encoder := { e with base := 64 * e.count, vNum := 0, vDen := 1, held := some (64 * e.count) }

/-- A warm reset begins (13 R416, R419); `cause` is its RST_CAUSE bit.  It takes over from an entry under way (13 A reset arrives during a wake or an entry). -/
def State.warmReset (s : State) (cause : Nat) : State :=
  let q := s.pe.queue
  let s := { s with pe := { s.pe with queue := [], kettleWait := [], rebooting := true
                                      ops := s.pe.ops.filter (fun (o : PendOp) => match o.kind with | .warmReset => true | _ => false) } }
  let s := q.foldl (fun s (x : QPacket) => s.reply false x.pkt x.src stBUSY []) s
  let s := { s.freeJobs with attach := none, health := { s.health with run := none, flashes := [] }, inj := s.inj.afterReset }
  let s := s.settleRises (List.range 48)
  let s := ((s.resetPipeline.disablePorts).dmaReset).otpAbort.wipeCaddy
  { s with chans := s.chans.map Chan.warm, axes := s.axes.map Axis.cleared, enc := s.enc.map Encoder.zeroed
           fab := { s.fab with pend := s.fab.pend &&& ~~~ (0xFFFFFFFF : BitVec 128) }
           link := { s.link with heldData := [] }, mirror := { s.mirror with out := none }
           pwr := { s.pwr with rstCause := setBit s.pwr.rstCause cause true, blockHeld := 0, entering := none } }

/-- The commit of a survey completed at start-up (06 A reset arrives during a survey). -/
def State.completeCommit (s : State) : State :=
  if s.health.commitWord = 0 then s
  else
    let s := s.copyShadows (s.health.kettleShadow.filter (fun (x : Nat × List (Nat × BitVec 4)) => s.health.commitWord.getLsbD x.1))
    { s with health := { s.health with commitWord := 0, kettleShadow := [] } }

/-- Kettle recovers from a stall (02 R81). -/
def State.kettleRecovers (s : State) : State :=
  if s.pe.stalled then
    let us := min 0xFFFFFFFF ((s.clock - s.pe.stallSince) / tickUs)
    (({ s with pe := { s.pe with stalled := false, takeFrom := s.clock } }).deviceEvent 2 us).otpBegin.drain
  else s

/-! ### Block resets -/

/-- Jobs stopped by a block reset (13 R417): those with one of the channels; a data-late sequence ends. -/
def State.blockStops (s : State) (hit : Job → Bool) (late : Bool) : State :=
  (List.range 4).foldl (fun s slot =>
    match s.jobAt slot with
    | some j =>
      if !hit j then s
      else if late && (j.late ≠ .none || j.resumeMove || (j.resumePending.isSome && (s.axis j.feed).leg = .rereg)) then s.failLate slot
      else if j.active then s.enterStopped slot
      else s.answerStops slot
    | none => s) s

/-- FIRE lines of a channel low, its line in progress incomplete with CAUSE 1 (13 R417). -/
def State.cutChan (s : State) (n : Nat) : State :=
  match s.jobOf n with
  | some slot => s.cutLine slot n 1
  | none => s.modChan n (fun c => { c with firing := none, shutAtSlot := 0 })

/-- BLOCK_RESET of LEk (13 R417). -/
def State.resetLe (s : State) (k : Nat) : State :=
  let ns := (List.range 4).map (fun i => 4 * k + i)
  let s := ns.foldl State.cutChan s
  let s := s.blockStops (fun j => ns.any (fun n => j.channels.getLsbD n)) false
  let s := ns.foldl (fun s n => s.modChan n (fun c =>
    { c with fifo := [], packed := none, prepared := none, dueEarly := 0, nextCompose := c.nextLine, shutAtSlot := 0 }.stopIo)) s
  ((List.range 4).foldl State.checkEnded s).endSurveyIf (fun r => ns.any (fun n => r.channels.getLsbD n)) 1

/-- The replies that an axis owes when its engine is reset: a homing ends with RESULT 4 (02 R76). -/
def State.axisLost (s : State) (n : Nat) : State :=
  let s := match (s.axis n).homing with
    | some h => s.finishHome n { h with result := 4 }
    | none => s
  ((s.modAxis n Axis.cleared).modEncoder n Encoder.zeroed).axisStood n

/-- The bars that the channels fired are observed no more: the positions by which their lines are found are lost (06 R230). -/
def Job.forgetBars (j : Job) (gone : Nat → Bool) : Job := { j with barAt := j.barAt.filter (fun x => !gone x.1.1) }

/-- BLOCK_RESET of MEm (13 R417). -/
def State.resetMe (s : State) (m : Nat) : State :=
  let axs := (List.range 4).map (fun i => 4 * m + i)
  let mine := fun (k : Nat) => axs.contains k
  let s := ((List.range 48).filter (fun n => mine (s.chan n).posSrc)).foldl State.cutChan s
  let s := s.blockStops (fun j => mine j.feed || j.chans.any (fun n => mine (s.chan n).posSrc)) true
  let s := (List.range 4).foldl (fun t slot => t.modJob slot (fun j => j.forgetBars (fun n => mine (s.chan n).posSrc))) s
  let s := (List.range 4).foldl State.checkEnded (axs.foldl (fun s n => (s.axisInterrupted n false).axisLost n) s)
  let keep : BitVec 128 := BitVec.ofNat 128 (0xF * 2 ^ (0x18 + 4 * m))
  { s with fab := { s.fab with pend := s.fab.pend &&& ~~~ keep } }

/-- A block reset of the blocks of a mask (13 R417). -/
def State.resetBlocks (s : State) (m : BitVec 17) : State :=
  let s := { s with pwr := { s.pwr with blockHeld := s.pwr.blockHeld ||| m }, mirror := { s.mirror with out := none } }
  let s := ((List.range 12).filter (fun k => m.getLsbD k)).foldl State.resetLe s
  let s := ((List.range 2).filter (fun k => m.getLsbD (12 + k))).foldl State.resetMe s
  let s := if m.getLsbD 14 then (s.resetPipeline).endSurvey 2 else s
  let s := if m.getLsbD 15 then s.dmaReset else s
  if m.getLsbD 16 then s.portsDown.losePos else s

/-- BLOCK_RESET (02 R70, R71, 13 R414, R416, R417). -/
def State.opBlockReset (s : State) (p : Packet) (src : Source) (seq : Nat) : State :=
  let b := p.u 0 4
  if s.pwr.blockHeld ≠ 0 then s.say p src stBUSY
  else if 2 ^ 17 ≤ b then s.say p src stBAD_PARAM
  else if b = 0 then (s.startOp false .warmReset p src seq).warmReset 4
  else (s.startOp false .blockReset p src seq).resetBlocks (BitVec.ofNat 17 b)

/-- BLOCK_RESET_DONE (13 R414): the engines run again, and with them ENn of an axis configured meanwhile (07 R235). -/
def execBlockResetDone (s : State) : Host.Outcome State Fault Refusal :=
  if s.pwr.blockHeld = 0 || !s.inRun then .next s
  else
    let s := { s with pwr := { s.pwr with blockHeld := 0 }, axes := s.axes.map (fun (a : Axis) => { a with en := a.drives }) }
    .next (s.finishOps (fun o => match o.kind with | .blockReset => true | _ => false) (fun _ => (stOK, [])))

/-! ### Wakes -/

/-- PREV of PWR_STAT (13 R421). -/
def PowerState.code : PowerState → Nat
  | .off => 0
  | .sleep => 1
  | .idle => 2
  | .run => 3

/-- A device woken over the ring wakes its next neighbour in turn (12 R397). -/
def State.wokenBy (s : State) (bitNo : Nat) : State := if bitNo = 2 then { s with link := { s.link with wakeOn := true } } else s

/-- A wake source acts (13 R403, R404): an entry under way ends, a low state is left. -/
def State.wakeBy (s : State) (bitNo : Nat) : State :=
  if !s.pwr.wakeEn.getLsbD bitNo || !s.pwr.supply || s.pwr.pinHeld || s.pwr.waking then s
  else
    let caused := fun (s : State) => { s with pwr := { s.pwr with wakeCause := setBit s.pwr.wakeCause bitNo true } }.wokenBy bitNo
    match s.pwr.state with
    | .run => if s.pwr.entering.isSome then caused { s with pwr := { s.pwr with entering := none, waking := true, cold := false } } else s
    | .off =>
      -- CORE_PWR_EN rises and the sequencer waits for the rails (13 R407, 16 R462)
      let s := caused s
      (({ s with pwr := { s.pwr with railWait := true } }).coldReset false true).senseOnce.wokenBy bitNo
    | x => caused { s with pwr := { s.pwr with entering := none, waking := true, cold := false, prev := BitVec.ofNat 3 x.code } }

/-- Bit of a wake source (13 R421). -/
def wakeBit : WakeSource → Nat
  | .host => 0
  | .mirror => 1
  | .link => 2
  | .timer => 3
  | .dma => 4
  | .sensor n => 16 + n.val

/-- The states in which a source wakes the device (13 R404). -/
def State.wakeStates (s : State) : WakeSource → Bool
  | .host => s.pwr.entering.isSome || (match s.pwr.state with | .idle | .sleep => true | _ => false)
  | .dma => s.pwr.state = .idle
  | .link => (match s.pwr.entering with | some .idle => false | x => x.isSome) || (match s.pwr.state with | .sleep | .off => true | _ => false)
  | _ => true

/-- WAKE_REQUEST (13 R404). -/
def execWakeRequest (src : WakeSource) (s : State) : Host.Outcome State Fault Refusal :=
  if s.wakeStates src then .next (s.wakeBy (wakeBit src)) else .next s

/-- The device is in RUN after a wake (13 R406-R409): what returns by itself. -/
def State.reachRun (s : State) : State :=
  let was := s.pwr.state
  let slept := match was with | .sleep | .off => true | _ => false
  let s := { s with timebase := s.aonTimebase }
  let lock := if was = .idle || was = .run then s.pwr.pllLock else 0xF
  let s := { s with
    pwr := { s.pwr with state := .run, waking := false, cold := false, corePwrEn := true, refOk := true, pllLock := lock }
    pe := { s.pe with takeFrom := s.clock } }
  let s := if slept then
      { s with therm := { s.therm with heads := s.therm.heads.map (fun x => { x with meas := [] }) }
               link := { s.link with stepped := false, aligned := false, outFrom := none, offsets := [], heldFrom := s.clock
                                     east := { s.link.east with state := .down }, west := { s.link.west with state := .down } } }
    else s
  let s := if was = .sleep then
      { s with axes := s.axes.map (fun (a : Axis) => if a.configured then
          { a with state := .idle, fault := 0, move := none, remaining := 0, segs := [], landing := none, speed := 0 } else a)
               enc := s.enc.map (fun e => e.hold s.now) }
    else s
  let s := { s with axes := s.axes.map (fun (a : Axis) => { a with en := a.drives }) }
  let s := s.completeCommit
  (List.range 16).foldl (fun s k => s.dmaNext k) s

/-- AON_TIMER_EXPIRY (13 R410). -/
def execAonTimerExpiry (s : State) : Host.Outcome State Fault Refusal :=
  if s.pwr.supply && s.pwr.aonTimer ≠ 0 && s.aonPassed s.pwr.aonTimerAt s.pwr.aonTimer.toNat then
    .next ((({ s with pwr := { s.pwr with aonTimer := 0 } }).raise 0x62).wakeBy 3)
  else .next s

/-- SENSOR_INPUT_EDGE (01 R36, 13 R404). -/
def execSensorInputEdge (n : Fin 16) (rising : Bool) (s : State) : Host.Outcome State Fault Refusal :=
  if !s.pwr.supply || s.ilk.sens.getLsbD n.val = rising then .next s
  else
    let s := { s with ilk := { s.ilk with sens := setBit s.ilk.sens n.val rising } }
    .next ((s.raise ((if rising then 0x40 else 0x50) + n.val)).wakeBy (16 + n.val))

/-- WL_SIGNAL_DETECT (12 R397): 1 µs of signal on a parked port. -/
def execWlSignalDetect (p : Side) (s : State) : Host.Outcome State Fault Refusal :=
  if !s.pwr.supply || (s.wport p).state ≠ .parked then .next s
  else if s.wakeStates .link then .next ((s.raise 0x63).wakeBy 2)
  else .next (s.raise 0x63)

/-- The parked neighbour that a WAKE frame which came by a port is for: one for all, or for that device with a hop left (12 R379, R397). -/
def State.wakesParked (s : State) (p : Side) (f : Frame) : Bool :=
  let o := s.wport (other p)
  o.state = .parked && (f.dest = 0xFF || (decide (1 < frameHops f) && o.wasNext f.dest.toNat))

/-- WAKE_FRAME (12 R373, R397): a parked neighbour that a frame taken in order is for is woken by IDLE columns. -/
def execWakeFrame (p : Side) (f : Frame) (s : State) : Host.Outcome State Fault Refusal :=
  if s.linkOn p && f.typ = tWAKE then
    let t := s.receive p f (fun s => (s.raise 0x63).wakeBy 2)
    .next (if (s.inOrder p f).1 && s.wakesParked p f then t.modWport (other p) (fun q => { q with idleSent := q.idleSent + 1 }) else t)
  else .next s

/-! ### Power-on, pin reset, supplies, clocks -/

/-- POWER_ON (13 R413): the straps, RST_N and the rails as the sequencer finds them. -/
def execPowerOn (mbSync cascMaster rstN railsOk : Bool) (s : State) : Host.Outcome State Fault Refusal :=
  let s := { s with pwr := { s.pwr with railWait := !railsOk, pinHeld := !rstN, cascMaster := cascMaster }
                    mirror := { s.mirror with sync := mbSync } }
  .next (s.coldReset true false).senseOnce

/-- A pin reset begins (13 R415, R419). -/
def State.pinReset (s : State) : State := s.coldReset false false

/-- RST_N_ASSERT (13 R415). -/
def execRstNAssert (s : State) : Host.Outcome State Fault Refusal :=
  if !s.pwr.supply then .next s
  else .next ({ s with pwr := { s.pwr with pinHeld := true } }).pinReset

/-- RST_N_RELEASE (13 R415). -/
def execRstNRelease (s : State) : Host.Outcome State Fault Refusal :=
  if s.pwr.supply && s.pwr.pinHeld then .next ({ s with pwr := { s.pwr with pinHeld := false } }).senseOnce else .next s

/-- SWITCHED_RAILS_IN_RANGE (16 R462, R465). -/
def execSwitchedRailsInRange (s : State) : Host.Outcome State Fault Refusal :=
  if s.pwr.supply && s.pwr.railWait then .next ({ s with pwr := { s.pwr with railWait := false } }).senseOnce else .next s

/-- SUPPLY_MONITOR_TRIP (16 R465). -/
def execSupplyMonitorTrip (rail : Rail) (s : State) : Host.Outcome State Fault Refusal :=
  if !s.pwr.supply then .next s
  else
    match rail with
    | .vppOtp low => .next { s with otp := { s.otp with vppOk := !low } }
    | .switched =>
      if s.pwr.corePwrEn then .next ({ s with pwr := { s.pwr with railWait := true } }).pinReset else .next s
    | _ =>
      let s := (s.otpAbort).coldReset true false
      .next { s with pwr := { s.pwr with supply := false, waking := false, corePwrEn := false } }

/-- XTAL_QUALIFIED (13 R410). -/
def execXtalQualified (s : State) : Host.Outcome State Fault Refusal :=
  if s.pwr.supply then .next { s with pwr := { s.pwr with xtalOk := true } } else .next s

/-- Bit of CLK_STAT.LOSS (13 R421). -/
def Pll.lossBit : Pll → Nat
  | .system => 0
  | .memory => 1
  | .pcie => 2
  | .link => 3

/-- A PLL has lost lock (13 R412). -/
def State.pllLost (s : State) (pll : Pll) : State :=
  let s := ({ s with pwr := { s.pwr with lockLoss := setBit s.pwr.lockLoss (Pll.lossBit pll) true
                                         pllLock := setBit s.pwr.pllLock (Pll.lossBit pll) false } }).count 102
  match pll with
  | .system | .memory => s.warmReset 6
  | .pcie => if s.host.linkUp then s.pcieDown else s
  | .link => s.portsDown

/-- PLL_LOCK_LOSS (13 R412). -/
def execPllLockLoss (pll : Pll) (s : State) : Host.Outcome State Fault Refusal :=
  if s.inRunIdle then .next ((if s.shot 102 then s.shotTaken else s).pllLost pll) else .next s

/-! ### Uncorrectable words -/

/-- The action on an uncorrectable word (10 R323). -/
def State.bankAction (s : State) (b : Nat) (r : BankRegion) : State :=
  if b = 12 then s.warmReset 5
  else if b = 16 then s.wipeCaddy.reloadCaddy
  else
    match r with
    | .fifo _ _ | .slotBuffer _ _ | .posted _ _ _ | .nozzleMap _ _ | .masks => s.lineBankAction b r
    | .working => if b ≤ 11 then s.resetBlocks (BitVec.ofNat 17 (2 ^ b)) else if b = 13 || b = 14 then s.resetBlocks (BitVec.ofNat 17 (2 ^ (b - 1))) else s
    | .stripe p i => s.spoilStripe p.val i
    | .thresholdRing p i => s.spoilRing p.val i
    | .statistics p k => s.modPort p.val (fun q => { q with stats := q.stats.filter (fun x => x.frame ≠ k) })
    | .other => s

/-- The port whose stripe buffer a region belongs to. -/
def regionPort : BankRegion → Option Nat
  | .stripe p _ | .thresholdRing p _ => some p.val
  | _ => none

/-! ### DMA reads -/

/-- What the errors of a DMA source on the device leave of the bytes read, and their counters: 8 zero bytes for an uncorrectable word of the store (10
R333); words of a bank corrected and their windows tested again (10 R322); an uncorrectable word of a bank counted, its row repaired and its action taken,
and what DMA reads of it its stored bits, which are free (10 R323). -/
def State.dmaErrors (s : State) (a : BitVec 64) (e : DmaData) (b : Bytes) : Bytes × State :=
  match dmaSpace a with
  | 1 => (zeroWords (dmaOffset a) e.bad b, (s.countN 84 e.corrected.length).countN 85 e.bad.length)
  | 2 =>
    let k := dmaBank a
    let d := s.draw
    let s := if e.bad = [] then s else d.2
    let s := e.corrected.foldl (fun s i => s.bankCorrected k ((dmaOffset a + 8 * i) / 64)) s
    let s := e.bad.zipIdx.foldl (fun s (i : Nat × Nat) =>
      let g := e.regions.getD i.2 .other
      ((s.count 81).repairRow k ((dmaOffset a + 8 * i.1) / 1024) (regionPort g)).bankAction k g) s
    (b.zipIdx.map (fun (x : Byte × Nat) => if e.bad.contains ((dmaOffset a % 8 + x.2) / 8) then BitVec.ofNat 8 (d.1 / 256 ^ x.2) else x.1), s)
  | _ => (b, s)

/-- A transfer's last byte is written: LIVE 0, the completion source, a start held (10 R341); a transfer that the action on an uncorrectable word has ended
with the DMA controller stays ended (10 R323). -/
def State.dmaFinish (s : State) (k : Nat) (r : DmaRun) (b : Bytes) : State :=
  if (s.dma k).run.isNone then s
  else ((((s.dmaWrite r.dst (r.deliver b)).modDma k (fun c => { c with run := none, live := 0 })).raise k)).dmaNext k

/-- DMA_COMPLETE (10 R341): what a host source reads as, or the errors of a source on the device (10 R322, R323, R333). -/
def execDmaComplete (k : Fin 16) (e : DmaData) (s : State) : Host.Outcome State Fault Refusal :=
  match (s.dma k).run with
  | none => .next s
  | some r =>
    if !s.inRun || (dmaSpace r.src = 0 && decide (e.hostData.length < r.count)) then .next s
    -- detector 9: the next completion is a Completer Abort (15 R452)
    else if dmaSpace r.src = 0 && s.shot 9 then
      .next (((((s.shotTaken.hostReadError .abort).count 9).modDma k (fun c => { c with run := none }))).dmaNext k)
    else
      let d := if dmaSpace r.src = 0 then (e.hostData.take r.count, s) else s.dmaSource r
      let d := d.2.dmaErrors r.src e d.1
      .next (d.2.dmaFinish k r d.1)

/-! ### The background test -/

/-- BACKGROUND_TEST_WINDOW (10 R322-R327). -/
def execBackgroundTestWindow (bank : Fin 17) (r : TestResult) (s : State) : Host.Outcome State Fault Refusal :=
  let b := bank.val
  if !s.inRunIdle || !(s.bank b).test then .next s
  else
    let t := (s.bank b).takeWindow b
    let s := s.modBank b (fun _ => t.2)
    -- detector 80: the next read of the inspection bank finds a single-bit error (15 R452)
    let d := if b = 15 then s.detect 80 (r = .corrected) else (r = .corrected, s)
    let s := if d.1 then d.2.bankCorrected b t.1 else d.2
    match r with
    | .uncorrectable g => .next (((s.count 81).repairRow b (windowRow t.1) (regionPort g)).bankAction b g)
    | .failingCell g => .next (s.repairRow b (windowRow t.1) (regionPort g))
    | _ => .next s

end Sys2Proof.Machine
end

