-- ==== Sys2Proof/Machine/Inject.lean ====
section
/-! DEFINITION. Fault injection: arming, releasing, and the shots that act without waiting for a check (15 R451-R456). -/
namespace Sys2Proof.Machine

/-- The detectors of the table (15 R452). -/
def detectorOk (k : Nat) : Bool :=
  k ≤ 10 || (16 ≤ k && k ≤ 25) || (32 ≤ k && k ≤ 37) || (48 ≤ k && k ≤ 52) || (64 ≤ k && k ≤ 69) || (80 ≤ k && k ≤ 85) ||
    (96 ≤ k && k ≤ 103) || (112 ≤ k && k ≤ 116)

/-- Injection is forbidden outright (15 R453, 11 R363). -/
def State.injForbidden (s : State) : Bool := !s.otp.wires.inject || s.otp.wires.lifecycle = 4

/-- A shot of detector 24 (15 R452): count and SUBST entry. -/
def State.shotOverflow (s : State) : State :=
  match s.lowestJob (fun x => x.active) with
  | none => s
  | some slot =>
    match s.jobAt slot with
    | none => s
    | some j =>
      let n := j.firstCh
      let c := s.chan n
      (s.shotTaken.count 24).addEntry slot
        { type := 3, cause := nzSource (c.entry 0), channel := n, flags := 0, line := c.following c.nextPack, count := s.nozzleAddress n 0, data := 3 }

/-- A shot of detector 116 (15 R452). -/
def State.shotAlign (s : State) : State :=
  if s.isMaster then s.shotTaken.count 116
  else if s.link.aligned then ({ s.shotTaken with link := { s.link with aligned := false } }).count 116
  else s

/-- The released shot acts if its detector waits for no check of another rule (15 R452); the others act where their check is made. -/
def State.actNow (s : State) : State :=
  match s.inj.released with
  | none => s
  | some k =>
    if !s.inRunIdle then s
    else
      match k with
      | 3 => s.shotTaken.count 3
      | 6 => if s.host.linkUp then s.shotTaken.recovered else s
      | 7 => if s.host.linkUp then s.shotTaken.pcieDown else s
      | 24 => s.shotOverflow
      | 65 =>
        match (List.range 48).find? (fun n => (s.chan n).riseSince.isSome) with
        | some n => ((s.shotTaken.setApplied n (s.targetLevel n)).raise 0x3A).count 65
        | none => s
      | 68 =>
        match (List.finRange 48).find? (fun n => (s.chan n.val).attached && !(s.headSensor n.val).suspect) with
        | some n => s.shotTaken.markSuspect (.head n)
        | none => s
      | 69 =>
        match (List.finRange 6).find? (fun i => !(s.dieSensor i.val).suspect) with
        | some i => s.shotTaken.markSuspect (.die i)
        | none => s
      | 82 => s.shotTaken.count 82
      | 83 => s.shotTaken.count 83
      | 101 => s.shotTaken.tamperActs
      | 102 => s.shotTaken.pllLost .system
      | 103 => s.shotTaken.count 103
      | 114 =>
        match s.lowestUp with
        | some p => s.shotTaken.portDown p
        | none => s
      | 115 => s.shotTaken.count 115
      | 116 => s.shotAlign
      | _ => s

/-- One armed shot released (15 R454). -/
def State.releaseShot (s : State) (k : Nat) : State :=
  { s with inj := { s.inj with shots := s.inj.shots - 1, released := some k } }

/-- The status of INJECT for a detector (15 R454). -/
def State.injectStatus (s : State) (k : Nat) : BitVec 16 :=
  if s.injForbidden then stREFUSED_LIFECYCLE
  else if s.otp.wires.lifecycle = 2 && !s.firingStill then stBAD_STATE
  else if s.inj.armed ≠ some k || s.inj.shots = 0 then stBAD_STATE
  else if s.inj.released.isSome then stBUSY
  else stOK

/-- INJECT_ARM (02 R75, 15 R453). -/
def State.opInjectArm (s : State) (p : Packet) (src : Source) (_seq : Nat) : State :=
  let k := p.u 0 1
  if s.injForbidden then s.say p src stREFUSED_LIFECYCLE
  else if s.otp.wires.lifecycle = 2 && !s.firingStill then s.say p src stBAD_STATE
  else if !detectorOk k || p.u 1 1 = 0 || !zeros p.params 2 2 then s.say p src stBAD_PARAM
  else ({ s with inj := { armed := some k, shots := p.u 1 1, refused := s.inj.refused } }).say p src stOK

/-- INJECT (15 R454). -/
def State.opInject (s : State) (p : Packet) (src : Source) (_seq : Nat) : State :=
  let k := p.u 0 1
  let st := s.injectStatus k
  if st ≠ stOK then s.say p src st
  else if !zeros p.params 1 3 then s.say p src stBAD_PARAM
  else ((s.releaseShot k).say p src stOK).actNow

/-- A write of INJ_GO (15 R451, R454). -/
def State.injGoWrite (s : State) (v : Nat) : State :=
  if bits v 31 16 ≠ 0x494A then s
  else
    let k := v % 128
    if s.injectStatus k ≠ stOK then { s with inj := { s.inj with refused := true } }
    else (s.releaseShot k).actNow

/-- INJ_STAT (15 R451, R456; log entry 29). -/
def Injection.stat (i : Injection) : Nat :=
  let shown := match i.armed with | some k => k | none => i.released.getD 0
  b2n (i.armed.isSome && (i.shots ≠ 0 || i.released.isSome)) * 2 ^ 31 + b2n i.released.isSome * 2 ^ 30 + b2n i.refused * 2 ^ 29 +
    shown % 128 * 2 ^ 16 + i.taken % 256 * 2 ^ 8 + i.shots % 256

end Sys2Proof.Machine
end

