-- ==== Sys2Proof/Machine/MirrorMap.lean ====
section
/-! DEFINITION. Register words that several ports show; the mirror word map and its updates (14 R441-R444). -/
namespace Sys2Proof.Machine

/-! ### Words that several ports show -/

/-- ID_DEVICE (14 R431). -/
def State.idDevice (s : State) : Nat :=
  s.otp.wires.lifecycle * 256 + b2n s.isMaster * 16 + b2n s.link.id.isSome * 8 + (match s.link.id with | some i => i.val | none => 0)

/-- KETTLE_LOAD as shown (02 R52, R82). -/
def PacketEngine.loadShown (p : PacketEngine) : Nat := if p.stalled then 0xFF else p.load.toNat

/-- RING_STAT bits [6:0] (02 R52). -/
def PacketEngine.flags (p : PacketEngine) : Nat :=
  b2n p.stalled * 64 + b2n p.immBusy * 32 + b2n p.immLost * 16 + b2n p.evtLost * 8 + b2n p.rplLost * 4 + b2n p.idxErr * 2 + b2n p.cfgErr

/-- RING_STAT (02 R52). -/
def PacketEngine.ringStat (p : PacketEngine) : Nat := p.queue.length * 2 ^ 24 + p.loadShown * 2 ^ 16 + p.flags

/-- A 4-bit code with bit i from a test. -/
def bitsOf (n : Nat) (p : Nat → Bool) : Nat := (List.range n).foldl (fun (m : Nat) (i : Nat) => m + b2n (p i) * 2 ^ i) 0

/-- OTP_WEAK: regions that hold a weak word (02 R76). -/
def Otp.weakRegions (o : Otp) : Nat := bitsOf 8 (fun r => o.weak.any (fun a => a / 256 = r))

/-- OTP_CRIT (11 R353). -/
def Wires.crit (w : Wires) : Nat :=
  w.gCap * 2 ^ 16 + b2n w.bar4 * 512 + b2n w.inject * 256 + b2n w.debugLock * 128 + b2n w.compat * 64 + b2n w.master * 32 + w.critSrc * 8 + w.lifecycle

/-- WL_STAT (12 R398). -/
def State.wlStat (s : State) : Nat :=
  s.link.west.state.code * 2 ^ 18 + s.link.east.state.code * 2 ^ 16 + s.ringDevices * 2 ^ 12 + b2n s.link.posOk * 256 +
    b2n s.isAligned * 128 + b2n s.link.closed * 64 + b2n s.link.conflict * 32 + b2n s.isMaster * 16 +
    b2n s.link.id.isSome * 8 + (match s.link.id with | some i => i.val | none => 0)

/-- WL_POSAGE in 0.1 µs (12 R398). -/
def State.posAge (s : State) : Nat :=
  match s.link.posAt with
  | some t => min 0xFFFF ((s.clock - t) / 40)
  | none => 0xFFFF

/-- Bits 0-47 of the heads and 48-53 of the die sensors that satisfy a test (14 R444). -/
def State.sensorBits (s : State) (p : SensorState → Bool) : Nat :=
  bitsOf 48 (fun n => p (s.headSensor n)) + bitsOf 6 (fun i => p (s.dieSensor i)) * 2 ^ 48

/-- The device is in the Cosy sub-state (09 R311). -/
def State.inCosy (s : State) : Bool := (match s.pwr.state with | .run => true | _ => false) && (List.range 48).any (fun n => (s.chan n).cosy)

/-- A number as 16-bit two's complement. -/
def u16 (n : Int) : Nat := (n % 65536).toNat

/-! ### The map -/

/-- Words of a value put into the SRAM, low word first (14 R441). -/
def mirrorPut (m : List (Nat × BitVec 16)) (a n v : Nat) : List (Nat × BitVec 16) :=
  (List.range n).foldl (fun (m : List (Nat × BitVec 16)) (i : Nat) => sput 0 m (a + i) (BitVec.ofNat 16 (v / 65536 ^ i))) m

/-- The clocks of the blocks outside AON have stopped (13 R399). -/
def State.frozen (s : State) : Bool := match s.pwr.state with | .sleep | .off => true | _ => false

/-- INTERLOCK_IN (14 R444): an input is asserted from its assertion on, and reads deasserted once its class is released; when it deasserts before that no
command tells, so between the two its level is a free value (DESIGN CHOICE, log entry 16). -/
def State.interlockIn (s : State) : BitVec 13 :=
  BitVec.ofNat 13 ((List.range 13).foldl (fun m i =>
    if s.ilk.inputs.getLsbD i && (s.clock ≤ vget s.ilk.inputAt i 0 || Config.inputHeld i (vget s.ilk.inputAt i 0) s.clock) then m + 2 ^ i else m) 0)

/-- The AON words: address, width in words, value (14 R444); TRIP is separate. -/
def State.aonWords (s : State) : List (Nat × Nat × Nat) :=
  [(0x004, 1, s.pwr.state.code + b2n s.inCosy * 8 + b2n s.frozen * 16 + b2n s.pwr.waking * 32),
   (0x006, 2, s.pwr.wakeCause.toNat), (0x008, 4, s.aonTimebase.toNat), (0x010, 1, s.interlockIn.toNat),
   (0x018, 4, s.sensorBits (fun y => y.latched)), (0x0C9, 1, s.otp.tamperSeen.toNat)] ++
  (List.range 128).map (fun i => (0x100 + i, 1, (vget s.tc.val i 0).toNat)) ++
  [(0x180, 4, s.tc.sat.toNat % 2 ^ 64), (0x184, 4, s.tc.sat.toNat / 2 ^ 64)]

/-- TRIP (14 R444). -/
def State.tripWord (s : State) : Nat :=
  s.ilk.trips.toNat + s.link.ringTrips.toNat * 16 + b2n s.link.poslost * 256 + b2n (!s.gateOpen) * 512

/-- The four words of a job slot (14 R444). -/
def State.jobWords (s : State) (k : Nat) : List (Nat × Nat × Nat) :=
  let a := 0x080 + 4 * k
  match s.jobAt k with
  | some j => [(a, 1, j.id.toNat), (a + 1, 1, j.state.code), (a + 2, 2, s.lowestLine j)]
  | none => [(a, 1, 0), (a + 1, 1, 7), (a + 2, 2, 0)]

/-- The words that are not kept current in SLEEP and OFF (14 R444). -/
def State.coreWords (s : State) : List (Nat × Nat × Nat) :=
  [(0x000, 1, 1), (0x001, 1, 0x4816), (0x002, 1, 0x00B1), (0x003, 1, s.idDevice),
   (0x005, 1, s.pe.loadShown + b2n s.pe.stalled * 256 + s.pe.queue.length * 512), (0x011, 1, s.tripWord), (0x012, 2, s.wlStat),
   (0x014, 4, bitsOf 48 (fun n => (s.chan n).hold)), (0x01C, 4, s.sensorBits (fun y => y.warning)),
   (0x020, 4, s.sensorBits (fun y => y.suspect)), (0x024, 4, bitsOf 48 (fun n => (s.chan n).attached))] ++
  (List.range 12).map (fun k => (0x028 + k, 1, (List.range 4).foldl (fun (m : Nat) (i : Nat) =>
    m + (if s.shutdownLatched (4 * k + i) then 15 else (s.chan (4 * k + i)).applied) * 16 ^ i) 0)) ++
  [(0x034, 1, s.dieLevel)] ++
  (List.range 48).map (fun n => (0x040 + n, 1, if (s.chan n).attached then u16 (s.headSensor n).shown else 0x8000)) ++
  (List.range 6).map (fun i => (0x070 + i, 1, u16 (s.dieSensor i).shown)) ++
  (List.range 4).flatMap s.jobWords ++
  (List.range 8).map (fun n => let a := s.axis n; (0x090 + n, 1, a.state.code + a.fault * 16 + b2n a.configured * 128)) ++
  (List.range 8).map (fun n => (0x0A0 + 4 * n, 4, (i64 (s.axis n).pos).toNat)) ++
  [(0x0C0, 1, s.pe.cmd.head), (0x0C1, 1, s.pe.rpl.tail), (0x0C2, 1, s.pe.evt.tail), (0x0C3, 1, s.pe.flags),
   (0x0C8, 1, s.otp.regionOk.toNat + s.otp.weakRegions * 256), (0x0CA, 2, s.otp.wires.crit),
   (0x0CC, 2, (BitVec.ofInt 32 s.link.offset).toNat), (0x0CE, 1, s.posAge)]

/-- Values put into the SRAM. -/
def State.mirrorWrite (s : State) (vs : List (Nat × Nat × Nat)) : State :=
  { s with mirror := { s.mirror with sram := vs.foldl (fun (m : List (Nat × BitVec 16)) (x : Nat × Nat × Nat) => mirrorPut m x.1 x.2.1 x.2.2) s.mirror.sram } }

/-- The words updated from their sources (14 R441): all in RUN and IDLE, the AON words in SLEEP and OFF. -/
def State.refresh (s : State) : State :=
  if !s.pwr.supply then s
  else if s.inRunIdle then (s.mirrorWrite s.aonWords).mirrorWrite s.coreWords
  else
    let old := sget 0 s.mirror.sram 0x011
    let trip := old.toNat / 16 * 16 + s.ilk.trips.toNat
    (s.mirrorWrite s.aonWords).mirrorWrite [(0x011, 1, trip)]

/-- MIRROR_REFRESH (14 R441). -/
def execMirrorRefresh (s : State) : Host.Outcome State Fault Refusal := .next s.refresh

/-- The whole map written from one clock's samples, and SNAP_TB (14 R443). -/
def State.mirrorSnap (s : State) : State := s.refresh.mirrorWrite [(0x00C, 4, s.timebase.toNat)]

/-- The values wider than a word: address of the low word and width (14 R444). -/
def wideValues : List (Nat × Nat) :=
  [(0x006, 2), (0x008, 4), (0x00C, 4), (0x012, 2), (0x014, 4), (0x018, 4), (0x01C, 4), (0x020, 4), (0x024, 4), (0x0CA, 2), (0x0CC, 2), (0x180, 4), (0x184, 4)] ++
  (List.range 4).map (fun k => (0x082 + 4 * k, 2)) ++ (List.range 8).map (fun n => (0x0A0 + 4 * n, 4))

/-- The value that has a word among its words but its low word first. -/
def valueAt (a : Nat) : Option (Nat × Nat) := wideValues.find? (fun (x : Nat × Nat) => decide (x.1 ≤ a) && decide (a < x.1 + x.2))

end Sys2Proof.Machine
end

