-- ==== Sys2Proof/Machine/Opcodes.lean ====
section
/-! DEFINITION. The packet engine's checks, the opcode table, routing to another device, Kettle's queue, and the command-packet rows (02 R45-R82). -/
namespace Sys2Proof.Machine

/-! ### Opcodes of the system -/

/-- PING (02 R76). -/
def State.opPing (s : State) (p : Packet) (src : Source) (_seq : Nat) : State := s.answer p src stOK p.params

/-- GET_INFO (02 R76). -/
def State.opGetInfo (s : State) (p : Packet) (src : Source) (_seq : Nat) : State :=
  let w := s.otp.wires
  s.answer p src stOK
    (toLe 4 0x4816 ++ toLe 1 0xB1 ++ toLe 1 s.deviceId ++ toLe 1 (b2n w.master) ++ toLe 1 w.lifecycle ++ toLe 4 Config.romVersion.toNat ++
     toLe 4 s.otp.patch.toNat ++ toLe 1 s.otp.regionOk.toNat ++ toLe 1 s.otp.weakRegions ++
     toLe 1 (b2n w.bar4 + 2 * b2n w.compat + 4 * b2n w.debugLock + 8 * b2n w.inject) ++ [0] ++
     toLe 8 (bitsOf 48 (fun n => (s.chan n).attached)) ++ toLe 8 s.storeBytes)

/-- COUNTERS_READ (02 R76, 15 R449). -/
def State.opCountersRead (s : State) (p : Packet) (src : Source) (_seq : Nat) : State :=
  let first := p.u 0 1
  let n := p.u 1 1
  if 127 < first || n = 0 || 128 < first + n || !zeros p.params 2 2 then s.say p src stBAD_PARAM
  else
    s.answer p src stOK (p.params.take 4 ++ toLe 16 s.tc.sat.toNat ++
      (List.range n).flatMap (fun i => toLe 2 (vget s.tc.val (first + i) 0).toNat) ++ pad (2 * (n % 2)))

/-- COUNTERS_CLEAR (02 R71, 15 R450). -/
def State.opCountersClear (s : State) (p : Packet) (src : Source) (_seq : Nat) : State :=
  (s.clearCounters (BitVec.ofNat 128 (p.u 0 16))).say p src stOK

/-! ### Hardware-handled opcodes (02 R77) -/

/-- A channel mask that CHANNELS gives. -/
def Packet.channels (p : Packet) : ChMask := BitVec.ofNat 64 (p.u 0 8)

/-- FIRE_HOLD latches set or cleared on the channels of a mask. -/
def State.setHolds (s : State) (m : ChMask) (on : Bool) : State :=
  (maskChans m).foldl (fun s n => s.modChan n (fun c => { c with hold := on })) s

/-- FIRE_HOLD (02 R77, R78): a survey on one of the channels stops (06 R226). -/
def State.opFireHold (s : State) (p : Packet) (src : Source) (_seq : Nat) : State :=
  if !channelsOk (p.u 0 8) then s.reply false p src stBAD_PARAM []
  else
    let s := (s.setHolds p.channels true).endSurveyIf (fun r => r.channels &&& p.channels ≠ 0) 1
    s.reply false p src stOK (toLe 8 s.timebase.toNat)

/-- FIRE_RELEASE (02 R77, R78). -/
def State.opFireRelease (s : State) (p : Packet) (src : Source) (_seq : Nat) : State :=
  if !channelsOk (p.u 0 8) then s.reply false p src stBAD_PARAM []
  else
    let s := (s.setHolds p.channels false).injMoment
    s.reply false p src stOK (toLe 8 s.timebase.toNat)

/-- E_STOP (02 R77, 03 R114). -/
def State.opEStop (s : State) (p : Packet) (src : Source) (_seq : Nat) : State := (s.trip 8).reply false p src stOK []

/-- MIRROR_SNAP (14 R443). -/
def State.opMirrorSnap (s : State) (p : Packet) (src : Source) (_seq : Nat) : State :=
  s.mirrorSnap.reply false p src stOK (toLe 8 s.timebase.toNat)

/-! ### The opcode table -/

/-- The opcodes (02 R70). -/
def opcodes : List Nat :=
  [0x0100, 0x0101, 0x0110, 0x0120, 0x0200, 0x0201, 0x0210, 0x0220, 0x0230, 0x0300, 0x0301, 0x0302, 0x0303, 0x0304, 0x0305, 0x0310] ++
  [0x0400, 0x0401, 0x0402, 0x0403, 0x0404, 0x0405, 0x0406, 0x0407, 0x0500, 0x0501, 0x0502, 0x0503, 0x0504, 0x0600, 0x0601, 0x0602, 0x0603] ++
  [0x0700, 0x0701, 0x0702, 0x0800, 0x0801, 0x0900, 0x0901, 0x0910, 0x0911, 0x0A00, 0x0A01, 0x0B00, 0x0B01, 0xF000, 0xF001, 0xF002, 0xF003]

/-- LENGTH is the one that the opcode's layout requires, where it requires one (02 R71, R477). -/
def lengthOk (op : Nat) (n : Nat) (b : Bytes) : Bool :=
  match op with
  | 0x0100 => true
  | 0x0101 => n = 0
  | 0x0110 => n = 8
  | 0x0120 => n = 4
  | 0x0200 => n = 12
  | 0x0201 => n = 16
  | 0x0210 => n = 76
  | 0x0220 => n = 40
  | 0x0230 => n = 12
  | 0x0300 => n = 32
  | 0x0301 => n = 28
  | 0x0302 => n = 12
  | 0x0303 => n = 8
  | 0x0304 => n = 8
  | 0x0305 => n = 4
  | 0x0310 => n = 28
  | 0x0400 => n = 20
  | 0x0401 => n = 20
  | 0x0402 => n = 12
  | 0x0403 => n = 4
  | 0x0404 => n = 4
  | 0x0405 => n = 24
  | 0x0406 => n = 16
  | 0x0407 => n = 4
  | 0x0500 => n = 48
  | 0x0501 => n = 20
  | 0x0502 => n = 8
  | 0x0503 => n = 44
  | 0x0504 => n = 1124
  | 0x0600 => n = 8
  | 0x0601 => n = 8
  | 0x0602 =>
    let k := le b 4 2
    decide (8 ≤ n) && (k < 8 || 2048 < k || k % 8 ≠ 0 || n = 8 + k / 2)
  | 0x0603 =>
    let k := le b 0 1
    decide (4 ≤ n) && (if k = 0 then decide (n = 588) else if k = 1 then decide (n = 420) else true)
  | 0x0700 => n = 12
  | 0x0701 => n = 0
  | 0x0702 => n = 8
  | 0x0800 => n = 4
  | 0x0801 => n = 8
  | 0x0900 => n = 4
  | 0x0901 => n = 16
  | 0x0910 => n = 4
  | 0x0911 => n = 4
  | 0x0A00 => n = 0
  | 0x0A01 => n = 0
  | 0x0B00 => n = 8
  | 0x0B01 => n = 4
  | 0xF000 => n = 8
  | 0xF001 => n = 8
  | 0xF002 => n = 0
  | 0xF003 => n = 0
  | _ => false

/-- The opcode is hardware-handled (02 R70, R77). -/
def Packet.hardware (p : Packet) : Bool :=
  decide (0xF000 ≤ p.opcode.toNat) || (p.opcode = 0x0310 && !p.ordered)

/-- Opcodes of Kettle that run in SCRAPPED (11 R363). -/
def scrappedOk (op : Nat) : Bool := op = 0x0100 || op = 0x0101 || op = 0x0900 || op = 0x0A00 || op = 0x0A01

/-- The packet engine executes a hardware-handled opcode. -/
def State.runHardware (s : State) (p : Packet) (src : Source) (seq : Nat) : State :=
  match p.opcode.toNat with
  | 0xF000 => s.opFireHold p src seq
  | 0xF001 => s.opFireRelease p src seq
  | 0xF002 => s.opEStop p src seq
  | 0xF003 => s.opMirrorSnap p src seq
  | _ => s.opTilePost p src seq

/-- Kettle executes an opcode (02 R70, 11 R363). -/
def State.runKettle (s : State) (p : Packet) (src : Source) (seq : Nat) : State :=
  let op := p.opcode.toNat
  if s.otp.wires.lifecycle = 4 && !scrappedOk op then s.say p src stREFUSED_LIFECYCLE
  else
    match op with
    | 0x0100 => s.opPing p src seq
    | 0x0101 => s.opGetInfo p src seq
    | 0x0110 => s.opSetPower p src seq
    | 0x0120 => s.opBlockReset p src seq
    | 0x0200 => s.opHeadAttach p src seq
    | 0x0201 => s.opHeadConfig p src seq
    | 0x0210 => s.opBrewLoad p src seq
    | 0x0220 => s.opRotationLoad p src seq
    | 0x0230 => s.opCosySet p src seq
    | 0x0300 => s.opJobOpen p src seq
    | 0x0301 => s.opLayerDefine p src seq
    | 0x0302 => s.opJobStart p src seq
    | 0x0303 => s.opJobStop p src seq
    | 0x0304 => s.opJobResume p src seq
    | 0x0305 => s.opJobClose p src seq
    | 0x0310 => (s.opTilePost p src seq).landHeld
    | 0x0400 => s.opAxisConfig p src seq
    | 0x0401 => s.opMoveAbs p src seq
    | 0x0402 => s.opMoveVel p src seq
    | 0x0403 => s.opAxisStop p src seq
    | 0x0404 => s.opAxisResume p src seq
    | 0x0405 => s.opHome p src seq
    | 0x0406 => s.opKinematicsSet p src seq
    | 0x0407 => s.opAxisStatus p src seq
    | 0x0500 => s.opCamConfig p src seq
    | 0x0501 => s.opCamExpose p src seq
    | 0x0502 => s.opStatsRead p src seq
    | 0x0503 => s.opOutputConfig p src seq
    | 0x0504 => s.opContextLoad p src seq
    | 0x0600 => s.opSurveyStart p src seq
    | 0x0601 => s.opNozzleMapRead p src seq
    | 0x0602 => s.opNozzleMapWrite p src seq
    | 0x0603 => s.opStrainerConfig p src seq
    | 0x0700 => s.opThermalConfig p src seq
    | 0x0701 => s.opThermalStatus p src seq
    | 0x0702 => s.opShutdownRelease p src seq
    | 0x0800 => s.opMemtestConfig p src seq
    | 0x0801 => s.opStoreConfig p src seq
    | 0x0900 => s.opCountersRead p src seq
    | 0x0901 => s.opCountersClear p src seq
    | 0x0910 => s.opInjectArm p src seq
    | 0x0911 => s.opInject p src seq
    | 0x0A00 => s.opRingStatus p src seq
    | 0x0A01 => s.opRingMap p src seq
    | 0x0B00 => s.opLifecycleAdvance p src seq
    | 0x0B01 => s.opTamperConfig p src seq
    | _ => s.say p src stBAD_OPCODE

/-! ### Kettle's queue (02 R63-R66, R79-R82) -/

/-- Two packets come in one sequence: the ring, the immediate slot, or the packets relayed from one ORIGIN (02 R65, 12 R390). -/
def sameSequence : Source → Source → Bool
  | .ring, .ring => true
  | .imm, .imm => true
  | .relay a _, .relay b _ => a = b
  | _, _ => false

/-- An ORDERED packet waits for an earlier packet whose final reply is still to come (02 R65). -/
def State.mustWait (s : State) (q : QPacket) : Bool :=
  q.pkt.ordered &&
    (s.pe.ops.any (fun (o : PendOp) => sameSequence o.src q.src && decide (o.seq < q.seq)) ||
     s.tiles.any (fun (t : Tile) => !t.done && sameSequence t.src q.src && decide (t.seq < q.seq)) ||
     (s.link.relayed ++ s.link.awaiting).any (fun (r : Relayed) => sameSequence r.src q.src && decide (r.seq < q.seq)))

/-- Kettle can take a packet: it runs, is not stalled, has no NOZZLE_MAP_WRITE to finish (02 R64, R70), and waits for no reply slot (02 R79, R80, 13 R413, R416). -/
def State.kettleFree (s : State) : Bool :=
  s.inRun && s.pwr.entering.isNone && !s.pe.stalled && !s.pe.romFail && !s.pe.rebooting && s.pe.kettleWait = [] &&
    !s.pe.ops.any (fun o => match o.kind with | .mapWrite _ _ _ => true | _ => false)

/-- Kettle takes and executes the packet at the head of its queue (02 R63). -/
def State.kettleTake (s : State) : State :=
  match s.pe.queue with
  | [] => s
  | q :: rest =>
    if !s.kettleFree || s.mustWait q then s
    else ({ s with pe := { s.pe with queue := rest, takeFrom := s.clock } }).runKettle q.pkt q.src q.seq

/-- A Kettle-bound packet queued, or answered BUSY (02 R63, R80, R82). -/
def State.enqueue (s : State) (p : Packet) (src : Source) (seq : Nat) : State :=
  if s.pe.stalled || s.pe.romFail || 64 ≤ s.pe.queue.length then s.reply false p src stBUSY []
  else
    let from_ := if s.pe.queue = [] then s.clock else s.pe.takeFrom
    { s with pe := { s.pe with queue := s.pe.queue ++ [{ pkt := p, src := src, seq := seq }], takeFrom := from_ } }

/-- A packet handed to the agent that executes it (02 R70). -/
def State.dispatch (s : State) (p : Packet) (src : Source) (seq : Nat) : State :=
  if p.hardware then s.runHardware p src seq else s.enqueue p src seq

/-! ### Routing (02 R67, 12 R377, R378, R390-R392) -/

/-- TARGET and BROADCAST agree and no reserved FLAGS bit is set (02 R48). -/
def Packet.headerOk (p : Packet) : Bool :=
  decide (p.flags.toNat < 8) && (p.broadcast == (p.target = 0xFF)) && (p.target = 0xFF || decide (p.target.toNat < 8))

/-- The packet executes here: it is relayed to this device, broadcast, or names this device (12 R377). -/
def State.isLocal (s : State) (p : Packet) (src : Source) : Bool :=
  (match src with | .relay _ _ => true | _ => false) || p.target = 0xFF || p.target.toNat = s.deviceId

/-- The packet goes to other devices. -/
def State.isRemote (s : State) (p : Packet) (src : Source) : Bool :=
  (match src with | .relay _ _ => false | _ => true) && s.link.id.isSome && p.target.toNat ≠ s.deviceId

/-- TARGET cannot be reached (12 R377, R378). -/
def State.unreachable (s : State) (p : Packet) : Bool :=
  s.link.id.isNone || (s.routeTo p.target.toNat).isNone || (s.link.conflict && !p.hardware && p.target ≠ 0)

/-- The tile read here for a tile that another device posts (12 R392). -/
def State.originTile (s : State) (p : Packet) (k : BitVec 16) (seq : Nat) : State :=
  let t : Tile :=
    { id := seq, job := BitVec.ofNat 16 (p.u 0 2), layer := p.u 2 1, source := 3, addr := p.u 4 8, line := p.u 16 4, ch := p.u 20 1, nozzle := p.u 22 2
      width := p.u 24 2, height := p.u 26 2, rowsDone := 0, landed := [], lateCounted := false, orphan := false, forceLate := false, done := false
      pkt := p, src := .relay (BitVec.ofNat 8 s.deviceId) k, seq := seq }
  if p.opcode ≠ 0x0310 || p.u 3 1 ≠ 0 || t.bytes = 0 then s
  else if s.host.bme then { s with tiles := s.tiles ++ [t] }
  else s.failRead [t] (fun _ => 0)

/-- A packet relayed to another device, or to all (12 R390, R392; log entry 30). -/
def State.relayOut (s : State) (p : Packet) (src : Source) (seq : Nat) : State :=
  let k := s.takePktId
  let s := k.2.sendPkt p.target.toNat 0 k.1 (packetBytes p)
  let s := if p.target = 0xFF then s
    else { s with link := { s.link with relayed := s.link.relayed ++ [{ pktId := k.1, pkt := p, src := src, seq := seq, since := s.clock }] } }
  s.originTile p k.1 seq

/-- A checked packet executed here, relayed, or both. -/
def State.route (s : State) (p : Packet) (src : Source) : State :=
  let seq := s.pe.seq
  let s := { s with pe := { s.pe with seq := seq + 1 } }
  let s := if s.isRemote p src then s.relayOut p src seq else s
  if s.isLocal p src then s.dispatch p src seq else s

/-- The status of checks 2 to 6, none when all pass (02 R56). -/
def State.packetCheck (s : State) (p : Packet) (src : Source) : Option (BitVec 16) :=
  if p.length % 4 ≠ 0 || 4080 < p.length then some stBAD_LENGTH
  else if !opcodes.contains p.opcode.toNat then some stBAD_OPCODE
  else if !p.headerOk then some stBAD_PARAM
  else if !s.isLocal p src && s.unreachable p then some stTARGET_UNREACHABLE
  else if !lengthOk p.opcode.toNat p.length p.params then some stBAD_LENGTH
  else none

/-- A packet whose CRC matches: checks 2 to 6, then its way (02 R56). -/
def State.handlePacket (s : State) (p : Packet) (src : Source) : State :=
  match s.packetCheck p src with
  | some st => s.reply false p src st []
  | none => s.route p src

/-! ### The rows of command packets (log entry 2) -/

/-- A packet of the command ring, whole and with a good CRC; Kettle takes it at once where nothing is ahead of it (02 R63). -/
def State.packetRow (s : State) (op : BitVec 16) (c : Cmd) : State :=
  if !s.inRun || s.pwr.entering.isSome then s
  else
    let p : Packet := { opcode := op, flags := c.flags, target := c.target, tag := c.tag, length := c.params.length, params := c.params }
    -- detector 0: the first read of its CRC mismatches, the second is taken as read (15 R452)
    let s := if s.shot 0 then s.shotTaken.count 0 else s
    let t := s.handlePacket p .ring
    if s.pe.queue = [] then t.kettleTake else t

/-- PING (02 R70). -/
def execPing (c : Cmd) (s : State) : Host.Outcome State Fault Refusal := .next (s.packetRow 0x0100 c)

/-- GET_INFO (02 R70). -/
def execGetInfo (c : Cmd) (s : State) : Host.Outcome State Fault Refusal := .next (s.packetRow 0x0101 c)

/-- SET_POWER (13 R401). -/
def execSetPower (c : Cmd) (s : State) : Host.Outcome State Fault Refusal := .next (s.packetRow 0x0110 c)

/-- BLOCK_RESET (13 R417). -/
def execBlockReset (c : Cmd) (s : State) : Host.Outcome State Fault Refusal := .next (s.packetRow 0x0120 c)

/-- HEAD_ATTACH (03 R106). -/
def execHeadAttach (c : Cmd) (s : State) : Host.Outcome State Fault Refusal := .next (s.packetRow 0x0200 c)

/-- HEAD_CONFIG (03 R109). -/
def execHeadConfig (c : Cmd) (s : State) : Host.Outcome State Fault Refusal := .next (s.packetRow 0x0201 c)

/-- BREW_LOAD (04 R131-R133). -/
def execBrewLoad (c : Cmd) (s : State) : Host.Outcome State Fault Refusal := .next (s.packetRow 0x0210 c)

/-- ROTATION_LOAD (03 R94, R95). -/
def execRotationLoad (c : Cmd) (s : State) : Host.Outcome State Fault Refusal := .next (s.packetRow 0x0220 c)

/-- COSY_SET (09 R311). -/
def execCosySet (c : Cmd) (s : State) : Host.Outcome State Fault Refusal := .next (s.packetRow 0x0230 c)

/-- JOB_OPEN (02 R73). -/
def execJobOpen (c : Cmd) (s : State) : Host.Outcome State Fault Refusal := .next (s.packetRow 0x0300 c)

/-- LAYER_DEFINE (05 R165). -/
def execLayerDefine (c : Cmd) (s : State) : Host.Outcome State Fault Refusal := .next (s.packetRow 0x0301 c)

/-- JOB_START (05 R190). -/
def execJobStart (c : StartCmd) (s : State) : Host.Outcome State Fault Refusal :=
  let t := ({ s with mem := { s.mem with startReads := some { failed := c.badReads.val, corrected := c.corrected } } }).packetRow 0x0302 c.toCmd
  .next { t with mem := { t.mem with startReads := none } }

/-- JOB_STOP (05 R191). -/
def execJobStop (c : Cmd) (s : State) : Host.Outcome State Fault Refusal := .next (s.packetRow 0x0303 c)

/-- JOB_RESUME (05 R192). -/
def execJobResume (c : Cmd) (s : State) : Host.Outcome State Fault Refusal := .next (s.packetRow 0x0304 c)

/-- JOB_CLOSE (05 R189). -/
def execJobClose (c : Cmd) (s : State) : Host.Outcome State Fault Refusal := .next (s.packetRow 0x0305 c)

/-- TILE_POST (05 R169-R175). -/
def execTilePost (c : Cmd) (s : State) : Host.Outcome State Fault Refusal := .next (s.packetRow 0x0310 c)

/-- AXIS_CONFIG (07 R238). -/
def execAxisConfig (c : Cmd) (s : State) : Host.Outcome State Fault Refusal := .next (s.packetRow 0x0400 c)

/-- MOVE_ABS (07 R241). -/
def execMoveAbs (c : Cmd) (s : State) : Host.Outcome State Fault Refusal := .next (s.packetRow 0x0401 c)

/-- MOVE_VEL (07 R242). -/
def execMoveVel (c : Cmd) (s : State) : Host.Outcome State Fault Refusal := .next (s.packetRow 0x0402 c)

/-- AXIS_STOP (07 R247). -/
def execAxisStop (c : Cmd) (s : State) : Host.Outcome State Fault Refusal := .next (s.packetRow 0x0403 c)

/-- AXIS_RESUME (07 R248). -/
def execAxisResume (c : Cmd) (s : State) : Host.Outcome State Fault Refusal := .next (s.packetRow 0x0404 c)

/-- HOME (07 R252). -/
def execHome (c : Cmd) (s : State) : Host.Outcome State Fault Refusal := .next (s.packetRow 0x0405 c)

/-- KINEMATICS_SET (07 R246). -/
def execKinematicsSet (c : Cmd) (s : State) : Host.Outcome State Fault Refusal := .next (s.packetRow 0x0406 c)

/-- AXIS_STATUS (02 R76). -/
def execAxisStatus (c : Cmd) (s : State) : Host.Outcome State Fault Refusal := .next (s.packetRow 0x0407 c)

/-- CAM_CONFIG (08 R262). -/
def execCamConfig (c : Cmd) (s : State) : Host.Outcome State Fault Refusal := .next (s.packetRow 0x0500 c)

/-- CAM_EXPOSE (08 R271). -/
def execCamExpose (c : Cmd) (s : State) : Host.Outcome State Fault Refusal := .next (s.packetRow 0x0501 c)

/-- STATS_READ (08 R287). -/
def execStatsRead (c : StatsCmd) (s : State) : Host.Outcome State Fault Refusal :=
  let t := ({ s with mem := { s.mem with statsReads := some c.errors } }).packetRow 0x0502 c.toCmd
  .next { t with mem := { t.mem with statsReads := none } }

/-- OUTPUT_CONFIG (08 R288). -/
def execOutputConfig (c : Cmd) (s : State) : Host.Outcome State Fault Refusal := .next (s.packetRow 0x0503 c)

/-- CONTEXT_LOAD (08 R276). -/
def execContextLoad (c : Cmd) (s : State) : Host.Outcome State Fault Refusal := .next (s.packetRow 0x0504 c)

/-- SURVEY_START (06 R218). -/
def execSurveyStart (c : Cmd) (s : State) : Host.Outcome State Fault Refusal := .next (s.packetRow 0x0600 c)

/-- NOZZLE_MAP_READ (06 R209). -/
def execNozzleMapRead (c : Cmd) (s : State) : Host.Outcome State Fault Refusal := .next (s.packetRow 0x0601 c)

/-- NOZZLE_MAP_WRITE (06 R210). -/
def execNozzleMapWrite (c : Cmd) (s : State) : Host.Outcome State Fault Refusal := .next (s.packetRow 0x0602 c)

/-- STRAINER_CONFIG (06 R216, R227). -/
def execStrainerConfig (c : Cmd) (s : State) : Host.Outcome State Fault Refusal := .next (s.packetRow 0x0603 c)

/-- THERMAL_CONFIG (02 R74). -/
def execThermalConfig (c : Cmd) (s : State) : Host.Outcome State Fault Refusal := .next (s.packetRow 0x0700 c)

/-- THERMAL_STATUS (02 R76). -/
def execThermalStatus (c : Cmd) (s : State) : Host.Outcome State Fault Refusal := .next (s.packetRow 0x0701 c)

/-- SHUTDOWN_RELEASE (09 R305). -/
def execShutdownRelease (c : Cmd) (s : State) : Host.Outcome State Fault Refusal := .next (s.packetRow 0x0702 c)

/-- MEMTEST_CONFIG (10 R324). -/
def execMemtestConfig (c : Cmd) (s : State) : Host.Outcome State Fault Refusal := .next (s.packetRow 0x0800 c)

/-- STORE_CONFIG (10 R331). -/
def execStoreConfig (c : Cmd) (s : State) : Host.Outcome State Fault Refusal := .next (s.packetRow 0x0801 c)

/-- COUNTERS_READ (15 R449). -/
def execCountersRead (c : Cmd) (s : State) : Host.Outcome State Fault Refusal := .next (s.packetRow 0x0900 c)

/-- COUNTERS_CLEAR (15 R450). -/
def execCountersClear (c : Cmd) (s : State) : Host.Outcome State Fault Refusal := .next (s.packetRow 0x0901 c)

/-- INJECT_ARM (15 R453). -/
def execInjectArm (c : Cmd) (s : State) : Host.Outcome State Fault Refusal := .next (s.packetRow 0x0910 c)

/-- INJECT (15 R454). -/
def execInject (c : Cmd) (s : State) : Host.Outcome State Fault Refusal := .next (s.packetRow 0x0911 c)

/-- RING_STATUS (02 R76). -/
def execRingStatus (c : Cmd) (s : State) : Host.Outcome State Fault Refusal := .next (s.packetRow 0x0A00 c)

/-- RING_MAP (02 R76). -/
def execRingMap (c : Cmd) (s : State) : Host.Outcome State Fault Refusal := .next (s.packetRow 0x0A01 c)

/-- LIFECYCLE_ADVANCE (11 R364). -/
def execLifecycleAdvance (c : Cmd) (s : State) : Host.Outcome State Fault Refusal := .next (s.packetRow 0x0B00 c)

/-- TAMPER_CONFIG (11 R365). -/
def execTamperConfig (c : Cmd) (s : State) : Host.Outcome State Fault Refusal := .next (s.packetRow 0x0B01 c)

/-- FIRE_HOLD (02 R77). -/
def execFireHold (c : Cmd) (s : State) : Host.Outcome State Fault Refusal := .next (s.packetRow 0xF000 c)

/-- FIRE_RELEASE (02 R77). -/
def execFireRelease (c : Cmd) (s : State) : Host.Outcome State Fault Refusal := .next (s.packetRow 0xF001 c)

/-- E_STOP (03 R114). -/
def execEStop (c : Cmd) (s : State) : Host.Outcome State Fault Refusal := .next (s.packetRow 0xF002 c)

/-- MIRROR_SNAP (14 R443). -/
def execMirrorSnap (c : Cmd) (s : State) : Host.Outcome State Fault Refusal := .next (s.packetRow 0xF003 c)

end Sys2Proof.Machine
end

