-- ==== Sys2Proof/Machine/PacketEngine.lean ====
section
/-! DEFINITION. The rings, the immediate slot, the fetch of the command ring, Kettle's stall and load (02 R50-R57, R79-R82, R479). -/
namespace Sys2Proof.Machine

/-! ### Reading packets -/

/-- A command packet as its bytes read: header, then its parameters as far as they are there; a LENGTH above 4,080 takes the 4,080 bytes after the header (02 R45, R47). -/
def packetOf (b : Bytes) : Packet :=
  let n := le b 6 2
  { opcode := BitVec.ofNat 16 (le b 0 2), flags := BitVec.ofNat 8 (le b 2 1), target := BitVec.ofNat 8 (le b 3 1), tag := BitVec.ofNat 16 (le b 4 2)
    length := n, params := (b.drop 16).take (min n 4080) }

/-- Slots that a packet's header gives it (02 R47). -/
def extentOf (b : Bytes) : Nat := slotsOf (min (le b 6 2) 4080)

/-- The CRC matches, over a packet whose bytes are all there (02 R45-R47). -/
def crcOk (b : Bytes) : Bool :=
  let n := min (le b 6 2) 4080
  decide (16 + n ≤ b.length) && le b 12 4 = (crc32c (b.take 12 ++ [0, 0, 0, 0] ++ (b.drop 16).take n)).toNat

/-! ### The command ring -/

/-- CMD_HEAD moved to a slot. -/
def State.setCmdHead (s : State) (i : Nat) : State := { s with pe := { s.pe with cmd := { s.pe.cmd with head := i % s.pe.cmd.slots } } }

/-- A packet that fails both reads: every slot to CMD_TAIL discarded, one CHECK_FAIL (02 R57). -/
def State.discardRing (s : State) (b : Bytes) : State :=
  let p := packetOf b
  let first := s.pe.cmd.head
  let n := s.pe.cmd.used
  let s := ({ s with pe := { s.pe with fetch := none } }).setCmdHead s.pe.cmd.tail
  s.reply false { p with flags := p.flags ||| 1 } .ring stCHECK_FAIL (toLe 2 first ++ toLe 2 n)

/-- Whole packets of the bytes fetched are passed on, CMD_HEAD past each; the rest of the bytes, none after a packet that fails (02 R54, R57).
`second` holds the second reads; a packet read a second time counts with the LENGTH, OPCODE and TAG of that read (DESIGN CHOICE, log entry 2). -/
def State.takePackets : Nat → State → Bytes → Bytes → Option Bytes × State
  | 0, s, b, _ => (some b, s)
  | n + 1, s, b, second =>
    let m := 64 * extentOf b
    if b.length < 64 || b.length < m then (some b, s)
    else
      let whole := b.take m
      -- detector 0: the first CRC read mismatches (15 R452)
      let shot := s.shot 0
      let s := if shot then s.shotTaken else s
      if crcOk whole && !shot then
        State.takePackets n ((s.setCmdHead (s.pe.cmd.head + extentOf whole)).handlePacket (packetOf whole) .ring) (b.drop m) second
      else
        let again := if m ≤ second.length then second.take m else whole
        if crcOk again && extentOf again ≤ extentOf whole then
          let used := extentOf again
          State.takePackets n (((s.setCmdHead (s.pe.cmd.head + used)).count 0).handlePacket (packetOf again) .ring) (b.drop (64 * used)) (second.drop m)
        else (none, s.discardRing again)

/-- RING_READ_COMPLETION (02 R54): the next slots of the fetch, and what the second reads of failing packets bring (02 R57). -/
def execRingReadCompletion (data reread : Bytes) (s : State) : Host.Outcome State Fault Refusal :=
  match s.pe.fetch with
  | none => .next s
  | some f =>
    if !s.inRun || !s.host.bme then .next s
    else
      let left := (f.stop + s.pe.cmd.slots - f.next) % s.pe.cmd.slots
      let n := min left (data.length / 64)
      if n = 0 then .next s
      else
        let r := State.takePackets (n + f.buf.length / 64) s (f.buf ++ data.take (64 * n)) reread
        match r.1, r.2.pe.fetch with
        | some rest, some _ =>
          if n = left then
            let s := { r.2 with pe := { r.2.pe with fetch := none } }
            .next (if s.pe.cmd.tail = f.stop then s else s.startFetch)
          else .next { r.2 with pe := { r.2.pe with fetch := some { f with next := (f.next + n) % s.pe.cmd.slots, buf := rest } } }
        | _, _ => .next r.2

/-- RING_READ_ERROR (02 R479): what is whole is kept, the error is reported; the next doorbell reads again. -/
def execRingReadError (e : ReadError) (s : State) : Host.Outcome State Fault Refusal :=
  if s.pe.fetch.isNone || !s.inRun || readOff e s.host.ctl.timeoutOff then .next s
  else .next ({ s with pe := { s.pe with fetch := none } }.hostReadError e)

/-- A write of CMD_TAIL (02 R52, R54). -/
def State.writeCmdTail (s : State) (v : Nat) : State :=
  let i := v % 4096
  if s.pe.cmd.slots ≤ i then s.setIdxErr
  else ({ s with pe := { s.pe with cmd := { s.pe.cmd with tail := i } } }).startFetch

/-- A write of RPL_HEAD (02 R50, R52). -/
def State.writeRplHead (s : State) (v : Nat) : State :=
  let i := v % 4096
  if s.pe.rpl.slots ≤ i then s.setIdxErr
  else ({ s with pe := { s.pe with rpl := { s.pe.rpl with head := i } } }).drain

/-- A write of EVT_HEAD (02 R50, R52, R62). -/
def State.writeEvtHead (s : State) (v : Nat) : State :=
  let i := v % 4096
  if s.pe.evt.slots ≤ i then s.setIdxErr
  else ({ s with pe := { s.pe with evt := { s.pe.evt with head := i } } }).eventsLost

/-- The enable bit of a ring written (02 R53). -/
def Ring.enable (r : Ring) (on : Bool) : Ring := if on && !r.en then { r with en := true, head := 0, tail := 0 } else { r with en := on }

/-- A write of RING_CTL (02 R52, R53).  DESIGN CHOICE (log entry 33): a fetch under way when CMD_EN changes is dropped with the bytes read, which no rule
states. -/
def State.writeRingCtl (s : State) (v : Nat) : State :=
  let s := if bit v 8 then s.ringReset else s
  let fetch := if s.pe.cmd.en = bit v 0 then s.pe.fetch else none
  let s := { s with pe := { s.pe with cmd := s.pe.cmd.enable (bit v 0), rpl := s.pe.rpl.enable (bit v 1), evt := s.pe.evt.enable (bit v 2), fetch := fetch } }
  s.drain.eventsLost

/-- RING_CTL as it reads (02 R52). -/
def PacketEngine.ctl (p : PacketEngine) : Nat := b2n p.cmd.en + 2 * b2n p.rpl.en + 4 * b2n p.evt.en

/-- A write of a BASE or SIZE register while its ring is enabled is ignored (02 R53). -/
def State.writeRingReg (s : State) (r : Ring) (set : Ring → State) (off v : Nat) : State :=
  if r.en then s.setCfgErr
  else
    match off with
    | 0 => set { r with base := join64 (w32 (v / 4096 * 4096)) (hiWord r.base) }
    | 4 => set { r with base := join64 (loWord r.base) (w32 v) }
    | _ => if 8 ≤ v % 16 && v % 16 ≤ 12 then set { r with log2 := v % 16 } else s.setCfgErr

/-! ### The immediate slot -/

/-- GO: the packet engine takes the packet of IMM_SLOT (02 R52, R55). -/
def State.writeImmGo (s : State) : State :=
  if s.pe.immBusy then s.setImmLost
  else
    let b := s.pe.immSlot.toList.flatMap (fun (w : Word) => toLe 4 w.toNat)
    let p := packetOf b
    if 48 < p.length then s.reply false p .imm stBAD_LENGTH []
    else if crcOk b then s.handlePacket p .imm
    else s.reply false { p with flags := p.flags ||| 1 } .imm stCHECK_FAIL (toLe 2 0xFFFF ++ toLe 2 0)

/-- A write of IMM_DOORBELL: without GO it only reports that it met a busy slot (02 R52). -/
def State.writeImmDoorbell (s : State) (v : Nat) : State :=
  if bit v 0 then s.writeImmGo else if s.pe.immBusy then s.setImmLost else s

/-- A word of IMM_SLOT written (02 R52). -/
def State.writeImmSlot (s : State) (i : Nat) (v : Word) : State :=
  if s.pe.immBusy then s.setImmLost else { s with pe := { s.pe with immSlot := vset s.pe.immSlot i v } }

/-! ### Kettle -/

/-- KETTLE_TAKE_PACKET (02 R63). -/
def execKettleTakePacket (s : State) : Host.Outcome State Fault Refusal := .next s.kettleTake

/-- KETTLE_STALL (02 R79): 5 ms without a take, the time of an ORDERED wait apart; the packets are answered, then the queue is emptied, so the
QDEPTH of those replies counts them (log entry 2). -/
def execKettleStall (s : State) : Host.Outcome State Fault Refusal :=
  match s.pe.queue with
  | [] => .next s
  | q :: _ =>
    if !s.inRun || s.pe.stalled || s.mustWait q || decide (s.clock < s.pe.takeFrom + 5 * tickMs) then .next s
    else
      let all := s.pe.queue
      let s := all.foldl (fun s (x : QPacket) => s.reply false x.pkt x.src stBUSY []) s
      let s := { s with pe := { s.pe with queue := [] }, link := { s.link with heldData := [] } }
      let s := s.deviceEvent 1 all.length
      .next { s with pe := { s.pe with stalled := true, stallSince := s.clock } }

/-- KETTLE_RECOVER (02 R81). -/
def execKettleRecover (s : State) : Host.Outcome State Fault Refusal :=
  if s.inRun && !s.pe.rebooting && !s.pe.romFail then .next s.kettleRecovers else .next s

/-- KETTLE_LOAD_UPDATE (02 R82). -/
def execKettleLoadUpdate (percent : Fin 101) (s : State) : Host.Outcome State Fault Refusal :=
  if s.inRun then .next { s with pe := { s.pe with load := BitVec.ofNat 8 percent.val } } else .next s

end Sys2Proof.Machine
end

