-- ==== Sys2Proof/Machine/HostRegs.lean ====
section
/-! DEFINITION. The registers of BAR0 and BAR2: what each reads and what a write of each does (14 R424-R432, 02 R52, 13 R421, 10 R336, 11 R353, 15 R451, 04 R139-R147, 09 R317, 01 R38, 12 R398). -/
namespace Sys2Proof.Machine

/-! ### Channel blocks (04 R139) -/

/-- SH_SEL or LIVE_SEL. -/
def ShadowSet.word (u : ShadowSet) : Nat := u.rot * 4096 + u.brewL * 256 + u.brewM * 16 + u.brewS

/-- A read of the channel block.  FIRE_STAT.LEVEL is the applied level, as 09 R300 says; 04 (after R155) calls it the level of the last period
prepared (DEDUCED, log entry 48). -/
def State.readChan (s : State) (n off : Nat) : Nat :=
  let c := s.chan n
  let offset := (i64 c.headOffset).toNat
  match off with
  | 0x00 => c.shadow.word
  | 0x04 => c.shadow.stitch
  | 0x08 => c.shLine
  | 0x0C => b2n c.atLate * 16 + b2n (c.armed.isSome || c.taken.isSome) * 8 + b2n c.collide * 4
  | 0x10 => c.live.word
  | 0x14 => c.live.stitch
  | 0x18 => c.handoverLine
  | 0x1C => b2n c.dry * 256 + c.posSrc
  | 0x20 => c.rateMax
  | 0x24 => (BitVec.ofInt 32 c.rowOffset).toNat
  | 0x28 => offset % 2 ^ 32
  | 0x2C => offset / 2 ^ 32
  | 0x30 => (if s.shutdownLatched n then 0xFF else c.applied) * 2 ^ 24 + c.sEff % 256 * 2 ^ 16 + c.gEff % 16 * 2 ^ 12 + (c.comp % 2048).toNat
  | 0x34 => c.lastLine
  | 0x38 => c.lastTrig.toNat % 2 ^ 32
  | 0x3C => c.lastTrig.toNat / 2 ^ 32
  | _ => 0

/-- A write into the shadow set of channel n (04 R145): in either clock of a hand-over it collides; detector 19 makes it collide with an armed hand-over (15 R452). -/
def State.writeShadow (s : State) (n : Nat) (set : ShadowSet → ShadowSet) : State :=
  let c := s.chan n
  let lands := match c.handoverClock with
    | some t => decide (t ≤ s.clock) && decide (s.clock ≤ t + 1)
    | none => false
  let put := fun (s : State) => s.modChan n (fun c => { c with
    shadow := set c.shadow, recent := some (s.clock, c.shadowBefore s.clock, c.writesAt s.clock + 1) })
  if s.shot 19 && c.armed.isSome && c.fixedSet.isNone then
    let s := (put s.shotTaken).modChan n (fun x => { x with fixedSet := some c.shadow, collide := true })
    (s.raise 0x1E).count 19
  else if lands then (put s).collides n
  else put s

/-- The channel belongs to a job that has started and not ended (04 R147; log entry 31). -/
def State.started (s : State) (n : Nat) : Bool :=
  match s.jobOf n with
  | some slot => (s.jobAt slot).any (fun j => match j.state with | .opened | .ended => false | _ => true)
  | none => false

/-- A write of SH_CTL: AT_LATE and COLLIDE cleared by 1, then COMMIT_AT or COMMIT (04 R142, R146, R147). -/
def State.writeShCtl (s : State) (n v : Nat) : State :=
  let s := s.modChan n (fun c => { c with atLate := c.atLate && !bit v 4, collide := c.collide && !bit v 2 })
  if bit v 1 then
    let c := s.chan n
    if s.started n && c.boundary.any (fun l => decide (c.shLine ≤ l)) then s.modChan n (fun c => { c.arm .next s.clock with atLate := true })
    else s.modChan n (fun c => c.arm (.line c.shLine) s.clock)
  else if bit v 0 then s.modChan n (fun c => c.arm (if s.started n then .next else .idle) s.clock)
  else s

/-- A fire configuration register written: ignored and counted while the channel belongs to an open job, or by a shot of detector 18 (04 R141, 15 R452). -/
def State.fireConfig (s : State) (n : Nat) (set : Chan → Chan) : State :=
  let d := s.detect 18 (s.jobOf n).isSome
  if d.1 then d.2.count 18 else d.2.modChan n set

/-- A write of CH_CFG: DRY always takes effect; POS_SRC where it changes (04 R122, R141). -/
def State.writeChCfg (s : State) (n v : Nat) : State :=
  let src := v % 16
  let s := s.modChan n (fun c => { c with dry := bit v 8 })
  let s := if src = (s.chan n).posSrc || 8 < src then s else s.fireConfig n (fun c => { c with posSrc := src })
  s.injMoment

/-- A write to the channel block. -/
def State.writeChan (s : State) (n off v : Nat) : State :=
  match off with
  | 0x00 => s.writeShadow n (fun u => { u with rot := bits v 13 12, brewL := bits v 10 8, brewM := bits v 6 4, brewS := bits v 2 0 })
  | 0x04 => s.writeShadow n (fun u => { u with stitch := v % 16 })
  | 0x08 => s.modChan n (fun c => { c with shLine := v })
  | 0x0C => s.writeShCtl n v
  | 0x1C => s.writeChCfg n v
  | 0x20 =>
    let r := v % 2 ^ 17
    s.fireConfig n (fun c => if 1 ≤ r && r ≤ 64000 then { c with rateMax := r } else c)
  | 0x24 => s.fireConfig n (fun c => { c with rowOffset := sext 32 v })
  | 0x28 => s.modChan n (fun c => { c with heldLo := some (w32 v) })
  | 0x2C =>
    let lo := match (s.chan n).heldLo with
      | some w => w
      | none => loWord (i64 (s.chan n).headOffset)
    let s := s.modChan n (fun c => { c with heldLo := none })
    s.fireConfig n (fun c => { c with headOffset := (join64 lo (w32 v)).toInt })
  | _ => s

/-! ### DMA channels (10 R336) -/

/-- A read of a DMA channel's registers. -/
def State.readDma (s : State) (k off : Nat) : Nat :=
  let c := s.dma k
  match off with
  | 0x00 => c.src.toNat % 2 ^ 32
  | 0x04 => c.src.toNat / 2 ^ 32
  | 0x08 => c.dst.toNat % 2 ^ 32
  | 0x0C => c.dst.toNat / 2 ^ 32
  | 0x10 => c.count.toNat
  | 0x14 => c.live
  | 0x18 => c.rate % 64 * 256 + b2n c.fill * 2
  | _ => 0

/-- A write of a DMA channel's registers. -/
def State.writeDma (s : State) (k off v : Nat) : State :=
  match off with
  | 0x00 => s.modDma k (fun c => { c with srcLo := some (w32 v) })
  | 0x04 => s.modDma k (fun c => { c with src := join64 (c.srcLo.getD (loWord c.src)) (w32 v), srcLo := none })
  | 0x08 => s.modDma k (fun c => { c with dstLo := some (w32 v) })
  | 0x0C => s.modDma k (fun c => { c with dst := join64 (c.dstLo.getD (loWord c.dst)) (w32 v), dstLo := none })
  | 0x10 => s.modDma k (fun c => { c with count := w32 v })
  | 0x18 =>
    let s := s.modDma k (fun c => { c with rate := bits v 13 8, fill := bit v 1 })
    if bit v 0 then s.dmaRequest k false else s
  | _ => s

/-! ### Power and clocks (13 R421) -/

/-- Milliseconds to the expiry of AON_TIMER. -/
def State.timerLeft (s : State) : Nat := s.pwr.aonTimer.toNat - (s.clock - s.pwr.aonTimerAt) / tickMs

/-- A write of PWR_CTL: a refused request changes nothing else (13 R401, R402). -/
def State.writePwrCtl (s : State) (v : Nat) : State :=
  let put := fun (s : State) => { s with pwr := { s.pwr with offAfter := BitVec.ofNat 16 (bits v 23 8) } }
  let tgt := match v % 8 with
    | 1 => some PowerState.sleep
    | 2 => some PowerState.idle
    | 4 => some PowerState.off
    | _ => none
  match tgt with
  | none => put s
  | some t => if (s.entryRefused t).isSome then s.powerRequest t else (put s).powerRequest t

/-- A read of the power, clock and reset registers. -/
def State.readPwr (s : State) (off : Nat) : Nat :=
  match off with
  | 0x100 => s.pwr.offAfter.toNat * 256
  | 0x104 => b2n s.pwr.refused * 256 + b2n s.inCosy * 16 + s.pwr.prev.toNat
  | 0x108 => s.pwr.wakeEn.toNat
  | 0x10C => s.pwr.wakeCause.toNat
  | 0x110 => s.timerLeft
  | 0x120 => s.pwr.lockLoss.toNat * 256 + bitsOf 4 (fun k => s.pwr.pllLock.getLsbD k) * 4 + b2n s.pwr.refOk * 2 + b2n s.pwr.xtalOk
  | 0x134 => s.pwr.rstCause.toNat
  | _ => 0

/-- A write of the power, clock and reset registers. -/
def State.writePwr (s : State) (off v : Nat) : State :=
  match off with
  | 0x100 => s.writePwrCtl v
  | 0x104 => { s with pwr := { s.pwr with refused := s.pwr.refused && !bit v 8 } }
  | 0x108 => { s with pwr := { s.pwr with wakeEn := (w32 v &&& 0xFFFF001C) ||| 3 } }
  | 0x10C => { s with pwr := { s.pwr with wakeCause := s.pwr.wakeCause &&& ~~~ w32 v } }
  | 0x110 => s.setAonTimer v
  | 0x120 => { s with pwr := { s.pwr with lockLoss := s.pwr.lockLoss &&& ~~~ (BitVec.ofNat 4 (bits v 11 8)) } }
  | 0x130 => if bits v 31 16 = 0x5752 && bit v 0 then s.warmReset 3 else s
  | 0x134 => { s with pwr := { s.pwr with rstCause := s.pwr.rstCause &&& ~~~ (BitVec.ofNat 9 v) } }
  | _ => s

/-! ### OTP (11 R353), thermal readback (09 R317), counters (15 R451) -/

/-- A read of the OTP registers. -/
def State.readOtp (s : State) (off : Nat) : Nat :=
  let o := s.otp
  match off with
  | 0x04 => o.addr.toNat
  | 0x08 => o.wdata.toNat
  | 0x0C => o.rdata.toNat
  | 0x10 => o.ecc.toNat * 2 ^ 16 + o.attempts % 16 * 2 ^ 12 + o.result % 16 * 2 ^ 8 + b2n o.weakBit * 16 + b2n s.tempOk * 8 + b2n o.vppOk * 4 +
      b2n (decide (o.key = 2)) * 2 + b2n s.otpBusy
  | 0x18 => (List.range 8).foldl (fun (m : Nat) (r : Nat) =>
      m + (b2n (s.otpLocked r) + 2 * b2n (s.otpPending r) + 4 * b2n (o.regionOk.getLsbD r) + 8 * b2n (o.weak.any (fun a => a / 256 = r))) * 16 ^ r) 0
  | 0x1C => o.wires.crit
  | 0x20 => b2n o.caddyHold * 16 + o.tamperSeen.toNat
  | _ => 0

/-- A write of the OTP registers. -/
def State.writeOtp (s : State) (off v : Nat) : State :=
  match off with
  | 0x00 => s.otpCmd (v % 8)
  | 0x04 => { s with otp := { s.otp with addr := BitVec.ofNat 11 v } }
  | 0x08 => { s with otp := { s.otp with wdata := w32 v } }
  | 0x14 => s.otpKeyWrite v
  | 0x20 => { s with otp := { s.otp with tamperSeen := s.otp.tamperSeen &&& ~~~ (BitVec.ofNat 4 v) } }
  | _ => s

/-- A read of the thermal readback registers. -/
def State.readThermal (s : State) (off : Nat) : Nat :=
  let w := s.otp.wires
  let latched := s.sensorBits (fun y => y.latched)
  let suspect := s.sensorBits (fun y => y.suspect)
  match off with
  | 0x00 => u16 w.headThrottle * 65536 + u16 w.headWarn
  | 0x04 => u16 w.headShutdown
  | 0x08 => u16 w.dieThrottle * 65536 + u16 w.dieWarn
  | 0x0C => u16 w.dieShutdown
  | 0x10 => w.boundSrc * 4 + b2n w.boundWeak * 2 + b2n w.compat
  | 0x18 => latched % 2 ^ 32
  | 0x1C => latched / 2 ^ 32
  | 0x20 => suspect % 2 ^ 32
  | 0x24 => suspect / 2 ^ 32
  | 0x70 => s.dieLevel * 16
  | 0x74 => b2n (s.therm.logWait ≠ []) * 256 + b2n (decide (64 ≤ s.logUsed)) * 128 + min 64 s.logUsed
  | _ =>
    if 0x40 ≤ off && off < 0x70 then
      (List.range 4).foldl (fun (m : Nat) (i : Nat) =>
        let n := off - 0x40 + i
        m + (if s.shutdownLatched n then 0xFF else s.targetLevel n * 16 + (s.chan n).applied) * 256 ^ i) 0
    else 0

/-- A read of the counter and injection registers. -/
def State.readTc (s : State) (off : Nat) : Nat :=
  if off < 0x100 then (vget s.tc.val (off / 2) 0).toNat + (vget s.tc.val (off / 2 + 1) 0).toNat * 65536
  else if 0x200 ≤ off && off < 0x210 then s.tc.sat.toNat / 2 ^ (8 * (off - 0x200)) % 2 ^ 32
  else if off = 0x300 then s.inj.stat
  else 0

/-- A write of the counter and injection registers. -/
def State.writeTc (s : State) (off v : Nat) : State :=
  if 0x210 ≤ off && off < 0x220 then s.clearCounters (BitVec.ofNat 128 (v * 2 ^ (8 * (off - 0x210))))
  else if off = 0x300 then { s with inj := { s.inj with refused := s.inj.refused && !bit v 29 } }
  else if off = 0x304 then s.injGoWrite v
  else s

/-! ### Event fabric (01 R38) -/

/-- A route register as it reads. -/
def Route.word (r : Route) (pend : Bool) : Nat := b2n r.en * 2 ^ 31 + b2n pend * 2 ^ 30 + r.line.toNat

/-- A route register written. -/
def routeOf (v : Nat) : Route := { en := bit v 31, line := BitVec.ofNat 6 v }

/-- A read of the event fabric registers. -/
def State.readFabric (s : State) (off : Nat) : Nat :=
  if off < 0x200 then (vget s.fab.src (off / 4) {}).word false
  else if 0x400 ≤ off && off < 0x600 then (vget s.fab.dst ((off - 0x400) / 4) {}).word (s.fab.pend.getLsbD ((off - 0x400) / 4))
  else if off = 0x800 then s.fab.latch.toNat % 2 ^ 32
  else if off = 0x804 then s.fab.latch.toNat / 2 ^ 32
  else 0

/-- The source identifiers of 01 R36; a route register of a reserved one holds what is written, and nothing pulses it. -/
def sourceId (k : Nat) : Bool :=
  k ≤ 0x1E || (0x20 ≤ k && k ≤ 0x26) || (0x28 ≤ k && k ≤ 0x65) || k = 0x70

/-- The software pulse on its way: queued under a number of its own for its line, 0x80 + LINE (01 R38). -/
def softSource (line : Nat) : Nat := 0x80 + line % 64

/-- A write of the event fabric registers. -/
def State.writeFabric (s : State) (off v : Nat) : State :=
  if off < 0x200 then { s with fab := { s.fab with src := vset s.fab.src (off / 4) (routeOf v) } }
  else if 0x400 ≤ off && off < 0x600 then
    { s with fab := { s.fab with dst := vset s.fab.dst ((off - 0x400) / 4) (routeOf v) } }
  else if off = 0x800 then { s with fab := { s.fab with latch := s.fab.latch &&& ~~~ (BitVec.ofNat 64 v) } }
  else if off = 0x804 then { s with fab := { s.fab with latch := s.fab.latch &&& ~~~ (BitVec.ofNat 64 (v * 2 ^ 32)) } }
  else if off = 0x810 then s.raise (softSource v)
  else s

/-! ### WizerLink (12 R398) -/

/-- WL_CTL as it reads. -/
def Link.ctl (l : Link) : Nat := l.posEnc * 16 + b2n l.posEn * 2 + b2n l.en

/-- A read of the WizerLink registers. -/
def State.readLink (s : State) (off : Nat) : Nat :=
  let hop := fun (p : Side) => match s.hopsTo p 0 with | some h => min h 15 | none => 15
  match off with
  | 0x00 => s.link.ctl
  | 0x04 => s.wlStat
  | 0x08 => bitsOf 8 (fun d => vget s.link.reports d 0 ≠ 0) * 256 + b2n s.link.poslost * 16 + s.link.ringTrips.toNat
  | 0x0C => (BitVec.ofInt 32 s.link.offset).toNat
  | 0x10 => b2n (match s.upstream with | .west => true | .east => false) * 256 + hop .west * 16 + hop .east
  | 0x14 => s.posAge
  | 0x18 => s.link.breaks.toNat
  | 0x1C => s.link.replays.toNat
  | _ => 0

/-- A write of WL_CTL. -/
def State.writeWlCtl (s : State) (v : Nat) : State :=
  let off := s.link.en && !bit v 0
  let s := { s with link := { s.link with en := bit v 0, posEn := bit v 1, posEnc := bits v 6 4 } }
  let s := if off then s.portsDown else s
  let s := if bit v 8 then s.ringResetWrite else s
  let s := if bit v 9 then s.retrain .east else s
  if bit v 10 then s.retrain .west else s

/-! ### Identity and host port (14 R431) -/

/-- A read of the identity and host-port registers. -/
def State.readId (s : State) (off : Nat) : Nat :=
  let h := s.host
  match off with
  | 0x00 => 0x4816
  | 0x04 => 0xB1
  | 0x08 => s.idDevice
  | 0x0C => Config.romVersion.toNat
  | 0x10 => s.otp.patch.toNat
  | 0x40 => b2n h.funcMask * 2 ^ 15 + b2n h.msixEn * 2 ^ 14 + b2n h.bme * 2 ^ 13 + h.dstate.toNat * 2 ^ 11 + h.width.toNat * 2 ^ 8 + h.speed.toNat
  | 0x44 => h.recov.toNat
  | 0x48 => h.err.toNat
  | 0x80 => h.bar4Win.toNat
  | 0xC0 => b2n s.mirror.sync * 2 ^ 16 + (match s.mirror.latch with | some (a, _) => 2 ^ 15 + a | none => 0)
  | _ => if 0x20 ≤ off && off < 0x30 then (if s.otp.regionOk.getLsbD 1 then (s.otpVal (otpAddr 1 ((off - 0x20) / 4))).toNat else 0) else 0

/-- A write of the identity and host-port registers. -/
def State.writeId (s : State) (off v : Nat) : State :=
  match off with
  | 0x48 => { s with host := { s.host with err := s.host.err &&& ~~~ (BitVec.ofNat 6 v) } }
  | 0x80 => { s with host := { s.host with bar4Win := BitVec.ofNat 6 v } }
  | _ => s

/-! ### BAR0 (02 R52, 14 R427) -/

/-- A read of a ring's registers. -/
def Ring.readReg (r : Ring) (off : Nat) : Nat :=
  match off with
  | 0 => (loWord r.base).toNat
  | 4 => (hiWord r.base).toNat
  | _ => r.log2

/-- A read of BAR0. -/
def State.readBar0 (s : State) (off : Nat) : Nat :=
  let e := s.pe
  match off with
  | 0x00 | 0x04 | 0x08 => e.cmd.readReg off
  | 0x0C => e.cmd.tail
  | 0x10 => e.cmd.head
  | 0x20 | 0x24 | 0x28 => e.rpl.readReg (off - 0x20)
  | 0x2C => e.rpl.tail
  | 0x30 => e.rpl.head
  | 0x40 | 0x44 | 0x48 => e.evt.readReg (off - 0x40)
  | 0x4C => e.evt.tail
  | 0x50 => e.evt.head
  | 0x60 => e.ctl
  | 0x64 => e.ringStat
  | 0x3000 => s.host.pba.toNat
  | _ =>
    if 0x100 ≤ off && off < 0x140 then (vget e.immSlot ((off - 0x100) / 4) 0).toNat
    else if 0x2000 ≤ off && off < 0x2200 then
      let m := s.msixEntry ((off - 0x2000) / 16)
      (match off % 16 with
        | 0 => m.addrLo.toNat
        | 4 => m.addrHi.toNat
        | 8 => m.data.toNat
        | _ => m.ctrl.toNat)
    else 0

/-- A write of an MSI-X table word; an entry unmasked sends what waits (14 R427, R428). -/
def State.writeMsix (s : State) (off : Nat) (v : Word) : State :=
  let k := (off - 0x2000) / 16
  let m := s.msixEntry k
  let m := match off % 16 with
    | 0 => { m with addrLo := v &&& ~~~ (3 : Word) }
    | 4 => { m with addrHi := v }
    | 8 => { m with data := v }
    | _ => { m with ctrl := v &&& 1 }
  ({ s with host := { s.host with msix := vset s.host.msix k m } }).flushVectors

/-- A write of RING_STAT (02 R52). -/
def State.writeRingStat (s : State) (v : Nat) : State :=
  { s with pe := { s.pe with immLost := s.pe.immLost && !bit v 4, evtLost := s.pe.evtLost && !bit v 3, rplLost := s.pe.rplLost && !bit v 2
                             idxErr := s.pe.idxErr && !bit v 1, cfgErr := s.pe.cfgErr && !bit v 0 } }

/-- A write of BAR0. -/
def State.writeBar0 (s : State) (off : Nat) (w : Word) : State :=
  let v := w.toNat
  match off with
  | 0x00 | 0x04 | 0x08 => s.writeRingReg s.pe.cmd (fun r => { s with pe := { s.pe with cmd := r } }) off v
  | 0x0C => s.writeCmdTail v
  | 0x20 | 0x24 | 0x28 => s.writeRingReg s.pe.rpl (fun r => { s with pe := { s.pe with rpl := r } }) (off - 0x20) v
  | 0x30 => s.writeRplHead v
  | 0x40 | 0x44 | 0x48 => s.writeRingReg s.pe.evt (fun r => { s with pe := { s.pe with evt := r } }) (off - 0x40) v
  | 0x50 => s.writeEvtHead v
  | 0x60 => s.writeRingCtl v
  | 0x64 => s.writeRingStat v
  | 0x140 => s.writeImmDoorbell v
  | _ =>
    if 0x100 ≤ off && off < 0x140 then s.writeImmSlot ((off - 0x100) / 4) w
    else if 0x2000 ≤ off && off < 0x2200 then s.writeMsix off w
    else s

/-! ### BAR2 (14 R429, R430) -/

/-- A read of BAR2. -/
def State.readBar2 (s : State) (off : Nat) : Nat :=
  if off < 0x100 then s.readId off
  else if off < 0x1000 then s.readPwr off
  else if off < 0x1400 then s.readDma ((off - 0x1000) / 0x40) (off % 0x40)
  else if 0x2000 ≤ off && off < 0x2100 then s.readOtp (off - 0x2000)
  else if 0x3000 ≤ off && off < 0x4000 then s.readTc (off - 0x3000)
  else if 0x4000 ≤ off && off < 0x7000 then s.readChan ((off - 0x4000) / 0x100) (off % 0x100)
  else if 0x8000 ≤ off && off < 0x8100 then s.readThermal (off - 0x8000)
  else if 0x9000 ≤ off && off < 0xA000 then s.readFabric (off - 0x9000)
  else if 0xA000 ≤ off && off < 0xB000 then s.readLink (off - 0xA000)
  else 0

/-- The register belongs to a block under reset, so a write is discarded (14 R430). -/
def State.underReset (s : State) (off : Nat) : Bool :=
  if 0x1000 ≤ off && off < 0x1400 then s.pe.rebooting || s.pwr.blockHeld.getLsbD 15
  else if 0x4000 ≤ off && off < 0x7000 then s.pe.rebooting || s.pwr.blockHeld.getLsbD ((off - 0x4000) / 0x400)
  else if 0xA000 ≤ off && off < 0xB000 then s.pwr.blockHeld.getLsbD 16
  else false

/-- A write of BAR2. -/
def State.writeBar2 (s : State) (off : Nat) (w : Word) : State :=
  let v := w.toNat
  if s.underReset off then s
  else if off < 0x100 then s.writeId off v
  else if off < 0x1000 then s.writePwr off v
  else if off < 0x1400 then s.writeDma ((off - 0x1000) / 0x40) (off % 0x40) v
  else if 0x2000 ≤ off && off < 0x2100 then s.writeOtp (off - 0x2000) v
  else if 0x3000 ≤ off && off < 0x4000 then s.writeTc (off - 0x3000) v
  else if 0x4000 ≤ off && off < 0x7000 then s.writeChan ((off - 0x4000) / 0x100) (off % 0x100) v
  else if 0x9000 ≤ off && off < 0xA000 then s.writeFabric (off - 0x9000) v
  else if off = 0xA000 then s.writeWlCtl v
  else s

/-- The _HI register of a _LO register that latches it (04 R140, 10 R336). -/
def hiOf (off : Nat) : Option Nat :=
  if 0x4000 ≤ off && off < 0x7000 && (off % 0x100 = 0x28 || off % 0x100 = 0x38) then some (off + 4)
  else if 0x1000 ≤ off && off < 0x1400 && (off % 0x40 = 0 || off % 0x40 = 8) then some (off + 4)
  else none

/-- A read of an aligned dword of BAR0 or BAR2: a _LO register latches its _HI register for the next read of it (04 R140, 14 R425). -/
def State.readAccess (s : State) (bar : Bar) (off : Nat) : State :=
  let off := off / 4 * 4
  let out := fun (s : State) (v : Nat) => { s with host := { s.host with readData := w32 v } }
  match bar with
  | .bar0 => out s (s.readBar0 off)
  | .bar2 =>
    match s.host.hiLatch.find? (fun (x : Nat × Word) => x.1 = off) with
    | some x => out { s with host := { s.host with hiLatch := s.host.hiLatch.filter (fun (y : Nat × Word) => y.1 ≠ off) } } x.2.toNat
    | none =>
      let v := s.readBar2 off
      match hiOf off with
      | some h =>
        out { s with host := { s.host with hiLatch := (h, w32 (s.readBar2 h)) :: s.host.hiLatch.filter (fun (y : Nat × Word) => y.1 ≠ h) } } v
      | none => out s v

/-- A write to BAR0 or BAR2: one with partial byte enables, or taken as such by detector 4, is discarded and counted (14 R425). -/
def State.writeAccess (s : State) (bar : Bar) (off : Nat) (v : Word) (be : BitVec 4) : State :=
  let off := off / 4 * 4
  let d := s.detect 4 (be ≠ 0xF)
  if d.1 then (d.2.setHpErr 5).count 4
  else
    match bar with
    | .bar0 => d.2.writeBar0 off v
    | .bar2 => d.2.writeBar2 off v

/-! ### BAR4 (14 R432, 10 R333-R335) -/

/-- Bytes written where their enables are set. -/
def State.putEnabled (s : State) : Nat → List (Option Byte) → State
  | _, [] => s
  | a, b :: r =>
    (match b with
      | some x => s.storePut a [x]
      | none => s).putEnabled (a + 1) r

/-- An access of the aperture: without the BAR4 wire there is none and the request is unsupported (14 R424, R433).  The errors are those of a read, or of
the read that a partial write makes (14 R425): each corrected word counts, and each uncorrectable one (10 R333). -/
def State.bar4 (s : State) (off : Nat) (write : Option (List (Option Byte))) (len : Nat) (e : Bar4Errors) : State :=
  let a := s.host.bar4Win.toNat * 2 ^ 28 + off
  let out := fun (s : State) (b : Bytes) (poison : Bool) => { s with host := { s.host with bar4Data := b, bar4Poisoned := poison } }
  if !s.otp.wires.bar4 || 2 ^ 28 ≤ off then s.reportAer .unsupportedRequest
  else
    match write with
    | some b =>
      if e.poisoned then (s.setHpErr 0).reportAer .poisoned
      else if s.storeBytes ≤ a then s.setHpErr 4
      else ((s.countN 84 e.corrected).countN 85 e.bad).putEnabled a (b.take (s.storeBytes - a))
    | none =>
      if s.storeBytes ≤ a then out (s.setHpErr 4) (pad len) false
      else
        let s := (s.countN 84 e.corrected).countN 85 e.bad
        if e.bad = 0 then out s (s.storeRead a len) false else out ((s.setHpErr 3).reportAer .poisonedSent) [] true

/-! ### Accesses of the host -/

/-- The access is carried out. -/
def State.perform (s : State) : HostAccess → State
  | .write bar off v be => s.writeAccess bar off v be
  | .read bar off => s.readAccess bar off
  | .bar4 off w len e => s.bar4 off w len e

/-- An access of the host: carried out in RUN; held in IDLE, SLEEP and on the way there, which wakes the device; none arrives in OFF (13 R404, R405, 14 R430). -/
def State.hostAccess (s : State) (a : HostAccess) : State :=
  if s.inRun && s.pwr.entering.isNone then s.perform a
  else if !s.pwr.supply || s.pwr.pinHeld || (match s.pwr.state with | .off => true | _ => false) then s
  else ({ s with host := { s.host with held := s.host.held ++ [a] } }).wakeBy 0

/-- A whole dword written. -/
def State.hostWriteReg (s : State) (bar : Bar) (off v : Nat) : State := s.hostAccess (.write bar off (w32 v) 0xF)

/-- BAR2 offset of a register of channel n. -/
def chanOff (n : Fin 48) (off : Nat) : Nat := 0x4000 + 0x100 * n.val + off

/-- REGISTER_WRITE (00 R10, 14 R425). -/
def execRegisterWrite (bar : Bar) (off : Nat) (v : Word) (be : BitVec 4) (s : State) : Host.Outcome State Fault Refusal := .next (s.hostAccess (.write bar off v be))

/-- LO_REGISTER_READ (04 R140). -/
def execLoRegisterRead (bar : Bar) (off : Nat) (s : State) : Host.Outcome State Fault Refusal := .next (s.hostAccess (.read bar off))

/-- BAR4_ACCESS (14 R432). -/
def execBar4Access (off : Nat) (write : Option (List (Option Byte))) (len : Nat) (e : Bar4Errors) (s : State) : Host.Outcome State Fault Refusal :=
  .next (s.hostAccess (.bar4 off write len e))

/-- MSIX_UNMASK (14 R428): bit 0 of a vector's control dword cleared by a write to BAR0, or the function mask or MSI-X Enable written in the configuration
space. -/
def execMsixUnmask (u : Unmask) (s : State) : Host.Outcome State Fault Refusal :=
  match u with
  | .vector v => .next (s.hostWriteReg .bar0 (0x200C + 16 * v.val) ((s.msixEntry v.val).ctrl &&& ~~~ (1 : Word)).toNat)
  | .function m => if s.inRunIdle then .next ({ s with host := { s.host with funcMask := m } }).flushVectors else .next s
  | .enable on => if s.inRunIdle then .next ({ s with host := { s.host with msixEn := on } }).flushVectors else .next s

/-- CMD_TAIL (02 R54). -/
def execCmdTail (v : Word) (s : State) : Host.Outcome State Fault Refusal := .next (s.hostWriteReg .bar0 0x0C v.toNat)

/-- IMM_DOORBELL (02 R55). -/
def execImmDoorbell (v : Word) (s : State) : Host.Outcome State Fault Refusal := .next (s.hostWriteReg .bar0 0x140 v.toNat)

/-- RPL_HEAD (02 R51). -/
def execRplHead (v : Word) (s : State) : Host.Outcome State Fault Refusal := .next (s.hostWriteReg .bar0 0x30 v.toNat)

/-- EVT_HEAD (02 R62). -/
def execEvtHead (v : Word) (s : State) : Host.Outcome State Fault Refusal := .next (s.hostWriteReg .bar0 0x50 v.toNat)

/-- RING_CTL_RESET (02 R53): RING_RESET with the enables written beside it. -/
def execRingCtlReset (enables : BitVec 3) (s : State) : Host.Outcome State Fault Refusal := .next (s.hostWriteReg .bar0 0x60 (256 + enables.toNat))

/-- RING_CTL with one enable bit changed. -/
def PacketEngine.ctlWith (p : PacketEngine) (k : Nat) (on : Bool) : Nat := p.ctl - b2n (bit p.ctl k) * 2 ^ k + b2n on * 2 ^ k

/-- CMD_EN (02 R53). -/
def execCmdEn (on : Bool) (s : State) : Host.Outcome State Fault Refusal := .next (s.hostWriteReg .bar0 0x60 (s.pe.ctlWith 0 on))

/-- RPL_EN (02 R53). -/
def execRplEn (on : Bool) (s : State) : Host.Outcome State Fault Refusal := .next (s.hostWriteReg .bar0 0x60 (s.pe.ctlWith 1 on))

/-- EVT_EN (02 R53). -/
def execEvtEn (on : Bool) (s : State) : Host.Outcome State Fault Refusal := .next (s.hostWriteReg .bar0 0x60 (s.pe.ctlWith 2 on))

/-- HEAD_OFFSET_HI_WRITE (04 R141). -/
def execHeadOffsetHiWrite (ch : Fin 48) (v : Word) (s : State) : Host.Outcome State Fault Refusal := .next (s.hostWriteReg .bar2 (chanOff ch 0x2C) v.toNat)

/-- FIRE_CONFIG_WRITE (04 R141): CH_CFG, RATE_MAX or ROW_OFFSET. -/
def execFireConfigWrite (ch : Fin 48) (off : Nat) (v : Word) (s : State) : Host.Outcome State Fault Refusal :=
  if off = 0x1C || off = 0x20 || off = 0x24 then .next (s.hostWriteReg .bar2 (chanOff ch off) v.toNat) else .next s

/-- SHADOW_WRITE (04 R145): SH_SEL or SH_STITCH. -/
def execShadowWrite (ch : Fin 48) (off : Nat) (v : Word) (s : State) : Host.Outcome State Fault Refusal :=
  if off = 0x00 || off = 0x04 then .next (s.hostWriteReg .bar2 (chanOff ch off) v.toNat) else .next s

/-- COMMIT (04 R142, R147). -/
def execCommit (ch : Fin 48) (s : State) : Host.Outcome State Fault Refusal := .next (s.hostWriteReg .bar2 (chanOff ch 0x0C) 1)

/-- COMMIT_AT (04 R146, R147). -/
def execCommitAt (ch : Fin 48) (s : State) : Host.Outcome State Fault Refusal := .next (s.hostWriteReg .bar2 (chanOff ch 0x0C) 2)

/-- EV_SOFT (01 R38). -/
def execEvSoft (line : BitVec 6) (s : State) : Host.Outcome State Fault Refusal := .next (s.hostWriteReg .bar2 0x9810 line.toNat)

/-- DMA_START (10 R338): CTL written with START set. -/
def execDmaStart (k : Fin 16) (ctl : Word) (s : State) : Host.Outcome State Fault Refusal := .next (s.hostWriteReg .bar2 (0x1000 + 0x40 * k.val + 0x18) (ctl ||| 1).toNat)

/-- TC_CLEAR (15 R450). -/
def execTcClear (j : Fin 4) (v : Word) (s : State) : Host.Outcome State Fault Refusal := .next (s.hostWriteReg .bar2 (0x3210 + 4 * j.val) v.toNat)

/-- INJ_GO (15 R454). -/
def execInjGo (v : Word) (s : State) : Host.Outcome State Fault Refusal := .next (s.hostWriteReg .bar2 0x3304 v.toNat)

/-- OTP_KEY (11 R353). -/
def execOtpKey (v : Word) (s : State) : Host.Outcome State Fault Refusal := .next (s.hostWriteReg .bar2 0x2014 v.toNat)

/-- READ (11 R346). -/
def execOtpRead (s : State) : Host.Outcome State Fault Refusal := .next (s.hostWriteReg .bar2 0x2000 1)

/-- READ_MARGIN_LO (11 R346). -/
def execOtpReadMarginLo (s : State) : Host.Outcome State Fault Refusal := .next (s.hostWriteReg .bar2 0x2000 2)

/-- READ_MARGIN_HI (11 R346). -/
def execOtpReadMarginHi (s : State) : Host.Outcome State Fault Refusal := .next (s.hostWriteReg .bar2 0x2000 3)

/-- PROGRAM (11 R348). -/
def execOtpProgram (s : State) : Host.Outcome State Fault Refusal := .next (s.hostWriteReg .bar2 0x2000 4)

/-- REBURN_WORD (11 R348). -/
def execOtpReburnWord (s : State) : Host.Outcome State Fault Refusal := .next (s.hostWriteReg .bar2 0x2000 5)

/-- FINALISE_REGION (11 R354). -/
def execOtpFinaliseRegion (s : State) : Host.Outcome State Fault Refusal := .next (s.hostWriteReg .bar2 0x2000 6)

/-- WARM_RESET (13 R416): a write of RST_CTL. -/
def execWarmReset (v : Word) (s : State) : Host.Outcome State Fault Refusal := .next (s.hostWriteReg .bar2 0x130 v.toNat)

/-- PWR_REQ_SLEEP (13 R401): OFF_AFTER is written as it stands. -/
def execPwrReqSleep (s : State) : Host.Outcome State Fault Refusal := .next (s.hostWriteReg .bar2 0x100 (s.pwr.offAfter.toNat * 256 + 1))

/-- PWR_REQ_IDLE (13 R401). -/
def execPwrReqIdle (s : State) : Host.Outcome State Fault Refusal := .next (s.hostWriteReg .bar2 0x100 (s.pwr.offAfter.toNat * 256 + 2))

/-- PWR_REQ_OFF (13 R401). -/
def execPwrReqOff (s : State) : Host.Outcome State Fault Refusal := .next (s.hostWriteReg .bar2 0x100 (s.pwr.offAfter.toNat * 256 + 4))

/-- RETRAIN_E (12 R398): WL_CTL with its other fields as they stand. -/
def execRetrainE (s : State) : Host.Outcome State Fault Refusal := .next (s.hostWriteReg .bar2 0xA000 (s.link.ctl + 512))

/-- RETRAIN_W (12 R398). -/
def execRetrainW (s : State) : Host.Outcome State Fault Refusal := .next (s.hostWriteReg .bar2 0xA000 (s.link.ctl + 1024))

/-- RING_RESET (12 R396). -/
def execRingReset (s : State) : Host.Outcome State Fault Refusal := .next (s.hostWriteReg .bar2 0xA000 (s.link.ctl + 256))

/-- A read of host memory under way fails without a completion of its own (14 R433): what asked for it ends. -/
def State.readFails (s : State) (e : ReadError) : PendingRead → State
  | .dma k => if (s.dma k.val).run.any (fun (x : DmaRun) => dmaSpace x.src = 0) then (s.hostReadError e).dmaFail k.val else s
  | .tile id =>
    let ts := s.readTiles id
    if ts = [] then s else (s.hostReadError e).failRead ts (fun t => t.frontier 0)
  | .ring => if s.pe.fetch.isSome then { s with pe := { s.pe with fetch := none } }.hostReadError e else s

/-- COMPLETION_TIMEOUT (14 R433), and the other errors that the endpoint meets by itself, for which the table has no row (DESIGN CHOICE, log entry 7): no read
times out while the host has disabled it (14 R422). -/
def execCompletionTimeout (e : EndpointError) (s : State) : Host.Outcome State Fault Refusal :=
  match e with
  | .timeout r => .next (if s.inRun && !readOff .timeout s.host.ctl.timeoutOff then s.readFails .timeout r else s)
  | .unexpected r => .next (if s.inRun then s.readFails .unexpected r else s)
  | .correctable k =>
    let l : List AerError := [.receiver, .badTlp, .badDllp, .replayTimeout, .replayRollover, .advisoryNonFatal]
    .next (if s.inRunIdle then s.reportAer (l.getD k.val .receiver) else s)
  | .poisonedWrite => .next (if s.inRunIdle then (s.setHpErr 0).reportAer .poisoned else s)
  | .badRequest => .next (if s.inRunIdle then s.reportAer .unsupportedRequest else s)
  | .malformed => .next (if s.inRunIdle then s.reportAer .malformed else s)
  | .dataLinkProtocol => .next (if s.inRunIdle then s.reportAer .dataLinkProtocol else s)
  | .flowControl => .next (if s.inRunIdle then s.reportAer .flowControl else s)

end Sys2Proof.Machine
end

