-- ==== Sys2Proof/Machine/MirrorPort.lean ====
section
/-! DEFINITION. The mirror port's reads and writes, and what happens when a wake completes (14 R436-R445, 13 R405-R409). -/
namespace Sys2Proof.Machine

/-! ### Reads -/

/-- A word of the mirror SRAM as it stands (14 R441). -/
def State.mirrorWord (s : State) (a : Nat) : BitVec 16 := sget 0 s.mirror.sram a

/-- The port drives a value. -/
def State.mirrorDrive (s : State) (v : BitVec 16) : State := { s with mirror := { s.mirror with out := some v } }

/-- A read: a low word loads the snapshot latch, another word of the latched value comes from it, any other word is live (14 R442). -/
def State.mirrorReadAt (s : State) (a : Nat) (live : BitVec 16) : State :=
  match valueAt a with
  | none => s.mirrorDrive live
  | some (low, n) =>
    if a = low then
      { s with mirror := { s.mirror with out := some live, latch := some (low, (List.range n).map (fun i => s.mirrorWord (low + i))) } }
    else
      match s.mirror.latch with
      | some (tag, ws) => if tag = low then s.mirrorDrive (ws.getD (a - low) 0) else s.mirrorDrive live
      | none => s.mirrorDrive live

/-- The value that has a word in it written again from its source; the sources outside AON are there but in OFF (10 R323, 14 R444). -/
def State.mirrorRewrite (s : State) (a : Nat) : State :=
  let off := match s.pwr.state with | .off => true | _ => false
  s.mirrorWrite ((s.aonWords ++ (if off then [] else s.coreWords)).filter (fun (x : Nat × Nat × Nat) => decide (x.1 ≤ a) && decide (a < x.1 + x.2.1)))

/-- MIRROR_READ (14 R440, R442): a single-bit error of the word is corrected and counted (10 R322); a word with an uncorrectable one reads 0 and is
written again from its source (10 R323); in SLEEP and OFF nothing is counted (15 R448). -/
def execMirrorRead (a : BitVec 12) (ecc : MirrorEcc) (s : State) : Host.Outcome State Fault Refusal :=
  if !s.pwr.supply then .next s
  else
    match ecc with
    | .clean => .next (s.mirrorReadAt a.toNat (s.mirrorWord a.toNat))
    | .corrected => .next ((s.mirrorReadAt a.toNat (s.mirrorWord a.toNat)).countN 80 (b2n s.inRunIdle))
    | .bad => .next (((s.mirrorReadAt a.toNat 0).countN 81 (b2n s.inRunIdle)).mirrorRewrite a.toNat)

/-- MIRROR_BAD_ACCESS (14 R437). -/
def execMirrorBadAccess (s : State) : Host.Outcome State Fault Refusal :=
  if !s.pwr.supply then .next s else .next ({ s with mirror := { s.mirror with out := none } }.count 5)

/-! ### Writes -/

/-- MB_D is not driven: it is high impedance but in a read (14 R436). -/
def State.mirrorRelease (s : State) : State := { s with mirror := { s.mirror with out := none } }

/-- A write of a write word: accepted, pulsing source 0x64, unless detector 5 rejects it (14 R445, 15 R452). -/
def State.mirrorAccepts (s : State) (act : State → State) : State :=
  if !s.pwr.supply then s
  else if s.shot 5 then s.mirrorRelease.shotTaken.count 5
  else act (s.mirrorRelease.raise 0x64)

/-- A write that is discarded and counted (14 R445); a shot of detector 5 that it meets is the same detection (15 R456). -/
def State.mirrorRejects (s : State) : State := (if s.shot 5 then s.mirrorRelease.shotTaken else s.mirrorRelease).count 5

/-- The device is in IDLE or SLEEP, or on the way there or back (14 R445). -/
def State.holdsRequests (s : State) : Bool :=
  !s.pwr.pinHeld && (match s.pwr.state with | .off => false | .run => s.pwr.entering.isSome || s.pwr.waking | _ => true)

/-- DOORBELL (14 R445). -/
def execDoorbell (v : BitVec 16) (s : State) : Host.Outcome State Fault Refusal :=
  .next (s.mirrorAccepts (fun s =>
    let i := v.toNat % 4096
    let w := s.wakeBy 1
    if s.holdsRequests then { w with mirror := { w.mirror with heldTail := some i } }
    else if s.inRun then w.writeCmdTail i
    else w))

/-- IMM_GO (14 R445): GO is bit 0, as in IMM_DOORBELL. -/
def execImmGo (v : BitVec 16) (s : State) : Host.Outcome State Fault Refusal :=
  .next (s.mirrorAccepts (fun s =>
    let w := s.wakeBy 1
    if !v.getLsbD 0 then w
    else if s.holdsRequests then { w with mirror := { w.mirror with heldGo := true } }
    else if s.inRun then w.writeImmGo
    else w))

/-- WAKE (14 R445); its value is free for the host to choose. -/
def execWake (_v : BitVec 16) (s : State) : Host.Outcome State Fault Refusal := .next (s.mirrorAccepts (fun s => s.wakeBy 1))

/-- MIRROR_E_STOP (14 R445): any other value than 0xE5E5 is discarded and counted. -/
def execMirrorEStop (v : BitVec 16) (s : State) : Host.Outcome State Fault Refusal :=
  if v = 0xE5E5 then .next (s.mirrorAccepts (fun s => s.trip 8))
  else if s.pwr.supply then .next s.mirrorRejects
  else .next s

/-- The words that accept a write (14 R445). -/
def writeWord (a : BitVec 12) (v : BitVec 16) : Bool := a = 0xFF0 || a = 0xFF1 || a = 0xFF2 || (a = 0xFF3 && v = 0xE5E5)

/-- MIRROR_WRITE_REJECTED (14 R445). -/
def execMirrorWriteRejected (a : BitVec 12) (v : BitVec 16) (s : State) : Host.Outcome State Fault Refusal :=
  if writeWord a v || !s.pwr.supply then .next s else .next s.mirrorRejects

/-! ### The end of a wake -/

/-- What was held until RUN takes place: accesses of the host in order, then the mirror's requests, then the fetch goes on (13 R405, 14 R430, R445). -/
def State.releaseHeld (s : State) : State :=
  let held := s.host.held
  let tail := s.mirror.heldTail
  let go := s.mirror.heldGo
  let s := { s with host := { s.host with held := [] }, mirror := { s.mirror with heldTail := none, heldGo := false } }
  let s := held.foldl State.hostAccess s
  let s := match tail with | some v => s.writeCmdTail v | none => s
  let s := if go then s.writeImmGo else s
  s.startFetch

/-- WARM_RESET_DONE (13 R416): the system PLL and the memory PLL have lock; a reset that took over from an entry, or came in IDLE, ends in RUN (13 A reset
arrives during a wake or an entry). -/
def execWarmResetDone (s : State) : Host.Outcome State Fault Refusal :=
  if !s.pe.rebooting || !s.inRunIdle then .next s
  else
    let s := { s with pe := { s.pe with rebooting := false, takeFrom := s.clock }, pwr := { s.pwr with pllLock := s.pwr.pllLock ||| 3 } }
    let s := if s.inRun then s else s.reachRun
    let s := (((s.reloadCaddy.inspectRegions [5]).applyPatches).completeCommit).kettleRecovers
    .next ((s.otpBegin.drain.finishOps (fun o => match o.kind with | .warmReset => true | _ => false) (fun _ => (stOK, []))).releaseHeld)

/-- Kettle's part of a cold sequence: its reading of OTP, or none where the ROM digest fails (13 R407, R413); whether it fails is a free value (log
entry 6). -/
def State.kettleStarts (s : State) : State :=
  if !s.pwr.cold then s
  else
    let d := s.draw
    if d.1 % 2 = 0 then d.2.kettleReads else d.2.romFails

/-- WAKE_COMPLETE (13 R406, R407, R413). -/
def execWakeComplete (s : State) : Host.Outcome State Fault Refusal :=
  if !s.pwr.supply || !s.pwr.waking || s.pwr.pinHeld || (s.pwr.cold && (!s.pwr.sensed || s.pwr.railWait)) then .next s
  else .next s.kettleStarts.reachRun.releaseHeld

end Sys2Proof.Machine
end

