-- ==== Sys2Proof/Machine/Relay.lean ====
section
/-! DEFINITION. Packets, tiles and job signals relayed over WizerLink (12 R390-R393). -/
namespace Sys2Proof.Machine

/-! ### PKT frames (12 R390) -/

def pktKind (f : Frame) : Nat := le f.payload 4 1
def pktSeg (f : Frame) : Nat := le f.payload 5 1 % 128
def pktLast (f : Frame) : Bool := bit (le f.payload 5 1) 7
def pktIdOf (f : Frame) : BitVec 16 := BitVec.ofNat 16 (le f.payload 6 2)
def pktBody (f : Frame) : Bytes := f.payload.drop 8
def pktOrigin (f : Frame) : Byte := BitVec.ofNat 8 (frameOrigin f)

/-- The packet that a segment belongs to. -/
def Assembly.of (a : Assembly) (f : Frame) : Bool := a.origin = pktOrigin f && a.pktId = pktIdOf f && a.kind = pktKind f

/-- The bytes of a packet so far with a segment added; none when the segment is not the next one. -/
def State.assembled (s : State) (f : Frame) : Option Bytes :=
  if pktSeg f = 0 then some (pktBody f)
  else
    match s.link.assembly.find? (fun a => a.of f) with
    | some a => if a.bytes.length = 248 * pktSeg f then some (a.bytes ++ pktBody f) else none
    | none => none

/-- The parts of a packet dropped. -/
def State.dropAssembly (s : State) (f : Frame) : State := { s with link := { s.link with assembly := s.link.assembly.filter (fun a => !a.of f) } }

/-- A segment taken: kept until the last one, which hands the whole packet on. -/
def State.takeSegment (s : State) (f : Frame) (whole : State → Bytes → State) : State :=
  match s.assembled f with
  | none => s
  | some b =>
    let s := s.dropAssembly f
    if pktLast f then whole s b
    else { s with link := { s.link with assembly := { origin := pktOrigin f, pktId := pktIdOf f, kind := pktKind f, bytes := b } :: s.link.assembly } }

/-- A packet whose ORIGIN and PKT_ID match one of the last 16 taken is discarded (12 R390, R393). -/
def State.takeOnce (s : State) (f : Frame) (act : State → State) : State :=
  let key := (pktOrigin f, pktIdOf f)
  if s.link.taken.contains key then s else act { s with link := { s.link with taken := (key :: s.link.taken).take 16 } }

/-- A relayed command: acknowledged and handled as if fetched here (12 R390). -/
def State.takeCommand (s : State) (f : Frame) (b : Bytes) : State :=
  (s.sendPkt (pktOrigin f).toNat 2 (pktIdOf f) []).handlePacket (packetOf b) (.relay (pktOrigin f) (pktIdOf f))

/-- A command that a reply can answer: one with its opcode, sent to the device that wrote it; no TAG value is looked at (02 R59). -/
def Relayed.answeredBy (r : Relayed) (b : Bytes) : Bool := r.pkt.opcode.toNat = le b 0 2 && r.pkt.target.toNat = le b 3 1

/-- The first entry that a reply can answer removed. -/
def dropFirst (b : Bytes) : List Relayed → List Relayed
  | [] => []
  | r :: rs => if r.answeredBy b then rs else r :: dropFirst b rs

/-- One entry that a reply can answer removed, the latest of them: an ORDERED packet then never starts too early (02 R59, R65; log entry 30). -/
def dropAnswered (b : Bytes) (l : List Relayed) : List Relayed := (dropFirst b l.reverse).reverse

/-- A relayed reply written into the reply ring (12 R390). -/
def State.takeReply (s : State) (b : Bytes) : State :=
  let st : BitVec 16 := BitVec.ofNat 16 (le b 8 2)
  let s := s.engineReply { opcode := BitVec.ofNat 16 (le b 0 2), tag := BitVec.ofNat 16 (le b 4 2), status := st, params := b.drop 16, raw := b }
  if st = stPENDING then s
  else { s with link := { s.link with awaiting := dropAnswered b s.link.awaiting } }

/-- A delivery acknowledgement: the command waits for its reply where one is due (12 R390, R391).  DEDUCED (log entry 30): a command with WANT_REPLY clear
counts as finished here for an ORDERED one after it (02 R65), since nothing else of it reaches this device. -/
def State.takeDelivery (s : State) (k : BitVec 16) : State :=
  let got := s.link.relayed.filter (fun r => r.pktId = k)
  { s with link := { s.link with relayed := s.link.relayed.filter (fun r => r.pktId ≠ k)
                                 awaiting := s.link.awaiting ++ got.filter (fun r => r.pkt.wantReply) } }

/-! ### Job signals (12 R393) -/

/-- The slot of the job that a signal names. -/
def State.signalJob (s : State) (b : Bytes) : Option Nat := s.jobSlot (BitVec.ofNat 16 (le b 2 2))

/-- "Late" from a device, which has the job: the master starts the sequence on its job and tells the ring; during the sequence it waits for that device too. -/
def State.signalLate (s : State) (origin : Nat) (b : Bytes) : State :=
  match s.signalJob b with
  | some slot =>
    let has := fun (s : State) => s.modJob slot (fun j => { j with ringDevs := setBit j.ringDevs origin true })
    if !s.isMaster || !(s.jobAt slot).any (fun j => decide (j.feed < 8)) then s
    else if (s.jobAt slot).any (fun j => j.state = .running) then has (s.lateStart slot (le b 4 4))
    else if (s.jobAt slot).any (fun j => j.state = .late) then has s
    else s
  | none => s

/-- "Stop firing": a device stops its own channels. -/
def State.signalStop (s : State) (b : Bytes) : State :=
  match s.signalJob b with
  | some slot => if !s.isMaster && (s.jobAt slot).any (fun j => j.state = .running && s.ringForm j) then s.enterLate slot (le b 4 4) else s
  | none => s

/-- "FIFOs full" from a device, held by the master. -/
def State.signalFull (s : State) (origin : Nat) (b : Bytes) : State :=
  match s.signalJob b with
  | some slot => if s.isMaster then s.modJob slot (fun j => { j with fullFrom := setBit j.fullFrom origin true }) else s
  | none => s

/-- "Arm": a device arms its channels and re-registers. -/
def State.signalArm (s : State) (b : Bytes) : State :=
  match s.signalJob b with
  | some slot =>
    match s.jobAt slot with
    | some j =>
      if !s.isMaster && j.state = .late then
        (s.modJob slot (fun j => { j with resumePending := some ((s.clock - j.waitFrom) / tickUs, 0) })).armJob slot false
      else s
    | none => s
  | none => s

/-- A job signal acts. -/
def State.takeSignal (s : State) (f : Frame) (b : Bytes) : State :=
  match le b 0 1 with
  | 0 => s.signalLate (frameOrigin f) b
  | 1 => s.signalStop b
  | 2 => s.signalFull (frameOrigin f) b
  | 3 => s.signalArm b
  | _ => s

/-! ### The rows -/

/-- A segment of any kind taken. -/
def State.takePktFrame (s : State) (f : Frame) : State :=
  match pktKind f with
  | 0 => s.takeSegment f (fun s b => s.takeOnce f (fun s => s.takeCommand f b))
  | 1 => s.takeSegment f (fun s b => s.takeOnce f (fun s => s.takeReply b))
  | 2 => s.takeDelivery (pktIdOf f)
  | 3 => s.takeSegment f (fun s b => s.takeOnce f (fun s => s.takeSignal f b))
  | _ => s

/-- A PKT frame of a kind whose last segment is for this device. -/
def State.isPkt (s : State) (p : Side) (f : Frame) (kind : Nat) : Bool :=
  s.linkOn p && f.typ = tPKT && decide (8 ≤ f.payload.length) && pktKind f = kind && pktLast f && s.takes f

/-- RELAY_COMMAND (12 R390). -/
def execRelayCommand (p : Side) (f : Frame) (s : State) : Host.Outcome State Fault Refusal :=
  if s.isPkt p f 0 then .next (s.receive p f (fun s => s.takePktFrame f)) else .next s

/-- RELAY_REPLY (12 R390). -/
def execRelayReply (p : Side) (f : Frame) (s : State) : Host.Outcome State Fault Refusal :=
  if s.isPkt p f 1 then .next (s.receive p f (fun s => s.takePktFrame f)) else .next s

/-- DELIVERY_ACKNOWLEDGEMENT (12 R390). -/
def execDeliveryAcknowledgement (p : Side) (f : Frame) (s : State) : Host.Outcome State Fault Refusal :=
  if s.isPkt p f 2 then .next (s.receive p f (fun s => s.takePktFrame f)) else .next s

/-- PKT (12 R390): a segment that is not the last one for this device. -/
def execPkt (p : Side) (f : Frame) (s : State) : Host.Outcome State Fault Refusal :=
  if s.linkOn p && f.typ = tPKT && decide (8 ≤ f.payload.length) && !(pktLast f && s.takes f) then .next (s.receive p f (fun s => s.takePktFrame f))
  else .next s

/-- A job signal of a kind. -/
def State.isSignal (s : State) (p : Side) (f : Frame) (k : Nat) : Bool := s.isPkt p f 3 && le (pktBody f) 0 1 = k

/-- JOB_SIGNAL_LATE (12 R393). -/
def execJobSignalLate (p : Side) (f : Frame) (s : State) : Host.Outcome State Fault Refusal :=
  if s.isSignal p f 0 then .next (s.receive p f (fun s => s.takePktFrame f)) else .next s

/-- JOB_SIGNAL_STOP_FIRING (12 R393). -/
def execJobSignalStopFiring (p : Side) (f : Frame) (s : State) : Host.Outcome State Fault Refusal :=
  if s.isSignal p f 1 then .next (s.receive p f (fun s => s.takePktFrame f)) else .next s

/-- JOB_SIGNAL_FIFOS_FULL (12 R393). -/
def execJobSignalFifosFull (p : Side) (f : Frame) (s : State) : Host.Outcome State Fault Refusal :=
  if s.isSignal p f 2 then .next (s.receive p f (fun s => s.takePktFrame f)) else .next s

/-- JOB_SIGNAL_ARM (12 R393). -/
def execJobSignalArm (p : Side) (f : Frame) (s : State) : Host.Outcome State Fault Refusal :=
  if s.isSignal p f 3 then .next (s.receive p f (fun s => s.takePktFrame f)) else .next s

/-- RELAY_TIMEOUT (12 R391): 1 ms without a delivery acknowledgement. -/
def execRelayTimeout (pktId : BitVec 16) (s : State) : Host.Outcome State Fault Refusal :=
  match s.link.relayed.find? (fun r => r.pktId = pktId) with
  | none => .next s
  | some r =>
    if !s.inRunIdle || decide (s.clock < r.since + tickMs) then .next s
    else
      let s := { s with link := { s.link with relayed := s.link.relayed.filter (fun x => x.pktId ≠ pktId) }
                        tiles := s.tiles.filter (fun (t : Tile) => !(t.source = 3 && t.seq = r.seq)) }
      .next (s.reply false r.pkt r.src stTARGET_UNREACHABLE [])

/-- DATA (12 R392). -/
def execData (p : Side) (f : Frame) (s : State) : Host.Outcome State Fault Refusal :=
  if s.linkOn p && f.typ = tDATA && decide (12 ≤ f.payload.length) then .next (s.receive p f (fun s => s.takeData f)) else .next s

end Sys2Proof.Machine
end

