-- ==== Sys2Proof/Machine/Tick.lean ====
section
/-! DEFINITION. The event fabric's routing, and the FIRE tick that passes when no command waits (01 R31-R37; log entry 1). -/
namespace Sys2Proof.Machine

/-- A pulse reaches a DMA channel: in IDLE, and on the way to or from a lower state, it is pending, and in IDLE it may wake the device (01 R37, 13 R404). -/
def State.pulseDma (s : State) (k : Nat) : State :=
  if s.pe.rebooting || s.pwr.blockHeld.getLsbD 15 then s
  else if s.inRun && s.pwr.entering.isNone then s.dmaRequest k true
  else
    let s := if s.isPend k then s.count 3 else s.setPend k true
    if s.wakeStates .dma then s.wakeBy 4 else s

/-- A fabric event record; the spec gives its DATA no meaning, so it is a free value (01 R37, 02 R60; log entry 6). -/
def State.fabricEvent (s : State) (input : Nat) : State :=
  let d := s.draw
  d.2.event true d.2.timebase input d.1

/-- An arming pulse at STROBEn: discarded while a survey runs (06 R213); a second one before the trigger merges with the first (08 R270). -/
def State.armFlash (s : State) (p : Nat) : State :=
  if s.health.run.isSome then s
  else if (s.port p).flashArmed then s.count 3
  else s.modPort p (fun q => { q with flashArmed := true })

/-- An arming pulse at CAMn_TRIG: a second one before the trigger merges with the first (01 R37). -/
def State.armTrigger (s : State) (p : Nat) : State :=
  if (s.port p).trigArmed then s.count 3 else s.modPort p (fun q => { q with trigArmed := true })

/-- A consumer acts (01 R37). -/
def State.act (s : State) (c : Nat) : State :=
  if c = 0x10 || c = 0x11 then s.armFlash (c - 0x10)
  else if c = 0x12 || c = 0x13 then s.armTrigger (c - 0x12)
  else if 0x18 ≤ c && c < 0x20 then s.stopByFabric (c - 0x18)
  else if 0x20 ≤ c && c < 0x40 then s.fabricEvent (c - 0x20)
  else s

/-- The consumer is in reset, so a pulse is lost with its pending flag (13 R416, R417, R419). -/
def State.consumerReset (s : State) (c : Nat) : Bool :=
  decide (c < 0x20) && (s.pe.rebooting || (0x18 ≤ c && c < 0x1C && s.pwr.blockHeld.getLsbD 12) || (0x1C ≤ c && s.pwr.blockHeld.getLsbD 13))

/-- The clock of the consumer's domain runs: the motion engines stand in IDLE and on the way back from it (13 R399). -/
def State.consumerRuns (s : State) (c : Nat) : Bool := s.inRun || !(0x18 ≤ c && c < 0x20)

/-- FIRE ticks from a consumer's line to its action: 2 to 3 clocks of FIRE, or of MOTN; which is a free value (01 R18, R43; log entry 6). -/
def consumerDelay (c d : Nat) : Nat := if c < 0x18 then 2 + d % 2 else 4 + d % 3

/-- A pulse reaches a consumer (DESIGN CHOICE, log entry 1: one of the reserved identifiers 0x14 to 0x17 holds its pulse like its neighbours and has no
action, those from 0x40 on do nothing; 01 R37): one in CORE acts, one in another domain holds the pulse in its pending flag, where a further one merges (01 R31). -/
def State.consume (s : State) (c : Nat) : State :=
  if c < 0x10 then s.pulseDma c
  else if 0x20 ≤ c then s.act c
  else if s.consumerReset c then s
  else if s.isPend c then s.count 3
  else
    let d := s.draw
    let t := d.2.setPend c true
    { t with fab := { t.fab with due := t.fab.due.filter (fun x => x.1 ≠ c) ++ [(c, t.clock + consumerDelay c d.1)] } }

/-- A consumer whose synchroniser has brought its pulse acts once its domain is clocked, and its flag clears; a pulse that a reset discarded is gone
(01 R31, R39). -/
def State.consumerActs (s : State) (x : Nat × Nat) : State :=
  if !s.isPend x.1 then s
  else if x.2 ≤ s.clock && s.consumerRuns x.1 then (s.setPend x.1 false).act x.1
  else { s with fab := { s.fab with due := s.fab.due ++ [x] } }

/-- The consumers that hold a pulse (01 R31). -/
def State.consumersAct (s : State) : State := s.fab.due.foldl State.consumerActs { s with fab := { s.fab with due := [] } }

/-- A pulse on a line: its latch bit, then every consumer that listens (01 R31-R33, R38). -/
def State.pulseLine (s : State) (l : BitVec 6) : State :=
  let cs := (List.range 128).filter (fun c => let r := vget s.fab.dst c {}; r.en && r.line = l)
  cs.foldl State.consume (s.latchLine l)

/-- The line that a source drives: EV_SOFT names its own (01 R32, R38). -/
def State.lineOf (s : State) (k : Nat) : Option (BitVec 6) :=
  if 0x80 ≤ k then some (BitVec.ofNat 6 k)
  else
    let r := vget s.fab.src k {}
    if r.en && sourceId k then some r.line else none

/-- Pulses of one CORE clock: one pulse a line, a merge counted for each further one (01 R32, Two pulses meet on one line). -/
def State.pulse (s : State) (ks : List Nat) : State :=
  let ls := ks.filterMap s.lineOf
  let once := ls.eraseDups
  once.foldl State.pulseLine (s.countN 3 (ls.length - once.length))

/-- Source pulses that reach their lines are on their way no more. -/
def State.takeRaised (s : State) (ks : List Nat) : State :=
  { s with fab := { s.fab with raised := ks.foldl List.erase s.fab.raised
                               aged := s.fab.aged - ((s.fab.raised.take s.fab.aged).filter ks.contains).length } }

/-- EVENT_PULSE (01 R31, R35): the sources that pulse in one CORE clock, pulses already on their way among them. -/
def execEventPulse (sources : List Nat) (s : State) : Host.Outcome State Fault Refusal :=
  let ks := sources.filter sourceId
  if s.inRunIdle then .next ((s.takeRaised ks).pulse ks)
  else .next (ks.foldl State.raise s)

/-- The timebase one FIRE tick on, at rate 1 + r (12 R382). -/
def State.advanceTime (s : State) : State :=
  let f : Int := s.link.tbFrac + 2 ^ 32 + s.link.rate
  { s with timebase := s.timebase + i64 (f / 2 ^ 32), link := { s.link with tbFrac := (f % 2 ^ 32).toNat } }

/-- Source pulses by the CORE clock in which they reach their lines: whether two neighbours share one is a free choice, two of one source do not
(01 R32, R43; log entry 1). -/
def coreClocks (d : Nat) : List Nat → List (List Nat)
  | [] => []
  | k :: r =>
    match coreClocks (d / 2) r with
    | [] => [[k]]
    | g :: gs => if d % 2 = 1 && !g.contains k then (k :: g) :: gs else [k] :: g :: gs

/-- The pulses on their way that reach their lines in this tick: those of CORE sources, one CORE clock after the pulse, and those of other sources that
have been on their way for a tick, two to three CORE clocks after it (01 R43; log entry 1). -/
def Fabric.arriving (f : Fabric) : List Nat := f.raised.take f.aged ++ (f.raised.drop f.aged).filter coreSource

/-- The pulses that stay on their way: their synchronisers are pending still (01 R21, R43). -/
def Fabric.crossing (f : Fabric) : List Nat := (f.raised.drop f.aged).filter (fun k => !coreSource k)

/-- The pulses on their way reach their lines (01 R43). -/
def State.pulseRaised (s : State) : State :=
  if s.fab.raised = [] then s
  else
  let ks := s.fab.arriving
  let s := { s with fab := { s.fab with raised := s.fab.crossing, aged := s.fab.crossing.length } }
  match ks with
  | [] => s
  | [k] => s.pulse [k]
  | ks => let d := s.draw; (coreClocks d.1 ks).foldl State.pulse d.2

/-- The 5 ms of a Kettle stall do not run during an ORDERED wait (02 R79). -/
def State.waitUpkeep (s : State) : State :=
  match s.pe.queue with
  | q :: _ => if s.mustWait q then { s with pe := { s.pe with takeFrom := s.clock } } else s
  | [] => s

/-- One FIRE tick with no command (log entry 1): time passes, pulses on their way are routed, consumers act, sets taken in the clock before become live (04 R143, R147),
a released shot that waits for no check acts. -/
def tick (s : State) : State :=
  let s := { s with clock := s.clock + 1 }
  if s.inRunIdle then s.advanceTime.pulseRaised.consumersAct.handOvers.actNow.waitUpkeep else s

end Sys2Proof.Machine
end

