-- ==== Sys2Proof/Machine/Dispatch.lean ====
section
/-! DEFINITION. One arm for each command: its meaning, or its refusal by name. -/
namespace Sys2Proof.Machine

def exec (i : Instr) (s : State) : Host.Outcome State Fault Refusal :=
  match i with
  | .ping c => Sys2Proof.Machine.execPing c s
  | .getInfo c => Sys2Proof.Machine.execGetInfo c s
  | .setPower c => Sys2Proof.Machine.execSetPower c s
  | .blockReset c => Sys2Proof.Machine.execBlockReset c s
  | .headAttach c => Sys2Proof.Machine.execHeadAttach c s
  | .headConfig c => Sys2Proof.Machine.execHeadConfig c s
  | .brewLoad c => Sys2Proof.Machine.execBrewLoad c s
  | .rotationLoad c => Sys2Proof.Machine.execRotationLoad c s
  | .cosySet c => Sys2Proof.Machine.execCosySet c s
  | .jobOpen c => Sys2Proof.Machine.execJobOpen c s
  | .layerDefine c => Sys2Proof.Machine.execLayerDefine c s
  | .jobStart c => Sys2Proof.Machine.execJobStart c s
  | .jobStop c => Sys2Proof.Machine.execJobStop c s
  | .jobResume c => Sys2Proof.Machine.execJobResume c s
  | .jobClose c => Sys2Proof.Machine.execJobClose c s
  | .tilePost c => Sys2Proof.Machine.execTilePost c s
  | .axisConfig c => Sys2Proof.Machine.execAxisConfig c s
  | .moveAbs c => Sys2Proof.Machine.execMoveAbs c s
  | .moveVel c => Sys2Proof.Machine.execMoveVel c s
  | .axisStop c => Sys2Proof.Machine.execAxisStop c s
  | .axisResume c => Sys2Proof.Machine.execAxisResume c s
  | .home c => Sys2Proof.Machine.execHome c s
  | .kinematicsSet c => Sys2Proof.Machine.execKinematicsSet c s
  | .axisStatus c => Sys2Proof.Machine.execAxisStatus c s
  | .camConfig c => Sys2Proof.Machine.execCamConfig c s
  | .camExpose c => Sys2Proof.Machine.execCamExpose c s
  | .statsRead c => Sys2Proof.Machine.execStatsRead c s
  | .outputConfig c => Sys2Proof.Machine.execOutputConfig c s
  | .contextLoad c => Sys2Proof.Machine.execContextLoad c s
  | .surveyStart c => Sys2Proof.Machine.execSurveyStart c s
  | .nozzleMapRead c => Sys2Proof.Machine.execNozzleMapRead c s
  | .nozzleMapWrite c => Sys2Proof.Machine.execNozzleMapWrite c s
  | .strainerConfig c => Sys2Proof.Machine.execStrainerConfig c s
  | .thermalConfig c => Sys2Proof.Machine.execThermalConfig c s
  | .thermalStatus c => Sys2Proof.Machine.execThermalStatus c s
  | .shutdownRelease c => Sys2Proof.Machine.execShutdownRelease c s
  | .memtestConfig c => Sys2Proof.Machine.execMemtestConfig c s
  | .storeConfig c => Sys2Proof.Machine.execStoreConfig c s
  | .countersRead c => Sys2Proof.Machine.execCountersRead c s
  | .countersClear c => Sys2Proof.Machine.execCountersClear c s
  | .injectArm c => Sys2Proof.Machine.execInjectArm c s
  | .inject c => Sys2Proof.Machine.execInject c s
  | .ringStatus c => Sys2Proof.Machine.execRingStatus c s
  | .ringMap c => Sys2Proof.Machine.execRingMap c s
  | .lifecycleAdvance c => Sys2Proof.Machine.execLifecycleAdvance c s
  | .tamperConfig c => Sys2Proof.Machine.execTamperConfig c s
  | .fireHold c => Sys2Proof.Machine.execFireHold c s
  | .fireRelease c => Sys2Proof.Machine.execFireRelease c s
  | .eStop c => Sys2Proof.Machine.execEStop c s
  | .mirrorSnap c => Sys2Proof.Machine.execMirrorSnap c s
  | .cmdTail v => Sys2Proof.Machine.execCmdTail v s
  | .immDoorbell v => Sys2Proof.Machine.execImmDoorbell v s
  | .ringReadCompletion data reread => Sys2Proof.Machine.execRingReadCompletion data reread s
  | .ringReadError e => Sys2Proof.Machine.execRingReadError e s
  | .kettleTakePacket => Sys2Proof.Machine.execKettleTakePacket s
  | .kettleStall => Sys2Proof.Machine.execKettleStall s
  | .kettleRecover => Sys2Proof.Machine.execKettleRecover s
  | .kettleLoadUpdate percent => Sys2Proof.Machine.execKettleLoadUpdate percent s
  | .rplHead v => Sys2Proof.Machine.execRplHead v s
  | .evtHead v => Sys2Proof.Machine.execEvtHead v s
  | .ringCtlReset enables => Sys2Proof.Machine.execRingCtlReset enables s
  | .cmdEn on => Sys2Proof.Machine.execCmdEn on s
  | .rplEn on => Sys2Proof.Machine.execRplEn on s
  | .evtEn on => Sys2Proof.Machine.execEvtEn on s
  | .registerWrite bar off v be => Sys2Proof.Machine.execRegisterWrite bar off v be s
  | .loRegisterRead bar off => Sys2Proof.Machine.execLoRegisterRead bar off s
  | .headOffsetHiWrite ch v => Sys2Proof.Machine.execHeadOffsetHiWrite ch v s
  | .fireConfigWrite ch off v => Sys2Proof.Machine.execFireConfigWrite ch off v s
  | .shadowWrite ch off v => Sys2Proof.Machine.execShadowWrite ch off v s
  | .commit ch => Sys2Proof.Machine.execCommit ch s
  | .commitAt ch => Sys2Proof.Machine.execCommitAt ch s
  | .evSoft line => Sys2Proof.Machine.execEvSoft line s
  | .eventPulse sources => Sys2Proof.Machine.execEventPulse sources s
  | .dmaStart k ctl => Sys2Proof.Machine.execDmaStart k ctl s
  | .dmaComplete k d => Sys2Proof.Machine.execDmaComplete k d s
  | .dmaHostError k written e => Sys2Proof.Machine.execDmaHostError k written e s
  | .tcClear j v => Sys2Proof.Machine.execTcClear j v s
  | .injGo v => Sys2Proof.Machine.execInjGo v s
  | .otpKey v => Sys2Proof.Machine.execOtpKey v s
  | .otpKeyTimeout => Sys2Proof.Machine.execOtpKeyTimeout s
  | .otpRead => Sys2Proof.Machine.execOtpRead s
  | .otpReadMarginLo => Sys2Proof.Machine.execOtpReadMarginLo s
  | .otpReadMarginHi => Sys2Proof.Machine.execOtpReadMarginHi s
  | .otpProgram => Sys2Proof.Machine.execOtpProgram s
  | .otpReburnWord => Sys2Proof.Machine.execOtpReburnWord s
  | .otpFinaliseRegion => Sys2Proof.Machine.execOtpFinaliseRegion s
  | .otpProgramPulse lo nom hi => Sys2Proof.Machine.execOtpProgramPulse lo nom hi s
  | .shutdownLogWrite lo nom hi => Sys2Proof.Machine.execShutdownLogWrite lo nom hi s
  | .lifecycleAdvanceDone => Sys2Proof.Machine.execLifecycleAdvanceDone s
  | .warmReset v => Sys2Proof.Machine.execWarmReset v s
  | .warmResetDone => Sys2Proof.Machine.execWarmResetDone s
  | .pwrReqSleep => Sys2Proof.Machine.execPwrReqSleep s
  | .pwrReqIdle => Sys2Proof.Machine.execPwrReqIdle s
  | .pwrReqOff => Sys2Proof.Machine.execPwrReqOff s
  | .offAfter => Sys2Proof.Machine.execOffAfter s
  | .lowStateEntered => Sys2Proof.Machine.execLowStateEntered s
  | .aonTimerExpiry => Sys2Proof.Machine.execAonTimerExpiry s
  | .wakeRequest src => Sys2Proof.Machine.execWakeRequest src s
  | .wakeComplete => Sys2Proof.Machine.execWakeComplete s
  | .powerOn mbSync cascMaster rstN railsOk => Sys2Proof.Machine.execPowerOn mbSync cascMaster rstN railsOk s
  | .supplyMonitorTrip rail => Sys2Proof.Machine.execSupplyMonitorTrip rail s
  | .rstNAssert => Sys2Proof.Machine.execRstNAssert s
  | .rstNRelease => Sys2Proof.Machine.execRstNRelease s
  | .pllLockLoss pll => Sys2Proof.Machine.execPllLockLoss pll s
  | .fundamentalReset => Sys2Proof.Machine.execFundamentalReset s
  | .hotReset => Sys2Proof.Machine.execHotReset s
  | .functionLevelReset => Sys2Proof.Machine.execFunctionLevelReset s
  | .pcieLinkDown => Sys2Proof.Machine.execPcieLinkDown s
  | .pcieRecovery counted => Sys2Proof.Machine.execPcieRecovery counted s
  | .busMasterEnable on => Sys2Proof.Machine.execBusMasterEnable on s
  | .msixUnmask u => Sys2Proof.Machine.execMsixUnmask u s
  | .completionTimeout r => Sys2Proof.Machine.execCompletionTimeout r s
  | .bar4Access off write len errors => Sys2Proof.Machine.execBar4Access off write len errors s
  | .mirrorRead a e => Sys2Proof.Machine.execMirrorRead a e s
  | .mirrorBadAccess => Sys2Proof.Machine.execMirrorBadAccess s
  | .doorbell v => Sys2Proof.Machine.execDoorbell v s
  | .immGo v => Sys2Proof.Machine.execImmGo v s
  | .wake v => Sys2Proof.Machine.execWake v s
  | .mirrorEStop v => Sys2Proof.Machine.execMirrorEStop v s
  | .mirrorWriteRejected a v => Sys2Proof.Machine.execMirrorWriteRejected a v s
  | .mirrorRefresh => Sys2Proof.Machine.execMirrorRefresh s
  | .interlockAssert n => Sys2Proof.Machine.execInterlockAssert n s
  | .interlockRelease c => Sys2Proof.Machine.execInterlockRelease c s
  | .sensorInputEdge n rising => Sys2Proof.Machine.execSensorInputEdge n rising s
  | .tamperDetect d => Sys2Proof.Machine.execTamperDetect d s
  | .encCount e m => Sys2Proof.Machine.execEncCount e m s
  | .interpolatorTimeout e => Sys2Proof.Machine.execInterpolatorTimeout e s
  | .lineTrigger j => Sys2Proof.Machine.execLineTrigger j s
  | .preparationPoint ch bad => Sys2Proof.Machine.execPreparationPoint ch bad s
  | .lineComposed ch corrected bad => Sys2Proof.Machine.execLineComposed ch corrected bad s
  | .firePositionReached ch => Sys2Proof.Machine.execFirePositionReached ch s
  | .slotStart ch => Sys2Proof.Machine.execSlotStart ch s
  | .slotEnd ch => Sys2Proof.Machine.execSlotEnd ch s
  | .jobArmed j => Sys2Proof.Machine.execJobArmed j s
  | .shuttlePassArm j => Sys2Proof.Machine.execShuttlePassArm j s
  | .lateWebStopped j => Sys2Proof.Machine.execLateWebStopped j s
  | .lateBackupDone j => Sys2Proof.Machine.execLateBackupDone j s
  | .lateReregister j => Sys2Proof.Machine.execLateReregister j s
  | .tileReadCompletion id off r => Sys2Proof.Machine.execTileReadCompletion id off r s
  | .tileCopyRow id errors => Sys2Proof.Machine.execTileCopyRow id errors s
  | .mapWriteApplied ch => Sys2Proof.Machine.execMapWriteApplied ch s
  | .thermalMeasurement x raw => Sys2Proof.Machine.execThermalMeasurement x raw s
  | .throttleUpTimer x => Sys2Proof.Machine.execThrottleUpTimer x s
  | .throttleDownTimer x => Sys2Proof.Machine.execThrottleDownTimer x s
  | .feedAtCapacity j => Sys2Proof.Machine.execFeedAtCapacity j s
  | .throttleWaitOverrun ch => Sys2Proof.Machine.execThrottleWaitOverrun ch s
  | .energyModelUpdate => Sys2Proof.Machine.execEnergyModelUpdate s
  | .sensorSuspect x => Sys2Proof.Machine.execSensorSuspect x s
  | .cosyPeriod ch => Sys2Proof.Machine.execCosyPeriod ch s
  | .trajectoryUpdate me => Sys2Proof.Machine.execTrajectoryUpdate me s
  | .moveDone ax => Sys2Proof.Machine.execMoveDone ax s
  | .axisStands ax => Sys2Proof.Machine.execAxisStands ax s
  | .limitActive ax positive => Sys2Proof.Machine.execLimitActive ax positive s
  | .homeSwitchQualified ax active => Sys2Proof.Machine.execHomeSwitchQualified ax active s
  | .indexEdge ax => Sys2Proof.Machine.execIndexEdge ax s
  | .chatter ax => Sys2Proof.Machine.execChatter ax s
  | .idAnswer ch f => Sys2Proof.Machine.execIdAnswer ch f s
  | .idAnswerMissing ch => Sys2Proof.Machine.execIdAnswerMissing ch s
  | .identRetry ch => Sys2Proof.Machine.execIdentRetry ch s
  | .responsePoll ch => Sys2Proof.Machine.execResponsePoll ch s
  | .authTimeout ch => Sys2Proof.Machine.execAuthTimeout ch s
  | .surveyMoveDone => Sys2Proof.Machine.execSurveyMoveDone s
  | .surveyRound => Sys2Proof.Machine.execSurveyRound s
  | .dropWatchFrame cam f => Sys2Proof.Machine.execDropWatchFrame cam f s
  | .surveyTimeout => Sys2Proof.Machine.execSurveyTimeout s
  | .camTrigger p => Sys2Proof.Machine.execCamTrigger p s
  | .camFrameBegin p => Sys2Proof.Machine.execCamFrameBegin p s
  | .camLine p pixels trailer => Sys2Proof.Machine.execCamLine p pixels trailer s
  | .camFrameEnd p => Sys2Proof.Machine.execCamFrameEnd p s
  | .camTimeout p => Sys2Proof.Machine.execCamTimeout p s
  | .stripeStart => Sys2Proof.Machine.execStripeStart s
  | .stripeDone => Sys2Proof.Machine.execStripeDone s
  | .strainerBarObserved ch bar => Sys2Proof.Machine.execStrainerBarObserved ch bar s
  | .backgroundTestWindow bank r => Sys2Proof.Machine.execBackgroundTestWindow bank r s
  | .patrolScrub corrected uncorrectable => Sys2Proof.Machine.execPatrolScrub corrected uncorrectable s
  | .storeRetrain => Sys2Proof.Machine.execStoreRetrain s
  | .storeConfigDone => Sys2Proof.Machine.execStoreConfigDone s
  | .wlCommaLock p => Sys2Proof.Machine.execWlCommaLock p s
  | .wlPortUp p => Sys2Proof.Machine.execWlPortUp p s
  | .ringBreak p => Sys2Proof.Machine.execRingBreak p s
  | .retrainE => Sys2Proof.Machine.execRetrainE s
  | .retrainW => Sys2Proof.Machine.execRetrainW s
  | .ringReset => Sys2Proof.Machine.execRingReset s
  | .resetColumnsReceived p => Sys2Proof.Machine.execResetColumnsReceived p s
  | .ringEnumerate closed east west => Sys2Proof.Machine.execRingEnumerate closed east west s
  | .topoEnumeration p t => Sys2Proof.Machine.execTopoEnumeration p t s
  | .topoBreakNotice p t => Sys2Proof.Machine.execTopoBreakNotice p t s
  | .topoParkNotice n => Sys2Proof.Machine.execTopoParkNotice n s
  | .wakeFrame p f => Sys2Proof.Machine.execWakeFrame p f s
  | .wlSignalDetect p => Sys2Proof.Machine.execWlSignalDetect p s
  | .pos p f => Sys2Proof.Machine.execPos p f s
  | .posSend => Sys2Proof.Machine.execPosSend s
  | .posTimeout => Sys2Proof.Machine.execPosTimeout s
  | .poslostClear => Sys2Proof.Machine.execPoslostClear s
  | .sync p f => Sys2Proof.Machine.execSync p f s
  | .syncSend => Sys2Proof.Machine.execSyncSend s
  | .alignLost => Sys2Proof.Machine.execAlignLost s
  | .faultColumn p b1 b2 b3 => Sys2Proof.Machine.execFaultColumn p b1 b2 b3 s
  | .flt p f => Sys2Proof.Machine.execFlt p f s
  | .fltRefresh => Sys2Proof.Machine.execFltRefresh s
  | .ack p seq => Sys2Proof.Machine.execAck p seq s
  | .nak p seq => Sys2Proof.Machine.execNak p seq s
  | .ackTimer p => Sys2Proof.Machine.execAckTimer p s
  | .replayTimeout p => Sys2Proof.Machine.execReplayTimeout p s
  | .wlFrameError p sequenced => Sys2Proof.Machine.execWlFrameError p sequenced s
  | .relayCommand p f => Sys2Proof.Machine.execRelayCommand p f s
  | .relayReply p f => Sys2Proof.Machine.execRelayReply p f s
  | .deliveryAcknowledgement p f => Sys2Proof.Machine.execDeliveryAcknowledgement p f s
  | .relayTimeout pktId => Sys2Proof.Machine.execRelayTimeout pktId s
  | .data p f => Sys2Proof.Machine.execData p f s
  | .jobSignalLate p f => Sys2Proof.Machine.execJobSignalLate p f s
  | .jobSignalStopFiring p f => Sys2Proof.Machine.execJobSignalStopFiring p f s
  | .jobSignalFifosFull p f => Sys2Proof.Machine.execJobSignalFifosFull p f s
  | .jobSignalArm p f => Sys2Proof.Machine.execJobSignalArm p f s
  | .xtalQualified => Sys2Proof.Machine.execXtalQualified s
  | .switchedRailsInRange => Sys2Proof.Machine.execSwitchedRailsInRange s
  | .pcieLinkUp speed width => Sys2Proof.Machine.execPcieLinkUp speed width s
  | .limitInactive ax positive => Sys2Proof.Machine.execLimitInactive ax positive s
  | .blockResetDone => Sys2Proof.Machine.execBlockResetDone s
  | .pkt p f => Sys2Proof.Machine.execPkt p f s

end Sys2Proof.Machine
end

