-- ==== Sys2Proof/Safety.lean ====
section
/-! DEFINITION. The terms that statements use: when a command packet is taken, what a safe state is. -/
namespace Sys2Proof.Machine

/-- In RUN with no entry into a lower state under way: the host's accesses are carried out and packets handled (13 R399, R403, R405). -/
def State.Awake (s : State) : Prop := s.inRun = true ∧ s.pwr.entering = none

/-- The command packet that a row carries (02 R45). -/
def packetOfCmd (op : BitVec 16) (c : Cmd) : Packet :=
  { opcode := op, flags := c.flags, target := c.target, tag := c.tag, length := c.params.length, params := c.params }

/-- The packet's first read is good, no shot of detector 0 waiting (15 R452); it is for this device alone and passes checks 2 to 6 (02 R48, R56, R477). -/
def State.Addressed (s : State) (op : BitVec 16) (c : Cmd) : Prop :=
  s.shot 0 = false ∧ c.flags.toNat < 4 ∧ c.target.toNat = s.deviceId ∧ s.deviceId < 8 ∧ c.params.length % 4 = 0 ∧ c.params.length ≤ 4080 ∧
    lengthOk op.toNat c.params.length c.params = true

/-- Kettle takes the packet at once: nothing is queued, nothing ORDERED waits for, and the life cycle is not SCRAPPED (02 R63, R65, 11 R363). -/
def State.KettleTakes (s : State) (op : BitVec 16) (c : Cmd) : Prop :=
  s.kettleFree = true ∧ s.pe.queue = [] ∧ s.Addressed op c ∧ s.otp.wires.lifecycle ≠ 4 ∧
    s.mustWait { pkt := packetOfCmd op c, src := .ring, seq := s.pe.seq } = false

/-- The state in which Kettle executes the packet it has just taken. -/
def State.taken (s : State) : State := { s with pe := { s.pe with seq := s.pe.seq + 1, takeFrom := s.clock } }

/-- The state in which the packet engine executes a packet of its own. -/
def State.handled (s : State) : State := { s with pe := { s.pe with seq := s.pe.seq + 1 } }

/-- Kettle's final reply with status OK to a packet of the command ring, where one is due (02 R58). -/
def State.ok (s : State) (op : BitVec 16) (c : Cmd) (params : Bytes) : State := s.reply true (packetOfCmd op c) .ring stOK params

/-- Kettle's ACCEPTED_PENDING reply where one is wanted, and the final reply owed (02 R58, R64). -/
def State.owes (s : State) (op : BitVec 16) (c : Cmd) (pending : Bool) (k : OpKind) (seq : Nat) : State :=
  s.startOp pending k (packetOfCmd op c) .ring seq

/-- Nothing but the packet engine and the host port differs: what a reply, an event record or a vector can touch. -/
def State.SameButReplies (s t : State) : Prop := t = { s with pe := t.pe, host := t.host }

/-- What holds in every state that a run reaches: both byte memories, the mirror SRAM and the OTP array in canonical form, at most 64 packets in Kettle's queue (02 R63), at most
32 held replies (02 R81), WAKE_EN as it can be written: bits 0 and 1 read as 1, bits 15:5 as 0 (13 R421). -/
structure State.Inv (s : State) : Prop where
  store : Mem.wf s.mem.store = true
  hostMem : Mem.wf s.host.mem = true
  sram : swf 0 s.mirror.sram = true
  otpWords : swf {} s.otp.words = true
  queue : s.pe.queue.length ≤ 64
  hold : s.pe.hold.length ≤ 32
  wakeEn : s.pwr.wakeEn &&& 0xFFE3 = 3

/-- A sequenced frame taken in its turn on a port (12 R373). -/
def State.accepted (s : State) (p : Side) : State :=
  s.modWport p (fun q => { q with rxSeq := q.rxSeq + 1, nakked := false, unackedRx := q.unackedRx + 1, rxFrom := (if q.unackedRx = 0 then s.clock else q.rxFrom) })

/-- The state in which a frame is handled: the port has taken it in its turn, and a broadcast with hops left has gone on (12 R379, R380). -/
def State.passed (s : State) (p : Side) (f : Frame) : State :=
  if f.dest = 0xFF ∧ 1 < frameHops f then (s.accepted p).sendFrame (other p) (frameLowered f) else s.accepted p

/-- A sequenced frame for this device, or for all, comes in its turn on a port that is up, and no acknowledgement falls due with it (12 R373, R379). -/
def State.Delivers (s : State) (p : Side) (f : Frame) : Prop :=
  s.linkOn p = true ∧ s.shot 112 = false ∧ (f.dest = 0xFF ∨ ∃ i, s.link.id = some i ∧ f.dest.toNat = i.val) ∧ sequencedType f.typ = true ∧
    f.seq = (s.wport p).rxSeq ∧ (s.wport p).unackedRx < 15

/-- Such a PKT frame is the last segment of a packet of a kind (12 R390). -/
def State.DeliversPkt (s : State) (p : Side) (f : Frame) (kind : Nat) : Prop :=
  s.Delivers p f ∧ f.typ = tPKT ∧ 8 ≤ f.payload.length ∧ pktKind f = kind ∧ pktLast f = true

/-- The endpoint after an error: in the list that AER shows, and by a message of its class where the host has not masked it (14 R433). -/
def State.reported (s : State) (e : AerError) : HostPort :=
  { s.host with aer := s.host.aer.insert e, aerSent := if s.host.aerMask.contains e then s.host.aerSent else some (e, s.host.classOf e) }

/-- The endpoint after an error that sets a bit of HP_ERR as well (14 R431, R433). -/
def State.failed (s : State) (k : Nat) (e : AerError) : HostPort := { s.reported e with err := setBit s.host.err k true }

/-- The registers of BAR0 and BAR2 that a write may change (02 R52, 14 R427, R429, R431, 13 R421, 10 R336, 11 R353, 15 R451, 04 R139, 01 R38, 12 R398). -/
def writable (bar : Bar) (off : Nat) : Bool :=
  match bar with
  | .bar0 => [0x00, 0x04, 0x08, 0x0C, 0x20, 0x24, 0x28, 0x30, 0x40, 0x44, 0x48, 0x50, 0x60, 0x64].contains off || (0x100 ≤ off && off ≤ 0x140) || (0x2000 ≤ off && off < 0x2200)
  | .bar2 =>
    [0x48, 0x80, 0x100, 0x104, 0x108, 0x10C, 0x110, 0x120, 0x130, 0x134, 0x2000, 0x2004, 0x2008, 0x2014, 0x2020, 0x3300, 0x3304, 0x9800, 0x9804, 0x9810, 0xA000].contains off ||
    (0x1000 ≤ off && off < 0x1400 && [0x00, 0x04, 0x08, 0x0C, 0x10, 0x18].contains (off % 0x40)) || (0x3210 ≤ off && off < 0x3220) ||
    (0x4000 ≤ off && off < 0x7000 && [0x00, 0x04, 0x08, 0x0C, 0x1C, 0x20, 0x24, 0x28, 0x2C].contains (off % 0x100)) ||
    (0x9000 ≤ off && off < 0x9200) || (0x9400 ≤ off && off < 0x9600)

/-- The registers of BAR2 whose read keeps the word above them (04 R140, 10 R336). -/
def lowWord (off : Nat) : Bool :=
  (0x4000 ≤ off && off < 0x7000 && (off % 0x100 = 0x28 || off % 0x100 = 0x38)) || (0x1000 ≤ off && off < 0x1400 && (off % 0x40 = 0 || off % 0x40 = 8))

/-- The trouble counter with an index (15 R446). -/
def State.counter (s : State) (k : Nat) : BitVec 16 := vget s.tc.val k 0

end Sys2Proof.Machine
end

