-- ==== Sys2Proof/Certificates/Slice0/Obligations.lean ====
section
/-! DEFINITION. The statements for the provers. -/
open Sys2Proof Sys2Proof.Machine

/-! ### The queue, the idle tick, reset -/

/-- With a command at the front of the queue, a step is that command's meaning on the state with the queue's rest (one queue whose front a step runs is
log entry 1, the model's choice). -/
def Obligations.StepRunsFrontCommand : Prop :=
  ∀ (c : Instr) (r : List Instr) (s : State), s.pending = c :: r → step s = exec c { s with pending := r }

/-- With no command waiting one FIRE tick passes (log entry 1, the model's choice): below IDLE only the model clock moves; in RUN and
IDLE, with no consumer that holds a pulse, no hand-over due, no released shot, an empty Kettle queue and no rate correction, the timebase counts one
(00 R11, 01 R19); a pulse on its way reaches its line, whose latch bit it sets (01 R31, R38), that of a source outside CORE in the second tick, its
synchroniser being pending until then (01 R21, R43; the count of ticks is log entry 1); a fabric stop whose pulse has crossed to its motion engine
acts and clears its pending flag, and waits while its clock is to come (01 R31, R37). -/
def Obligations.IdleTickCounts : Prop :=
  ∀ (s : State), s.pending = [] →
    (s.inRunIdle = false → step s = .next { s with clock := s.clock + 1 }) ∧
    (s.inRunIdle = true → s.link.rate = 0 → s.link.tbFrac = 0 → s.inj.released = none → s.pe.queue = [] →
      s.fab.due = [] → (∀ n, n < 48 → (s.chan n).taken = none ∧ (s.chan n).armed ≠ some .idle) →
      (s.fab.raised = [] → step s = .next { s with clock := s.clock + 1, timebase := s.timebase + 1 }) ∧
      (∀ k l, s.fab.raised = [k] → k < 0x80 → sourceId k = true → vget s.fab.src k {} = { en := true, line := l } →
        (∀ d, d < 128 → (vget s.fab.dst d {}).en = true → (vget s.fab.dst d {}).line ≠ l) →
        (coreSource k = true ∨ 0 < s.fab.aged → step s = .next { s with
          clock := s.clock + 1, timebase := s.timebase + 1, fab := { s.fab with raised := [], aged := 0, latch := setBit s.fab.latch l.toNat true } }) ∧
        (coreSource k = false → s.fab.aged = 0 → step s = .next { s with
          clock := s.clock + 1, timebase := s.timebase + 1, fab := { s.fab with aged := 1 } }))) ∧
    (s.inRun = true → s.link.rate = 0 → s.link.tbFrac = 0 → s.inj.released = none → s.pe.queue = [] → s.fab.raised = [] →
      (∀ n, n < 48 → (s.chan n).taken = none ∧ (s.chan n).armed ≠ some .idle) →
      ∀ k c, k < 8 → s.fab.due = [(0x18 + k, c)] → s.isPend (0x18 + k) = true → (s.axis k).configured = false →
        (c ≤ s.clock + 1 → ∃ t, step s = .next t ∧ t.isPend (0x18 + k) = false ∧ t.fab.due = [] ∧ t.timebase = s.timebase + 1 ∧ t.axes = s.axes) ∧
        (s.clock + 1 < c → step s = .next { s with clock := s.clock + 1, timebase := s.timebase + 1 }))

/-- What the state after reset holds of the values that the spec gives: counters and timebase 0, every local trip latch set, nothing
open, enabled or routed, WAKE_EN, RST_CAUSE and PREV at their reset values, rings disabled with 2^8 slots, no store. -/
def Obligations.ResetHoldsSpecValues : Prop :=
  State.reset.timebase = 0 ∧ (∀ k, k < 128 → State.reset.counter k = 0) ∧ State.reset.tc.sat = 0 ∧ State.reset.ilk.trips = 0xF ∧
    (∀ j, j < 4 → State.reset.jobAt j = none) ∧ (∀ n, n < 8 → (State.reset.axis n).configured = false ∧ (State.reset.axis n).commanded = 0) ∧
    (∀ k, k < 128 → (vget State.reset.fab.src k {}).en = false ∧ (vget State.reset.fab.dst k {}).en = false) ∧ State.reset.fab.latch = 0 ∧
    State.reset.pwr.wakeEn = 0x1F ∧ State.reset.pwr.rstCause = 1 ∧ State.reset.pwr.prev = 3 ∧ State.reset.pwr.offAfter = 0 ∧
    State.reset.pe.cmd.en = false ∧ State.reset.pe.rpl.en = false ∧ State.reset.pe.evt.en = false ∧ State.reset.pe.cmd.log2 = 8 ∧
    State.reset.storeBytes = 0 ∧ (∀ n, n < 48 → (State.reset.chan n).attached = false ∧ (State.reset.chan n).rateMax = 64000)

/-! ### Packets: their check code, their replies, the packet engine -/

/-- The CRC of packets (02 R46): CRC-32C with polynomial 0x1EDC6F41 and reflected input and output, so each byte meets the low end of a register
that shifts right under the reversed polynomial, from all ones and with all ones added at the end; its value over "123456789"; and
every reply and every event record that the device composes holds it, taken with zeros in its own place. -/
def Obligations.CrcIsCrc32C : Prop :=
  (∀ (b : Bytes) (x : Byte), crc32c (b ++ [x]) = (List.range 8).foldl (fun (c : Word) _ =>
    if c.getLsbD 0 then (c >>> 1) ^^^ (0x1EDC6F41 : Word).reverse else c >>> 1) ((crc32c b ^^^ 0xFFFFFFFF) ^^^ x.setWidth 32) ^^^ 0xFFFFFFFF) ∧
  crc32c [] = 0 ∧
  crc32c [0x31, 0x32, 0x33, 0x34, 0x35, 0x36, 0x37, 0x38, 0x39] = 0xE3069283 ∧
  (∀ (s : State) (r : Reply), r.raw = [] → r.params.length ≤ 4080 → let b := s.replyBytes r
    le b 12 4 = (crc32c (b.take 12 ++ [0, 0, 0, 0] ++ (b.drop 16).take r.params.length)).toNat) ∧
  (∀ (s : State) (op : Nat) (tb : BitVec 64) (code data : Nat), let b := s.eventBytes op tb code data
    b.length = 64 ∧ le b 12 4 = (crc32c (b.take 12 ++ [0, 0, 0, 0] ++ (b.drop 16).take 16)).toNat)

/-- Replies (02 R45, R49, R50, R58, R81, 14 R427).  One whose ring is enabled and free: its bytes lie at TAIL, TAIL is past them, vector 0 is raised, the
rest of host memory and of the machine stays; and its header: opcode and tag of the command, FLAGS 0, the device's ID, LENGTH, STATUS, the
depth of the Kettle queue, the CRC.  One that the ring cannot take joins the hold buffer of 32; with that full, a reply of the packet engine is lost, which
sets RPL_LOST, at a rise with vector 2, and counts, and a reply of Kettle waits; a held reply is written once RPL_HEAD frees a slot. -/
def Obligations.RepliesAreWritten : Prop :=
  (∀ (s : State) (p : Packet) (params : Bytes),
    p.wantReply = true → s.pe.hold = [] → s.pe.kettleWait = [] → s.pe.stalled = false → s.pe.rebooting = false → s.pe.rpl.en = true → s.host.bme = true →
    swf 0 s.host.mem = true → s.vectorOpen 0 = false → params.length ≤ 4080 → slotsOf params.length ≤ s.pe.rpl.free →
    s.pe.rpl.tail + slotsOf params.length ≤ s.pe.rpl.slots →
    let r : Reply := { opcode := p.opcode, tag := p.tag, status := stOK, params := params }
    let t := s.reply true p .ring stOK params
    (∀ i, i < 64 * slotsOf params.length → mget t.host.mem (s.pe.rpl.base.toNat + 64 * s.pe.rpl.tail + i) = (s.replyBytes r).getD i 0) ∧
    (∀ a, a < s.pe.rpl.base.toNat + 64 * s.pe.rpl.tail ∨ s.pe.rpl.base.toNat + 64 * (s.pe.rpl.tail + slotsOf params.length) ≤ a →
      mget t.host.mem a = mget s.host.mem a) ∧
    t.pe = { s.pe with rpl := { s.pe.rpl with tail := (s.pe.rpl.tail + slotsOf params.length) % s.pe.rpl.slots } } ∧
    t = { s with pe := t.pe, host := { s.host with mem := t.host.mem, pba := setBit s.host.pba 0 true } }) ∧
  (∀ (s : State) (r : Reply), r.raw = [] → r.params.length ≤ 4080 → s.deviceId < 256 → s.pe.queue.length < 65536 →
    let b := s.replyBytes r
    b.length = 64 * slotsOf r.params.length ∧ le b 0 2 = r.opcode.toNat ∧ le b 2 1 = 0 ∧ le b 3 1 = s.deviceId ∧ le b 4 2 = r.tag.toNat ∧
      le b 6 2 = r.params.length ∧ le b 8 2 = r.status.toNat ∧ le b 10 2 = s.pe.queue.length ∧
      le b 12 4 = (crc32c (b.take 12 ++ [0, 0, 0, 0] ++ r.params)).toNat ∧ (b.drop 16).take r.params.length = r.params) ∧
  (∀ (s : State) (p : Packet) (params : Bytes),
    p.wantReply = true → s.shot 1 = false → s.pe.kettleWait = [] → s.pe.stalled = false → s.pe.rebooting = false →
    (s.pe.rpl.en = false ∨ s.host.bme = false ∨ s.pe.rpl.free = 0) →
    let r : Reply := { opcode := p.opcode, tag := p.tag, status := stOK, params := params }
    let holds (held waits : List Reply) : State := { s with pe := { s.pe with hold := held, kettleWait := waits } }
    (s.pe.hold.length < 32 → ∀ kettle, s.reply kettle p .ring stOK params = holds (s.pe.hold ++ [r]) []) ∧
    (32 ≤ s.pe.hold.length → s.reply true p .ring stOK params = holds s.pe.hold [r] ∧
      let t := s.reply false p .ring stOK params
      t = { s with pe := { s.pe with rplLost := true }, tc := (s.count 1).tc, host := t.host } ∧
        t.host = if s.pe.rplLost then s.host else (s.raiseVector 2).host)) ∧
  (∀ (s : State) (r : Reply) (v : Word),
    s.Awake → s.shot 4 = false → s.pe.hold = [r] → s.pe.kettleWait = [] → r.raw = [] → r.params.length ≤ 48 → s.pe.rpl.en = true → s.host.bme = true →
    swf 0 s.host.mem = true → s.vectorOpen 0 = false → s.pe.rpl.tail < s.pe.rpl.slots → v.toNat % 4096 < s.pe.rpl.slots →
    v.toNat % 4096 ≠ (s.pe.rpl.tail + 1) % s.pe.rpl.slots →
    ∃ t, exec (.rplHead v) s = .next t ∧
      t.pe = { s.pe with hold := [], rpl := { s.pe.rpl with head := v.toNat % 4096, tail := (s.pe.rpl.tail + 1) % s.pe.rpl.slots } } ∧
      t.host.pba.getLsbD 0 = true ∧ s.SameButReplies t ∧
      ∀ i, i < 64 → mget t.host.mem (s.pe.rpl.base.toNat + 64 * s.pe.rpl.tail + i) = (s.replyBytes r).getD i 0)


/-- A command packet that fails one of checks 2 to 6 is answered with the first failing check's status and does nothing else (02 R56):
a LENGTH that is no multiple of 4, an opcode that is not defined, FLAGS or TARGET against R48, a TARGET that cannot be reached (12 R377, R378), a LENGTH
that the layout does not have.  Of the checks that Kettle makes: in SCRAPPED every opcode but five is refused (11 R363); the opcodes that print are refused
with an interlock latch set, then at a head below 15 °C that no wait covers or, for a resume, whose shutdown is latched, then with a second master on
the ring; a survey at a cold head (06 R224, 09 R314, 12 R378). -/
def Obligations.FirstFailingCheckAnswers : Prop :=
  ∀ (s : State) (p : Packet),
    (p.length % 4 ≠ 0 ∨ 4080 < p.length → s.handlePacket p .ring = s.reply false p .ring stBAD_LENGTH []) ∧
    (p.length % 4 = 0 → p.length ≤ 4080 → p.opcode.toNat ∉ opcodes → s.handlePacket p .ring = s.reply false p .ring stBAD_OPCODE []) ∧
    (p.length % 4 = 0 → p.length ≤ 4080 → p.opcode.toNat ∈ opcodes →
      (8 ≤ p.flags.toNat ∨ (p.broadcast = true ∧ p.target ≠ 0xFF) ∨ (p.broadcast = false ∧ p.target = 0xFF) ∨ (8 ≤ p.target.toNat ∧ p.target ≠ 0xFF)) →
      s.handlePacket p .ring = s.reply false p .ring stBAD_PARAM []) ∧
    (p.length % 4 = 0 → p.length ≤ 4080 → p.opcode.toNat ∈ opcodes → p.headerOk = true → p.target.toNat = s.deviceId →
      lengthOk p.opcode.toNat p.length p.params = false → s.handlePacket p .ring = s.reply false p .ring stBAD_LENGTH []) ∧
    (p.length % 4 = 0 → p.length ≤ 4080 → p.opcode.toNat ∈ opcodes → p.headerOk = true → p.target ≠ 0xFF → p.target.toNat ≠ s.deviceId →
      (s.link.id = none ∨ s.routeTo p.target.toNat = none ∨ (s.link.conflict = true ∧ p.hardware = false ∧ p.target ≠ 0)) →
      s.handlePacket p .ring = s.reply false p .ring stTARGET_UNREACHABLE []) ∧
    (∀ seq, s.otp.wires.lifecycle = 4 → p.opcode.toNat ∉ [0x0100, 0x0101, 0x0900, 0x0A00, 0x0A01] →
      s.runKettle p .ring seq = s.reply true p .ring stREFUSED_LIFECYCLE []) ∧
    (∀ seq slot j, s.otp.wires.lifecycle ≠ 4 → s.jobSlot (BitVec.ofNat 16 (le p.params 0 2)) = some slot → s.jobAt slot = some j →
      let waits : Prop := le p.params 2 2 % 2 = 1
      let cold : Prop := ∃ n, n ∈ j.chans ∧ (s.headSensor n).value < 150
      let latched : Prop := ∃ n, n ∈ j.chans ∧ s.shutdownLatched n = true
      let answers (st : BitVec 16) : Prop := s.runKettle p .ring seq = s.reply true p .ring st []
      (p.opcode = 0x0302 ∨ p.opcode = 0x0304 →
        (s.tripped = true → answers stREFUSED_INTERLOCK) ∧
        (s.tripped = false → ((¬ waits ∧ cold) ∨ (p.opcode = 0x0304 ∧ latched)) → answers stREFUSED_TEMPERATURE) ∧
        (s.tripped = false → ¬ ((¬ waits ∧ cold) ∨ (p.opcode = 0x0304 ∧ latched)) → s.link.conflict = true → answers stTARGET_CONFLICT))) ∧
    (∀ seq n, s.otp.wires.lifecycle ≠ 4 → p.opcode = 0x0600 → s.tripped = false → n < 48 → bit (le p.params 0 8) n = true → (s.chan n).attached = true →
      (s.headSensor n).value < 150 → s.runKettle p .ring seq = s.reply true p .ring stREFUSED_TEMPERATURE [])

/-- The Kettle queue (02 R63, R80, R82): a Kettle-bound packet joins its end, and is answered BUSY and not queued while Kettle is
stalled or 64 packets wait. -/
def Obligations.KettleQueueTakesSixtyFour : Prop :=
  ∀ (s : State) (p : Packet) (seq : Nat),
    (s.pe.stalled = true ∨ 64 ≤ s.pe.queue.length → s.enqueue p .ring seq = s.reply false p .ring stBUSY []) ∧
    (s.pe.stalled = false → s.pe.romFail = false → s.pe.queue.length < 64 →
      (s.enqueue p .ring seq).pe.queue = s.pe.queue ++ [{ pkt := p, src := .ring, seq := seq }] ∧
      s.SameButReplies (s.enqueue p .ring seq))

/-- PING returns its bytes, GET_INFO the identity, COUNTERS_READ the counters and flags it names (02 R76, 15 R449). -/
def Obligations.SystemQueriesAnswer : Prop :=
  ∀ (c : Cmd) (s : State),
    (s.KettleTakes 0x0100 c → exec (.ping c) s = .next (s.taken.ok 0x0100 c c.params)) ∧
    (s.KettleTakes 0x0101 c → ∃ b, exec (.getInfo c) s = .next (s.taken.ok 0x0101 c b) ∧ b.length = 36 ∧ le b 0 4 = 0x4816 ∧ le b 4 1 = 0xB1 ∧
      le b 5 1 = s.deviceId ∧ le b 7 1 = s.otp.wires.lifecycle % 256 ∧ le b 12 4 = s.otp.patch.toNat ∧
      (∀ n, n < 48 → bit (le b 20 8) n = (s.chan n).attached) ∧ le b 28 8 = s.storeBytes % 2 ^ 64) ∧
    (s.KettleTakes 0x0900 c → le c.params 0 1 ≤ 127 → 0 < le c.params 1 1 → le c.params 0 1 + le c.params 1 1 ≤ 128 → zeros c.params 2 2 = true →
      ∃ b, exec (.countersRead c) s = .next (s.taken.ok 0x0900 c b) ∧ b.take 4 = c.params ∧ le b 4 16 = s.tc.sat.toNat ∧
        (∀ i, i < le c.params 1 1 → le b (20 + 2 * i) 2 = (s.counter (le c.params 0 1 + i)).toNat) ∧
        b.length = 20 + 2 * le c.params 1 1 + 2 * (le c.params 1 1 % 2))

/-- FIRE_HOLD and FIRE_RELEASE set and clear the latch of the channels they name and leave every other channel field, job and axis, a hold ending a
survey on a channel it names; E_STOP sets the emergency-stop latch and closes the gate; MIRROR_SNAP puts its timebase into SNAP_TB
(02 R77, 03 R114, 06 R226, 14 R443). -/
def Obligations.HardwareOpcodesTakeEffect : Prop :=
  ∀ (c : Cmd) (s : State), s.Awake →
    (s.Addressed 0xF000 c → channelsOk (le c.params 0 8) = true →
      ∃ t, exec (.fireHold c) s = .next t ∧
        (∀ n, n < 48 → (t.chan n).hold = ((s.chan n).hold || bit (le c.params 0 8) n)) ∧
        (∀ n, n < 48 → t.chan n = { s.chan n with hold := (t.chan n).hold }) ∧ t.jobs = s.jobs ∧ t.axes = s.axes ∧ t.ilk = s.ilk ∧
        (∀ r, s.health.run = some r →
          (∀ n, n < 48 → r.channels.getLsbD n = true → bit (le c.params 0 8) n = true → t.health.run = none) ∧
          ((∀ n, r.channels.getLsbD n = true → n < 48 ∧ bit (le c.params 0 8) n = false) → t.health = s.health))) ∧
    (s.Addressed 0xF001 c → channelsOk (le c.params 0 8) = true →
      ∃ t, exec (.fireRelease c) s = .next t ∧
        (∀ n, n < 48 → (t.chan n).hold = ((s.chan n).hold && !bit (le c.params 0 8) n)) ∧
        (∀ n, n < 48 → t.chan n = { s.chan n with hold := (t.chan n).hold }) ∧ t.jobs = s.jobs ∧ t.axes = s.axes ∧ t.ilk = s.ilk) ∧
    (s.Addressed 0xF002 c → ∃ t, exec (.eStop c) s = .next t ∧ t.ilk.trips = s.ilk.trips ||| 8 ∧ t.gateOpen = false) ∧
    (s.Addressed 0xF003 c → swf 0 s.mirror.sram = true → ∃ t, exec (.mirrorSnap c) s = .next t ∧
        (∀ i, i < 4 → sget 0 t.mirror.sram (0x00C + i) = BitVec.ofNat 16 (s.timebase.toNat / 65536 ^ i)) ∧
        t.chans = s.chans ∧ t.jobs = s.jobs ∧ t.axes = s.axes)

/-! ### Rings -/

/-- CMD_TAIL, RPL_HEAD and EVT_HEAD: an index below 2^k is taken; CMD_TAIL starts a fetch of the slots from CMD_HEAD where the ring is
enabled and the device may read host memory; an index at or above 2^k changes no index and sets IDX_ERR (02 R50, R52, R54, 14 R478). -/
def Obligations.RingIndexWrites : Prop :=
  ∀ (v : Word) (s : State), s.Awake → s.shot 4 = false →
    (v.toNat % 4096 < s.pe.cmd.slots → ∃ t, exec (.cmdTail v) s = .next t ∧ t.pe.cmd = { s.pe.cmd with tail := v.toNat % 4096 } ∧
      (s.pe.cmd.en = true → s.host.bme = true → s.pe.fetch = none → s.pe.cmd.head ≠ v.toNat % 4096 →
        t.pe.fetch = some { next := s.pe.cmd.head, stop := v.toNat % 4096, buf := [] }) ∧
      (s.pe.cmd.en = false ∨ s.host.bme = false ∨ s.pe.fetch ≠ none ∨ s.pe.cmd.head = v.toNat % 4096 → t.pe.fetch = s.pe.fetch) ∧
      t = { s with pe := { s.pe with cmd := t.pe.cmd, fetch := t.pe.fetch } }) ∧
    (s.pe.cmd.slots ≤ v.toNat % 4096 → ∃ t, exec (.cmdTail v) s = .next t ∧ t.pe = { s.pe with idxErr := true }) ∧
    (v.toNat % 4096 < s.pe.rpl.slots → ∃ t, exec (.rplHead v) s = .next t ∧ t.pe.rpl.head = v.toNat % 4096 ∧ t.pe.cmd = s.pe.cmd ∧
      t.pe.queue = s.pe.queue ∧ ((∀ r, r ∈ s.pe.kettleWait → r.relayTo = none) → s.SameButReplies t) ∧
      (s.pe.hold = [] → s.pe.kettleWait = [] → t = { s with pe := { s.pe with rpl := { s.pe.rpl with head := v.toNat % 4096 } } })) ∧
    (s.pe.rpl.slots ≤ v.toNat % 4096 → ∃ t, exec (.rplHead v) s = .next t ∧ t.pe = { s.pe with idxErr := true }) ∧
    (v.toNat % 4096 < s.pe.evt.slots → ∃ t, exec (.evtHead v) s = .next t ∧ t.pe.evt.head = v.toNat % 4096 ∧ s.SameButReplies t ∧
      (s.pe.evtDropped = 0 → t = { s with pe := { s.pe with evt := { s.pe.evt with head := v.toNat % 4096 } } })) ∧
    (s.pe.evt.slots ≤ v.toNat % 4096 → ∃ t, exec (.evtHead v) s = .next t ∧ t.pe = { s.pe with idxErr := true })

/-- RING_CTL (02 R52, R53): an enable bit that rises sets both indices of its ring to 0; RING_RESET clears the enables, empties the
Kettle queue and the hold buffer without replies, ends the fetch, and then enables the rings whose bits stand beside it.  Nothing but the
packet engine and host memory changes, as far as no reply waits that goes to another device (02 R81). -/
def Obligations.RingEnables : Prop :=
  ∀ (s : State), s.Awake → s.shot 4 = false →
    let own (t : State) : Prop := (∀ r, r ∈ s.pe.kettleWait → r.relayTo = none) → s.SameButReplies t
    (∀ enables : BitVec 3, ∃ t, exec (.ringCtlReset enables) s = .next t ∧ t.pe.queue = [] ∧ t.pe.fetch = none ∧ own t ∧
      t.pe.cmd.en = enables.getLsbD 0 ∧ t.pe.rpl.en = enables.getLsbD 1 ∧ t.pe.evt.en = enables.getLsbD 2 ∧
      (enables.getLsbD 0 = true → t.pe.cmd.head = 0 ∧ t.pe.cmd.tail = 0) ∧ (enables.getLsbD 0 = false → t.pe.cmd.head = s.pe.cmd.head) ∧
      (enables.getLsbD 1 = true → t.pe.rpl.head = 0) ∧ (enables.getLsbD 2 = true → t.pe.evt.head = 0) ∧
      (s.pe.kettleWait = [] → t.pe.hold = [] ∧ (enables.getLsbD 1 = true → t.pe.rpl.tail = 0))) ∧
    (∀ on : Bool, ∃ t, exec (.cmdEn on) s = .next t ∧ t.pe.cmd.en = on ∧ (s.pe.cmd.en = false → on = true → t.pe.cmd.head = 0 ∧ t.pe.cmd.tail = 0) ∧
      (s.pe.cmd.en = on → t.pe.cmd = s.pe.cmd ∧ t.pe.fetch = s.pe.fetch) ∧ t.pe.queue = s.pe.queue ∧ own t) ∧
    (∀ on : Bool, ∃ t, exec (.rplEn on) s = .next t ∧ t.pe.rpl.en = on ∧ (s.pe.rpl.en = false → on = true → t.pe.rpl.head = 0) ∧
      (s.pe.hold = [] → s.pe.kettleWait = [] → s.pe.rpl.en = false → on = true → t.pe.rpl.tail = 0) ∧
      t.pe.cmd = s.pe.cmd ∧ t.pe.queue = s.pe.queue ∧ own t) ∧
    (∀ on : Bool, ∃ t, exec (.evtEn on) s = .next t ∧ t.pe.evt.en = on ∧ (s.pe.evt.en = false → on = true → t.pe.evt.head = 0) ∧
      (s.pe.evtDropped = 0 → s.pe.evt.en = false → on = true → t.pe.evt.tail = 0) ∧ t.pe.cmd = s.pe.cmd ∧ t.pe.queue = s.pe.queue ∧ own t)

/-- The immediate slot (02 R52, R55, 14 R445): GO hands the slot's packet to the checks; a packet whose CRC does not match is answered
CHECK_FAIL with FIRST_SLOT 0xFFFF and SLOTS 0, one longer than 48 bytes with BAD_LENGTH; any write of IMM_DOORBELL while the slot is busy is
lost and sets IMM_LOST; the mirror's IMM_GO does the same in RUN.  That any word with bit 0 set acts as 0x0001, and one without it only pulses source
0x64 and starts nothing, a busy slot or not, is the model's reading of the one value 0x0001 that R445 gives (log entry 33). -/
def Obligations.ImmediateSlot : Prop :=
  ∀ (s : State), s.Awake → s.shot 4 = false → s.shot 5 = false →
    let b := s.pe.immSlot.toList.flatMap (fun (w : Word) => toLe 4 w.toNat)
    let p := packetOf b
    let bad : Packet := { p with flags := p.flags ||| 1 }
    let m := ({ s with mirror := { s.mirror with out := none } } : State).raise 0x64
    (s.pe.immBusy = true → (∀ v, ∃ t, exec (.immDoorbell v) s = .next t ∧ s.SameButReplies t ∧ t.pe = { s.pe with immLost := true }) ∧
      (∀ v : BitVec 16, v.getLsbD 0 = true → ∃ t, exec (.immGo v) s = .next t ∧ m.SameButReplies t ∧ t.pe = { s.pe with immLost := true })) ∧
    (s.pe.immBusy = false →
      (∀ v : Word, v.getLsbD 0 = true → p.length ≤ 48 → crcOk b = true → exec (.immDoorbell v) s = .next (s.handlePacket p .imm)) ∧
      (∀ v : Word, v.getLsbD 0 = true → p.length ≤ 48 → crcOk b = false →
        exec (.immDoorbell v) s = .next (s.reply false bad .imm stCHECK_FAIL [0xFF, 0xFF, 0, 0])) ∧
      (∀ v : Word, v.getLsbD 0 = true → 48 < p.length → exec (.immDoorbell v) s = .next (s.reply false p .imm stBAD_LENGTH [])) ∧
      (∀ v : Word, v.getLsbD 0 = false → exec (.immDoorbell v) s = .next s) ∧
      (∀ v : BitVec 16, v.getLsbD 0 = true → p.length ≤ 48 → crcOk b = true → exec (.immGo v) s = .next (m.handlePacket p .imm)) ∧
      (∀ v : BitVec 16, v.getLsbD 0 = true → p.length ≤ 48 → crcOk b = false →
        exec (.immGo v) s = .next (m.reply false bad .imm stCHECK_FAIL [0xFF, 0xFF, 0, 0])) ∧
      (∀ v : BitVec 16, v.getLsbD 0 = true → 48 < p.length → exec (.immGo v) s = .next (m.reply false p .imm stBAD_LENGTH []))) ∧
    (∀ v : BitVec 16, v.getLsbD 0 = false → exec (.immGo v) s = .next m)

/-- A fetch of the command ring (02 R54, R57, R479): a completion that ends in the middle of a packet keeps the bytes; when the last slots of the
fetch complete a packet with a good CRC, CMD_HEAD passes it, a Kettle-bound one joins the queue and a FIRE_HOLD latches its holds; a packet
that only fails its first read is taken as read again, with a count; one that fails both discards every slot to CMD_TAIL; a read that fails
ends the fetch, keeps CMD_HEAD, and shows in HP_ERR and AER; no read times out while the host has disabled that (14 R422). -/
def Obligations.RingFetch : Prop :=
  ∀ (s : State) (f : Fetch), s.inRun = true → s.pe.fetch = some f →
    (∀ e, (e = .timeout → s.host.ctl.timeoutOff = false) →
      exec (.ringReadError e) s = .next { s with pe := { s.pe with fetch := none }, host := s.failed (readErrorBit e) (readErrorAer e) }) ∧
    (s.host.ctl.timeoutOff = true → exec (.ringReadError .timeout) s = .next s) ∧
    (∀ d r : Bytes, s.host.bme = true → s.shot 0 = false → f.buf.length % 64 = 0 → d ≠ [] → d.length % 64 = 0 →
      let left := (f.stop + s.pe.cmd.slots - f.next) % s.pe.cmd.slots
      let b := f.buf ++ d
      let n := extentOf b
      let queued (p : Packet) (t : State) : Prop := t.pe.queue = s.pe.queue ++ [{ pkt := p, src := .ring, seq := s.pe.seq }] ∧
        t.pe.cmd.head = (s.pe.cmd.head + n) % s.pe.cmd.slots ∧ t.pe.fetch = none ∧ t = { s with pe := t.pe, tc := t.tc }
      let waits (p : Packet) : Prop := s.packetCheck p .ring = none ∧ s.isRemote p .ring = false ∧ p.hardware = false ∧ s.pe.stalled = false ∧
        s.pe.romFail = false ∧ s.pe.queue.length < 64
      (d.length < 64 * left → b.length < 64 * n → exec (.ringReadCompletion d r) s =
        .next { s with pe := { s.pe with fetch := some { f with next := (f.next + d.length / 64) % s.pe.cmd.slots, buf := b } } }) ∧
      (d.length = 64 * left → b.length = 64 * n → f.stop = s.pe.cmd.tail →
        (crcOk b = true → waits (packetOf b) → ∃ t, exec (.ringReadCompletion d r) s = .next t ∧ queued (packetOf b) t ∧ t.tc = s.tc) ∧
        (crcOk b = false → r.length = b.length → crcOk r = true → extentOf r = n → waits (packetOf r) →
          ∃ t, exec (.ringReadCompletion d r) s = .next t ∧ queued (packetOf r) t ∧ t.tc = (s.count 0).tc) ∧
        (crcOk b = true → (packetOf b).opcode = 0xF000 → s.packetCheck (packetOf b) .ring = none → (packetOf b).target.toNat = s.deviceId →
          channelsOk (le (packetOf b).params 0 8) = true →
          ∃ t, exec (.ringReadCompletion d r) s = .next t ∧ t.pe.cmd.head = (s.pe.cmd.head + n) % s.pe.cmd.slots ∧ t.pe.fetch = none ∧
            ∀ k, k < 48 → (t.chan k).hold = ((s.chan k).hold || bit (le (packetOf b).params 0 8) k)) ∧
        (crcOk b = false → r.length = b.length → crcOk r = false → s.pe.cmd.tail < s.pe.cmd.slots →
          ∃ t, exec (.ringReadCompletion d r) s = .next t ∧ t.pe.cmd.head = s.pe.cmd.tail ∧ t.pe.fetch = none ∧ t.pe.queue = s.pe.queue ∧
            t.chans = s.chans ∧ t.jobs = s.jobs)))

/-- Kettle (02 R63, R79, R81, R82): it executes the packet at the head of its queue; after 5 ms without a take it is stalled, its
queue empty, every packet of it answered BUSY and event 0x0001 written with their number, or dropped; it recovers; its load is shown. -/
def Obligations.KettleTakesStallsRecovers : Prop :=
  ∀ (s : State),
    (∀ (q : QPacket) (r : List QPacket), s.kettleFree = true → s.pe.queue = q :: r → s.mustWait q = false →
      exec .kettleTakePacket s = .next (({ s with pe := { s.pe with queue := r, takeFrom := s.clock } }).runKettle q.pkt q.src q.seq)) ∧
    (∀ (q : QPacket) (r : List QPacket), s.pe.queue = q :: r → s.mustWait q = true → exec .kettleTakePacket s = .next s) ∧
    (∀ (q : QPacket) (r : List QPacket), s.inRun = true → s.pe.stalled = false → s.pe.queue = q :: r → s.mustWait q = false →
      s.pe.takeFrom + 5 * 400000 ≤ s.clock →
      ∃ t, exec .kettleStall s = .next t ∧ t.pe.queue = [] ∧ t.pe.stalled = true ∧ t.pe.stallSince = s.clock ∧ t.pe.ops = s.pe.ops ∧
        t.jobs = s.jobs ∧ t.chans = s.chans ∧ t.axes = s.axes ∧
        (s.shot 1 = false → s.shot 2 = false → s.pe.kettleWait = [] → s.pe.hold = [] → s.pe.rpl.en = false → s.pe.evtDropped = 0 → s.pe.queue.length ≤ 32 →
          (∀ x, x ∈ s.pe.queue → x.src = .ring) →
          t.pe.hold = s.pe.queue.map (fun x => { opcode := x.pkt.opcode, tag := x.pkt.tag, status := stBUSY, params := [] }) ∧
          (s.pe.evt.en = false → t.pe.evtDropped = 1 ∧ t.pe.evtLost = true ∧ t.tc = (s.count 2).tc) ∧
          (s.pe.evt.en = true → s.host.bme = true → 0 < s.pe.evt.free → s.pe.evt.tail < s.pe.evt.slots → swf 0 s.host.mem = true → s.vectorOpen 1 = false →
            t.pe.evt.tail = (s.pe.evt.tail + 1) % s.pe.evt.slots ∧ t.tc = s.tc ∧ t.host.pba.getLsbD 1 = true ∧
            ∀ i, i < 64 → mget t.host.mem (s.pe.evt.base.toNat + 64 * s.pe.evt.tail + i) =
              (({ s with pe := { s.pe with queue := [] } } : State).eventBytes 0xE100 s.timebase 1 s.pe.queue.length).getD i 0))) ∧
    (∀ (q : QPacket) (r : List QPacket), s.pe.queue = q :: r → s.clock < s.pe.takeFrom + 5 * 400000 → exec .kettleStall s = .next s) ∧
    (s.inRun = true → s.pe.rebooting = false → s.pe.romFail = false → s.pe.stalled = true →
      ∃ t, exec .kettleRecover s = .next t ∧ t.pe.stalled = false ∧ t.pe.takeFrom = s.clock ∧ t.jobs = s.jobs ∧ t.chans = s.chans) ∧
    (∀ k : Fin 101, s.inRun = true → exec (.kettleLoadUpdate k) s = .next { s with pe := { s.pe with load := BitVec.ofNat 8 k.val } })

/-! ### Registers -/

/-- Register writes (00 R9-R10, 14 R425): one with partial byte enables is discarded, sets HP_ERR.PARTIAL and counts; a whole write of BAR4_WIN
sets the window, of HP_ERR clears the bits written as 1, of any register that is read-only or that no rule names changes nothing; BASE and SIZE of a ring
are taken while it is disabled, a SIZE other than 8 to 12 or a write while it is enabled sets CFG_ERR (02 R52-R53); RING_STAT, the immediate slot, the
MSI-X table (14 R427; which dwords of an entry are its address, data and mask is presumed from PCI Express, log entry 7), the routes and EV_LATCH
(01 R38), the power and reset registers (13 R421), SH_LINE (04 R139), the DMA channels (10 R336), the OTP operands (11 R353), WL_CTL (12 R398) and
INJ_STAT (15 R451) take what their rules say. Reads (04 R140): HEAD_OFFSET_LO returns the low word and keeps the high word of that moment for
the next read of HEAD_OFFSET_HI, which drops it; a read of any register changes nothing else, one of a register that keeps no other word drops and keeps nothing, and these registers return their
values: the identity, the host port, WAKE_EN, WAKE_CAUSE, RST_CAUSE, the rings, the counters, and 0 where no rule names a register. -/
def Obligations.RegisterAccess : Prop :=
  (∀ (bar : Bar) (off : Nat) (v : Word) (s : State), s.Awake → s.shot 4 = false →
    (∀ be, be ≠ 0xF → exec (.registerWrite bar off v be) s = .next ((s.setHpErr 5).count 4)) ∧
    exec (.registerWrite .bar2 0x80 v 0xF) s = .next { s with host := { s.host with bar4Win := v.setWidth 6 } } ∧
    exec (.registerWrite .bar2 0x48 v 0xF) s = .next { s with host := { s.host with err := s.host.err &&& ~~~ (v.setWidth 6) } } ∧
    (off % 4 = 0 → writable bar off = false → exec (.registerWrite bar off v 0xF) s = .next s)) ∧
  (∀ (bar : Bar) (off : Nat) (s : State), s.Awake →
    ∃ t, exec (.loRegisterRead bar off) s = .next t ∧ t = { s with host := { s.host with readData := t.host.readData, hiLatch := t.host.hiLatch } } ∧
      (bar = .bar0 ∨ (lowWord (off / 4 * 4) = false ∧ s.host.hiLatch.find? (fun x => x.1 = off / 4 * 4) = none) → t.host.hiLatch = s.host.hiLatch)) ∧
  (∀ (s : State) (n : Fin 48), s.Awake →
    (s.host.hiLatch.find? (fun x => x.1 = chanOff n 0x28) = none →
      ∃ t, exec (.loRegisterRead .bar2 (chanOff n 0x28)) s = .next t ∧ t.host.readData = loWord (i64 (s.chan n.val).headOffset) ∧
        t.host.hiLatch.find? (fun x => x.1 = chanOff n 0x2C) = some (chanOff n 0x2C, hiWord (i64 (s.chan n.val).headOffset)) ∧
        t = { s with host := { s.host with readData := t.host.readData, hiLatch := t.host.hiLatch } }) ∧
    (∀ w, s.host.hiLatch.find? (fun x => x.1 = chanOff n 0x2C) = some (chanOff n 0x2C, w) →
      ∃ t, exec (.loRegisterRead .bar2 (chanOff n 0x2C)) s = .next t ∧ t.host.readData = w ∧
        t.host.hiLatch.find? (fun x => x.1 = chanOff n 0x2C) = none ∧
        t = { s with host := { s.host with readData := w, hiLatch := t.host.hiLatch } }) ∧
    (s.host.hiLatch = [] → ∀ x : Nat × Word, x ∈ [(0x00, 0x4816), (0x04, 0xB1), (0x44, s.host.recov), (0x48, s.host.err.setWidth 32),
        (0x80, s.host.bar4Win.setWidth 32), (0x108, s.pwr.wakeEn), (0x10C, s.pwr.wakeCause), (0x134, s.pwr.rstCause.setWidth 32),
        (chanOff n 0x20, BitVec.ofNat 32 (s.chan n.val).rateMax), (chanOff n 0x24, BitVec.ofInt 32 (s.chan n.val).rowOffset),
        (chanOff n 0x34, BitVec.ofNat 32 (s.chan n.val).lastLine), (0xA018, s.link.breaks), (0xA01C, s.link.replays), (0xB000, 0), (0xFFFC, 0)] →
      exec (.loRegisterRead .bar2 x.1) s = .next { s with host := { s.host with readData := x.2 } }) ∧
    (∀ k, k < 64 → s.host.hiLatch = [] → exec (.loRegisterRead .bar2 (0x3000 + 4 * k)) s =
      .next { s with host := { s.host with readData := BitVec.ofNat 32 ((s.counter (2 * k)).toNat + (s.counter (2 * k + 1)).toNat * 65536) } }) ∧
    (∀ x : Nat × Nat, x ∈ [(0x0C, s.pe.cmd.tail), (0x10, s.pe.cmd.head), (0x2C, s.pe.rpl.tail), (0x30, s.pe.rpl.head), (0x4C, s.pe.evt.tail),
        (0x50, s.pe.evt.head), (0x3000, s.host.pba.toNat), (0x3004, 0)] →
      exec (.loRegisterRead .bar0 x.1) s = .next { s with host := { s.host with readData := BitVec.ofNat 32 x.2 } })) ∧
  (∀ (s : State) (v : Word), s.Awake → s.shot 4 = false →
    let put (bar : Bar) (off : Nat) (t : State) : Prop := exec (.registerWrite bar off v 0xF) s = .next t
    (∀ x : Nat × Ring × (Ring → PacketEngine), x ∈ [(0x00, s.pe.cmd, fun r => { s.pe with cmd := r }), (0x20, s.pe.rpl, fun r => { s.pe with rpl := r }),
        (0x40, s.pe.evt, fun r => { s.pe with evt := r })] →
      let refused (off : Nat) : Prop := ∃ t, put .bar0 off t ∧ t = { s with pe := { s.pe with cfgErr := true }, host := t.host }
      let sets (off : Nat) (r : Ring) : Prop := put .bar0 (x.1 + off) { s with pe := x.2.2 r }
      (x.2.1.en = true → refused x.1 ∧ refused (x.1 + 4) ∧ refused (x.1 + 8)) ∧
      (x.2.1.en = false → sets 0 { x.2.1 with base := join64 (v &&& 0xFFFFF000) (hiWord x.2.1.base) } ∧ sets 4 { x.2.1 with base := join64 (loWord x.2.1.base) v } ∧
        (8 ≤ v.toNat % 16 → v.toNat % 16 ≤ 12 → sets 8 { x.2.1 with log2 := v.toNat % 16 }) ∧ (v.toNat % 16 < 8 ∨ 12 < v.toNat % 16 → refused (x.1 + 8)))) ∧
    put .bar0 0x64 { s with pe := { s.pe with
      immLost := s.pe.immLost && !v.getLsbD 4, evtLost := s.pe.evtLost && !v.getLsbD 3, rplLost := s.pe.rplLost && !v.getLsbD 2
      idxErr := s.pe.idxErr && !v.getLsbD 1, cfgErr := s.pe.cfgErr && !v.getLsbD 0 } } ∧
    (∀ i, i < 16 → (s.pe.immBusy = false → put .bar0 (0x100 + 4 * i) { s with pe := { s.pe with immSlot := vset s.pe.immSlot i v } }) ∧
      (s.pe.immBusy = true → ∃ t, put .bar0 (0x100 + 4 * i) t ∧ t = { s with pe := { s.pe with immLost := true }, host := t.host })) ∧
    (∀ k, k < 32 → s.host.pba = 0 →
      let entry (e : MsixEntry) : State := { s with host := { s.host with msix := vset s.host.msix k e } }
      put .bar0 (0x2000 + 16 * k) (entry { s.msixEntry k with addrLo := v &&& 0xFFFFFFFC }) ∧ put .bar0 (0x2004 + 16 * k) (entry { s.msixEntry k with addrHi := v }) ∧
        put .bar0 (0x2008 + 16 * k) (entry { s.msixEntry k with data := v }) ∧ put .bar0 (0x200C + 16 * k) (entry { s.msixEntry k with ctrl := v &&& 1 })) ∧
    (∀ k, k < 128 →
      put .bar2 (0x9000 + 4 * k) { s with fab := { s.fab with src := vset s.fab.src k { en := v.getLsbD 31, line := v.setWidth 6 } } } ∧
      put .bar2 (0x9400 + 4 * k) { s with fab := { s.fab with dst := vset s.fab.dst k { en := v.getLsbD 31, line := v.setWidth 6 } } }) ∧
    put .bar2 0x9800 { s with fab := { s.fab with latch := s.fab.latch &&& ~~~ v.setWidth 64 } } ∧
    put .bar2 0x9804 { s with fab := { s.fab with latch := s.fab.latch &&& ~~~ (v.setWidth 64 <<< 32) } } ∧
    (∀ pwr : Power → State, pwr = (fun p => { s with pwr := p }) →
      put .bar2 0x104 (pwr { s.pwr with refused := s.pwr.refused && !v.getLsbD 8 }) ∧ put .bar2 0x108 (pwr { s.pwr with wakeEn := (v &&& 0xFFFF001C) ||| 3 }) ∧
      put .bar2 0x10C (pwr { s.pwr with wakeCause := s.pwr.wakeCause &&& ~~~ v }) ∧ put .bar2 0x110 (pwr { s.pwr with aonTimer := v, aonTimerAt := s.clock }) ∧
      put .bar2 0x120 (pwr { s.pwr with lockLoss := s.pwr.lockLoss &&& ~~~ ((v >>> 8).setWidth 4) }) ∧
      put .bar2 0x134 (pwr { s.pwr with rstCause := s.pwr.rstCause &&& ~~~ v.setWidth 9 })) ∧
    (∀ n : Fin 48, s.pe.rebooting = false → s.pwr.blockHeld.getLsbD (n.val / 4) = false →
      put .bar2 (chanOff n 0x08) (s.modChan n.val (fun c => { c with shLine := v.toNat }))) ∧
    (∀ k : Fin 16, s.pe.rebooting = false → s.pwr.blockHeld.getLsbD 15 = false →
      let reg (off : Nat) (f : Dma → Dma) : Prop := put .bar2 (0x1000 + 0x40 * k.val + off) (s.modDma k.val f)
      reg 0 (fun c => { c with srcLo := some v }) ∧ reg 4 (fun c => { c with src := join64 (c.srcLo.getD (loWord c.src)) v, srcLo := none }) ∧
        reg 8 (fun c => { c with dstLo := some v }) ∧ reg 12 (fun c => { c with dst := join64 (c.dstLo.getD (loWord c.dst)) v, dstLo := none }) ∧
        reg 16 (fun c => { c with count := v })) ∧
    (put .bar2 0x2004 { s with otp := { s.otp with addr := v.setWidth 11 } } ∧ put .bar2 0x2008 { s with otp := { s.otp with wdata := v } } ∧
      put .bar2 0x2020 { s with otp := { s.otp with tamperSeen := s.otp.tamperSeen &&& ~~~ v.setWidth 4 } }) ∧
    (s.pwr.blockHeld.getLsbD 16 = false → v.getLsbD 8 = false → v.getLsbD 9 = false → v.getLsbD 10 = false →
      (s.link.en = false ∨ v.getLsbD 0 = true → put .bar2 0xA000 { s with link := { s.link with
        en := v.getLsbD 0, posEn := v.getLsbD 1, posEnc := v.toNat / 16 % 8 } }) ∧
      (s.link.en = true → v.getLsbD 0 = false → ∃ t, put .bar2 0xA000 t ∧ t.link.en = false ∧ t.link.east.state = .down ∧ t.link.west.state = .down ∧
        t.link.id = s.link.id ∧ t.jobs = s.jobs ∧ t.chans = s.chans)) ∧
    put .bar2 0x3300 { s with inj := { s.inj with refused := s.inj.refused && !v.getLsbD 29 } })


/-- A fire configuration register is written while its channel belongs to no open job, and otherwise ignored and counted (04 R141); HEAD_OFFSET
takes both halves at the write of its high word (04 R140); DRY is written at any time (04 R154). -/
def Obligations.FireConfiguration : Prop :=
  ∀ (n : Fin 48) (v : Word) (s : State), s.Awake → s.shot 4 = false → s.shot 18 = false → s.pe.rebooting = false → s.pwr.blockHeld.getLsbD (n.val / 4) = false →
    (s.jobOf n.val = none →
      (∃ t, exec (.headOffsetHiWrite n v) s = .next t ∧
        (t.chan n.val).headOffset = (join64 ((s.chan n.val).heldLo.getD (loWord (i64 (s.chan n.val).headOffset))) v).toInt ∧
        t = s.modChan n.val (fun c => { c with heldLo := none, headOffset := (t.chan n.val).headOffset })) ∧
      (0 < v.toNat % 2 ^ 17 → v.toNat % 2 ^ 17 ≤ 64000 →
        exec (.fireConfigWrite n 0x20 v) s = .next (s.modChan n.val (fun c => { c with rateMax := v.toNat % 2 ^ 17 }))) ∧
      exec (.fireConfigWrite n 0x24 v) s = .next (s.modChan n.val (fun c => { c with rowOffset := v.toInt })) ∧
      (s.otp.wires.lifecycle ≠ 2 → v.toNat % 16 ≤ 8 →
        exec (.fireConfigWrite n 0x1C v) s = .next (s.modChan n.val (fun c => { c with dry := v.getLsbD 8, posSrc := v.toNat % 16 })))) ∧
    (s.jobOf n.val ≠ none →
      exec (.headOffsetHiWrite n v) s = .next ((s.modChan n.val (fun c => { c with heldLo := none })).count 18) ∧
      exec (.fireConfigWrite n 0x20 v) s = .next (s.count 18) ∧ exec (.fireConfigWrite n 0x24 v) s = .next (s.count 18) ∧
      (s.otp.wires.lifecycle ≠ 2 → v.toNat % 16 ≤ 8 → v.toNat % 16 ≠ (s.chan n.val).posSrc →
        exec (.fireConfigWrite n 0x1C v) s = .next ((s.modChan n.val (fun c => { c with dry := v.getLsbD 8 })).count 18))) ∧
    (s.otp.wires.lifecycle ≠ 2 → v.toNat % 16 = (s.chan n.val).posSrc →
      exec (.fireConfigWrite n 0x1C v) s = .next (s.modChan n.val (fun c => { c with dry := v.getLsbD 8 })))

/-- Shadow registers and hand-overs (04 R142-R148): a shadow write outside a hand-over changes the shadow set only, one in either clock of a hand-over
also sets COLLIDE, arms the next boundary and counts; COMMIT on an idle channel makes the shadow set live in the next clock, with
HANDOVER_LINE 0xFFFFFFFF and source 0x1D; on a channel of a started job it arms the next line boundary; COMMIT_AT arms line SH_LINE, or the
next boundary with AT_LATE when that line's boundary has passed; a set taken at a boundary becomes live in the next clock.  A clock passes in
the step on an empty queue (log entry 1, the model's choice). -/
def Obligations.ShadowAndCommit : Prop :=
  ∀ (n : Fin 48) (s : State),
    let c := s.chan n.val
    let only (t : State) : Prop := t = s.modChan n.val (fun _ => t.chan n.val)
    -- a commit of an earlier clock still governs the boundary of this one
    let arms (c : Chan) (a : Arm) : Chan := { c with
      armed := some a, armedAt := s.clock, fixedSet := none, earlier := if c.armedAt < s.clock then c.armed.map (fun x => (x, c.fixedSet)) else c.earlier }
    (s.Awake → s.shot 4 = false → s.shot 19 = false → s.pe.rebooting = false → s.pwr.blockHeld.getLsbD (n.val / 4) = false →
      (∀ v : Word, let sel : ShadowSet := { c.shadow with rot := v.toNat / 4096 % 4, brewL := v.toNat / 256 % 8, brewM := v.toNat / 16 % 8, brewS := v.toNat % 8 }
        ((∀ h, c.handoverClock = some h → h + 1 < s.clock) →
          (∃ t, exec (.shadowWrite n 0x00 v) s = .next t ∧ only t ∧ t.chan n.val = { c with shadow := sel, recent := (t.chan n.val).recent }) ∧
          (∃ t, exec (.shadowWrite n 0x04 v) s = .next t ∧ only t ∧
            t.chan n.val = { c with shadow := { c.shadow with stitch := v.toNat % 16 }, recent := (t.chan n.val).recent })) ∧
        (∀ h, c.handoverClock = some h → h ≤ s.clock → s.clock ≤ h + 1 →
          ∃ t, exec (.shadowWrite n 0x00 v) s = .next t ∧ (t.chan n.val).shadow = sel ∧ (t.chan n.val).collide = true ∧ (t.chan n.val).armed = some .next ∧
            (t.chan n.val).live = c.live ∧ t.tc = ((s.raise 0x1E).count 19).tc ∧ 0x1E ∈ t.fab.raised ∧ (∀ m, m < 48 → m ≠ n.val → t.chan m = s.chan m))) ∧
      (s.started n.val = false → exec (.commit n) s = .next (s.modChan n.val (fun c => arms c .idle))) ∧
      (s.started n.val = true → exec (.commit n) s = .next (s.modChan n.val (fun c => arms c .next))) ∧
      (s.started n.val = false ∨ (∀ l, c.boundary = some l → l < c.shLine) →
        exec (.commitAt n) s = .next (s.modChan n.val (fun c => arms c (.line c.shLine)))) ∧
      (∀ l, s.started n.val = true → c.boundary = some l → c.shLine ≤ l →
        exec (.commitAt n) s = .next (s.modChan n.val (fun c => { arms c .next with atLate := true })))) ∧
    (s.inRunIdle = true → s.pending = [] → s.fab.raised = [] → s.fab.due = [] → s.inj.released = none →
      (c.taken = none → c.armed = some .idle → c.armedAt ≤ s.clock →
        ∃ t, step s = .next t ∧ t.chan n.val = { c with live := c.shadow, prevSet := none, handoverLine := 0xFFFFFFFF, armed := none, fixedSet := none, earlier := none } ∧
          0x1D ∈ t.fab.raised ∧ t.jobs = s.jobs ∧ t.axes = s.axes) ∧
      (∀ set l h, c.taken = some (set, l, h) → h ≤ s.clock → c.armed ≠ some .idle →
        ∃ t, step s = .next t ∧ t.chan n.val = { c with live := set, prevSet := some (c.live, l), handoverLine := l, taken := none } ∧
          0x1D ∈ t.fab.raised ∧ t.jobs = s.jobs ∧ t.axes = s.axes))

/-- The counters (15 R447, R450): TC_CLEAR and COUNTERS_CLEAR set exactly the selected counters and flags to 0; one detection adds one,
several add together, it stops at 0xFFFF and then sets the flag. -/
def Obligations.CountersCountAndClear : Prop :=
  ∀ (s : State),
    (∀ (j : Fin 4) (v : Word), s.Awake → s.shot 4 = false → ∃ t, exec (.tcClear j v) s = .next t ∧ t = { s with tc := t.tc } ∧
      ∀ k, k < 128 → t.counter k = (if k / 32 = j.val ∧ v.getLsbD (k % 32) then 0 else s.counter k) ∧
        t.tc.sat.getLsbD k = (s.tc.sat.getLsbD k && !(decide (k / 32 = j.val) && v.getLsbD (k % 32)))) ∧
    (∀ c : Cmd, s.KettleTakes 0x0901 c → ∃ t, exec (.countersClear c) s = .next t ∧ { t with pe := s.pe, host := s.host } = { s with tc := t.tc } ∧
      ∀ k, k < 128 → t.counter k = (if bit (le c.params 0 16) k then 0 else s.counter k) ∧
        t.tc.sat.getLsbD k = (s.tc.sat.getLsbD k && !bit (le c.params 0 16) k)) ∧
    (∀ k, k < 128 → (s.counter k).toNat < 0xFFFF → ((s.count k).counter k).toNat = (s.counter k).toNat + 1 ∧ (s.count k).tc.sat = s.tc.sat) ∧
    (∀ k, k < 128 → s.counter k = 0xFFFF → (s.count k).counter k = 0xFFFF ∧ (s.count k).tc.sat.getLsbD k = true) ∧
    (∀ k a b, k < 128 → (s.counter k).toNat + a + b ≤ 0xFFFF →
      ((s.countN k (a + b)).counter k).toNat = (s.counter k).toNat + a + b ∧ ((s.countN k a).countN k b).tc = (s.countN k (a + b)).tc) ∧
    (∀ k i, i ≠ k → (s.count k).counter i = s.counter i)

/-- Injection (15 R451-R455): an arm, the release of a shot whose detector waits for a check, the release of a "count only" shot, an
INJ_GO without its key or of a detector that is not armed.  Which shots act at their release, at a moment, and which wait for a check is the model's
reading of those rules (log entry 29, DEDUCED). -/
def Obligations.Injection : Prop :=
  ∀ (s : State),
    let atOnce : List Nat := [3, 6, 7, 24, 65, 68, 69, 82, 83, 101, 102, 103, 114, 115, 116]
    let released (k : Nat) : Sys2Proof.Machine.Injection := { s.inj with shots := s.inj.shots - 1, released := some k }
    (∀ c : Cmd, s.KettleTakes 0x0910 c → s.injForbidden = false → (s.otp.wires.lifecycle = 2 → s.firingStill = true) →
      detectorOk (le c.params 0 1) = true → 0 < le c.params 1 1 → zeros c.params 2 2 = true →
      exec (.injectArm c) s = .next (({ s.taken with inj :=
        { armed := some (le c.params 0 1), shots := le c.params 1 1, refused := s.inj.refused } }).ok 0x0910 c [])) ∧
    (∀ c : Cmd, s.KettleTakes 0x0911 c → s.injectStatus (le c.params 0 1) = stOK → zeros c.params 1 3 = true →
      (le c.params 0 1 ∉ atOnce → exec (.inject c) s = .next (({ s.taken with inj := released (le c.params 0 1) }).ok 0x0911 c [])) ∧
      (le c.params 0 1 ∈ [3, 82, 83, 103, 115] → ∃ t, exec (.inject c) s = .next t ∧
        t.inj = { s.inj with shots := s.inj.shots - 1, taken := s.inj.taken + 1, released := none } ∧
        t.tc = (s.count (le c.params 0 1)).tc ∧ t.chans = s.chans ∧ t.jobs = s.jobs)) ∧
    (∀ v : Word, s.Awake → s.shot 4 = false → v.toNat / 65536 = 0x494A → s.injectStatus (v.toNat % 128) = stOK →
      (v.toNat % 128 ∈ [3, 82, 83, 103, 115] →
        exec (.injGo v) s = .next (({ s with inj := { s.inj with shots := s.inj.shots - 1, taken := s.inj.taken + 1, released := none } }).count (v.toNat % 128))) ∧
      (v.toNat % 128 ∉ atOnce → exec (.injGo v) s = .next { s with inj := released (v.toNat % 128) })) ∧
    (∀ v : Word, s.Awake → s.shot 4 = false → v.toNat / 65536 ≠ 0x494A → exec (.injGo v) s = .next s) ∧
    (∀ v : Word, s.Awake → s.shot 4 = false → v.toNat / 65536 = 0x494A → s.injectStatus (v.toNat % 128) ≠ stOK →
      exec (.injGo v) s = .next { s with inj := { s.inj with refused := true } })

/-- The event fabric (01 R31-R34, R37, R38): EV_SOFT sends one pulse on its way; sources that pulse in one clock set the latch bit of the
line each drives, and two on one line count one merge; a source whose route is disabled is discarded and not counted; a strobe consumer whose line is
pulsed holds the pulse in its pending flag for 2 or 3 clocks of its domain, which of them is free (log entry 6), and a pulse that finds the flag set
merges and is counted; the pulse then arms the flash, unless a survey runs, in a step on an empty queue, one FIRE tick (log entry 1, the model's choice).
The event ring (02 R60, R61, R62, 14 R427): a record is written at EVT_TAIL and its vector raised, or dropped, which sets EVT_LOST and counts; a device
event 0x0003 tells how many were once EVT_HEAD frees a slot; a consumer from 0x20 on writes a record of its input, whose DATA is free (log entry 6). -/
def Obligations.EventFabric : Prop :=
  ∀ (s : State),
    let unheard (l : BitVec 6) : Prop := ∀ k, k < 128 → (vget s.fab.dst k {}).en = true → (vget s.fab.dst k {}).line ≠ l
    (∀ l : BitVec 6, s.Awake → s.shot 4 = false →
      exec (.evSoft l) s = .next { s with fab := { s.fab with raised := s.fab.raised ++ [0x80 + l.toNat] } }) ∧
    (∀ (a b : Nat) (l : BitVec 6), s.inRunIdle = true → sourceId a = true → sourceId b = true → a ≠ b → a < 0x80 → b < 0x80 →
      vget s.fab.src a {} = { en := true, line := l } → a ∉ s.fab.raised →
      (unheard l → exec (.eventPulse [a]) s = .next (s.latchLine l)) ∧
      (vget s.fab.src b {} = { en := true, line := l } → b ∉ s.fab.raised → unheard l → exec (.eventPulse [a, b]) s = .next ((s.count 3).latchLine l)) ∧
      (∀ p : Fin 2, s.pe.rebooting = false →
        (∀ k, k < 128 → (vget s.fab.dst k {}).en = true → (vget s.fab.dst k {}).line = l → k = 0x10 + p.val) →
        vget s.fab.dst (0x10 + p.val) {} = { en := true, line := l } →
        (s.isPend (0x10 + p.val) = true → exec (.eventPulse [a]) s = .next ((s.latchLine l).count 3)) ∧
        (s.isPend (0x10 + p.val) = false → s.fab.due = [] → ∃ t d, exec (.eventPulse [a]) s = .next t ∧ t.isPend (0x10 + p.val) = true ∧
          t.fab.due = [(0x10 + p.val, s.clock + d)] ∧ 2 ≤ d ∧ d ≤ 3 ∧ t.fab.latch = (s.latchLine l).fab.latch ∧ t.cam = s.cam ∧ t.tc = s.tc))) ∧
    (∀ (p : Fin 2) (c : Nat), s.inRunIdle = true → s.pending = [] → s.fab.raised = [] → s.inj.released = none → s.pe.queue = [] →
      s.fab.due = [(0x10 + p.val, c)] → s.isPend (0x10 + p.val) = true → c ≤ s.clock + 1 → (s.port p.val).flashArmed = false →
      ∃ t, step s = .next t ∧ t.isPend (0x10 + p.val) = false ∧ (t.port p.val).flashArmed = decide (s.health.run = none)) ∧
    (∀ a : Nat, s.inRunIdle = true → sourceId a = true → a < 0x80 → (vget s.fab.src a {}).en = false → a ∉ s.fab.raised →
      exec (.eventPulse [a]) s = .next s) ∧
    -- the event ring
    (∀ r : Ring, r = s.pe.evt →
      let usable : Prop := r.en = true ∧ s.host.bme = true ∧ r.tail < r.slots ∧ swf 0 s.host.mem = true ∧ ∀ v, v < 32 → s.vectorOpen v = false
      let record (t : State) (b : Bytes) : Prop := (∀ i, i < 64 → mget t.host.mem (r.base.toNat + 64 * r.tail + i) = b.getD i 0) ∧
        ∀ a, a < r.base.toNat + 64 * r.tail ∨ r.base.toNat + 64 * (r.tail + 1) ≤ a → mget t.host.mem a = mget s.host.mem a
      (∀ (fabric : Bool) (tb : BitVec 64) (code data : Nat), s.shot 2 = false →
        let t := s.event fabric tb code data
        (usable → 0 < r.free → s.pe.evtDropped = 0 → t.pe = { s.pe with evt := { r with tail := (r.tail + 1) % r.slots } } ∧ s.SameButReplies t ∧
          record t (s.eventBytes (if fabric then 0xE000 else 0xE100) tb code data) ∧ t.host.pba =
            if fabric = false ∧ code = 0x40 then s.host.pba else setBit s.host.pba (if fabric = true ∧ code ≤ 28 then code + 3 else 1) true) ∧
        (r.en = false ∨ s.host.bme = false ∨ r.free = 0 → t.pe = { s.pe with evtDropped := s.pe.evtDropped + 1, evtLost := true } ∧
          t.tc = (s.count 2).tc ∧ t = { s with pe := t.pe, host := t.host, tc := t.tc })) ∧
      (∀ v : Word, s.Awake → s.shot 4 = false → usable → s.pe.evtDropped ≠ 0 → v.toNat % 4096 < r.slots → v.toNat % 4096 ≠ (r.tail + 1) % r.slots →
        ∃ t, exec (.evtHead v) s = .next t ∧ s.SameButReplies t ∧ record t (s.eventBytes 0xE100 s.timebase 3 s.pe.evtDropped) ∧
          t.pe = { s.pe with evtDropped := 0, evt := { r with head := v.toNat % 4096, tail := (r.tail + 1) % r.slots } }) ∧
      (∀ (a : Nat) (l : BitVec 6) (n : Fin 32), s.inRunIdle = true → sourceId a = true → a < 0x80 → vget s.fab.src a {} = { en := true, line := l } →
        a ∉ s.fab.raised → (∀ k, k < 128 → (vget s.fab.dst k {}).en = true → (vget s.fab.dst k {}).line = l → k = 0x20 + n.val) →
        vget s.fab.dst (0x20 + n.val) {} = { en := true, line := l } → s.shot 2 = false → usable → 0 < r.free → s.pe.evtDropped = 0 →
        ∃ t data, exec (.eventPulse [a]) s = .next t ∧ record t (s.eventBytes 0xE000 s.timebase n.val data) ∧
          t.pe = { s.pe with evt := { r with tail := (r.tail + 1) % r.slots } } ∧ t.fab = (s.latchLine l).fab ∧ t.tc = s.tc ∧ t.cam = s.cam))

/-! ### The mirror port -/

/-- Mirror reads (14 R442): a word that belongs to no wide value, and a non-low word of a value that the latch does not hold, reads as it stands;
a low word loads the latch with its value's words; another word of the latched value comes from the latch; a word with a single-bit error reads corrected, one
with an uncorrectable error reads 0, each counted in RUN and IDLE alone (10 R322, R323, 15 R448). Mirror writes (14 R437, R445): an access with both
strobes low and a write of a word that takes none count and write nothing; an E_STOP write with its value sets the emergency-stop latch in every state,
and any other value is counted; a DOORBELL in RUN is a write of CMD_TAIL, in IDLE and SLEEP it and an IMM_GO are held and wake the device, as WAKE does;
each accepted write, E_STOP among them, pulses source 0x64: on its way in RUN and IDLE, into its latch bit below (01 R35).  That any IMM_GO with bit 0 set
acts as the one value 0x0001 of R445 is deduced (log entry 33). -/
def Obligations.MirrorAccess : Prop :=
  (∀ (a : BitVec 12) (s : State), s.pwr.supply = true →
    (valueAt a.toNat = none →
      exec (.mirrorRead a .clean) s = .next { s with mirror := { s.mirror with out := some (s.mirrorWord a.toNat) } } ∧
      exec (.mirrorRead a .corrected) s = .next { s with
        mirror := { s.mirror with out := some (s.mirrorWord a.toNat) }, tc := if s.inRunIdle then (s.count 80).tc else s.tc } ∧
      ∃ t, exec (.mirrorRead a .bad) s = .next t ∧ t.mirror.out = some 0 ∧ t.mirror.latch = s.mirror.latch ∧
        t.tc = (if s.inRunIdle then (s.count 81).tc else s.tc) ∧ t = { s with mirror := t.mirror, tc := t.tc }) ∧
    (∀ n, valueAt a.toNat = some (a.toNat, n) → exec (.mirrorRead a .clean) s = .next { s with mirror := { s.mirror with
      out := some (s.mirrorWord a.toNat), latch := some (a.toNat, (List.range n).map (fun i => s.mirrorWord (a.toNat + i))) } }) ∧
    (∀ low n ws, valueAt a.toNat = some (low, n) → a.toNat ≠ low → s.mirror.latch = some (low, ws) →
      exec (.mirrorRead a .clean) s = .next { s with mirror := { s.mirror with out := some (ws.getD (a.toNat - low) 0) } }) ∧
    (∀ low n, valueAt a.toNat = some (low, n) → a.toNat ≠ low → (∀ tag ws, s.mirror.latch = some (tag, ws) → tag ≠ low) →
      exec (.mirrorRead a .clean) s = .next { s with mirror := { s.mirror with out := some (s.mirrorWord a.toNat) } })) ∧
  (∀ (s : State), s.pwr.supply = true → s.shot 5 = false →
    let free : State := { s with mirror := { s.mirror with out := none } }
    let pulses (t : State) : Prop := (s.inRunIdle = true → 0x64 ∈ t.fab.raised) ∧
      (s.inRunIdle = false → (vget s.fab.src 0x64 {}).en = true → t.fab.latch.getLsbD (vget s.fab.src 0x64 {}).line.toNat = true)
    exec .mirrorBadAccess s = .next (free.count 5) ∧
    (∀ a v, writeWord a v = false → exec (.mirrorWriteRejected a v) s = .next (free.count 5)) ∧
    (∃ t, exec (.mirrorEStop 0xE5E5) s = .next t ∧ t.ilk.trips = s.ilk.trips ||| 8 ∧ t.gateOpen = false ∧ t.pwr = s.pwr ∧ t.mirror = free.mirror ∧ pulses t) ∧
    (∀ v, v ≠ 0xE5E5 → exec (.mirrorEStop v) s = .next (free.count 5)) ∧
    (s.Awake → (∀ v : BitVec 16, exec (.doorbell v) s = .next ((free.raise 0x64).writeCmdTail (v.toNat % 4096))) ∧
      (∀ v : BitVec 16, exec (.wake v) s = .next (free.raise 0x64))) ∧
    (∀ v : BitVec 16, s.pwr.state = .idle ∨ s.pwr.state = .sleep → s.pwr.pinHeld = false → s.pwr.waking = false → s.pwr.wakeEn.getLsbD 1 = true →
      let woken (t : State) : Prop := t.pwr.waking = true ∧ t.pwr.wakeCause.getLsbD 1 = true ∧ t.pe = s.pe ∧ t.chans = s.chans ∧ pulses t
      (∃ t, exec (.doorbell v) s = .next t ∧ t.mirror = { free.mirror with heldTail := some (v.toNat % 4096) } ∧ woken t) ∧
      (v.getLsbD 0 = true → ∃ t, exec (.immGo v) s = .next t ∧ t.mirror = { free.mirror with heldGo := true } ∧ woken t) ∧
      (∃ t, exec (.wake v) s = .next t ∧ t.mirror = free.mirror ∧ woken t)))


/-- The mirror words follow their sources (14 R441, R444): a refresh puts POWER, the interlock inputs and every trouble counter into their words; in RUN and
IDLE also part number, DEVICE, the trips, the holds and the rings' indices; below IDLE it leaves every word that is not kept in AON as it stands, and
of TRIP only the local latches follow.  An interlock input reads asserted at its assertion and deasserted after the release of its class; when it deasserts
between the two no command tells, so there it is free (log entry 16, the model's choice). -/
def Obligations.MirrorWordsFollow : Prop :=
  ∀ (s : State), s.pwr.supply = true → swf 0 s.mirror.sram = true →
    ∃ t, exec .mirrorRefresh s = .next t ∧ t = { s with mirror := { s.mirror with sram := t.mirror.sram } } ∧
      (∀ k, k < 128 → t.mirrorWord (0x100 + k) = s.counter k) ∧ t.mirrorWord 0x010 = s.interlockIn.setWidth 16 ∧
      (∀ i, i < 13 → (s.ilk.inputs.getLsbD i = false → (t.mirrorWord 0x010).getLsbD i = false) ∧
        (s.ilk.inputs.getLsbD i = true → vget s.ilk.inputAt i 0 = s.clock → (t.mirrorWord 0x010).getLsbD i = true)) ∧
      t.mirrorWord 0x004 = BitVec.ofNat 16 (s.pwr.state.code + b2n (decide (s.pwr.state = .run) && (List.range 48).any (fun n => (s.chan n).cosy)) * 8 +
        b2n (decide (s.pwr.state = .sleep) || decide (s.pwr.state = .off)) * 16 + b2n s.pwr.waking * 32) ∧
      (s.inRunIdle = true → t.mirrorWord 0x001 = 0x4816 ∧ t.mirrorWord 0x002 = 0x00B1 ∧ t.mirrorWord 0x003 = BitVec.ofNat 16 s.idDevice ∧
        t.mirrorWord 0x0C0 = BitVec.ofNat 16 s.pe.cmd.head ∧ t.mirrorWord 0x0C1 = BitVec.ofNat 16 s.pe.rpl.tail ∧
        t.mirrorWord 0x0C2 = BitVec.ofNat 16 s.pe.evt.tail ∧ t.mirrorWord 0x011 = BitVec.ofNat 16 s.tripWord ∧
        (∀ n, n < 48 → (t.mirrorWord (0x014 + n / 16)).getLsbD (n % 16) = (s.chan n).hold)) ∧
      (s.inRunIdle = false → (t.mirrorWord 0x011).toNat = (s.mirrorWord 0x011).toNat / 16 * 16 + s.ilk.trips.toNat ∧
        ∀ a, (a < 4 ∨ a = 5 ∨ (0x00C ≤ a ∧ a < 0x010) ∨ (0x012 ≤ a ∧ a < 0x018) ∨ (0x01C ≤ a ∧ a < 0x0C9) ∨ (0x0CA ≤ a ∧ a < 0x100) ∨ 0x188 ≤ a) →
          t.mirrorWord a = s.mirrorWord a)

/-! ### The PCIe endpoint -/

/-- A fundamental reset, a hot reset and a Function Level Reset reset the endpoint and act on the rings as RING_RESET, in every state with power; channels,
jobs, axes, counters, HP_ERR and BAR4_WIN stay (13 R420); that a fundamental reset also empties the AER record is presumed from PCI Express (log entry
7), and that it takes the link down is deduced (log entry 13); a Link Down does the same as a hot reset, counts in RUN and IDLE and is reported through
AER (14 R433, R435, 15 R448). Recoveries count once each unless they are for speed, width or L1 (14 R434); a link trained to a speed and width of R422
shows them; clearing Bus Master Enable stops the ring fetch, setting it starts the fetch again without a doorbell (14 R478); the other writes of the
configuration space, for which that row stands (log entry 7), touch the endpoint alone, and D3hot shows. -/
def Obligations.EndpointAndLink : Prop :=
  (∀ (s : State),
    let reset (t : State) : Prop := t.host.bme = false ∧ t.host.msixEn = false ∧ t.host.funcMask = true ∧ t.host.dstate = 0 ∧ t.host.ctl = {} ∧ t.pe.cmd.en = false ∧ t.pe.rpl.en = false ∧
      t.pe.evt.en = false ∧ t.pe.queue = [] ∧ t.host.bar4Win = s.host.bar4Win ∧ t.axes = s.axes ∧ t.pwr = s.pwr
    let quiet : Prop := s.tiles = [] ∧ ∀ k, k < 16 → (s.dma k).run = none ∧ (s.dma k).pending = false
    let kept (t : State) : Prop := t.pe.hold = [] ∧ t.host.err = s.host.err ∧ t.chans = s.chans ∧ t.jobs = s.jobs
    (s.pwr.supply = true →
      (∃ t, exec .fundamentalReset s = .next t ∧ reset t ∧ t.host.linkUp = false ∧ t.host.aer = [] ∧ (quiet → kept t ∧ t.tc = s.tc)) ∧
      (∃ t, exec .hotReset s = .next t ∧ reset t ∧ (quiet → kept t ∧ t.tc = s.tc)) ∧
      (∃ t, exec .functionLevelReset s = .next t ∧ reset t ∧ (quiet → kept t ∧ t.tc = s.tc))) ∧
    (s.host.linkUp = true → s.shot 7 = false → ∃ t, exec .pcieLinkDown s = .next t ∧ reset t ∧ t.host.linkUp = false ∧
      t.host.aer.contains .surpriseDown = true ∧ (quiet → kept t ∧ t.tc = if s.inRunIdle then (s.count 7).tc else s.tc))) ∧
  (∀ (s : State),
    (s.inRunIdle = true → s.host.linkUp = true → s.shot 6 = false →
      exec (.pcieRecovery true) s = .next ({ s with host := { s.host with recov := s.host.recov + 1 } }.count 6) ∧ exec (.pcieRecovery false) s = .next s) ∧
    (s.inRunIdle = true →
      (∀ v w, s.host.linkUp = false → let listed : Prop := (v = 1 ∨ v = 2 ∨ v = 3) ∧ (w = 1 ∨ w = 2 ∨ w = 4)
        (listed → exec (.pcieLinkUp v w) s = .next { s with
          host := { s.host with linkUp := true, speed := v, width := w }, pwr := { s.pwr with pllLock := setBit s.pwr.pllLock 2 true } }) ∧
        (¬ listed → exec (.pcieLinkUp v w) s = .next s)) ∧
      (∀ w, (∀ on, w ≠ .bme on) → ∃ t, exec (.busMasterEnable w) s = .next t ∧ t = { s with host := { s.host with
        dstate := t.host.dstate, ctl := t.host.ctl, aer := t.host.aer, aerFatal := t.host.aerFatal, aerMask := t.host.aerMask } }) ∧
      (∀ d3, exec (.busMasterEnable (.power d3)) s = .next { s with host := { s.host with dstate := if d3 then 3 else 0 } }) ∧
      (s.host.bme = true → ∃ t, exec (.busMasterEnable (.bme false)) s = .next t ∧ t.host.bme = false ∧ t.pe.fetch = none ∧ t.pe.cmd = s.pe.cmd ∧ t.axes = s.axes ∧
        (s.tiles = [] → (∀ k, k < 16 → (s.dma k).run = none ∧ (s.dma k).pending = false) → t.chans = s.chans ∧ t.jobs = s.jobs ∧ t.tc = s.tc)) ∧
      (s.host.bme = false → ∃ t, exec (.busMasterEnable (.bme true)) s = .next t ∧ t.host.bme = true ∧ t.chans = s.chans ∧ t.jobs = s.jobs ∧
        t.pe.cmd = s.pe.cmd ∧ ((∀ r, r ∈ s.pe.kettleWait → r.relayTo = none) → s.SameButReplies t) ∧
        (s.Awake → s.pe.fetch = none → s.pe.cmd.en = true → s.pe.cmd.head ≠ s.pe.cmd.tail →
          t.pe.fetch = some { next := s.pe.cmd.head, stop := s.pe.cmd.tail, buf := [] }))))


/-- MSI-X (14 R427, R428): a vector raised while its entry is masked, or while the function mask or MSI-X Enable forbids it, sets its PBA bit
and sends nothing; a second raise merges with it; unmasking lifts the one mask and, where nothing else forbids the message, sends it once and
clears the bit.  That bit 0 of an entry's last dword is its mask, and which of its dwords are address and data, is presumed from PCI Express (log entry
7): R427 gives 16 bytes for each entry. -/
def Obligations.VectorsWaitForUnmask : Prop :=
  ∀ (s : State) (v : Fin 32),
    ((s.msixEntry v.val).ctrl.getLsbD 0 = true ∨ s.host.funcMask = true ∨ s.host.msixEn = false →
      s.raiseVector v.val = { s with host := { s.host with pba := setBit s.host.pba v.val true } } ∧
      (s.raiseVector v.val).raiseVector v.val = s.raiseVector v.val) ∧
    (s.Awake → s.shot 4 = false →
      let host (t : State) : Prop := t = { s with host := { s.host with msix := t.host.msix, funcMask := t.host.funcMask, msixEn := t.host.msixEn, pba := t.host.pba, mem := t.host.mem } }
      (∃ t, exec (.msixUnmask (.vector v)) s = .next t ∧ host t ∧ (t.msixEntry v.val).ctrl.getLsbD 0 = false ∧ t.host.funcMask = s.host.funcMask ∧
        t.host.msixEn = s.host.msixEn ∧ (∀ w, w < 32 → w ≠ v.val → t.msixEntry w = s.msixEntry w) ∧ (s.host.pba = 0 → t.host.pba = 0 ∧ t.host.mem = s.host.mem)) ∧
      (∀ m, ∃ t, exec (.msixUnmask (.function m)) s = .next t ∧ host t ∧ t.host.funcMask = m ∧ t.host.msix = s.host.msix ∧ t.host.msixEn = s.host.msixEn ∧
        (m = true → t.host.pba = s.host.pba)) ∧
      (∀ on, ∃ t, exec (.msixUnmask (.enable on)) s = .next t ∧ host t ∧ t.host.msixEn = on ∧ t.host.msix = s.host.msix ∧ t.host.funcMask = s.host.funcMask ∧
        (on = false → t.host.pba = s.host.pba)) ∧
      (s.host.msixEn = true → s.host.funcMask = false → s.host.bme = true → (s.msixEntry v.val).ctrl.getLsbD 0 = true →
        swf 0 s.host.mem = true → (∀ w, w < 32 → s.host.pba.getLsbD w = decide (w = v.val)) →
        ∃ t, exec (.msixUnmask (.vector v)) s = .next t ∧ t.host.pba = 0 ∧
          ∀ i, i < 4 → mget t.host.mem ((join64 (s.msixEntry v.val).addrLo (s.msixEntry v.val).addrHi).toNat + i) =
            BitVec.ofNat 8 ((s.msixEntry v.val).data.toNat / 256 ^ i)))

/-- BAR4 (14 R425, R432, R433, 10 R333): a write puts its enabled bytes inside STORE at WIN × 256 MB + x and nothing else; a read returns the bytes, one
that meets an uncorrectable word completes poisoned; a read, and a partial write, which reads the words it changes, counts every word corrected and
every uncorrectable one; a poisoned write writes nothing; an access at or beyond STORE sets HP_ERR.OUTSIDE, writes nothing and reads 0; without the
BAR the request is unsupported. -/
def Obligations.ApertureAccess : Prop :=
  ∀ (s : State) (off len corrected bad : Nat), s.Awake → off < 2 ^ 28 →
    let a := s.host.bar4Win.toNat * 2 ^ 28 + off
    let counted : State := (s.countN 84 corrected).countN 85 bad
    (s.otp.wires.bar4 = false → ∀ w e, exec (.bar4Access off w len e) s = .next { s with host := s.reported .unsupportedRequest }) ∧
    (s.otp.wires.bar4 = true →
      (∀ b : List (Option Byte), a < s.storeBytes → swf 0 s.mem.store = true →
        ∃ t, exec (.bar4Access off (some b) len ⟨corrected, bad, false⟩) s = .next t ∧ t = { s with mem := { s.mem with store := t.mem.store }, tc := counted.tc } ∧
          (∀ i, i < b.length → a + i < s.storeBytes → mget t.mem.store (a + i) = (b.getD i none).getD (mget s.mem.store (a + i))) ∧
          (∀ x, x < a ∨ a + b.length ≤ x ∨ s.storeBytes ≤ x → mget t.mem.store x = mget s.mem.store x)) ∧
      (∀ b, exec (.bar4Access off (some b) len ⟨corrected, bad, true⟩) s = .next { s with host := s.failed 0 .poisoned }) ∧
      (a < s.storeBytes → ∀ p,
        (bad = 0 → exec (.bar4Access off none len ⟨corrected, bad, p⟩) s =
          .next { s with tc := counted.tc, host := { s.host with bar4Data := mread s.mem.store a len, bar4Poisoned := false } }) ∧
        (bad ≠ 0 → exec (.bar4Access off none len ⟨corrected, bad, p⟩) s =
          .next { s with tc := counted.tc, host := { s.failed 3 .poisonedSent with bar4Data := [], bar4Poisoned := true } })) ∧
      (s.storeBytes ≤ a →
        (∀ b, exec (.bar4Access off (some b) len ⟨corrected, bad, false⟩) s = .next { s with host := { s.host with err := setBit s.host.err 4 true } }) ∧
        ∀ p, exec (.bar4Access off none len ⟨corrected, bad, p⟩) s =
          .next { s with host := { s.host with err := setBit s.host.err 4 true, bar4Data := pad len, bar4Poisoned := false } }))

/-! ### Power states and resets -/

/-- Entering a lower state (13 R401-R403): an accepted SET_POWER or PWR_CTL request starts the entry and nothing else of the machine moves; a
request refused by PWR_CTL sets REFUSED and changes nothing else, one by SET_POWER is answered; the entry ends in the state asked for. What refuses
it (R402): a job in ARMING, RUNNING or LATE, Cosy on a channel, a camera port enabled, a velocity move under way, a ring master that sends positions,
and for OFF an open job give BAD_STATE; another move, a stop or a homing, a survey, a DMA transfer, an OTP command and STORE_CONFIG under way give
BUSY unless one of the others gives BAD_STATE. -/
def Obligations.EnteringALowerState : Prop :=
  (∀ (s : State),
    let enters (tgt : PowerState) : State := { s with pwr := { s.pwr with entering := some tgt }, pe := { s.pe with fetch := none } }
    (∀ c : Cmd, s.KettleTakes 0x0110 c →
      (∀ tgt, (le c.params 0 1 = 1 ∧ tgt = .sleep) ∨ (le c.params 0 1 = 2 ∧ tgt = .idle) →
        (∀ st, s.entryRefused tgt = some st → exec (.setPower c) s = .next (s.taken.reply true (packetOfCmd 0x0110 c) .ring st [])) ∧
        (s.entryRefused tgt = none → zeros c.params 1 3 = true →
          ∃ t, exec (.setPower c) s = .next t ∧ t.pwr = { s.pwr with entering := some tgt, aonTimer := w32 (le c.params 4 4), aonTimerAt := s.clock } ∧
            t.pe.fetch = none ∧ t = { s with pwr := t.pwr, pe := t.pe, host := t.host })) ∧
      (le c.params 0 1 = 3 → zeros c.params 1 3 = true → exec (.setPower c) s = .next (s.taken.ok 0x0110 c []))) ∧
    (s.Awake → s.shot 4 = false →
      (s.entryRefused .sleep = none → exec .pwrReqSleep s = .next (enters .sleep)) ∧ (s.entryRefused .idle = none → exec .pwrReqIdle s = .next (enters .idle)) ∧
      (s.entryRefused .off = none → exec .pwrReqOff s = .next (enters .off)) ∧
      (∀ st, s.entryRefused .sleep = some st → exec .pwrReqSleep s = .next { s with pwr := { s.pwr with refused := true } }) ∧
      (∀ st, s.entryRefused .idle = some st → exec .pwrReqIdle s = .next { s with pwr := { s.pwr with refused := true } }) ∧
      (∀ st, s.entryRefused .off = some st → exec .pwrReqOff s = .next { s with pwr := { s.pwr with refused := true } })) ∧
    (s.pwr.supply = true → s.pwr.state = .sleep → s.pwr.waking = false → s.pwr.pinHeld = false → s.pwr.entering = none → s.pwr.offAfter ≠ 0 →
      s.aonPassed s.pwr.sleepAt (1000 * s.pwr.offAfter.toNat) = true → s.entryRefused .off = none → exec .offAfter s = .next (enters .off)) ∧
    (∀ tgt, s.pwr.entering = some tgt → tgt ≠ .run → s.pwr.supply = true → s.pwr.pinHeld = false → s.pwr.waking = false →
      ∃ t, exec .lowStateEntered s = .next t ∧ t.pwr.state = tgt ∧ t.pwr.entering = none ∧ (t.pwr.corePwrEn = true ↔ tgt ≠ .off) ∧
        t.timebase = s.timebase ∧ (∀ n, n < 48 → (t.chan n).firing = none ∧ (t.chan n).frame = []) ∧ (∀ n, n < 8 → (t.axis n).dirOut = false ∧ (t.axis n).en = false))) ∧
  (∀ (s : State) (tgt : PowerState),
    (∀ k j, k < 4 → s.jobAt k = some j → (j.state = .arming ∨ j.state = .running ∨ j.state = .late) → s.entryRefused tgt = some stBAD_STATE) ∧
    (∀ n, n < 48 → (s.chan n).cosy = true → s.entryRefused tgt = some stBAD_STATE) ∧
    (∀ p, p < 2 → (s.port p).on = true → s.entryRefused tgt = some stBAD_STATE) ∧
    (∀ k j, k < 4 → s.jobAt k = some j → s.entryRefused .off = some stBAD_STATE) ∧
    (∀ n m v, n < 8 → (s.axis n).state = .moving → (s.axis n).move = some m → m.goal = .vel v → s.entryRefused tgt = some stBAD_STATE) ∧
    (s.isMaster = true → s.link.posEn = true → s.entryRefused tgt = some stBAD_STATE) ∧
    (let busy : Prop := s.entryRefused tgt = some stBAD_STATE ∨ s.entryRefused tgt = some stBUSY;
      (∀ n, n < 8 → (s.axis n).standing = false → busy) ∧ (s.health.run.isSome = true → busy) ∧ (∀ k, k < 16 → (s.dma k).run.isSome = true → busy) ∧
      (s.otpBusy = true → busy) ∧ (s.mem.training.isSome = true → busy)))


/-- Waking (12 R397, 13 R403-R408, R410, R413): a source whose WAKE_EN bit is set starts the wake and sets its WAKE_CAUSE bit, one whose bit is clear
does nothing; a sensor edge is pulsed and wakes by its own bit; the AON timer clears at its expiry and wakes by its bit; the wake ends in RUN,
and after SLEEP the timebase has counted 12,207.03125 FIRE ticks for each AON clock; a ROM digest that fails at a cold start holds Kettle.  Whether the
digest fails is a free value (log entry 6), and the gain drops its fraction of a tick (log entry 4). -/
def Obligations.Waking : Prop :=
  ∀ (s : State), s.pwr.supply = true →
    (∀ (n : Fin 16) (up : Bool), s.ilk.sens.getLsbD n.val ≠ up →
      ∃ t, exec (.sensorInputEdge n up) s = .next t ∧ t.ilk.sens = setBit s.ilk.sens n.val up ∧
        (s.inRun = true → s.pwr.entering = none → t = { s with ilk := t.ilk, fab := t.fab, tc := t.tc } ∧ 0x50 - (if up then 0x10 else 0) + n.val ∈ t.fab.raised)) ∧
    (s.pwr.aonTimer ≠ 0 → s.aonPassed s.pwr.aonTimerAt s.pwr.aonTimer.toNat = true →
      ∃ t, exec .aonTimerExpiry s = .next t ∧ t.pwr.aonTimer = 0 ∧ (s.pwr.state ≠ .off → t.chans = s.chans ∧ t.pe = s.pe) ∧
        (s.pwr.wakeEn.getLsbD 3 = false → t.pwr.waking = s.pwr.waking ∧ t.pwr.wakeCause = s.pwr.wakeCause) ∧
        (s.pwr.wakeEn.getLsbD 3 = true → s.pwr.pinHeld = false → s.pwr.waking = false → s.pwr.state ≠ .run →
          t.pwr.waking = true ∧ t.pwr.wakeCause.getLsbD 3 = true)) ∧
    (s.pwr.pinHeld = false → s.pwr.state = .idle ∨ s.pwr.state = .sleep →
      (∀ src, s.wakeStates src = true → s.pwr.waking = false → s.pwr.wakeEn.getLsbD (wakeBit src) = true →
        exec (.wakeRequest src) s = .next { s with
          pwr := { s.pwr with
            entering := none, waking := true, cold := false, prev := (if s.pwr.state = .idle then 2 else 1), wakeCause := setBit s.pwr.wakeCause (wakeBit src) true }
          link := { s.link with wakeOn := (match src with | .link => true | _ => s.link.wakeOn) } }) ∧
      (∀ src, s.pwr.wakeEn.getLsbD (wakeBit src) = false → exec (.wakeRequest src) s = .next s) ∧
      (∀ (n : Fin 16) (up : Bool), s.ilk.sens.getLsbD n.val ≠ up → s.pwr.waking = false → s.pwr.wakeEn.getLsbD (16 + n.val) = true →
        ∃ t, exec (.sensorInputEdge n up) s = .next t ∧ t.pwr.waking = true ∧ t.pwr.wakeCause.getLsbD (16 + n.val) = true ∧ t.chans = s.chans ∧ t.pe = s.pe)) ∧
    (s.pwr.pinHeld = false → s.pwr.waking = true → (s.pwr.cold = true → s.pwr.sensed = true ∧ s.pwr.railWait = false) →
      s.host.held = [] → s.mirror.heldTail = none → s.mirror.heldGo = false → (∀ k, k < 16 → (s.dma k).pending = false ∧ s.isPend k = false) →
      ∃ t, exec .wakeComplete s = .next t ∧ t.pwr.state = .run ∧ t.pwr.waking = false ∧ t.pwr.corePwrEn = true ∧ (s.health.commitWord = 0 → t.jobs = s.jobs) ∧
        (s.pwr.cold = true → Config.freeNat s.fresh % 2 = 1 → t.pe.romFail = true ∧ t.counter 103 = (s.count 103).counter 103) ∧
        (s.pwr.cold = false → s.health.commitWord = 0 → t.tc = s.tc ∧
          (s.pwr.state = .sleep → t.timebase = s.timebase + BitVec.ofNat 64 (aonGain (aonClocks (s.clock - s.pwr.aonFrom)))) ∧
          (s.pwr.state = .idle → t.timebase = s.timebase)))

/-- Power-on, pin reset and loss of a supply (13 R413, R415, R419, 16 R460, R462, R465): what power-on clears or sets and a pin reset keeps; VPP_OTP may
rest low, and is a level.  That RST_N_RELEASE makes the OTP sense also while the rails wait is deduced (log entry 11). -/
def Obligations.ColdResets : Prop :=
  ∀ (s : State),
    let kept (t : State) : Prop := t.tc = s.tc ∧ t.ilk.trips = s.ilk.trips ∧ t.mirror.sram = s.mirror.sram ∧ t.fab.latch = s.fab.latch ∧
      t.mem.store = s.mem.store ∧ t.pwr.wakeEn = s.pwr.wakeEn ∧ t.timebase = 0 ∧ t.inRun = false ∧
      (∀ n, n < 48 → (t.chan n).attached = false ∧ (t.chan n).hold = false ∧ (t.headSensor n).latched = (s.headSensor n).latched) ∧
      (∀ n, n < 8 → (t.axis n).configured = false) ∧ (∀ j, j < 4 → t.jobAt j = none)
    (∀ a b rstN rails, ∃ t, exec (.powerOn a b rstN rails) s = .next t ∧ (∀ k, k < 128 → k ∉ [96, 97, 99] → t.counter k = 0) ∧ t.ilk.trips = 0xF ∧
      t.pwr.wakeEn = 0x1F ∧ t.pwr.rstCause = 1 ∧ t.timebase = 0 ∧ t.fab.latch = 0 ∧ t.otp.tamperSeen = 0 ∧ t.otp.caddyHold = false ∧ t.mirror.sync = a ∧
      t.pwr.cascMaster = b ∧ t.pwr.pinHeld = !rstN ∧ t.pwr.railWait = !rails ∧ t.mirror.sram = [] ∧ t.mem.cfg = none ∧
      (∀ n, n < 48 → (t.headSensor n).latched = false) ∧ t.pwr.waking = true ∧ t.pwr.supply = true ∧ t.inRun = false) ∧
    (s.pwr.supply = true →
      (∃ t, exec .rstNAssert s = .next t ∧ kept t ∧ t.pwr.rstCause = s.pwr.rstCause ||| 2 ∧ t.pwr.pinHeld = true) ∧
      (s.pwr.pinHeld = true → ∃ t, exec .rstNRelease s = .next t ∧ t.pwr.pinHeld = false ∧ t.pwr.sensed = true ∧ t.jobs = s.jobs ∧ t.chans = s.chans) ∧
      (s.pwr.railWait = true → ∃ t, exec .switchedRailsInRange s = .next t ∧ t.pwr.railWait = false ∧ (s.pwr.pinHeld = false → t.pwr.sensed = true) ∧
        t.jobs = s.jobs ∧ t.chans = s.chans) ∧
      (∀ rail, rail = .vddAon ∨ rail = .vddio → ∃ t, exec (.supplyMonitorTrip rail) s = .next t ∧ t.pwr.supply = false ∧ t.inRun = false ∧ t.ilk.trips = 0xF) ∧
      (s.pwr.corePwrEn = true → ∃ t, exec (.supplyMonitorTrip .switched) s = .next t ∧ kept t ∧ t.pwr.railWait = true) ∧
      (∀ low, exec (.supplyMonitorTrip (.vppOtp low)) s = .next { s with otp := { s.otp with vppOk := !low } }) ∧
      exec .xtalQualified s = .next { s with pwr := { s.pwr with xtalOk := true } })

/-- A warm reset (13 R412, R416, R419): RST_CTL with its key, and the loss of lock of the system or memory PLL, free the jobs, unconfigure the
axes, keep heads, tables and latches, and hold Kettle until the reset is done; without the key nothing happens; a lost PCIe or WizerLink clock takes
its link down.  That these two losses count in 102 as well is deduced (log entry 13). -/
def Obligations.WarmReset : Prop :=
  ∀ (s : State),
    let after (t : State) : Prop := t.pe.rebooting = true ∧ t.pe.queue = [] ∧ (∀ j, j < 4 → t.jobAt j = none) ∧
      (∀ n, n < 8 → (t.axis n).configured = false ∧ (t.axis n).commanded = 0) ∧
      (∀ n, n < 48 → (t.chan n).attached = (s.chan n).attached ∧ (t.chan n).hold = (s.chan n).hold ∧ (t.chan n).map = (s.chan n).map ∧
        (t.chan n).cosy = false ∧ (t.chan n).armed = none ∧ (t.chan n).firing = none) ∧
      t.ilk = s.ilk ∧ t.pe.cmd = s.pe.cmd ∧ t.host.bme = s.host.bme ∧ t.link.id = s.link.id
    (∀ v : Word, s.Awake → s.shot 4 = false → v.toNat / 65536 = 0x5752 → v.getLsbD 0 = true →
      ∃ t, exec (.warmReset v) s = .next t ∧ after t ∧ t.pwr.rstCause = setBit s.pwr.rstCause 3 true) ∧
    (∀ v : Word, s.Awake → s.shot 4 = false → v.toNat / 65536 ≠ 0x5752 ∨ v.getLsbD 0 = false → exec (.warmReset v) s = .next s) ∧
    (s.inRunIdle = true → s.shot 102 = false →
      let seen (t : State) (k : Nat) : Prop := t.pwr.lockLoss = setBit s.pwr.lockLoss k true ∧ t.counter 102 = (s.count 102).counter 102
      (∃ t, exec (.pllLockLoss .system) s = .next t ∧ after t ∧ seen t 0 ∧ t.pwr.rstCause = setBit s.pwr.rstCause 6 true) ∧
      (∃ t, exec (.pllLockLoss .memory) s = .next t ∧ after t ∧ seen t 1 ∧ t.pwr.rstCause = setBit s.pwr.rstCause 6 true) ∧
      (∃ t, exec (.pllLockLoss .pcie) s = .next t ∧ seen t 2 ∧ t.host.linkUp = false ∧ t.axes = s.axes ∧ t.pwr.rstCause = s.pwr.rstCause) ∧
      (∃ t, exec (.pllLockLoss .link) s = .next t ∧ seen t 3 ∧ t.link.east.state = .down ∧ t.link.west.state = .down ∧ t.axes = s.axes ∧
        t.jobs = s.jobs ∧ t.pwr.rstCause = s.pwr.rstCause)) ∧
    (s.pe.rebooting = true → s.inRun = true → s.host.held = [] → s.mirror.heldTail = none → s.mirror.heldGo = false → ∃ t, exec .warmResetDone s = .next t ∧ t.pe.rebooting = false ∧ t.pe.stalled = false ∧
      (∀ o, o ∈ t.pe.ops → o.kind ≠ .warmReset) ∧ t.axes = s.axes ∧ (s.health.commitWord = 0 → t.jobs = s.jobs))

/-- A block reset (13 R417, R419): while no block is held it holds the blocks named and owes its OK; a line engine's channels drop their lines and
stop firing, a motion engine's axes lose their configuration, the DMA controller its registers, WizerLink its ports; BLOCKS 0 is a warm reset;
BLOCK_RESET_DONE releases the blocks, drives the axes' ENn again and answers.  That a
BLOCK_RESET while any block is held is answered BUSY, whatever it names, is deduced (log entry 13). -/
def Obligations.BlockReset : Prop :=
  ∀ (s : State),
    (∀ c : Cmd, s.KettleTakes 0x0120 c → let m := le c.params 0 4
      let owes (t : State) (k : OpKind) : Prop := ({ kind := k, pkt := packetOfCmd 0x0120 c, src := .ring, seq := s.pe.seq } : PendOp) ∈ t.pe.ops
      (s.pwr.blockHeld ≠ 0 → exec (.blockReset c) s = .next (s.taken.reply true (packetOfCmd 0x0120 c) .ring stBUSY [])) ∧
      (s.pwr.blockHeld = 0 → 2 ^ 17 ≤ m → exec (.blockReset c) s = .next (s.taken.reply true (packetOfCmd 0x0120 c) .ring stBAD_PARAM [])) ∧
      (s.pwr.blockHeld = 0 → m = 0 → ∃ t, exec (.blockReset c) s = .next t ∧ owes t .warmReset ∧ t.pe.rebooting = true ∧ t.pwr.rstCause = setBit s.pwr.rstCause 4 true ∧
        (∀ j, j < 4 → t.jobAt j = none) ∧ (∀ n, n < 8 → (t.axis n).configured = false) ∧ t.ilk = s.ilk) ∧
      (s.pwr.blockHeld = 0 → 0 < m → m < 2 ^ 17 → ∃ t, exec (.blockReset c) s = .next t ∧ owes t .blockReset ∧ t.pwr.blockHeld = BitVec.ofNat 17 m ∧
        (∀ n, n < 48 → bit m (n / 4) = true → (t.chan n).fifo = [] ∧ (t.chan n).packed = none ∧ (t.chan n).prepared = none ∧ (t.chan n).firing = none ∧
          (t.chan n).frame = []) ∧
        (∀ n, n < 8 → bit m (12 + n / 4) = true → (t.axis n).configured = false ∧ (t.axis n).commanded = 0) ∧
        (bit m 15 = true → t.mem.dma = Vector.replicate 16 {}) ∧ (bit m 16 = true → t.link.east.state = .down ∧ t.link.west.state = .down) ∧
        (m = 0x8000 → (∀ k, k < 16 → (s.dma k).run = none) → t.chans = s.chans ∧ t.jobs = s.jobs ∧ t.axes = s.axes))) ∧
    (s.inRun = true → s.pwr.blockHeld ≠ 0 → ∃ t, exec .blockResetDone s = .next t ∧ t.pwr = { s.pwr with blockHeld := 0 } ∧
      t.chans = s.chans ∧ t.jobs = s.jobs ∧ (∀ n, n < 8 → t.axis n = { s.axis n with en := (s.axis n).drives }) ∧ (∀ o, o ∈ t.pe.ops → o.kind ≠ .blockReset))


/-! ### Heads, tables, interlocks -/

/-- HEAD_CONFIG, BREW_LOAD, ROTATION_LOAD and COSY_SET with fields in range on channels that may take them (02 R71, R72, 03 R95, R109, R115,
04 R133, 09 R311): what each writes, and the refusals of a rotation body against R95 and of a COSY_SET that enables while a trip latch is set. -/
def Obligations.HeadTables : Prop :=
  ∀ (c : Cmd) (s : State),
    let n := le c.params 0 1
    (s.KettleTakes 0x0201 c → n < 48 → (s.chan n).attached = true → s.jobOf n = none → le c.params 1 1 ≤ 7 → le c.params 2 1 ≤ 3 →
      1 ≤ le c.params 3 1 → le c.params 3 1 ≤ 8 → 64 ≤ le c.params 4 2 → le c.params 4 2 ≤ 2048 → le c.params 4 2 = 64 * (s.chan n).headId.size.toNat →
      (le c.params 6 1 < 48 ∨ le c.params 6 1 = 255) → 4 ≤ le c.params 7 1 → le c.params 7 1 ≤ 64 → le c.params 8 4 ≤ 40000 →
      exec (.headConfig c) s = .next ((s.taken.modChan n (fun d => { d with
        configured := true, ink := le c.params 1 1, row := le c.params 2 1, gMax := min (le c.params 3 1) s.otp.wires.gCap, nozzles := le c.params 4 2,
        partner := le c.params 6 1, clkDiv := le c.params 7 1, quiet := le c.params 8 4, pMax := le c.params 12 4 })).ok 0x0201 c [])) ∧
    (∀ drop k, drop = le c.params 1 1 → k = le c.params 2 1 → s.KettleTakes 0x0210 c → n < 48 → 1 ≤ drop → drop ≤ 3 → k ≤ 7 →
      (s.chan n).protects true (fun u => u.brew drop = k) = false → ¬ (drop = 1 ∧ k = 7 ∧ (s.chan n).cosy = true) → le c.params 3 1 = 0 →
      (brewOf (c.params.drop 4)).ok drop = true →
      exec (.brewLoad c) s = .next ((s.taken.modChan n (fun d => { d with
        brewS := (if drop = 1 then vset d.brewS k (brewOf (c.params.drop 4)) else d.brewS),
        brewM := (if drop = 2 then vset d.brewM k (brewOf (c.params.drop 4)) else d.brewM),
        brewL := (if drop = 3 then vset d.brewL k (brewOf (c.params.drop 4)) else d.brewL) })).ok 0x0210 c [])) ∧
    (∀ r : Rotation, r = { slots := le c.params 4 1, gTable := le c.params 5 1, slotOf := (List.range 32).map (fun g => le c.params (8 + g) 1) } →
      s.KettleTakes 0x0220 c → n < 48 → le c.params 1 1 ≤ 3 → (s.chan n).protects false (fun u => u.rot = le c.params 1 1) = false →
      zeros c.params 2 2 = true → zeros c.params 6 2 = true →
      let good : Prop := 4 ≤ r.slots ∧ r.slots ≤ 32 ∧ 1 ≤ r.gTable ∧ r.gTable ≤ 8 ∧ (∀ g, g < 32 → le c.params (8 + g) 1 < r.slots) ∧
        (∀ t, t < r.slots → 1 ≤ ((List.range 32).filter (fun g => le c.params (8 + g) 1 = t)).length ∧
          ((List.range 32).filter (fun g => le c.params (8 + g) 1 = t)).length ≤ r.gTable)
      (good → exec (.rotationLoad c) s = .next ((s.taken.modChan n (fun d => { d with rots := vset d.rots (le c.params 1 1) r })).ok 0x0220 c [])) ∧
      (¬ good → exec (.rotationLoad c) s = .next (s.taken.reply true (packetOfCmd 0x0220 c) .ring stBAD_PARAM []))) ∧
    (s.KettleTakes 0x0230 c → channelsOk (le c.params 0 8) = true → le c.params 10 2 ≤ 1 →
      (s.tripped = true → le c.params 10 2 = 1 →
        exec (.cosySet c) s = .next (s.taken.reply true (packetOfCmd 0x0230 c) .ring stREFUSED_INTERLOCK [])) ∧
      (s.tripped = false ∨ le c.params 10 2 = 0 →
        (∀ m, m < 48 → bit (le c.params 0 8) m = true → (s.chan m).ready = true ∧ ((s.chan m).small 7).na ≠ 0 ∧
          (leS c.params 8 2 ≠ 0 → 150 ≤ leS c.params 8 2 ∧ leS c.params 8 2 ≤ (s.headSensor m).warn - (s.headSensor m).hyst)) →
        ∃ t : State, exec (.cosySet c) s = .next (t.ok 0x0230 c []) ∧ t = { s.taken with chans := t.chans } ∧
          ∀ m, m < 48 → t.chan m = (if bit (le c.params 0 8) m then { s.chan m with
            cosy := decide (le c.params 10 2 = 1), cosyTarget := (if leS c.params 8 2 = 0 then 450 else leS c.params 8 2),
            warming := (s.chan m).warming && decide (le c.params 10 2 = 1) } else s.chan m)))

/-- The identification of heads (03 R104, R106, R107): HEAD_ATTACH sends IDENT on each channel; a good answer attaches the head when no
authentication is asked, and sends a CHALLENGE when it is asked and Caddy holds a key; a failed answer counts and is tried again after 100 µs,
a missing one after 1 ms; a second missing or a third in all leaves the channel not present; the CHALLENGE is sent 100 µs after the answer, and
answered well it is followed by the polls of its RESPONSE, which decides AUTH_FAIL within 50 ms, after which the head is attached with AUTH_FAIL.
An answer ends no earlier than the device's frame (R103), and one whose start mark comes more than 400 µs after it is a missing one (R104); a frame of the
device waits until the line has been released for 100 µs (R103). -/
def Obligations.HeadIdentification : Prop :=
  ∀ (s : State) (ch : Fin 48),
    let us := 400
    -- a device frame starts once the line has been released for 100 µs, is 20 µs and 10 µs a bit long, and the wait for its answer ends 400 µs after it
    let sent (d : Chan) (i : Ident) (phase code : Nat) (payload : Bytes) : Chan :=
      let start := max s.clock d.idFree
      let stop := start + (20 + 80 * (4 + payload.length)) * us
      { d with idOut := idFrameOf code payload, idFree := stop + 100 * us, ident := some { i with phase := phase, sentAt := start, waitEnd := stop + 400 * us } }
    let others (t : State) : Prop := (∀ m, m < 48 → m ≠ ch.val → t.chan m = s.chan m) ∧ t.jobs = s.jobs ∧ t.axes = s.axes ∧ t.ilk = s.ilk
    (∀ c : Cmd, s.KettleTakes 0x0200 c → channelsOk (le c.params 0 8) = true → le c.params 8 4 ≤ 1 → s.attach = none →
      (∀ n, n < 48 → bit (le c.params 0 8) n = true → s.jobOf n = none) →
      ∃ t, exec (.headAttach c) s = .next t ∧ t = { s with pe := t.pe, host := t.host, chans := t.chans, attach := t.attach } ∧
        t.attach = some { channels := BitVec.ofNat 64 (le c.params 0 8), auth := decide (le c.params 8 4 = 1), present := 0, authFail := 0, ids := [] } ∧
        t.pe.ops = s.pe.ops ++ [{ kind := .attach, pkt := packetOfCmd 0x0200 c, src := .ring, seq := s.pe.seq }] ∧
        ∀ n, n < 48 → t.chan n = (if bit (le c.params 0 8) n then sent (s.chan n) (Ident.start s.clock) 0 0x3C [] else s.chan n)) ∧
    (∀ i, s.inRun = true → (s.chan ch.val).ident = some i →
      -- the answer has begun between the end of the device's frame and 400 µs after it
      let comes (f : IdFrame) : Prop := i.waitEnd ≤ s.clock + 400 * us ∧ s.clock ≤ i.waitEnd + (20 + 80 * f.bytes.length) * us
      (∀ f : IdFrame, s.clock + 400 * us < i.waitEnd → exec (.idAnswer ch f) s = .next s) ∧
      (∀ f : IdFrame, i.waitEnd + (20 + 80 * f.bytes.length) * us < s.clock → exec (.idAnswer ch f) s = exec (.idAnswerMissing ch) s) ∧
      (∀ (f : IdFrame) b, comes f → i.phase = 0 → IdFrame.taken f = some (0, b) → b.length = 8 → s.shot 16 = false →
        (s.attach.any (fun r => r.auth) = false →
          ∃ t, exec (.idAnswer ch f) s = .next t ∧ (t.chan ch.val).attached = true ∧ (t.chan ch.val).ident = none ∧
            (t.chan ch.val).headId = headIdOf b ∧ (t.chan ch.val).authFail = false ∧ (t.headSensor ch.val).suspect = false ∧ others t) ∧
        (s.attach.any (fun r => r.auth) = true → s.mem.caddy.isSome = true →
          ∃ t i', exec (.idAnswer ch f) s = .next t ∧ (t.chan ch.val).ident = some i' ∧ i'.phase = 2 ∧ i'.id = headIdOf b ∧ i'.challenge.length = 16 ∧
            (t.chan ch.val).idOut = idFrameOf 0x5C i'.challenge ∧ i'.sentAt = s.clock + 100 * us ∧
            i'.waitEnd = s.clock + 100 * us + (20 + 80 * 20) * us + 400 * us ∧ (t.chan ch.val).attached = (s.chan ch.val).attached ∧ others t)) ∧
      (∀ f : IdFrame, comes f → i.phase = 0 → IdFrame.taken f = none → s.shot 16 = false →
        (i.missing ≤ 1 → i.missing + i.failed ≤ 1 →
          exec (.idAnswer ch f) s = .next ((s.count 16).modChan ch.val (fun d => { d with
            idFree := s.clock + 100 * us, ident := some { i with phase := 1, failed := i.failed + 1, readyAt := s.clock + 100 * us } }))) ∧
        (2 ≤ i.missing + i.failed → ∃ t, exec (.idAnswer ch f) s = .next t ∧ (t.chan ch.val).attached = false ∧ (t.chan ch.val).configured = false ∧
          (t.chan ch.val).ident = none ∧ t.counter 16 = (s.count 16).counter 16 ∧ others t)) ∧
      (∀ f : IdFrame, comes f → i.phase = 2 → IdFrame.taken f = some (0, []) →
        exec (.idAnswer ch f) s = .next (s.modChan ch.val (fun d => { d with
          idFree := s.clock + 100 * us, ident := some { i with phase := 4, since := s.clock, readyAt := s.clock + 100 * us } }))) ∧
      (∀ (f : IdFrame) k b, comes f → i.phase = 3 → IdFrame.taken f = some (0, b) → b.length = 16 → s.mem.caddy = some k → s.clock < i.since + 50000 * us →
        ∃ t, exec (.idAnswer ch f) s = .next t ∧ (t.chan ch.val).attached = true ∧ (t.chan ch.val).headId = i.id ∧ others t ∧
          (t.chan ch.val).authFail = decide (b ≠ (hmac (hmac k i.id.bytes) (i.challenge ++ i.id.bytes)).take 16)) ∧
      (s.clock < i.waitEnd → exec (.idAnswerMissing ch) s = .next s) ∧
      (i.waitEnd ≤ s.clock →
        (i.phase = 0 → i.missing = 0 → i.failed ≤ 1 →
          exec (.idAnswerMissing ch) s = .next (s.modChan ch.val (fun d => { d with
            ident := some { i with phase := 1, missing := 1, readyAt := s.clock + 1000 * us } }))) ∧
        (i.phase = 0 → 1 ≤ i.missing → ∃ t, exec (.idAnswerMissing ch) s = .next t ∧ (t.chan ch.val).attached = false ∧
          (t.chan ch.val).configured = false ∧ (t.chan ch.val).ident = none ∧ others t)) ∧
      (i.phase = 1 →
        (i.readyAt ≤ s.clock → exec (.identRetry ch) s = .next (s.modChan ch.val (fun d => sent d i 0 0x3C []))) ∧
        (s.clock < i.readyAt → exec (.identRetry ch) s = .next s)) ∧
      (i.phase = 4 →
        (i.readyAt ≤ s.clock → exec (.responsePoll ch) s = .next (s.modChan ch.val (fun d => sent d i 3 0x6C []))) ∧
        (s.clock < i.readyAt → exec (.responsePoll ch) s = .next s)) ∧
      (i.phase = 3 ∨ i.phase = 4 →
        (i.since + 50000 * us ≤ s.clock →
          ∃ t, exec (.authTimeout ch) s = .next t ∧ (t.chan ch.val).attached = true ∧ (t.chan ch.val).authFail = true ∧
            (t.chan ch.val).headId = i.id ∧ others t) ∧
        (s.clock < i.since + 50000 * us → exec (.authTimeout ch) s = .next s)))

/-- Interlocks (03 R111-R113): an assertion sets its class's trip latch in every power state, closes the gate, ends every slot being fired,
stops head I/O at the slot boundary, which is the end of a slot under way (log entry 16, DEDUCED), and leaves no job active; a release of a class needs 328 AON samples since its last assertion, and then clears its inputs and its
latch and nothing else but what WizerLink is told. -/
def Obligations.InterlocksTripAndRelease : Prop :=
  ∀ (s : State), s.pwr.supply = true →
    (∀ i : Fin 13, ∃ t, exec (.interlockAssert i) s = .next t ∧
      t.ilk = { s.ilk with
        inputs := setBit s.ilk.inputs i.val true, trips := setBit s.ilk.trips (i.val / 4) true, assertedAt := t.ilk.assertedAt, inputAt := t.ilk.inputAt } ∧
      (∀ k, k < 13 → vget t.ilk.inputAt k 0 = if k = i.val then s.clock else vget s.ilk.inputAt k 0) ∧
      (∀ k, k < 4 → vget t.ilk.assertedAt k 0 = if k = i.val / 4 then s.clock else vget s.ilk.assertedAt k 0) ∧ t.gateOpen = false ∧
      (∀ n, n < 48 → (t.chan n).firing = none ∧
        (∀ f, (s.chan n).firing = some f → f.ended = false → (t.chan n).ioStopAt = some (f.start + (s.chan n).slotLength f) ∧
          (t.chan n).frame = (s.chan n).frame ∧ (t.chan n).latClocks = (s.chan n).latClocks) ∧
        ((∀ f, (s.chan n).firing = some f → f.ended = true) → (s.chan n).ioStopAt = none → (t.chan n).frame = [] ∧ (t.chan n).latClocks = 0)) ∧
      (∀ k j, k < 4 → t.jobAt k = some j → j.active = false) ∧ t.pwr = s.pwr ∧ t.enc = s.enc) ∧
    (∀ k : TripClass,
      (328 * 390625 ≤ (s.clock - vget s.ilk.assertedAt (tripIndex k) 0) * 32 →
        ∃ t, exec (.interlockRelease k) s = .next t ∧ t = { s with ilk := t.ilk, link := t.link, inj := t.inj, tc := t.tc } ∧
          t.ilk.assertedAt = s.ilk.assertedAt ∧ t.ilk.inputAt = s.ilk.inputAt ∧ t.ilk.sens = s.ilk.sens ∧
          (∀ b, b < 4 → t.ilk.trips.getLsbD b = (s.ilk.trips.getLsbD b && decide (b ≠ tripIndex k))) ∧
          (∀ i, i < 13 → t.ilk.inputs.getLsbD i = (s.ilk.inputs.getLsbD i && decide (i / 4 ≠ tripIndex k)))) ∧
      ((s.clock - vget s.ilk.assertedAt (tripIndex k) 0) * 32 < 328 * 390625 → exec (.interlockRelease k) s = .next s))

/-! ### Jobs and tiles -/

/-- JOB_OPEN and LAYER_DEFINE (02 R71, R73, 05 R165-R167, R172): the job opens in the lowest free slot with what the packet names, its
channels start at line 0; a layer of an opened job is defined. -/
def Obligations.JobsOpen : Prop :=
  ∀ (c : Cmd) (s : State) (slot : Nat),
    (s.KettleTakes 0x0300 c → slot < 4 → s.jobAt slot = none → (∀ k, k < slot → s.jobAt k ≠ none) → s.jobSlot (BitVec.ofNat 16 (le c.params 0 2)) = none →
      (∀ n, n < 48 → bit (le c.params 4 8) n = true → s.jobOf n = none ∧ (s.chan n).ready = true) → le c.params 2 1 ≤ 2 →
      (le c.params 3 1 ≤ 7 ∨ le c.params 3 1 = 255) → channelsOk (le c.params 4 8) = true → le c.params 16 8 % 512 = 0 →
      le c.params 16 8 + 1536 ≤ s.storeBytes → le c.params 24 8 < 2 ^ 48 →
      ∃ t : State, exec (.jobOpen c) s = .next (t.ok 0x0300 c []) ∧ t = { s.taken with jobs := t.jobs, chans := t.chans, mem := t.mem } ∧
        t.jobAt slot = some {
          id := BitVec.ofNat 16 (le c.params 0 2), geometry := le c.params 2 1, feed := le c.params 3 1,
          channels := BitVec.ofNat 64 (le c.params 4 8), lines := le c.params 12 4, record := le c.params 16 8, pitch := le c.params 24 8 } ∧
        (∀ k, k < 4 → k ≠ slot → t.jobAt k = s.jobAt k) ∧
        (∀ n, n < 48 → t.chan n = (if bit (le c.params 4 8) n then (s.chan n).forJob else s.chan n))) ∧
    (∀ j, s.KettleTakes 0x0301 c → s.jobSlot (BitVec.ofNat 16 (le c.params 0 2)) = some slot → s.jobAt slot = some j → j.state = .opened →
      zeros c.params 25 3 = true →
      (∀ d : Layer, d = {
          op := le c.params 3 1, base := le c.params 4 8, stride := le c.params 12 4, lines := le c.params 16 4,
          phase := le c.params 20 4, required := decide (le c.params 24 1 % 2 = 1) } →
        s.layerOk j (le c.params 2 1) d.op d (le c.params 24 1) = true →
        exec (.layerDefine c) s = .next ((s.taken.modJob slot (fun x => { x with layers := vset x.layers (le c.params 2 1) (some d) })).ok 0x0301 c [])))

/-- JOB_START, JOB_STOP, JOB_RESUME and JOB_CLOSE (03 R115, 05 R189-R192, 10 R333): a start enters ARMING with its final reply owed, counting a first
read of the table or of a mask that failed and the words that the reads correct; a start or a resume while a trip latch is set is refused; a stop without a line enters STOPPED and lets the
slots that run go on, a stop after a line keeps that line as the last one; a resume enters ARMING with no channel below FROM, and leaves every
axis but the job's feed alone; a close frees the slot and answers with the counts.  That a resume takes a FROM beyond LINES as LINES is deduced (log entry
20); the operands that tell how the reads of a start go are the model's (log entry 22). -/
def Obligations.JobsStartStopClose : Prop :=
  ∀ (c : Cmd) (s : State) (slot : Nat) (j : Job), s.jobSlot (BitVec.ofNat 16 (le c.params 0 2)) = some slot → s.jobAt slot = some j →
    (s.KettleTakes 0x0302 c → ∀ (bad : Fin 3) (corrected : Nat),
      (s.tripped = true → exec (.jobStart ⟨c, bad, corrected⟩) s =
        .next { s.taken.reply true (packetOfCmd 0x0302 c) .ring stREFUSED_INTERLOCK [] with mem := { s.mem with startReads := none } }) ∧
      (s.tripped = false → s.tempBan j false (decide (le c.params 2 2 % 2 = 1)) = false → s.link.conflict = false → j.state = .opened →
        s.badFire j false = false → s.pairsOk j (tableOf (s.storeRead j.record 512)) = true → s.surveyHolds j = false → le c.params 2 2 ≤ 1 →
        s.tableOk j (s.storeRead j.record 512) = true → bad.val ≤ 1 →
        ∃ t j', exec (.jobStart ⟨c, bad, corrected⟩) s = .next t ∧
          t = { (s.countN 84 corrected).countN 85 bad.val with pe := t.pe, jobs := t.jobs, mem := t.mem } ∧ t.jobAt slot = some j' ∧
          (∀ k, k < 4 → k ≠ slot → t.jobAt k = s.jobAt k) ∧ j'.state = .arming ∧ j'.start = leS c.params 4 8 ∧
          j'.table = tableOf (s.storeRead j.record 512) ∧ j'.waitCosy = decide (le c.params 2 2 = 1) ∧ j'.layers = j.layers ∧
          t.pe = { s.taken.pe with ops := s.pe.ops ++ [{ kind := .jobStart j.id, pkt := packetOfCmd 0x0302 c, src := .ring, seq := s.pe.seq }] })) ∧
    (s.KettleTakes 0x0303 c → (∀ o, o ∈ s.pe.ops → o.kind ≠ .jobStop (BitVec.ofNat 16 (le c.params 0 2))) →
      (j.active = true → le c.params 2 2 = 0 →
        ∃ t j', exec (.jobStop c) s = .next t ∧ t.jobAt slot = some j' ∧ j'.state = .stopped ∧ t.axes = s.axes ∧ t.ilk = s.ilk ∧
          (∀ n, n < 48 → (t.chan n).firing = (s.chan n).firing ∧ (j.channels.getLsbD n = true → (t.chan n).prepared = none ∧ (t.chan n).packed = none))) ∧
      (j.state = .arming ∨ j.state = .running → le c.params 2 2 = 1 → (∃ n, n ∈ j.chans ∧ (s.chan n).nextToFire ≤ le c.params 4 4) →
        ∃ t, exec (.jobStop c) s = .next t ∧ t.jobAt slot = some { j with stopAt := some (le c.params 4 4 + 1) } ∧
          (∀ k, k < 4 → k ≠ slot → t.jobAt k = s.jobAt k) ∧ t.axes = s.axes ∧ t.ilk = s.ilk ∧
          t.pe.ops = s.pe.ops ++ [{ kind := .jobStop (BitVec.ofNat 16 (le c.params 0 2)), pkt := packetOfCmd 0x0303 c, src := .ring, seq := s.pe.seq }] ∧
          (∀ n, n < 48 → (t.chan n).firing = (s.chan n).firing ∧
            (∀ p, (t.chan n).prepared = some p → j.channels.getLsbD n = true → p.line ≤ le c.params 4 4)))) ∧
    (s.KettleTakes 0x0304 c →
      (s.tripped = true → exec (.jobResume c) s = .next (s.taken.reply true (packetOfCmd 0x0304 c) .ring stREFUSED_INTERLOCK [])) ∧
      (s.tripped = false → s.tempBan j true (decide (le c.params 2 2 % 2 = 1)) = false → s.link.conflict = false →
        (j.state = .stopped ∨ (j.state = .ended ∧ (j.lines = 0 ∨ ∃ n, n ∈ j.chans ∧ (s.chan n).nextToFire < j.lines))) →
        s.badFire j true = false → s.surveyHolds j = false → (8 ≤ j.feed ∨ (s.axis j.feed).standing = true) → le c.params 2 2 ≤ 1 →
        ∃ (t : State) (j' : Job), exec (.jobResume c) s = .next (t.ok 0x0304 c []) ∧ t.jobAt slot = some j' ∧ j'.state = .arming ∧ j'.stopAt = none ∧
          j'.waitCosy = decide (le c.params 2 2 = 1) ∧ (∀ k, k < 8 → k ≠ j.feed → t.axis k = s.axis k) ∧
          ∀ n, n < 48 → j.channels.getLsbD n = true →
            (t.chan n).nextLine = max (s.chan n).nextLine (if j.lines = 0 then le c.params 4 4 else min (le c.params 4 4) j.lines))) ∧
    (s.KettleTakes 0x0305 c → j.active = false → zeros c.params 2 2 = true →
      ∃ t : State, exec (.jobClose c) s = .next (t.ok 0x0305 c (toLe 4 j.completed ++ toLe 4 j.closed.skipped ++ toLe 4 j.incomplete ++ toLe 4 j.resumes)) ∧
        t.jobAt slot = none ∧ (∀ k, k < 4 → k ≠ slot → t.jobAt k = s.jobAt k) ∧ t.axes = s.axes ∧
        (∀ n, n < 48 → t.chan n = (if j.channels.getLsbD n then { s.chan n with prevSet := none } else s.chan n)) ∧
        t.tiles = s.tiles.map (fun (x : Tile) => if x.job = j.id then { x with orphan := true } else x))

/-- Tiles (05 R169-R174): an accepted TILE_POST starts a read, direct or ORDERED by Kettle, from host memory or the store, and nothing else moves
but the count of a tile whose first rows are late; the bytes of a web tile's read land in the rows of the layer; a read that fails answers BUSY,
counts, is reported and writes nothing; a copied row takes the store's bytes, an uncorrectable word as 0. -/
def Obligations.TilesLand : Prop :=
  ∀ (s : State) (slot : Nat) (j : Job), s.jobAt slot = some j →
    (∀ (c : Cmd) (d : Layer) (base : State),
      (s.Awake ∧ s.Addressed 0x0310 c ∧ c.flags.getLsbD 1 = false ∧ base = s.handled) ∨ (s.KettleTakes 0x0310 c ∧ c.flags.getLsbD 1 = true ∧ s.link.heldData = [] ∧ base = s.taken) →
      s.shot 23 = false → s.jobSlot (BitVec.ofNat 16 (le c.params 0 2)) = some slot → (if j.geometry = 2 then j.state = .opened else j.state ≠ .ended) →
      vget j.layers (le c.params 2 1) none = some d → 0 < le c.params 2 1 → le c.params 3 1 ≤ 1 → (le c.params 3 1 = 0 → s.host.bme = true) →
      (le c.params 3 1 = 1 → le c.params 4 8 + le c.params 12 4 ≤ s.storeBytes) → le c.params 20 1 < 48 → j.channels.getLsbD (le c.params 20 1) = true →
      s.layerCh j (le c.params 20 1) = le c.params 20 1 → le c.params 22 2 % 64 = 0 → le c.params 24 2 % 64 = 0 → 0 < le c.params 24 2 →
      le c.params 22 2 + le c.params 24 2 ≤ (if j.geometry = 2 then le (s.storeRead (j.record + 10) 2) 0 2 else (s.chan (le c.params 20 1)).nozzles) →
      0 < le c.params 26 2 → (if j.geometry = 2 then le c.params 16 4 + le c.params 26 2 else le c.params 26 2) ≤ d.lines →
      le c.params 12 4 = le c.params 26 2 * (le c.params 24 2 / 4) → le c.params 4 8 % 4 = 0 → le c.params 21 1 = 0 →
      (j.geometry ≠ 2 → s.tileC j (le c.params 20 1) < le c.params 16 4 + le c.params 26 2 ∧
        le c.params 16 4 + le c.params 26 2 ≤ s.tileC j (le c.params 20 1) + d.lines) →
      let late := decide (j.geometry ≠ 2) && decide (le c.params 16 4 < s.tileC j (le c.params 20 1))
      exec (.tilePost c) s = .next { (if late then base.count 23 else base) with tiles := s.tiles ++ [{
        id := s.pe.seq, job := j.id, layer := le c.params 2 1, source := le c.params 3 1,
        addr := le c.params 4 8, line := le c.params 16 4, ch := le c.params 20 1, nozzle := le c.params 22 2, width := le c.params 24 2,
        height := le c.params 26 2, rowsDone := 0, landed := [], lateCounted := late, orphan := false, forceLate := late, done := false,
        pkt := packetOfCmd 0x0310 c, src := .ring, seq := s.pe.seq }] }) ∧
    (∀ (t : Tile) (d : Layer), j.geometry ≠ 2 → s.inRun = true → s.tiles = [t] → s.jobSlot t.job = some slot → t.orphan = false → t.done = false →
      t.forceLate = false →
      t.landed = [] → t.rowsDone = 0 → vget j.layers t.layer none = some d → 0 < t.width → t.width % 4 = 0 → t.nozzle % 4 = 0 → t.nozzle + t.width ≤ 2048 →
      0 < t.height → t.height ≤ d.lines → 512 ≤ d.stride → s.tileC j t.ch ≤ t.line → swf 0 s.mem.store = true →
      (∀ b : Bytes, t.source = 0 → s.shot 10 = false → b.length = t.bytes →
        ∃ u, exec (.tileReadCompletion t.id 0 (.data b)) s = .next u ∧ u.tiles = [] ∧ u.chans = s.chans ∧ u.axes = s.axes ∧
          ∀ r i, r < t.height → i < t.rowBytes →
            mget u.mem.store (s.layerAddr j d t.ch (layerLine t.layer d (t.line + r)) + t.nozzle / 4 + i) = b.getD (r * t.rowBytes + i) 0) ∧
      (∀ e, t.source = 0 → s.shot 10 = false → (e = .timeout → s.host.ctl.timeoutOff = false) →
        ∃ u, exec (.tileReadCompletion t.id 0 (.error e)) s = .next u ∧ u.tiles = [] ∧ u.chans = s.chans ∧ u.mem = s.mem ∧
          u.counter 10 = (s.count 10).counter 10 ∧ u.host.err = setBit s.host.err (readErrorBit e) true ∧ readErrorAer e ∈ u.host.aer) ∧
      (∀ er : ReadErrors, t.source = 1 →
        ∃ u, exec (.tileCopyRow t.id er) s = .next u ∧ u.chans = s.chans ∧ u.axes = s.axes ∧
          u.counter 84 = (s.countN 84 er.corrected.length).counter 84 ∧ u.counter 85 = (s.countN 85 er.bad.length).counter 85 ∧
          ∀ i, i < t.rowBytes →
            mget u.mem.store (s.layerAddr j d t.ch (layerLine t.layer d t.line) + t.nozzle / 4 + i) =
              if er.bad.contains ((t.addr % 8 + i) / 8) then 0 else mget s.mem.store (t.addr + i)))

/-! ### Lines, periods and slots -/

/-- Lines (04 R125, R126, R150, R151, 05 R160, R171, R177, 10 R333): a composed line enters the FIFO with the codes of R177, gives up its posted and
coverage bits, and counts the words read with errors; a trigger counts the line and pulses source 0x10; a fire position reached in the job's
direction of travel makes the line due, one not reached does nothing; one reached in the last slot of the line before makes it late and counts;
one reached before that slot has begun, or while the line before it is due and has not begun, suppresses the line and counts.  That of two lines so due
the later one is suppressed is deduced (log entry 21). -/
def Obligations.LinesComposeAndComeDue : Prop :=
  ∀ (s : State) (ch : Fin 48) (slot : Nat) (j : Job), s.inRun = true → s.jobOf ch.val = some slot → s.jobAt slot = some j →
    let c := s.chan ch.val
    (∀ (corrected : Nat) (bad : List (Nat × Nat)), s.canCompose j ch.val = true → s.shot 84 = false → s.shot 85 = false →
      ∃ t cov, exec (.lineComposed ch corrected ⟨bad, [], []⟩) s = .next t ∧ t = { s with chans := t.chans, jobs := t.jobs, tc := t.tc } ∧
        t.tc = ((s.countN 84 corrected).countN 85 bad.length).tc ∧ t.jobAt slot = some { j with cover := cov } ∧
        (∀ k, k < 4 → k ≠ slot → t.jobAt k = s.jobAt k) ∧ (∀ m, m < 48 → m ≠ ch.val → t.chan m = s.chan m) ∧
        t.chan ch.val = { c with
          nextCompose := c.following (c.nextCompose + 1), fifo := c.fifo ++ [{ line := c.nextCompose, codes := s.composed j ch.val c.nextCompose bad }] } ∧
        (s.partnerIn j ch.val = none → j.geometry ≠ 2 → swf 0 j.cover = true → ∀ k d, k < 4 → vget j.layers k none = some d →
          sget 0 cov (coverKey k ch.val (layerLine k d c.nextCompose)) = 0)) ∧
    (∀ k : Fin 4, k.val = slot → j.state = .running → j.passWait = false → (j.lines = 0 ∨ j.trigLine < j.lines) →
      (j.reached (s.chanPosition j.firstCh) (j.start + ((j.column j.trigLine * j.pitch : Nat) : Int) / 65536) = true →
        exec (.lineTrigger k) s = .next ((s.modJob slot (fun x => { x with trigLine := x.trigLine + 1 })).raise 0x10)) ∧
      (j.reached (s.chanPosition j.firstCh) (j.start + ((j.column j.trigLine * j.pitch : Nat) : Int) / 65536) = false →
        exec (.lineTrigger k) s = .next s)) ∧
    (j.state = .running → j.passWait = false → s.shutdownLatched ch.val = false → c.shutAtSlot = 0 →
      (c.dueEarly = 0 → (∀ p, c.prepared = some p → p.due = 0) → s.reaches j ch.val (s.slotPos j ch.val c.nextLine 0 1) = false →
        exec (.firePositionReached ch) s = .next s) ∧
      (c.dueEarly = 0 → j.beyond c.nextLine = false → c.gone.contains c.nextLine = false → s.shot 20 = false → s.shot 21 = false →
        s.reaches j ch.val (s.slotPos j ch.val c.nextLine 0 1) = true →
        (c.prepared = none → c.packed.isSome = true → c.firing = none →
          exec (.firePositionReached ch) s = .next (s.modChan ch.val (fun d => { d with dueEarly := 1 }))) ∧
        (∀ p, c.prepared = some p → p.due = 0 →
          (c.firing = none →
            exec (.firePositionReached ch) s = .next (s.modChan ch.val (fun d => { d with prepared := some { p with due := 1 } }))) ∧
          (∀ f, c.firing = some f → f.period.cosy = false → f.ended = false → f.slot + 1 = f.period.plan.length → c.stitchBack c.nextLine = false →
            exec (.firePositionReached ch) s = .next ((s.count 20).modChan ch.val (fun d => { d with prepared := some { p with due := 2 } }))) ∧
          (∀ f, c.firing = some f → f.period.cosy = false → f.slot + 1 < f.period.plan.length →
            ∃ t, exec (.firePositionReached ch) s = .next t ∧ t.counter 21 = (s.count 21).counter 21 ∧
              (t.chan ch.val).nextLine = c.nextLine + 1 ∧ (t.chan ch.val).firing = some f ∧ t.ilk = s.ilk))) ∧
      (∀ p, c.prepared = some p → p.due ≠ 0 → let next := c.following (c.nextLine + 1)
        (j.beyond next = true ∨ s.reaches j ch.val (s.slotPos j ch.val next 0 1) = false → exec (.firePositionReached ch) s = .next s) ∧
        (j.beyond next = false → s.reaches j ch.val (s.slotPos j ch.val next 0 1) = true →
          ∃ t, exec (.firePositionReached ch) s = .next t ∧ t.counter 21 = (s.count 21).counter 21 ∧ (t.chan ch.val).gone = c.gone ++ [next] ∧
            (t.chan ch.val).nextLine = c.nextLine ∧ (t.chan ch.val).firing = c.firing ∧ t.ilk = s.ilk)))

/-- Periods and slots (03 R88, R89, R91-R93, R99, R101, 04 R142, R143, R154): a preparation point plans the packed line with the live set's rotation,
shifts the data of its first slot, takes a set armed in an earlier clock, also where a further COMMIT of this clock waits for the next
boundary, and packs the next line; slot 0 of a due line begins from the clock
after that with its pulses where the gate is open and the channel is neither dry nor held; a later slot begins at its position once the slot
before has had its length; at a slot's end the pads are low, and a line that ends on the job's only channel counts as completed.  That slot 0 does not wait
for the shift of its data is deduced (log entry 51), and so is that a further COMMIT of this clock leaves the earlier arm in force (log entry 31). -/
def Obligations.PeriodsAndSlots : Prop :=
  ∀ (s : State) (ch : Fin 48) (slot : Nat) (j : Job), s.inRun = true → s.jobOf ch.val = some slot → s.jobAt slot = some j →
    s.shutdownLatched ch.val = false → (s.chan ch.val).shutAtSlot = 0 → s.pwr.blockHeld.getLsbD (ch.val / 4) = false →
    let c := s.chan ch.val
    let others (t : State) : Prop := t.axes = s.axes ∧ t.ilk = s.ilk ∧
      ∀ m, m < 48 → m ≠ ch.val → t.chan m = { s.chan m with mapBase := (t.chan m).mapBase, mapChanges := (t.chan m).mapChanges }
    (∀ f codes f2 rest, j.state = .running → c.mayPrepare = true → c.packed = some (f, codes) →
      c.fifo = f2 :: rest → f2.line = f.line + 1 → s.shot 22 = false → j.beyond (f.line + 1) = false → c.gone.contains (f.line + 1) = false →
      ∃ t p, exec (.preparationPoint ch ⟨[], [], []⟩) s = .next t ∧ (t.chan ch.val).prepared = some p ∧ p.line = f.line ∧ p.codes = codes ∧ p.since = s.clock ∧
        p.quiet = c.dry ∧ p.held = c.hold ∧ p.due = c.dueEarly ∧
        (t.chan ch.val).gEff = c.gEffAt (c.rotation c.live.rot) c.applied ∧
        p.plan.length = ((c.rotation c.live.rot).derived (t.chan ch.val).gEff).length ∧
        (∀ x r, p.plan = x :: r → (t.chan ch.val).frame = frameOf c.nozzles (if c.hold then [] else codes) x.groups) ∧ (t.chan ch.val).latClocks = 8 ∧
        (∃ codes2, (t.chan ch.val).packed = some (f2, codes2)) ∧ (t.chan ch.val).fifo = rest ∧ (t.chan ch.val).live = c.live ∧
        ((c.armed = some .next ∨ ∃ l, c.armed = some (.line l) ∧ l ≤ f.line) → c.fixedSet = none → c.armedAt < s.clock →
          (∀ x, c.recent = some x → x.1 < s.clock) → (t.chan ch.val).taken = some (c.shadow, f.line, s.clock) ∧ (t.chan ch.val).armed = none) ∧
        (∀ x, s.clock ≤ c.armedAt → c.earlier = some (.next, none) → c.recent = some x → x.1 < s.clock →
          (t.chan ch.val).taken = some (c.shadow, f.line, s.clock) ∧ (t.chan ch.val).armed = c.armed) ∧
        ((c.armedAt < s.clock ∧ c.armed = none) ∨ (s.clock ≤ c.armedAt ∧ c.earlier = none) →
          (t.chan ch.val).taken = c.taken ∧ (t.chan ch.val).armed = c.armed) ∧ others t) ∧
    (∀ p x r, j.state = .running → (∀ f, c.firing = some f → f.ended = true ∧ f.period.plan.length ≤ f.slot + 1 ∧ f.period.cosy = false) →
      c.prepared = some p → p.due ≠ 0 → p.since < s.clock → p.plan = x :: r → c.lateUntil ≤ s.clock → c.gone.contains (p.line + 1) = false →
      ∃ t f, exec (.slotStart ch) s = .next t ∧ (t.chan ch.val).firing = some f ∧ f.period.line = p.line ∧ f.slot = 0 ∧ f.start = s.clock ∧ f.ended = false ∧
        f.mask = groupMask x.groups ∧
        (s.gateOpen = true → p.quiet = false → c.hold = false → f.fireA = x.fireA ∧ f.fireB = x.fireB) ∧
        (s.gateOpen = false ∨ p.quiet = true ∨ c.hold = true → f.fireA = [] ∧ f.fireB = []) ∧
        (∀ y r', r = y :: r' → (t.chan ch.val).frame = frameOf c.nozzles (if c.hold then [] else p.codes) y.groups) ∧
        (t.chan ch.val).prepared = none ∧ (t.chan ch.val).nextLine = p.line + 1 ∧ (t.chan ch.val).lastLine = p.line ∧ (t.chan ch.val).lastTrig = s.timebase ∧
        others t) ∧
    (∀ f x y, c.firing = some f → f.period.cosy = false → f.period.plan[f.slot]? = some x → f.period.plan[f.slot + 1]? = some y → f.start + x.len ≤ s.clock →
      j.reached (s.chanPosition ch.val) (s.slotPos j ch.val f.period.line (f.slot + 1) f.period.plan.length) = true →
      ∃ t g, exec (.slotStart ch) s = .next t ∧ (t.chan ch.val).firing = some g ∧ g.period = f.period ∧ g.slot = f.slot + 1 ∧ g.start = s.clock ∧
        g.mask = groupMask y.groups ∧ (t.chan ch.val).prepared = c.prepared ∧ others t) ∧
    (∀ f, c.firing = some f → f.period.cosy = false → f.ended = false → f.start + c.slotLength f ≤ s.clock →
      (f.slot + 1 < f.period.plan.length →
        exec (.slotEnd ch) s = .next (s.modChan ch.val (fun d => { d with firing := some { f with ended := true, fireA := [], fireB := [] } }))) ∧
      (f.period.plan.length ≤ f.slot + 1 → f.period.held = false → j.channels = BitVec.ofNat 64 (2 ^ ch.val) → j.lastPass = true → j.mark f.period.line = {} →
        ∃ t j', exec (.slotEnd ch) s = .next t ∧ (t.chan ch.val).firing = some { f with ended := true, fireA := [], fireB := [] } ∧
          t.jobAt slot = some j' ∧ j'.completed = j.completed + 1 ∧ others t))

/-- Arming and the legs of the data-late sequence (05 R183, R190, R192, R194, 12 R382, 13 R408): with full FIFOs whose first line lies ahead a job in ARMING
runs, every channel with that line packed, and its start is answered, and a resume move that stands at X_B re-registers; a follower that holds an ID arms
no job before it has stepped its timebase (log entry 28 for a device without an ID); a shuttle pass arms only
while the position lies before line 0; the feed that stands turns back, waits, and re-registers, on a ring once the followers are full; a
ring-fed device reports its full FIFOs to the master, from which its wait counts (log entry 18, the model's choice). -/
def Obligations.ArmingAndLateLegs : Prop :=
  ∀ (s : State) (k : Fin 4) (j : Job), s.inRun = true → s.jobAt k.val = some j →
    let ahead : Prop := s.shot 22 = false ∧ j.chans ≠ [] ∧ ∀ n, n ∈ j.chans → (s.chan n).packed = none ∧ (s.chan n).gone = [] ∧
      j.beyond (s.chan n).nextLine = false ∧ ∃ f r, (s.chan n).fifo = f :: r ∧ f.line = (s.chan n).nextLine ∧ ∀ x, x ∈ r → f.line ≤ x.line
    let runs (t : State) : Prop := (∃ j', t.jobAt k.val = some j' ∧ j'.state = .running ∧ j'.late = .none ∧ j'.passWait = false) ∧
      ∀ n, n ∈ j.chans → (t.chan n).nextLine = (s.chan n).nextLine ∧ ∃ f codes, (t.chan n).packed = some (f, codes) ∧ f.line = (s.chan n).nextLine
    (ahead → j.state = .arming → s.fifosFull j = true → s.cosyMet j = true → j.passWait = false → s.pe.stalled = false →
      (s.isMaster = true ∨ s.link.id = none ∨ s.link.stepped = true) →
      (∀ n, n ∈ j.chans → j.passed (s.chanPosition n) (s.slotPos j n (s.chan n).nextLine 0 1) = false) →
      (j.resumeMove = false →
        ∃ t, exec (.jobArmed k) s = .next t ∧ runs t ∧ (∀ o, o ∈ t.pe.ops → o.kind ≠ .jobStart j.id) ∧ t.axes = s.axes) ∧
      (j.resumeMove = true → j.feed < 8 → (s.axis j.feed).leg = .backup → (s.axis j.feed).segs = [] → (s.axis j.feed).speed = 0 →
        ∃ t, exec (.jobArmed k) s = .next t ∧ runs t ∧ (t.axis j.feed).leg = .rereg ∧ (t.axis j.feed).state = .moving ∧ (t.axis j.feed).legX = j.xT ∧
          (t.axis j.feed).legV = j.vR ∧ ∀ a, a < 8 → a ≠ j.feed → t.axis a = s.axis a)) ∧
    (s.isMaster = false → s.link.id.isSome = true → s.link.stepped = false → exec (.jobArmed k) s = .next s) ∧
    (j.state = .running → j.passWait = true →
      (ahead → j.late = .none → (∀ n, n ∈ j.chans →
        if j.reverse then s.slotPos j n 0 0 1 < s.chanPosition n else s.chanPosition n < s.slotPos j n 0 0 1) →
        ∃ t, exec (.shuttlePassArm k) s = .next t ∧ runs t ∧ t.axes = s.axes) ∧
      ((∃ n, n ∈ j.chans ∧ if j.reverse then s.chanPosition n ≤ s.slotPos j n 0 0 1 else s.slotPos j n 0 0 1 ≤ s.chanPosition n) →
        exec (.shuttlePassArm k) s = .next s)) ∧
    (j.state = .late → j.feed < 8 →
      (j.late = .stopping → (s.axis j.feed).leg = .stopWeb → (s.axis j.feed).segs = [] → (s.axis j.feed).speed = 0 →
        ∃ t, exec (.lateWebStopped k) s = .next t ∧ t.jobAt k.val = some { j with late := .backing } ∧ (t.axis j.feed).leg = .backup ∧
          (t.axis j.feed).state = .moving ∧ (t.axis j.feed).legX = s.backupTarget j j.xT j.vR ∧ t.chans = s.chans ∧
          (∀ a, a < 8 → a ≠ j.feed → t.axis a = s.axis a)) ∧
      (j.late = .backing → (s.axis j.feed).leg = .backup → (s.axis j.feed).segs = [] → (s.axis j.feed).speed = 0 →
        exec (.lateBackupDone k) s = .next (s.modJob k.val (fun x => { x with late := .waiting, waitFrom := s.clock }))) ∧
      (ahead → j.late = .waiting → s.fifosFull j = true → (s.link.id = some 0 → j.ringDevs &&& ~~~ j.fullFrom = 0) → j.passWait = false →
        (s.isMaster = true ∨ s.link.id = none ∨ s.link.stepped = true) →
        ∃ t, exec (.lateReregister k) s = .next t ∧ runs t ∧ (t.axis j.feed).leg = .rereg ∧ (t.axis j.feed).state = .moving ∧
          ∃ j', t.jobAt k.val = some j' ∧ j'.resumePending = some ((s.clock - j.waitFrom) / 400, 0))) ∧
    (j.state = .late → 8 ≤ j.feed → s.fifosFull j = true → j.fullSent = false →
      exec (.lateReregister k) s = .next ((s.modJob k.val (fun x => { x with fullSent := true, waitFrom := s.clock })).sendNewPkt 0 3
        (signalBody 2 j.id j.nStop)))

/-! ### Position, temperature -/

/-- Encoders (04 R117-R121): accepted levels in which ENCn_A leads count one up, those in which ENCn_B leads one down; a count ends a hold and puts the
position at 64 times the count; after four counts the same way v is 256 over the ticks since the fourth before; a transition of both inputs counts
nothing, holds the position and is counted; levels that do not change do nothing; 2,097,152 ticks without a count hold the position. -/
def Obligations.EncodersCount : Prop :=
  ∀ (s : State) (e : Fin 8), s.inRunIdle = true →
    let x := s.encoder e.val
    let others (t : State) : Prop := ∀ k, k < 8 → k ≠ e.val → t.encoder k = s.encoder k
    (∀ a b up : Bool, s.shot 17 = false → ((a ≠ x.a ∧ b = x.b ∧ up = (a != b)) ∨ (a = x.a ∧ b ≠ x.b ∧ up = (a == b))) →
      ∃ t, exec (.encCount e ⟨a, b⟩) s = .next t ∧ t = { s with enc := t.enc } ∧ others t ∧ (t.encoder e.val).a = a ∧ (t.encoder e.val).b = b ∧
        (t.encoder e.val).count = x.count + (if up then 1 else -1) ∧ (t.encoder e.val).base = x.base ∧
        (t.encoder e.val).position s.now = 64 * (t.encoder e.val).count - x.base ∧
        (∀ t1 t2 t3 t4 r, x.hist = (t1, up) :: (t2, up) :: (t3, up) :: (t4, up) :: r →
          (t.encoder e.val).vNum = 256 ∧ (t.encoder e.val).vDen = s.now - t4)) ∧
    (∀ a b : Bool, s.shot 17 = false → a ≠ x.a → b ≠ x.b → ∃ t, exec (.encCount e ⟨a, b⟩) s = .next t ∧ t = { s with enc := t.enc, tc := t.tc } ∧ others t ∧
      t.tc = (s.count 17).tc ∧ (t.encoder e.val).count = x.count ∧ ∀ now, (t.encoder e.val).position now = x.position s.now) ∧
    exec (.encCount e ⟨x.a, x.b⟩) s = .next s ∧
    (∀ t0 u r, x.hist = (t0, u) :: r →
      (2097152 ≤ s.now - t0 → ∃ t, exec (.interpolatorTimeout e) s = .next t ∧ t = { s with enc := t.enc } ∧ others t ∧
        (t.encoder e.val).count = x.count ∧ ∀ now, (t.encoder e.val).position now = x.position s.now) ∧
      (s.now - t0 < 2097152 → exec (.interpolatorTimeout e) s = .next s))

/-- The thermal opcodes (02 R74, R76, 09 R296, R305): THERMAL_CONFIG gives the sensors it selects limits that come into use with their next
measurement, THERMAL_STATUS shows every sensor, SHUTDOWN_RELEASE clears latches in compatibility mode and only at temperatures at or below WARN. -/
def Obligations.ThermalCommands : Prop :=
  ∀ (c : Cmd) (s : State),
    (s.KettleTakes 0x0700 c →
      let xs := selectSensors (le c.params 0 1) (le c.params 1 1)
      let head : Prop := le c.params 0 1 = 0
      let w := s.otp.wires
      xs ≠ [] → (∀ x, x ∈ xs → s.configBlocked x (leS c.params 2 2) (leS c.params 6 2) (leS c.params 8 2) = false) →
      leS c.params 2 2 ≤ (if head then w.headWarn else w.dieWarn) → leS c.params 4 2 ≤ (if head then w.headThrottle else w.dieThrottle) →
      leS c.params 6 2 ≤ (if head then w.headShutdown else w.dieShutdown) → (if head then 250 else 400) ≤ leS c.params 2 2 →
      leS c.params 2 2 < leS c.params 4 2 → leS c.params 4 2 < leS c.params 6 2 → 10 ≤ leS c.params 8 2 → leS c.params 8 2 ≤ 100 →
      zeros c.params 10 2 = true →
      ∃ t : State, exec (.thermalConfig c) s = .next (t.ok 0x0700 c []) ∧ t = { s.taken with therm := t.therm } ∧
        ∀ x, t.sensor x = if x ∈ xs then { s.sensor x with
          next := some (leS c.params 2 2, leS c.params 4 2, leS c.params 6 2, leS c.params 8 2) } else s.sensor x) ∧
    (s.KettleTakes 0x0701 c → ∃ b, exec (.thermalStatus c) s = .next (s.taken.ok 0x0701 c b) ∧ b.length = 216 ∧
      (∀ n, n < 48 → le b (4 * n) 2 = ((s.headSensor n).shown % 65536).toNat ∧
        le b (4 * n + 2) 1 = (if s.shutdownLatched n then 255 else (s.chan n).applied % 256) ∧
        bit (le b (4 * n + 3) 1) 0 = (s.headSensor n).suspect ∧ bit (le b (4 * n + 3) 1) 1 = (s.headSensor n).warning ∧
        bit (le b (4 * n + 3) 1) 3 = (s.headSensor n).latched) ∧
      (∀ i, i < 6 → le b (192 + 4 * i) 2 = ((s.dieSensor i).shown % 65536).toNat ∧ bit (le b (195 + 4 * i) 1) 0 = (s.dieSensor i).suspect ∧
        bit (le b (195 + 4 * i) 1) 3 = (s.dieSensor i).latched)) ∧
    (s.KettleTakes 0x0702 c →
      (∀ n, n < 48 → bit (le c.params 0 8) n = true → ((s.headSensor n).warn : Rat) < (s.headSensor n).value →
        exec (.shutdownRelease c) s = .next (s.taken.reply true (packetOfCmd 0x0702 c) .ring stREFUSED_TEMPERATURE [])) ∧
      ((∀ n, n < 48 → bit (le c.params 0 8) n = true → (s.headSensor n).value ≤ ((s.headSensor n).warn : Rat)) →
        (∀ i, i < 6 → (s.dieSensor i).value < ((s.dieSensor i).warn : Rat)) →
        (s.otp.wires.compat = false → exec (.shutdownRelease c) s = .next (s.taken.reply true (packetOfCmd 0x0702 c) .ring stBAD_STATE [])) ∧
        (s.otp.wires.compat = true → channelsOk (le c.params 0 8) = true →
          (∀ x, x ∈ s.therm.logWait → if x.1 < 48 then bit (le c.params 0 8) x.1 = false ∨ (s.headSensor x.1).latched = false
            else (s.dieSensor (x.1 - 48)).latched = false) →
          ∃ t : State, exec (.shutdownRelease c) s = .next (t.ok 0x0702 c []) ∧ t.jobs = s.jobs ∧ t.axes = s.axes ∧
            (∀ n, n < 48 → (t.headSensor n).latched = ((s.headSensor n).latched && !bit (le c.params 0 8) n)) ∧
            (∀ i, i < 6 → (t.dieSensor i).latched = false))))

/-- Measurements (09 R291-R294, R296-R298, R302, R303): accepted limits come into use, the value is the mean of the last four measurements, the first of which
fills all four (log entry 11, the model's choice); the warning follows the value with hysteresis; the target level rises at THROTTLE
where no up-timer runs, and the down-timer runs below THROTTLE − HYST; at SHUTDOWN the latch sets, the target becomes 7, counter 66 counts and no job of the
sensor's channels stays active; a head without a usable
temperature becomes suspect and is counted; a head that is not attached is not measured.  A reading between two units of 0.1 °C is held as one of
them (log entry 10, the model's choice). -/
def Obligations.Measurements : Prop :=
  ∀ (s : State) (raw : Int), s.inRunIdle = true →
    let kept (y : SensorState) (k : Int) : List Int := if y.meas = [] then [k, k, k, k] else (k :: y.meas).take 4
    let follows (t : State) (x : Sensor) (m : List Int) : Prop :=
      let y := (s.sensor x).settle
      (t.sensor x).meas = m ∧ (t.sensor x).value = meanOf m ∧ (t.sensor x).warn = y.warn ∧ (t.sensor x).shutdown = y.shutdown ∧ (t.sensor x).next = none ∧
        (t.sensor x).warning = (if (y.warn : Rat) ≤ meanOf m then true
          else if meanOf m < ((y.warn - y.hyst : Int) : Rat) then false else y.warning) ∧
        ((y.shutdown : Rat) ≤ meanOf m → (t.sensor x).latched = true) ∧ t.ilk = s.ilk ∧
        (y.latched = false → meanOf m < (y.shutdown : Rat) → (t.sensor x).latched = false ∧
          ((y.throttle : Rat) ≤ meanOf m → y.upFrom = none → (t.sensor x).target = min 7 (y.target + 1) ∧ (t.sensor x).upFrom = some s.clock) ∧
          (meanOf m < (y.throttle : Rat) ∨ y.upFrom ≠ none → (t.sensor x).target = y.target ∧ (t.sensor x).upFrom = y.upFrom) ∧
          (t.sensor x).downFrom = if meanOf m < ((y.throttle - y.hyst : Int) : Rat) then some (y.downFrom.getD s.clock) else none) ∧
        (y.latched = false → (y.shutdown : Rat) ≤ meanOf m → (t.sensor x).target = 7 ∧ t.counter 66 = (s.count 66).counter 66 ∧
          ∀ k j, k < 4 → t.jobAt k = some j → (∀ n : Fin 48, x = .head n → j.channels.getLsbD n.val = true) → j.active = false)
    (∀ i : Fin 6, (s.dieSensor i.val).suspect = false →
      ∃ t, exec (.thermalMeasurement (.die i) raw) s = .next t ∧
        follows t (.die i) (kept (s.dieSensor i.val) (if s.otp.regionOk.getLsbD 0 then Config.dieTrim i.val raw else raw + 100))) ∧
    (∀ n : Fin 48, (s.chan n.val).attached = false → exec (.thermalMeasurement (.head n) raw) s = .next s) ∧
    (∀ n : Fin 48, (s.chan n.val).attached = true → s.shot 64 = false → s.shot 66 = false → (s.headSensor n.val).suspect = false →
      (∀ q : Rat, headTemp raw (s.headEntry n.val) = some q →
        ∃ t k, exec (.thermalMeasurement (.head n) raw) s = .next t ∧ follows t (.head n) (kept (s.headSensor n.val) k) ∧
          ((k = q.floor) ∨ (k = q.floor + 1 ∧ (q.floor : Rat) ≠ q))) ∧
      (headTemp raw (s.headEntry n.val) = none →
        ∃ t, exec (.thermalMeasurement (.head n) raw) s = .next t ∧ (t.headSensor n.val).suspect = true ∧
          (t.headSensor n.val).meas = (s.headSensor n.val).meas ∧ t.counter 68 = (s.count 68).counter 68))

/-- The throttle timers, the feed at capacity, the energy model, suspect sensors and Cosy (09 R298, R300, R306-R309, R311, R312): a Cosy period begins
25,000 ticks after the last one at the earliest, its slots follow each other, and it ends where Cosy is no longer allowed.  That the energy model is updated
as an exact rational number is the model's choice (log entry 10), and that a Cosy period is planned where COSY_PERIOD begins it is deduced (log entry 41). -/
def Obligations.ThermalTimersAndCosy : Prop :=
  ∀ (s : State), s.inRunIdle = true →
    (∀ (x : Sensor) t0, (s.sensor x).upFrom = some t0 → t0 + 10 * 400000 ≤ s.clock →
      (((s.sensor x).throttle : Rat) ≤ (s.sensor x).value → ∃ t, exec (.throttleUpTimer x) s = .next t ∧
        t.sensor x = { s.sensor x with target := min 7 ((s.sensor x).target + 1), upFrom := some s.clock } ∧ t.jobs = s.jobs ∧ t.axes = s.axes) ∧
      ((s.sensor x).value < ((s.sensor x).throttle : Rat) → exec (.throttleUpTimer x) s = .next (s.modSensor x (fun y => { y with upFrom := none })))) ∧
    (∀ (x : Sensor) t0, (s.sensor x).downFrom = some t0 → t0 + 50 * 400000 ≤ s.clock →
      ∃ t, exec (.throttleDownTimer x) s = .next t ∧ t.jobs = s.jobs ∧ t.axes = s.axes ∧
        t.sensor x = { s.sensor x with target := (s.sensor x).target - 1, downFrom := some s.clock }) ∧
    (∀ (k : Fin 4) (j : Job), s.jobAt k.val = some j → j.feed < 8 → (∀ q, s.capacity j = some q → rabs (s.axis j.feed).speed ≤ q * j.pitch / 65536) →
      (∃ n, n ∈ j.chans ∧ (s.chan n).riseSince.isSome = true) →
      ∃ t, exec (.feedAtCapacity k) s = .next t ∧ t.jobs = s.jobs ∧ t.axes = s.axes ∧ ∀ n, n < 48 → t.chan n =
        (if j.channels.getLsbD n && (s.chan n).riseSince.isSome then { s.chan n with applied := s.targetLevel n, riseSince := none } else s.chan n)) ∧
    (∀ (ch : Fin 48) t0, (s.chan ch.val).riseSince = some t0 → t0 + 200 * 400000 ≤ s.clock →
      ∃ t, exec (.throttleWaitOverrun ch) s = .next t ∧ t.chan ch.val = { s.chan ch.val with applied := s.targetLevel ch.val, riseSince := none } ∧
        (∀ m, m < 48 → m ≠ ch.val → t.chan m = s.chan m) ∧ t.counter 65 = (s.count 65).counter 65 ∧ t.jobs = s.jobs ∧ t.axes = s.axes) ∧
    (∃ t, exec .energyModelUpdate s = .next t ∧ t = { s with chans := t.chans, therm := t.therm } ∧
      ∀ n, n < 48 → t.chan n = { s.chan n with pulses := 0 } ∧
        (s.headEntry n = none → t.headSensor n = s.headSensor n) ∧
        (∀ a b d tau, s.headEntry n = some (a, b, d, tau) → t.headSensor n = { s.headSensor n with deltaT := (s.headSensor n).deltaT +
          ((b : Rat) / 100 * (((((s.chan n).pMax * (s.chan n).pulses * 1000 : Nat) : Rat) /
            ((2 * (s.chan n).nozzles * max 1 (s.chan n).rateMax : Nat) : Rat)) / 1000) - (s.headSensor n).deltaT) / (tau : Rat) })) ∧
    (∀ (x : Sensor) t0, (s.sensor x).disagree = some t0 → t0 + 100 * 400000 ≤ s.clock →
      exec (.sensorSuspect x) s = .next ((s.modSensor x (fun y => { y with suspect := true, disagree := none })).count
        (match x with | .head _ => 68 | .die _ => 69))) ∧
    (∀ ch : Fin 48, let c := s.chan ch.val
      let cosyOnly (t : State) : Prop := t = { s with chans := t.chans } ∧ ∀ m, m < 48 → m ≠ ch.val → t.chan m = s.chan m
      (s.cosyAllowed ch.val = true → c.inPeriod = none → c.firing.any (fun f => f.period.cosy) = false →
        ((∀ t0, c.cosyAt = some t0 → t0 + 25000 ≤ s.clock) →
          ((s.headSensor ch.val).value < (c.cosyTarget : Rat) - 5 → rotationOk (c.rotation c.live.rot) = true →
            ∃ t f, exec (.cosyPeriod ch) s = .next t ∧ cosyOnly t ∧ (t.chan ch.val).warming = true ∧ (t.chan ch.val).cosyAt = some s.clock ∧
              (t.chan ch.val).firing = some f ∧ f.period.cosy = true ∧ f.slot = 0 ∧ f.start = s.clock ∧ f.ended = false ∧ f.fireB = []) ∧
          ((c.cosyTarget : Rat) + 5 ≤ (s.headSensor ch.val).value →
            exec (.cosyPeriod ch) s = .next (s.modChan ch.val (fun d => { d with warming := false })))) ∧
        (∀ t0, c.cosyAt = some t0 → s.clock < t0 + 25000 → exec (.cosyPeriod ch) s = .next s)) ∧
      (∀ f x, c.firing = some f → f.period.cosy = true → f.period.plan[f.slot]? = some x → f.start + x.len ≤ s.clock → s.inRun = true →
        (s.cosyAllowed ch.val = true → f.slot + 1 < f.period.plan.length →
          ∃ t g, exec (.slotStart ch) s = .next t ∧ cosyOnly t ∧ (t.chan ch.val).firing = some g ∧ g.period = f.period ∧ g.slot = f.slot + 1 ∧
            g.start = s.clock ∧ ∀ y, f.period.plan[f.slot + 1]? = some y → g.mask = groupMask y.groups) ∧
        (f.ended = false → (s.cosyAllowed ch.val = false ∨ f.period.plan.length ≤ f.slot + 1) →
          ∃ t, exec (.slotEnd ch) s = .next t ∧ cosyOnly t ∧ (t.chan ch.val).firing = none ∧ (t.chan ch.val).nextLine = c.nextLine)))

/-! ### Axes -/

/-- The motion opcodes that start, stop and describe motion (02 R76, 03 R115, 07 R235, R238, R241-R249, R252, R260): the configuration, a move to a target,
a velocity move, a stop and a resume of every axis selected, a homing, new values for a retained or a running move, which keep A until the next
move where the new one does not stop in the distance left; a refusal of each start while a trip latch is set.  That an A kept so overrides the A of
the next move or resume is deduced (log entry 20), and so is that POLARITY flips the limit readings at once (log entry 35). -/
def Obligations.AxisCommands : Prop :=
  ∀ (c : Cmd) (s : State),
    let n := le c.params 0 1
    let a := s.axis n
    let others (t : State) : Prop := t = { s with pe := t.pe, host := t.host, axes := t.axes } ∧ ∀ k, k < 8 → k ≠ n → t.axis k = s.axis k
    let owed (t : State) (op : BitVec 16) (k : OpKind) : Prop :=
      t.pe.ops = s.pe.ops ++ [{ kind := k, pkt := packetOfCmd op c, src := .ring, seq := s.pe.seq }]
    let tripped (op : BitVec 16) : Host.Outcome State Fault Refusal := .next (s.taken.reply true (packetOfCmd op c) .ring stREFUSED_INTERLOCK [])
    (s.tripped = true →
      (s.KettleTakes 0x0401 c → exec (.moveAbs c) s = tripped 0x0401) ∧ (s.KettleTakes 0x0402 c → exec (.moveVel c) s = tripped 0x0402) ∧
      (s.KettleTakes 0x0404 c → exec (.axisResume c) s = tripped 0x0404) ∧ (s.KettleTakes 0x0405 c → exec (.home c) s = tripped 0x0405)) ∧
    (s.KettleTakes 0x0400 c → n < 8 → s.lateFeed n = false → s.axisInJob n = false → a.standing = true → le c.params 1 1 ≤ 2 → le c.params 2 2 ≤ 7 →
      0 < le c.params 8 4 → le c.params 8 4 ≤ 2147483647 → (le c.params 1 1 ≠ 2 → le c.params 8 4 ≤ 256000000) → 0 < le c.params 12 4 → 0 < le c.params 16 4 →
      exec (.axisConfig c) s = .next ((s.taken.modAxis n (fun x => { x with
        configured := true, mode := le c.params 1 1, polarity := BitVec.ofNat 3 (le c.params 2 2), window := le c.params 4 4, vMax := le c.params 8 4,
        aMax := le c.params 12 4, jMax := le c.params 16 4, state := .idle, fault := 0, move := none, saved := none, last := none, remaining := 0,
        segs := [], landing := none, nextA := none, en := decide (le c.params 1 1 ≠ 2) && !s.pwr.blockHeld.getLsbD (12 + n / 4),
        limNeg := (x.limNeg != (x.polarity.getLsbD 1 != decide (le c.params 2 2 / 2 % 2 = 1))),
        limPos := (x.limPos != (x.polarity.getLsbD 1 != decide (le c.params 2 2 / 2 % 2 = 1))) })).ok 0x0400 c [])) ∧
    (s.KettleTakes 0x0401 c → s.tripped = false → n < 8 → a.configured = true → a.mode ≠ 2 → a.standing = true →
      a.towardsLimit (leS c.params 4 8 * 65536 - a.commanded) = false → le c.params 1 1 ≤ 1 → zeros c.params 2 2 = true → 0 < le c.params 12 4 →
      le c.params 12 4 ≤ a.vMax → 0 < le c.params 16 4 → le c.params 16 4 ≤ a.aMax →
      (leS c.params 4 8 * 65536 ≠ a.commanded →
        ∃ t, exec (.moveAbs c) s = .next t ∧ others t ∧ owed t 0x0401 (.moveAbs n) ∧ (t.axis n).state = .moving ∧ (t.axis n).commanded = a.commanded ∧
          (t.axis n).speed = a.speed ∧ (t.axis n).nextA = none ∧ (t.axis n).move =
            some { goal := .abs (leS c.params 4 8), prof := le c.params 1 1, v := le c.params 12 4, a := a.nextA.getD (le c.params 16 4), j := a.jMax }) ∧
      (leS c.params 4 8 * 65536 = a.commanded →
        ∃ t, exec (.moveAbs c) s = .next t ∧ (t.axis n).state = .idle ∧ (t.axis n).commanded = a.commanded ∧
          (∀ o, o ∈ t.pe.ops → o.kind ≠ .moveAbs n) ∧ ∀ k, k < 8 → k ≠ n → t.axis k = s.axis k)) ∧
    (s.KettleTakes 0x0402 c → s.tripped = false → n < 8 → a.configured = true → a.mode ≠ 2 → a.standing = true →
      a.towardsLimit (leS c.params 4 4) = false → le c.params 1 1 ≤ 1 → zeros c.params 2 2 = true → (leS c.params 4 4).natAbs ≤ a.vMax →
      0 < le c.params 8 4 → le c.params 8 4 ≤ a.aMax →
      ∃ t, exec (.moveVel c) s = .next t ∧ others t ∧ owed t 0x0402 (.moveVel n) ∧ (t.axis n).state = .moving ∧ (t.axis n).commanded = a.commanded ∧
        (t.axis n).nextA = none ∧ (t.axis n).move = some {
          goal := .vel (leS c.params 4 4), prof := le c.params 1 1, v := (leS c.params 4 4).natAbs, a := a.nextA.getD (le c.params 8 4), j := a.jMax }) ∧
    (s.KettleTakes 0x0403 c → le c.params 1 1 ≤ 1 → zeros c.params 2 2 = true →
      ∃ t, exec (.axisStop c) s = .next t ∧ t.pwr = s.pwr ∧ t.ilk = s.ilk ∧ t.enc = s.enc ∧ ∀ k, k < 8 →
        (bit (le c.params 0 1) k = false → t.axis k = s.axis k) ∧
        (bit (le c.params 0 1) k = true → (s.axis k).state = .moving → (t.axis k).state = .stopping ∧ (t.axis k).commanded = (s.axis k).commanded) ∧
        (bit (le c.params 0 1) k = true → (s.axis k).standing = true → t.axis k = s.axis k)) ∧
    (s.KettleTakes 0x0404 c → s.tripped = false → zeros c.params 1 3 = true →
      (∀ k, k < 8 → bit n k = true → s.lateFeed k = false ∧ (s.axis k).configured = true ∧ (s.axis k).mode ≠ 2 ∧ (s.axis k).resumable = true ∧
        (s.axis k).towardsLimit (s.axis k).remainingDir = false) →
      ∃ t, exec (.axisResume c) s = .next t ∧ t.chans = s.chans ∧ t.jobs = s.jobs ∧ ∀ k, k < 8 →
        (bit n k = false → t.axis k = s.axis k) ∧
        (∀ m, bit n k = true → (s.axis k).move = some m → (t.axis k).state = .moving ∧ (t.axis k).commanded = (s.axis k).commanded ∧
          (t.axis k).move = some { m with a := (s.axis k).nextA.getD m.a } ∧ (t.axis k).nextA = none)) ∧
    (s.KettleTakes 0x0405 c → s.tripped = false → n < 8 → s.lateFeed n = false → a.configured = true → a.mode ≠ 2 → s.axisInJob n = false →
      a.standing = true → le c.params 1 1 ≤ 1 → 0 < le c.params 2 1 → 0 < le c.params 3 1 → 0 < le c.params 4 4 → 0 < le c.params 8 4 →
      le c.params 8 4 ≤ a.vMax → 0 < le c.params 12 4 → le c.params 12 4 ≤ a.vMax → 0 < leS c.params 16 8 →
      ∃ t h, exec (.home c) s = .next t ∧ others t ∧ owed t 0x0405 (.home n) ∧ (t.axis n).state = .homing ∧ (t.axis n).homing = some h ∧ h.phase = 1 ∧
        h.dir = le c.params 1 1 ∧ h.vFast = le c.params 8 4 ∧ h.vSlow = le c.params 12 4 ∧ h.backoff = leS c.params 16 8 ∧ (t.axis n).commanded = a.commanded) ∧
    (s.KettleTakes 0x0406 c → n < 8 → s.lateFeed n = false → a.configured = true → a.mode ≠ 2 →
      let v := le c.params 4 4
      let acc := le c.params 8 4
      let jerk := le c.params 12 4
      (a.state = .idle → exec (.kinematicsSet c) s = .next (s.taken.reply true (packetOfCmd 0x0406 c) .ring stBAD_STATE [])) ∧
      (∀ m : Move, a.leg = .none → a.saved = none → a.move = some m → v ≤ a.vMax → acc ≤ a.aMax → jerk ≤ a.jMax → zeros c.params 1 3 = true →
        let goal : Goal := match m.goal with
          | .vel q => if v = 0 then .vel q else .vel (if q < 0 then -(v : Rat) else v)
          | g => g
        let mv : Move := { goal := goal, prof := m.prof, v := (if v = 0 then m.v else v), a := (if acc = 0 then m.a else acc), j := (if jerk = 0 then m.j else jerk) }
        (a.state = .stopped ∨ (a.state = .fault ∧ a.fault = 1) →
          exec (.kinematicsSet c) s = .next ((s.taken.modAxis n (fun x => { x with
            move := some mv, last := some mv, nextA := (if acc = 0 then x.nextA else none), moved := x.moved && decide (goal = m.goal) })).ok 0x0406 c [])) ∧
        (∀ q, a.state = .moving → m.goal = .vel q →
          ∃ t : State, exec (.kinematicsSet c) s = .next (t.ok 0x0406 c []) ∧ t = { s.taken with axes := t.axes } ∧
            (∀ k, k < 8 → k ≠ n → t.axis k = s.axis k) ∧ (t.axis n).move = some mv ∧ (t.axis n).state = .moving ∧
            (t.axis n).commanded = a.commanded) ∧
        (∀ g, a.state = .moving → m.goal = .abs g →
          let need := changeDistance (rabs a.speed) 0 (changeUpdates m.prof (rabs a.speed) mv.a mv.j)
          let left := rabs (((g * 65536 - a.commanded : Int) : Rat) / 65536)
          (need ≤ left →
            ∃ t : State, exec (.kinematicsSet c) s = .next (t.ok 0x0406 c []) ∧ t = { s.taken with axes := t.axes } ∧
              (∀ k, k < 8 → k ≠ n → t.axis k = s.axis k) ∧ (t.axis n).move = some mv ∧ (t.axis n).commanded = a.commanded) ∧
          (left < need → acc ≠ 0 →
            ∃ (t : State) (m' : Move), exec (.kinematicsSet c) s = .next (t.reply true (packetOfCmd 0x0406 c) .ring stDEFERRED []) ∧
              t = { s.taken with axes := t.axes } ∧ (∀ k, k < 8 → k ≠ n → t.axis k = s.axis k) ∧ (t.axis n).nextA = some acc ∧
              (t.axis n).move = some m' ∧ m'.a = m.a ∧ m'.goal = m.goal ∧ (t.axis n).commanded = a.commanded)))) ∧
    (s.KettleTakes 0x0407 c → n < 8 → zeros c.params 1 3 = true →
      exec (.axisStatus c) s = .next (s.taken.ok 0x0407 c (toLeS 8 (a.commanded / 65536) ++ toLeS 8 a.encAt ++
        toLeS 8 a.remainingNow ++ toLeS 4 (rtrunc a.speed) ++ toLe 1 a.state.code ++ toLe 1 a.fault ++ [0, 0])))

/-- Axes in motion (07 R236, R248-R254, R260): an update takes the encoders of its motion engine, and moves COMMANDED at constant speed; a deviation
beyond WINDOW stalls; a move at its target or its speed is done; a stop that stands; a limit on the side of travel stops and the other does not;
the phases and the end of a homing, which a limit or chatter ends in whichever phase.  That an update takes the four axes of its engine in turn is log
entry 35; that a velocity move counts as done also where the feed limit holds its speed lower, and that a limit or chatter in the last deceleration of a
homing changes its result, is log entry 52: these are the model's. -/
def Obligations.AxisEvents : Prop :=
  ∀ (s : State) (ax : Fin 8), s.inRun = true →
    let n := ax.val
    let a := s.axis n
    let counted (k : Nat) : Int := 64 * (s.encoder k).count - (s.encoder k).base
    let others (t : State) : Prop := ∀ k, k < 8 → k ≠ n → t.axis k = s.axis k
    (∀ me : Fin 2, s.pwr.blockHeld.getLsbD (12 + me.val) = false →
      (∃ t, exec (.trajectoryUpdate me) s = .next t ∧ t.enc = s.enc ∧ t.ilk = s.ilk ∧ t.pwr = s.pwr ∧ ∀ k, k < 8 →
        (k / 4 ≠ me.val → t.axis k = s.axis k) ∧ (k / 4 = me.val → (t.axis k).encAt = counted k) ∧
        (k / 4 = me.val → (s.axis k).configured = false ∨ (s.axis k).mode = 2 → t.axis k = { s.axis k with encAt := counted k })) ∧
      (n / 4 = me.val → (∀ k, k < 8 → k ≠ n → (s.axis k).configured = false) → a.configured = true →
        a.homing = none → a.leg = .none → a.segs = [] → a.vLim = s.feedLimit n → s.shot 36 = false →
        (∀ m v, a.mode = 0 → a.state = .moving → a.move = some m → m.goal = .vel v →
          ∃ t, exec (.trajectoryUpdate me) s = .next t ∧ (t.axis n).commanded = a.commanded + rtrunc (a.speed * 65536 / 100000) ∧
            (t.axis n).speed = a.speed ∧ (t.axis n).state = .moving ∧ t = { s with axes := t.axes }) ∧
        (a.mode = 1 → a.window ≠ 0 → a.state = .idle → a.speed = 0 → a.window * 65536 < (a.commanded - counted n * 65536).natAbs →
          ∃ t, exec (.trajectoryUpdate me) s = .next t ∧ (t.axis n).state = .fault ∧ (t.axis n).fault = 1 ∧
            (t.axis n).commanded = counted n * 65536 ∧ t.counter 36 = (s.count 36).counter 36))) ∧
    (∀ m, a.state = .moving → a.leg = .none → a.move = some m → a.segs = [] →
      (∀ g, m.goal = .abs g → a.speed = 0 → a.commanded = g * 65536 →
        ∃ t, exec (.moveDone ax) s = .next t ∧ others t ∧ t.axis n = { a with state := .idle, remaining := 0 } ∧
          (∀ o, o ∈ t.pe.ops → o.kind ≠ .moveAbs n) ∧ t.chans = s.chans ∧ t.jobs = s.jobs) ∧
      (∀ v, m.goal = .vel v → a.moved = false →
        ∃ t, exec (.moveDone ax) s = .next t ∧ others t ∧ t.axis n = { a with moved := true } ∧
          (∀ o, o ∈ t.pe.ops → o.kind ≠ .moveVel n) ∧ t.chans = s.chans ∧ t.jobs = s.jobs)) ∧
    (a.segs = [] → a.speed = 0 →
      (a.state = .stopping → ∃ t, exec (.axisStands ax) s = .next t ∧ others t ∧ t.axis n = { a with
        remaining := a.remainingNow, state := (if a.stopFault = 0 then .stopped else .fault), fault := a.stopFault, stopFault := 0 }) ∧
      (∀ h, a.state = .homing → a.homing = some h → h.phase = 5 → h.result = 0 → ∃ t, exec (.axisStands ax) s = .next t ∧ others t ∧
        (t.axis n).state = .idle ∧ (t.axis n).homing = none ∧ (t.axis n).commanded = a.commanded - h.index * 65536 ∧
        (t.encoder n).base = (s.encoder n).base + h.index ∧ (∀ o, o ∈ t.pe.ops → o.kind ≠ .home n))) ∧
    (a.configured = true →
      (a.homing = none →
        (a.state = .moving → a.heading = 1 → ∃ t, exec (.limitActive ax true) s = .next t ∧ others t ∧ (t.axis n).state = .stopping ∧
          (t.axis n).stopFault = 2 ∧ (t.axis n).limPos = true ∧ (t.axis n).commanded = a.commanded) ∧
        (a.state = .moving → a.heading = -1 → ∃ t, exec (.limitActive ax false) s = .next t ∧ others t ∧ (t.axis n).state = .stopping ∧
          (t.axis n).stopFault = 2 ∧ (t.axis n).limNeg = true ∧ (t.axis n).commanded = a.commanded) ∧
        (a.heading ≠ 1 → exec (.limitActive ax true) s = .next (s.modAxis n (fun x => { x with limPos := true }))) ∧
        (a.heading ≠ -1 → exec (.limitActive ax false) s = .next (s.modAxis n (fun x => { x with limNeg := true })))) ∧
      (∀ h, a.homing = some h → h.failed = false →
        (h.dir = 0 → ∃ t, exec (.limitActive ax true) s = .next t ∧ others t ∧ (t.axis n).limPos = true ∧ (t.axis n).commanded = a.commanded ∧
          (t.axis n).homing = some { h with phase := 5, result := 1, index := 0 }) ∧
        (h.dir = 1 → ∃ t, exec (.limitActive ax false) s = .next t ∧ others t ∧ (t.axis n).limNeg = true ∧ (t.axis n).commanded = a.commanded ∧
          (t.axis n).homing = some { h with phase := 5, result := 1, index := 0 }) ∧
        (h.dir = 0 → exec (.limitActive ax false) s = .next (s.modAxis n (fun x => { x with limNeg := true }))) ∧
        (h.dir = 1 → exec (.limitActive ax true) s = .next (s.modAxis n (fun x => { x with limPos := true }))))) ∧
    exec (.limitInactive ax true) s = .next (s.modAxis n (fun x => { x with limPos := false })) ∧
    exec (.limitInactive ax false) s = .next (s.modAxis n (fun x => { x with limNeg := false })) ∧
    (∀ h, a.homing = some h →
      (h.phase = 1 → s.shot 37 = false → ∃ t, exec (.homeSwitchQualified ax true) s = .next t ∧ others t ∧
        (t.axis n).homing = some { h with phase := 6, mark := a.commanded / 65536 } ∧ (t.axis n).commanded = a.commanded) ∧
      (h.phase = 2 → ∃ t, exec (.homeSwitchQualified ax false) s = .next t ∧ others t ∧
        (t.axis n).homing = some { h with phase := 7, mark := a.commanded / 65536 } ∧ (t.axis n).commanded = a.commanded) ∧
      (h.phase = 3 → a.mode ≠ 0 → exec (.homeSwitchQualified ax true) s =
        .next (s.modAxis n (fun x => { x with homing := some { h with phase := 4, mark := a.commanded / 65536 } }))) ∧
      (h.phase = 3 → a.mode = 0 → ∃ t, exec (.homeSwitchQualified ax true) s = .next t ∧ others t ∧ t = { s with axes := t.axes } ∧
        (t.axis n).homing = some { h with phase := 5, result := 0, index := a.commanded / 65536 }) ∧
      (h.phase = 4 → ∃ t, exec (.indexEdge ax) s = .next t ∧ others t ∧ t = { s with axes := t.axes } ∧
        (t.axis n).homing = some { h with phase := 5, result := 0, index := counted n }) ∧
      (h.failed = false → ∃ t, exec (.chatter ax) s = .next t ∧ others t ∧ t.counter 37 = (s.count 37).counter 37 ∧
        (t.axis n).homing = some { h with phase := 5, result := 2, index := 0 } ∧ t.jobs = s.jobs))

/-! ### Cameras -/

/-- The camera opcodes (08 R262, R263, R271, R276, R277, R287-R289): a setup is taken and the port enabled with frame number 0 and its first trigger ahead
of the position, or refused while it is enabled; a setup without the enable bit disables it and its frames in progress stay; an odd FRAME_LINES is
refused where HDR is used (log entry 25); exposures take a new generation; statistics of the newest frame or of a frame by number, a block with an
uncorrectable word being discarded (10 R323); output setups, where the fields of a port that is not listed are checked too (log entry 25); contexts, each
load with the next sequence number. -/
def Obligations.CameraCommands : Prop :=
  ∀ (c : Cmd) (s : State),
    let p := le c.params 0 1
    let u := camSetupOf c.params
    (s.KettleTakes 0x0500 c → p ≤ 1 →
      ((s.port p).on = true → bit (le c.params 4 2) 0 = true → exec (.camConfig c) s = .next (s.taken.reply true (packetOfCmd 0x0500 c) .ring stBAD_STATE [])) ∧
      (camSetupOk c.params = true → bit (le c.params 4 2) 0 = false →
        exec (.camConfig c) s = .next ((s.taken.modPort p (fun q => { q with
          on := false, frames := q.frames.map (fun (f : CamFrame) => { f with stopped := true }) })).ok 0x0500 c [])) ∧
      ((s.port p).on = false → camSetupOk c.params = true → bit (le c.params 4 2) 0 = true →
        ((s.port p).exp.short ≠ 0 → le c.params 10 2 % 2 = 1 →
          exec (.camConfig c) s = .next (s.taken.reply true (packetOfCmd 0x0500 c) .ring stBAD_PARAM [])) ∧
        ((s.port p).exp.short = 0 ∨ le c.params 10 2 % 2 = 0 → exec (.camConfig c) s = .next ((s.taken.modPort p (fun q => { q with
          setup := some u, on := true, nextFrame := 0, trigAfter := 65536 * s.sourcePosition u.posSrc + 65535 })).ok 0x0500 c [])))) ∧
    (s.KettleTakes 0x0501 c → p ≤ 1 → zeros c.params 1 3 = true → 0 < le c.params 4 4 → 0 < le c.params 12 8 → le c.params 12 8 < 2 ^ 48 →
      (le c.params 8 4 = 0 ∨ (le c.params 8 4 ≤ le c.params 4 4 ∧ le c.params 4 4 ≤ 16 * le c.params 8 4 ∧
        ((s.port p).on = true → ∀ v, (s.port p).setup = some v → v.frameLines % 2 = 0))) →
      let gen := if (s.port p).exp.gen = 0xFFFF then 1 else (s.port p).exp.gen + 1
      ∃ t : State, exec (.camExpose c) s = .next (t.ok 0x0501 c (toLe 2 gen ++ [0, 0] ++ toLe 8 s.timebase.toNat)) ∧ t = { s.taken with cam := t.cam } ∧
        (t.port p).exp = { gen := gen, long := le c.params 4 4, short := le c.params 8 4, pitch := le c.params 12 8 } ∧
        (t.port p).commitAt = s.timebase.toNat ∧ (t.port p).setup = (s.port p).setup ∧ (t.port p).frames = (s.port p).frames ∧
        ∀ q, q < 2 → q ≠ p → t.port q = s.port q) ∧
    (s.KettleTakes 0x0502 c → p ≤ 1 →
      let held := if le c.params 4 4 = 0xFFFFFFFF then (s.port p).stats.head? else (s.port p).stats.find? (fun x => x.frame = le c.params 4 4)
      let clean (t : State) : State := { t with mem := { t.mem with statsReads := none } }
      (held = none → ∀ e, exec (.statsRead ⟨c, e⟩) s = .next (clean (s.taken.reply true (packetOfCmd 0x0502 c) .ring stBAD_STATE []))) ∧
      (∀ x y, held = some x → x.planes.find? (fun (y : Nat × List (List Nat) × List Nat) => y.1 = le c.params 1 1) = some y →
        le c.params 2 1 ≤ 4 → zeros c.params 3 1 = true →
        (∀ e : BankErrors, e.bad ≠ [] → ∃ t, exec (.statsRead ⟨c, e⟩) s = .next t ∧ t.counter 81 = (s.countN 81 e.bad.length).counter 81 ∧
          (∀ z, z ∈ (t.port p).stats → z.frame ≠ x.frame) ∧ t.chans = s.chans ∧ t.jobs = s.jobs) ∧
        exec (.statsRead ⟨c, {}⟩) s = .next (clean (s.taken.ok 0x0502 c (toLe 4 x.frame ++ toLe 2 x.gen ++ toLe 1 (le c.params 2 1) ++ toLe 1 (x.marks.toNat % 4) ++
          (if le c.params 2 1 = 4 then y.2.2 else y.2.1.getD (le c.params 2 1) []).flatMap (fun (v : Nat) => toLe 4 v)))))) ∧
    (s.KettleTakes 0x0503 c → p ≤ 2 → zeros c.params 1 3 = true → le c.params 4 1 ≤ (if p = 1 then 0 else 1) →
      (if p = 0 then 1 ≤ le c.params 5 1 ∧ le c.params 5 1 ≤ 3 else le c.params 5 1 = 0) → le c.params 6 1 ≤ 3 →
      le c.params 7 1 ≤ (if p = 2 then 3 else 0) → le c.params 8 2 ≤ (if p = 2 then 255 else 0) →
      zeros (c.params.drop 4) 6 2 = true → zeros (c.params.drop 4) 22 2 = true → zeros (c.params.drop 4) 38 2 = true →
      (∀ n, n < 2 → outPortOk p (le c.params 5 1) (c.params.drop 4) n
        (if (s.port n).on then ((s.port n).setup.map (fun v => v.linePixels)).getD 0 else 0) = true) →
      exec (.outputConfig c) s = .next (({ s.taken with cam := { s.cam with outputs := vset s.cam.outputs p (some (c.params.drop 4)) } }).ok 0x0503 c [])) ∧
    (s.KettleTakes 0x0504 c → p ≤ 1 → zeros c.params 1 3 = true →
      (contextOk (c.params.drop 4) = true → exec (.contextLoad c) s = .next (({ s.taken with cam := { s.cam with
        contexts := vset s.cam.contexts p { body := c.params.drop 4, seq := (vget s.cam.contexts p {}).seq + 1 } } }).ok 0x0504 c [])) ∧
      (contextOk (c.params.drop 4) = false → exec (.contextLoad c) s = .next (s.taken.reply true (packetOfCmd 0x0504 c) .ring stBAD_PARAM [])))

/-- Camera events (08 R263-R269, R272, R274, R283-R285, 04 R124): a trigger fires once the position, moving in the positive direction, has reached the integer
part of its trigger position, begins a frame with the next number or continues the line-sensor frame under way, and owes its data; one that comes too early is
skipped and counted; one that the event fabric has to arm and has not fires nothing (the model's choice, log entry 49); an untriggered frame or line is
discarded and counted; a line lands in the stripe that its number selects; overdue data is given up and counted, also the rest of a frame on a port that
was disabled; a ready stripe goes through the pipeline, one with an uncorrectable word is dropped (10 R323).  The integer part as the moment, the close of a disabled
port's frame by CAM_TIMEOUT, and a first stripe without a switch delay are deduced (log entry 26). -/
def Obligations.CameraEvents : Prop :=
  ∀ (s : State) (p : Fin 2), s.inRun = true →
    let q := s.port p.val
    let now := s.timebase.toNat
    let others (t : State) : Prop := (∀ k, k < 2 → k ≠ p.val → t.port k = s.port k) ∧ t.chans = s.chans ∧ t.jobs = s.jobs ∧ t.axes = s.axes
    (∀ u e x, q.setup = some u → q.nextTrigger now = some (e, x) → s.shot 50 = false →
      let due : Prop := s.movesOn u.posSrc false = true ∧ x / 65536 ≤ s.sourcePosition u.posSrc
      let n := if u.line && e.short ≠ 0 then 2 else 1
      let owes (t : State) (key first : Nat) : Prop := (t.port p.val).trigAfter = x ∧ (t.port p.val).trigLast = now ∧
        (t.port p.val).trigOut.head? = some (now, e.long) ∧ (t.port p.val).owed = q.owed ++
          (List.range n).map (fun i => ({ key := key, line := first + i, pos := x / 65536, tb := now } : Owed))
      (¬ due → exec (.camTrigger p) s = .next s) ∧
      (due → ∃ t, exec (.camTrigger p) s = .next t ∧ (s.unarmed p.val = true → t = s.modPort p.val (fun y => { y with trigAfter := x }))) ∧
      (due → s.unarmed p.val = false → q.trigFree ≤ now →
        (q.openFrame = none → s.camFrame p.val q.nextKey = none →
          ∃ t, exec (.camTrigger p) s = .next t ∧ others t ∧ owes t q.nextKey 0 ∧ (t.port p.val).nextFrame = (q.nextFrame + 1) % 0xFFFFFFFF ∧
            ∃ f, t.camFrame p.val q.nextKey = some f ∧ f.num = q.nextFrame ∧ f.begun = true ∧ f.exp = e ∧
              f.trigTb = s.timebase ∧ f.trigPos = x / 65536) ∧
        (∀ f, q.openFrame = some f → s.camFrame p.val f.key = some f →
          ∃ t, exec (.camTrigger p) s = .next t ∧ others t ∧ (u.line = true → owes t f.key (f.triggers * n)) ∧ (t.port p.val).nextFrame = q.nextFrame ∧
            ∃ g, t.camFrame p.val f.key = some g ∧ g.num = f.num ∧ g.begun = true ∧ g.exp = f.exp ∧ g.triggers = f.triggers + 1)) ∧
      (due → s.unarmed p.val = false → now < q.trigFree → ∃ t, exec (.camTrigger p) s = .next t ∧ others t ∧ (t.port p.val).owed = q.owed ∧
        t.counter 50 = (s.count 50).counter 50 ∧
        (u.line = false → (t.port p.val).nextFrame = (q.nextFrame + 1) % 0xFFFFFFFF ∧ t.counter 52 = (s.count 52).counter 52))) ∧
    (s.listening p.val false = true → q.recv = none →
      (∀ o r, q.junk = false → q.owed = o :: r → exec (.camFrameBegin p) s = .next (s.modPort p.val (fun x => { x with recv := some o.key }))) ∧
      (q.junk = false → q.owed = [] → exec (.camFrameBegin p) s = .next ((s.modPort p.val (fun x => { x with junk := true })).count 48)) ∧
      (q.junk = true → ∀ px tr, exec (.camLine p px tr) s = .next s) ∧
      (q.junk = false → s.shot 48 = false → ∀ px tr, exec (.camLine p px tr) s = .next (s.count 48))) ∧
    (q.recv = none → exec (.camFrameEnd p) s = .next (s.modPort p.val (fun x => { x with junk := false }))) ∧
    (∀ k f, q.recv = some k → s.camFrame p.val k = some f →
      (∃ t, exec (.camFrameEnd p) s = .next t ∧ others t ∧ (t.port p.val).recv = none ∧ (∀ o, o ∈ (t.port p.val).owed → o.key ≠ k) ∧
        ∀ g, g ∈ (t.port p.val).frames → g.key = k → g.closed = true ∧ g.inLines = g.lines) ∧
      (∀ o r px tr line, s.listening p.val false = true → q.junk = false → q.owed = o :: r → o.key = k →
        receiveLine f.setup px tr.trailer = (line, false) → f.overs.contains (f.lines / f.setup.stripeLines) = false → f.lines + 1 < f.inLines →
        s.bufferUsed p.val + line.length ≤ q.capacity → s.inj.released = none →
        ∃ t x, exec (.camLine p px tr) s = .next t ∧ others t ∧ x ∈ (t.port p.val).stripes ∧ x.key = k ∧
          x.index = f.lines / f.setup.stripeLines ∧ x.lines.getLast? = some line ∧ (t.port p.val).owed = q.owed)) ∧
    (s.listening p.val true = true →
      (q.owed = [] → s.shot 48 = false → ∀ px tr, exec (.camLine p px tr) s = .next (s.count 48)) ∧
      (∀ o r f px tr line, q.owed = o :: r → s.camFrame p.val o.key = some f → receiveLine f.setup px tr.trailer = (line, false) →
        f.overs.contains (o.line / f.setup.stripeLines) = false → s.bufferUsed p.val + line.length ≤ q.capacity → s.inj.released = none →
        ∃ t x, exec (.camLine p px tr) s = .next t ∧ others t ∧ x ∈ (t.port p.val).stripes ∧ x.key = o.key ∧
          x.index = o.line / f.setup.stripeLines ∧ x.lines.getLast? = some line ∧ (t.port p.val).owed = r)) ∧
    (∀ o r f, q.owed = o :: r → s.camFrame p.val o.key = some f →
      (o.tb + 400 * f.setup.timeoutUs ≤ now → ∃ t, exec (.camTimeout p) s = .next t ∧ others t ∧ t.counter 51 = (s.count 51).counter 51 ∧
        (t.port p.val).owed = q.owed.filter (fun (x : Owed) => x.key ≠ o.key)) ∧
      (now < o.tb + 400 * f.setup.timeoutUs → (∀ x g, x ∈ q.owed → s.camFrame p.val x.key = some g → now < x.tb + 400 * g.setup.timeoutUs) →
        (∀ g, g ∈ q.frames → g.stopped = true → g.closed = true ∨ now < g.trigLast + 400 * g.setup.timeoutUs) → exec (.camTimeout p) s = .next s)) ∧
    (∀ f, f ∈ q.frames → f.stopped = true → f.closed = false → f.trigLast + 400 * f.setup.timeoutUs ≤ now →
      (∀ x g, x ∈ q.owed → s.camFrame p.val x.key = some g → now < x.tb + 400 * g.setup.timeoutUs) →
      ∃ t, exec (.camTimeout p) s = .next t ∧ others t ∧ t.counter 51 = (s.count 51).counter 51) ∧
    (∀ x, s.cam.current = none → s.pwr.blockHeld.getLsbD 14 = false → s.nextPort = some p.val → s.readyStripe p.val = some x → s.shot 81 = false →
      (x.errors = {} → ∃ t, exec .stripeStart s = .next t ∧ others t ∧ t = { s with cam := t.cam } ∧ t.cam.current = some (p.val, x) ∧
        (t.port p.val).stripes = q.stripes.drop 1 ∧ (s.cam.last = none → t.cam.currentAt = now)) ∧
      (x.errors.bad ≠ [] → ∃ t, exec .stripeStart s = .next t ∧ t.cam.current = none ∧ t.counter 81 = (s.countN 81 x.errors.bad.length).counter 81 ∧
        t.chans = s.chans ∧ t.jobs = s.jobs)) ∧
    (∀ x, s.cam.current = some (p.val, x) → s.cam.currentAt ≤ now →
      (2 * pixelsOf x.lines ≤ 3 * (now - s.cam.currentAt) →
        ∃ t, exec .stripeDone s = .next t ∧ t.cam.current = none ∧ 0x24 ∈ t.fab.raised ∧ t.chans = s.chans ∧ t.jobs = s.jobs ∧ t.axes = s.axes ∧
          ∀ f, f ∈ (t.port p.val).frames → f.key = x.key → x.index ∈ f.overs) ∧
      (3 * (now - s.cam.currentAt) < 2 * pixelsOf x.lines → exec .stripeDone s = .next s))

/-! ### Nozzle health -/

/-- Surveys (06 R212, R214, R218-R220, R223, R224, R226, 03 R115): a start while a trip latch is set is refused; a start begins, and sends the service
axis to the first station where the setup names one; a round fires and flashes when FRAME_US have passed since the last one; a frame that is bad
or comes too late fails its round, which is repeated once; frames nobody waits for only count; a survey ends after 95 s. -/
def Obligations.SurveysRun : Prop :=
  ∀ (s : State),
    (∀ (c : Cmd) u, s.KettleTakes 0x0600 c → s.health.setup = some u → s.health.run = none → channelsOk (le c.params 0 8) = true →
      let m : ChMask := BitVec.ofNat 64 (le c.params 0 8)
      (∀ n, n < 48 → bit (le c.params 0 8) n = true → (s.chan n).ready = true ∧ (s.chan n).sizes ≠ [] ∧ (u.chan n).cam ≠ 255 ∧ (u.chan n).station ≤ 15 ∧
        150 ≤ (s.headSensor n).value ∧ ∀ k j, s.jobOf n = some k → s.jobAt k = some j → j.active = false) → s.surveyEstimate u m ≤ 95000000 →
      (s.tripped = true → exec (.surveyStart c) s = .next (s.taken.reply true (packetOfCmd 0x0600 c) .ring stREFUSED_INTERLOCK [])) ∧
      (s.tripped = false → let goal := u.stationPos.getD ((u.stations m).headD 0) 0
        (u.axis ≠ 255 → (s.axis u.axis).configured = true ∧ (s.axis u.axis).mode ≠ 2 ∧ (s.axis u.axis).standing = true ∧
          (s.axis u.axis).towardsLimit (goal * 65536 - (s.axis u.axis).commanded) = false) → (u.axis < 8 ∨ u.axis = 255) →
        ∃ t r, exec (.surveyStart c) s = .next t ∧ t = { s with pe := t.pe, host := t.host, health := t.health, axes := t.axes } ∧
          t.health.run = some r ∧ r.channels = m ∧ r.since = s.clock ∧ r.moving = decide (u.axis ≠ 255) ∧ r.awaited = none ∧ r.stations = u.stations m ∧
          (∀ k, k < 8 → k ≠ u.axis → t.axis k = s.axis k) ∧
          (u.axis ≠ 255 → (t.axis u.axis).commanded = (s.axis u.axis).commanded ∧
            (t.axis u.axis).state = if goal * 65536 = (s.axis u.axis).commanded then .idle else .moving) ∧
          t.pe.ops = s.pe.ops ++ [{ kind := .survey, pkt := packetOfCmd 0x0600 c, src := .ring, seq := s.pe.seq }])) ∧
    (s.inRun = true → ∀ r u, s.health.run = some r → s.health.setup = some u →
      (r.moving = true → (s.axis u.axis).state = .idle → (s.axis u.axis).commanded = u.stationPos.getD (r.stations.headD 0) 0 * 65536 →
        exec .surveyMoveDone s = .next { s with health := { s.health with run := some { r with moving := false } } }) ∧
      (r.moving = false → (∀ t0, r.roundAt = some t0 → t0 + u.frameUs * 400 ≤ s.clock) → r.awaited = none → r.work.filterMap List.head? ≠ [] →
        (∀ k, k ∈ r.work.filterMap List.head? → 150 ≤ (s.headSensor k.ch).value) →
        ∃ t, exec .surveyRound s = .next t ∧ t = { s with chans := t.chans, health := t.health } ∧
          t.health.flashes = [(s.clock, u.trigWidth), (s.clock + u.fireDelay + u.strobe0, u.strobeWidth), (s.clock + u.fireDelay + u.strobe1, u.strobeWidth)] ∧
          t.health.run = some { r with awaited := some ((List.range 4).filter (fun k => (r.work.getD k []) ≠ [])), roundAt := some s.clock }) ∧
      (∀ (cam : Fin 4) (f : DropFrame), s.shot 32 = false → s.shot 33 = false →
        let bad := dropBad f || r.roundAt.any (fun t => decide (t + u.frameUs * 400 < s.clock))
        (r.awaited = none → exec (.dropWatchFrame cam f) s = .next (s.countN 32 (dropErrorCount f))) ∧
        (∀ cams, r.awaited = some cams → cam.val ∉ cams → exec (.dropWatchFrame cam f) s = .next (s.countN 32 (dropErrorCount f))) ∧
        (∀ cams, r.awaited = some cams → cam.val ∈ cams → cams.filter (fun k => k ≠ cam.val) ≠ [] →
          ∃ t seen, exec (.dropWatchFrame cam f) s = .next t ∧ t = { s.countN 32 (dropErrorCount f) with health := t.health } ∧ (bad = true → seen = []) ∧
            t.health.run = some { r with
              awaited := some (cams.filter (fun k => k ≠ cam.val)), roundBad := r.roundBad || bad, roundSeen := r.roundSeen ++ seen }) ∧
        (r.awaited = some [cam.val] → bad = true → r.repeated = false → ∃ t, exec (.dropWatchFrame cam f) s = .next t ∧ t.chans = s.chans ∧
          t.jobs = s.jobs ∧ t.counter 33 = (s.count 33).counter 33 ∧ t.counter 32 = (s.countN 32 (dropErrorCount f)).counter 32 ∧
          t.health.run = some { r with awaited := none, repeated := true, roundBad := false, roundSeen := [] }) ∧
        (r.awaited = some [cam.val] → bad = false → r.roundBad = false → (∃ l, l ∈ r.work ∧ 2 ≤ l.length) →
          ∃ t r', exec (.dropWatchFrame cam f) s = .next t ∧ t.chans = s.chans ∧ t.jobs = s.jobs ∧ t.health.run = some r' ∧ r'.awaited = none ∧
            r'.roundsDone = r.roundsDone + 1 ∧ r'.work = r.work.map (List.drop 1))) ∧
      (r.since + 95000 * 400000 ≤ s.clock → ∃ t, exec .surveyTimeout s = .next t ∧ t.health.run = none ∧ t.chans = s.chans ∧ t.jobs = s.jobs ∧
        ∀ o, o ∈ t.pe.ops → o.kind ≠ .survey) ∧
      (s.clock < r.since + 95000 * 400000 → exec .surveyTimeout s = .next s))

/-- The nozzle map and Strainer (06 R205, R209, R210, R216, R227, R230-R232): a read shows the entries; a write at once, or one that waits and is
applied later, sets them; the two setups; a bar that the camera has captured is observed once, and moves the run counters and states of R232,
entries of SOURCE 3 excepted, unless a line of it was bad or too many nozzles were absent.  That a map write waits while the channel's job is in
RUNNING is deduced (log entry 36), and so is what the lost lines of a bar do to its observation (log entry 43). -/
def Obligations.MapsAndStrainer : Prop :=
  ∀ (s : State),
    (∀ c : Cmd, let n := le c.params 0 1; let first := le c.params 2 2; let count := le c.params 4 2
      n ≤ 47 → first % 8 = 0 → 8 ≤ count → count % 8 = 0 → first + count ≤ 2048 → le c.params 1 1 = 0 → le c.params 6 2 = 0 →
      (s.KettleTakes 0x0601 c → ∃ b, exec (.nozzleMapRead c) s = .next (s.taken.ok 0x0601 c b) ∧ b.take 8 = c.params ∧ b.length = 8 + count / 2 ∧
        ∀ k, k < count → le b (8 + k / 2) 1 / 16 ^ (k % 2) % 16 = ((s.chan n).entry (first + k)).toNat) ∧
      (s.KettleTakes 0x0602 c → s.underSurvey n = false →
        (s.packing n = true → ∃ t o, exec (.nozzleMapWrite c) s = .next t ∧ t = { s with pe := t.pe } ∧ t.pe.ops = s.pe.ops ++ [o] ∧
          ∃ es, o.kind = .mapWrite n first es ∧ es.length = count) ∧
        (s.packing n = false → swf 0 (s.chan n).map = true → ∃ t : State, exec (.nozzleMapWrite c) s = .next (t.ok 0x0602 c []) ∧ t.axes = s.axes ∧
          (∀ m, m < 48 → m ≠ n → t.chan m = s.chan m) ∧
          (∀ k, k < count → first + k < (s.chan n).nozzles → ((t.chan n).entry (first + k)).toNat = le c.params (8 + k / 2) 1 / 16 ^ (k % 2) % 16) ∧
          (∀ k, k < first ∨ first + count ≤ k → (t.chan n).entry k = (s.chan n).entry k)))) ∧
    (∀ (ch : Fin 48) o first es, s.inRun = true → swf 0 (s.chan ch.val).map = true → o.kind = .mapWrite ch.val first es →
      s.pe.ops.find? (fun (q : PendOp) => match q.kind with | .mapWrite c _ _ => c = ch.val | _ => false) = some o →
      ∃ t, exec (.mapWriteApplied ch) s = .next t ∧ (∀ q, q ∈ t.pe.ops → q ≠ o) ∧
        (∀ k, k < es.length → first + k < (s.chan ch.val).nozzles → (t.chan ch.val).entry (first + k) = es.getD k 0) ∧
        (∀ m, m < 48 → m ≠ ch.val → t.chan m = s.chan m)) ∧
    (∀ c : Cmd, s.KettleTakes 0x0603 c →
      (le c.params 0 1 = 0 → s.health.run = none → setupOk c.params = true →
        exec (.strainerConfig c) s = .next (({ s.taken with health := { s.health with setup := some (setupOf c.params) } }).ok 0x0603 c [])) ∧
      (∀ slot j, le c.params 0 1 = 1 → s.jobSlot (BitVec.ofNat 16 (le c.params 4 2)) = some slot → s.jobAt slot = some j →
        (j.state = .opened ∨ j.state = .stopped) → j.geometry ≠ 2 → checkBarOk c.params = true →
        exec (.strainerConfig c) s = .next ((s.taken.modJob slot (fun x => { x with nextBar := some (barOf c.params) })).ok 0x0603 c []))) ∧
    (∀ (ch : Fin 48) (bar slot : Nat) (j : Job) (b : CheckBar), let n := ch.val; let c := s.chan n; let first := b.slotLine bar (b.ch.getD n (255, 0, 0)).1
      -- the camera's lines since the channel fired the first line of the bar part
      let since := (j.barFrom n first).getD 0
      let obs := b.observation j (s.barWindow j b first since) n first
      let noted := s.modJob slot (fun x => { x with barsSeen := (n, bar) :: x.barsSeen })
      s.inRun = true → s.jobOf n = some slot → s.jobAt slot = some j → j.bar = some b → b.enable = true → (b.ch.getD n (255, 0, 0)).1 ≠ 255 →
      first + b.steps * b.stepLines ≤ c.nextLine → s.underSurvey n = false → s.shot 34 = false → s.shot 35 = false → (n, bar) ∉ j.barsSeen →
      (j.barFrom n first = none ∨ s.barCaptured j b first since = false → exec (.strainerBarObserved ch bar) s = .next s) ∧
      ((j.barFrom n first).isSome = true → s.barCaptured j b first since = true →
        let good : Prop := (∀ i, i < b.steps * b.stepLines → (n, first + i) ∉ j.barBad) ∧ (∀ x, x ∈ s.barWindow j b first since → x.marked = false) ∧
          s.barLost j b first since = false
        let absent := ((List.range c.nozzles).filter (fun k => obs k = 2)).length
        (¬ good → exec (.strainerBarObserved ch bar) s = .next noted) ∧
        (good → 100 * absent ≤ b.invalidPct * c.nozzles → swf 0 c.map = true → swf (0, 0, 0) c.runs = true →
          ∃ t, exec (.strainerBarObserved ch bar) s = .next t ∧ t.axes = s.axes ∧ (∀ m, m < 48 → m ≠ n → t.chan m = s.chan m) ∧
            ∀ k, k < c.nozzles → (nzSource (c.entry k) = 3 → (t.chan n).entry k = c.entry k) ∧
              (nzSource (c.entry k) ≠ 3 → let r := b.decide_ (nzState (c.entry k)) (sget (0, 0, 0) c.runs k) (obs k)
                (t.chan n).entry k = (match r.1 with | some st => nzEntry 2 st | none => c.entry k) ∧ sget (0, 0, 0) (t.chan n).runs k = r.2)) ∧
        (good → b.invalidPct * c.nozzles < 100 * absent → exec (.strainerBarObserved ch bar) s = .next (noted.count 34))))

/-! ### Memory and DMA -/

/-- Banks and image store (10 R322-R327, R330-R333): the test takes a window out of turn first, else the next in order; a corrected word counts and its
window is taken out of turn once in a sweep; a failing cell takes a spare row, or with none left retires its row, where the stripe buffer that holds it
shrinks; a bank without the test does nothing; scrub and retrain; MEMTEST_CONFIG sets the tests and shows the spare rows left; STORE_CONFIG clears
and trains, and when it is done the store has its size and its start is answered.  That the store is empty from the acceptance on is deduced (log entry 34),
and so is that a test out of turn is a BACKGROUND_TEST_WINDOW row (log entry 9). -/
def Obligations.BanksAndStore : Prop :=
  ∀ (s : State),
    (∀ b : Fin 17, s.inRunIdle = true →
      let k := s.bank b.val
      let w := (k.takeWindow b.val).1
      let k' := (k.takeWindow b.val).2
      ((k.retest = [] → w = k.window ∧ k'.window = (k.window + 1) % (bankBytes b.val / 64) ∧ k'.retest = []) ∧
        (∀ x r, k.retest = x :: r → w = x ∧ k'.window = k.window ∧ k'.retest = r) ∧ k'.rows = k.rows ∧ k'.retired = k.retired ∧ k'.test = k.test) ∧
      (k.test = false → ∀ r, exec (.backgroundTestWindow b r) s = .next s) ∧
      (k.test = true → s.shot 80 = false →
        exec (.backgroundTestWindow b .clean) s = .next (s.modBank b.val (fun _ => k')) ∧
        exec (.backgroundTestWindow b .corrected) s = .next ((s.modBank b.val (fun _ =>
          if k'.retested.contains w then k' else { k' with retest := k'.retest ++ [w], retested := k'.retested ++ [w] })).count 80) ∧
        (k.rows.length < 16 →
          (∀ g, exec (.backgroundTestWindow b (.failingCell g)) s =
            .next ((s.modBank b.val (fun _ => { k' with rows := k.rows ++ [w / 16] })).count 82)) ∧
          (b.val < 12 → exec (.backgroundTestWindow b (.uncorrectable .other)) s =
            .next (((s.modBank b.val (fun _ => { k' with rows := k.rows ++ [w / 16] })).count 81).count 82))) ∧
        (16 ≤ k.rows.length →
          ((b.val < 15 ∧ k.retired.length < 8) ∨ b.val = 16 → ∀ g, exec (.backgroundTestWindow b (.failingCell g)) s =
            .next ((s.modBank b.val (fun _ => { k' with retired := k.retired ++ [w / 16] })).count 83)) ∧
          (b.val = 15 → ∀ (p : Fin 2) (i : Nat), exec (.backgroundTestWindow b (.failingCell (.stripe p i))) s =
            .next (((s.modPort p.val (fun q => { q with capacity := q.capacity - 512 })).modBank 15
              (fun _ => { k' with retired := k.retired ++ [w / 16] })).count 83))))) ∧
    (s.inRun = true → s.storeBytes ≠ 0 →
      (∀ a b, ∃ t, exec (.patrolScrub a b) s = .next t ∧ t = { s with tc := t.tc, mem := { s.mem with scrubs := s.mem.scrubs + 1 } } ∧
        t.tc = ((s.countN 84 a).countN 85 b).tc) ∧
      exec .storeRetrain s = .next { s with mem := { s.mem with retrains := s.mem.retrains + 1 } }) ∧
    (∀ c : Cmd, s.KettleTakes 0x0800 c → le c.params 0 4 < 2 ^ 17 → ∃ (t : State) (b : Bytes), exec (.memtestConfig c) s = .next (t.ok 0x0800 c b) ∧
      t = { s.taken with mem := t.mem } ∧ b.length = 20 ∧ (∀ k, k < 17 → t.bank k = { s.bank k with test := bit (le c.params 0 4) k }) ∧
      (∀ k, k < 17 → le b k 1 = (16 - (s.bank k).rows.length) % 256)) ∧
    (∀ c : Cmd, s.KettleTakes 0x0801 c → (∀ k, k < 4 → s.jobAt k = none) → (∀ p, p < 2 → (s.port p).on = false) →
      (∀ k, k < 16 → ∀ r, (s.dma k).run = some r → r.usesStore = false) →
      s.mem.training = none → (∀ x : Tile, x ∈ s.tiles → x.source ≠ 1 ∨ x.done = true) →
      le c.params 0 1 ≤ 3 → le c.params 1 1 ∈ [1, 3, 15] → le c.params 2 1 ∈ [1, 2] → le c.params 3 1 ≤ 4 → zeros c.params 4 4 = true →
      ∃ t, exec (.storeConfig c) s = .next t ∧ t = { s with pe := t.pe, mem := { s.mem with store := [], training := t.mem.training } } ∧
        t.mem.training = some { rate := le c.params 0 1, channels := le c.params 1 1, ranks := le c.params 2 1, density := le c.params 3 1 } ∧ t.storeBytes = 0 ∧
        t.pe.ops = s.pe.ops ++ [{ kind := .storeConfig, pkt := packetOfCmd 0x0801 c, src := .ring, seq := s.pe.seq }]) ∧
    (∀ u, s.inRun = true → s.mem.training = some u → ∃ t, exec .storeConfigDone s = .next t ∧ t.mem.cfg = some u ∧ t.mem.training = none ∧
      t.mem.store = s.mem.store ∧ t.storeBytes = (if u.channels = 15 then 4 else if u.channels = 3 then 2 else 1) * u.ranks * densityGb u.density * 2 ^ 24 * 7 ∧
      (∀ o, o ∈ t.pe.ops → o.kind ≠ .storeConfig) ∧ t.chans = s.chans)

/-- DMA (10 R333, R336-R342, 14 R433): a start copies the registers; a start whose ranges fail counts and runs nothing; a completion writes the bytes,
an uncorrectable word of the store as 8 bytes 0, pulses the channel's source and ends; a host error leaves what was written, LIVE the rest; reads that
time out, unless the host has disabled that; the other errors of the endpoint, which R433 lists, are reported (the row carries them by the model's
choice, log entry 7). -/
def Obligations.DmaTransfers : Prop :=
  ∀ (s : State) (k : Fin 16),
    let c := s.dma k.val
    let others (t : State) : Prop := (∀ i, i < 16 → i ≠ k.val → t.dma i = s.dma i) ∧ t.chans = s.chans ∧ t.jobs = s.jobs ∧ t.axes = s.axes
    (∀ v : Word, s.Awake → s.shot 4 = false → s.shot 8 = false → s.pe.rebooting = false → s.pwr.blockHeld.getLsbD 15 = false → c.run = none →
      (c.count.toNat % 4 = 0 → c.count ≠ 0 → s.dmaRangeOk c.src c.count.toNat false = true → s.dmaRangeOk c.dst c.count.toNat true = true →
        ∃ t, exec (.dmaStart k v) s = .next t ∧ others t ∧ t = { s with mem := t.mem } ∧ t.mem.store = s.mem.store ∧ (t.dma k.val).live = c.count.toNat ∧
          (t.dma k.val).run = some {
            src := c.src, dst := c.dst, count := c.count.toNat, rate := v.toNat / 256 % 64, fill := v.getLsbD 1, start := s.dmaBytes c.src c.count.toNat }) ∧
      (c.count.toNat % 4 ≠ 0 ∨ s.dmaRangeOk c.src c.count.toNat false = false ∨ s.dmaRangeOk c.dst c.count.toNat true = false →
        ∃ t, exec (.dmaStart k v) s = .next t ∧ others t ∧ (t.dma k.val).run = none ∧ (t.dma k.val).live = 0 ∧ t.tc = (s.count 8).tc)) ∧
    (∀ r, s.inRun = true → c.run = some r → c.pending = false → s.isPend k.val = false →
      (∀ e : ReadErrors, dmaSpace r.src = 1 → dmaSpace r.dst = 0 → r.start = s.dmaBytes r.src r.count → swf 0 s.host.mem = true →
        ∃ t, exec (.dmaComplete k ⟨e, [], []⟩) s = .next t ∧ others t ∧ (t.dma k.val).run = none ∧ (t.dma k.val).live = 0 ∧ k.val ∈ t.fab.raised ∧
          t.mem.store = s.mem.store ∧ t.tc = ((s.countN 84 e.corrected.length).countN 85 e.bad.length).tc ∧
          (∀ i, i < r.count → mget t.host.mem (dmaOffset r.dst + i) =
            if (dmaOffset r.src % 8 + i) / 8 ∈ e.bad then 0 else mget s.mem.store (dmaOffset r.src + i)) ∧
          (∀ a, a < dmaOffset r.dst ∨ dmaOffset r.dst + r.count ≤ a → mget t.host.mem a = mget s.host.mem a)) ∧
      (dmaSpace r.src = 0 → s.shot 9 = false →
        (∀ (b : Bytes) e, dmaSpace r.dst = 1 → r.count ≤ b.length → swf 0 s.mem.store = true →
          ∃ t, exec (.dmaComplete k ⟨e, [], b⟩) s = .next t ∧ others t ∧ (t.dma k.val).run = none ∧ (t.dma k.val).live = 0 ∧ k.val ∈ t.fab.raised ∧ t.host = s.host ∧
            (∀ i, i < r.count → mget t.mem.store (dmaOffset r.dst + i) = b.getD i 0) ∧
            (∀ a, a < dmaOffset r.dst ∨ dmaOffset r.dst + r.count ≤ a → mget t.mem.store a = mget s.mem.store a)) ∧
        (∀ (b : Bytes) e, dmaSpace r.dst = 1 → b.length ≤ r.count → swf 0 s.mem.store = true → (e = .timeout → s.host.ctl.timeoutOff = false) →
          ∃ t, exec (.dmaHostError k b e) s = .next t ∧ others t ∧ (t.dma k.val).run = none ∧ (t.dma k.val).live = r.count - b.length ∧
            t.host.err = setBit s.host.err (readErrorBit e) true ∧ readErrorAer e ∈ t.host.aer ∧ t.tc = (s.count 9).tc ∧
            (∀ i, i < b.length → mget t.mem.store (dmaOffset r.dst + i) = b.getD i 0) ∧
            (∀ a, a < dmaOffset r.dst ∨ dmaOffset r.dst + b.length ≤ a → mget t.mem.store a = mget s.mem.store a)) ∧
        (s.host.ctl.timeoutOff = false → ∃ t, exec (.completionTimeout (.timeout (.dma k))) s = .next t ∧ others t ∧ (t.dma k.val).run = none ∧ t.host.err = setBit s.host.err 2 true ∧
          AerError.timeout ∈ t.host.aer ∧ t.tc = (s.count 9).tc))) ∧
    (s.inRun = true → s.pe.fetch.isSome = true →
      (s.host.ctl.timeoutOff = false → exec (.completionTimeout (.timeout .ring)) s = .next { s with pe := { s.pe with fetch := none }, host := s.failed 2 .timeout }) ∧
      (s.host.ctl.timeoutOff = true → exec (.completionTimeout (.timeout .ring)) s = .next s) ∧
      exec (.completionTimeout (.unexpected .ring)) s = .next { s with pe := { s.pe with fetch := none }, host := s.failed 1 .unexpectedCompletion }) ∧
    (s.inRunIdle = true → exec (.completionTimeout .poisonedWrite) s = .next { s with host := s.failed 0 .poisoned } ∧
      exec (.completionTimeout .badRequest) s = .next { s with host := s.reported .unsupportedRequest } ∧
      exec (.completionTimeout .malformed) s = .next { s with host := s.reported .malformed } ∧
      exec (.completionTimeout .dataLinkProtocol) s = .next { s with host := s.reported .dataLinkProtocol } ∧
      exec (.completionTimeout .flowControl) s = .next { s with host := s.reported .flowControl } ∧
      ∀ k, ∃ e, e ∈ [AerError.receiver, .badTlp, .badDllp, .replayTimeout, .replayRollover, .advisoryNonFatal] ∧
        exec (.completionTimeout (.correctable k)) s = .next { s with host := s.reported e }) ∧
    (∀ t : Tile, s.inRun = true → s.host.ctl.timeoutOff = false → s.tiles = [t] → t.source = 0 → t.done = false → t.landed = [] →
      (∃ slot, s.jobSlot t.job = some slot) → t.orphan = false →
      ∃ u, exec (.completionTimeout (.timeout (.tile t.id))) s = .next u ∧ u.tiles = [] ∧ u.chans = s.chans ∧ u.mem = s.mem ∧
        u.host.err = setBit s.host.err 2 true ∧ u.counter 10 = (s.count 10).counter 10)

/-! ### OTP, life cycle, tamper -/

/-- OTP (11 R343, R346-R354, R364): a word with one wrong bit of its 39 reads as its data and corrected, one with two wrong bits as uncorrectable;
the two keys open the lock and any other word closes it, 1 ms closes it; reads, a correction counted, a weak word kept, an uncorrectable one reported,
ATTEMPTS staying as the last programming command left it; a programming command without the keys ends in result 1, one that R349 admits starts; a pulse
sets only bits of its target and clears none, and a cell that margin-high or the normal read finds programmed is found so at margin-low; the last verified
word ends it, or in an advance begins its next part; eight attempts end it in VERIFY_FAIL.  That a refused command also closes the half-open key is the
model's reading (log entry 11). -/
def Obligations.OtpCommands : Prop :=
  ∀ (s : State), s.Awake → s.shot 4 = false →
    let a := s.otp.addr.toNat
    (∀ d : Word, otpCorrect (otpCode d) = some (d, false) ∧ ∀ i, i < 39 → otpCorrect (otpCode d ^^^ BitVec.ofNat 39 (2 ^ i)) = some (d, true) ∧
      ∀ j, j < 39 → j ≠ i → otpCorrect (otpCode d ^^^ BitVec.ofNat 39 (2 ^ i) ^^^ BitVec.ofNat 39 (2 ^ j)) = none) ∧
    (∀ v : Word, exec (.otpKey v) s = .next { s with otp := { s.otp with
      key := (if v.toNat % 65536 = 0x6B31 then 1 else if v.toNat % 65536 = 0xB72E ∧ s.otp.key = 1 then 2 else 0), keyAt := s.clock } }) ∧
    (s.otp.keyAt + 400000 ≤ s.clock → exec .otpKeyTimeout s = .next { s with otp := { s.otp with key := 0 } }) ∧
    (s.otpBusy = false →
      (s.otpDenied a = true → exec .otpRead s = .next { s with otp := { s.otp with rdata := 0, result := 10, weakBit := s.otpWeak a } } ∧
        ∀ i, i ∈ [Instr.otpReadMarginLo, .otpReadMarginHi] → exec i s = .next { s with otp := { s.otp with rdata := 0, ecc := 0, result := 10, weakBit := s.otpWeak a } }) ∧
      (s.otpDenied a = false →
        (∀ d c, State.otpRead s a = some (d, c) → s.shot 96 = false → s.shot 97 = false →
          ∃ t, exec .otpRead s = .next t ∧ t = { s with otp := t.otp, tc := t.tc } ∧ t.otp = { s.otp with
              rdata := d, result := 0, weakBit := s.otpWeak a, weak := t.otp.weak } ∧
            (s.otpWeak a = true → a ∈ t.otp.weak) ∧ (s.otpWeak a = false → t.otp.weak = s.otp.weak ∧ t.tc = s.tc) ∧
            (c = true → t.counter 96 = (s.count 96).counter 96)) ∧
        (State.otpRead s a = none → ∃ t, exec .otpRead s = .next t ∧ t = { s with fresh := t.fresh, otp := t.otp } ∧
          t.otp = { s.otp with rdata := t.otp.rdata, result := 11, weakBit := s.otpWeak a }) ∧
        (∃ t, exec .otpReadMarginLo s = .next t ∧ t = { s with otp := t.otp, tc := t.tc } ∧ t.otp = { s.otp with
          rdata := otpData (s.otpWord a).lo, ecc := BitVec.ofNat 7 ((s.otpWord a).lo.toNat / 2 ^ 32), result := 0
          weakBit := s.otpWeak a, weak := t.otp.weak } ∧ (s.otpWeak a = false → t.otp.weak = s.otp.weak ∧ t.tc = s.tc)) ∧
        (∃ t, exec .otpReadMarginHi s = .next t ∧ t = { s with otp := t.otp, tc := t.tc } ∧ t.otp = { s.otp with
          rdata := otpData (s.otpWord a).hi, ecc := BitVec.ofNat 7 ((s.otpWord a).hi.toNat / 2 ^ 32), result := 0
          weakBit := s.otpWeak a, weak := t.otp.weak } ∧ (s.otpWeak a = false → t.otp.weak = s.otp.weak ∧ t.tc = s.tc))) ∧
      (s.otp.key ≠ 2 → ∀ i, i ∈ [Instr.otpProgram, .otpReburnWord, .otpFinaliseRegion] →
        ∃ t, exec i s = .next t ∧ t.otp.result = 1 ∧ t.otp.key = 0 ∧ t.otp.words = s.otp.words ∧ t.otp.run = none) ∧
      (s.otp.key = 2 → s.tempOk = true → s.otp.vppOk = true →
        let starts (t : State) (k : Nat) (todo : List (Nat × BitVec 39)) : Prop := t = { s with otp := t.otp, tc := t.tc } ∧
          t.otp = { s.otp with key := 0, run := some { kind := k, todo := todo, attempts := 0, begun := !s.kettleDown }, weak := t.otp.weak }
        (lifecycleAllows s.otp.wires.lifecycle 4 (a / 256) = true → s.shot 98 = false → (s.otpWord a).lo = 0 → a / 256 ≠ 0 → finalisable (a / 256) = true →
          s.otpLocked (a / 256) = false → s.otpPending (a / 256) = false → otpReserved (a / 256) (a % 256) = false →
          ∃ t, exec .otpProgram s = .next t ∧ starts t 4 [(a, otpCode s.otp.wdata)]) ∧
        (lifecycleAllows s.otp.wires.lifecycle 5 (a / 256) = true → s.shot 98 = false → s.reburnOk a (otpCode s.otp.wdata) = true →
          ∃ t, exec .otpReburnWord s = .next t ∧ starts t 5 [(a, otpCode s.otp.wdata)]) ∧
        (lifecycleAllows s.otp.wires.lifecycle 6 (a / 256) = true → a / 256 ≠ 0 → finalisable (a / 256) = true → s.otpLocked (a / 256) = false →
          (s.kettleDown = true → ∃ t, exec .otpFinaliseRegion s = .next t ∧ starts t 6 []) ∧
          (s.kettleDown = false → (∀ i, i < 246 → (State.otpRead s (otpAddr (a / 256) i)).isSome = true) →
            ∃ t, exec .otpFinaliseRegion s = .next t ∧ starts t 6 (s.finaliseWords (a / 256))) ∧
          (s.kettleDown = false → (∃ i, i < 246 ∧ State.otpRead s (otpAddr (a / 256) i) = none) →
            ∃ t, exec .otpFinaliseRegion s = .next t ∧ t.otp.result = 11 ∧ t.otp.run = none ∧ t.otp.words = s.otp.words)))) ∧
    (∀ r x w rest (lo nom hi : BitVec 39), s.otp.run = some r → r.todo = (x, w) :: rest → s.kettleDown = false → s.tempOk = true → s.otp.vppOk = true →
      (r.kind < 6 ∨ 0 < r.attempts ∨ (s.otpWord x).lo = 0 ∨ s.reburnOk x w = true) → swf {} s.otp.words = true →
      ∃ t, exec (.otpProgramPulse lo nom hi) s = .next t ∧ (t.otpWord x).lo = (s.otpWord x).lo ||| ((lo ||| nom ||| hi) &&& w) ∧
        (t.otpWord x).nom = (s.otpWord x).nom ||| ((nom ||| hi) &&& w) ∧ (t.otpWord x).hi = (s.otpWord x).hi ||| (hi &&& w) ∧
        (∀ y, y ≠ x → t.otpWord y = s.otpWord y) ∧
        ((t.otpWord x).lo = w → (t.otpWord x).hi = w → rest = [] →
          (r.regions = [] → r.stateTo = 0 → t.otp.run = none ∧ t.otp.result = 0 ∧ t.otp.attempts = r.attempts + 1) ∧
          (r.regions = [] → r.stateTo ≠ 0 →
            t.otp.run = some { r with todo := [(512 + (r.stateTo - 1), otpCode (stateWord r.stateTo))], attempts := 0, stateTo := 0 }) ∧
          (∀ g gs, r.regions = g :: gs → (∀ i, i < 246 → (State.otpRead t (otpAddr g i)).isSome = true) →
            t.otp.run = some { r with todo := t.finaliseWords g, attempts := 0, regions := gs })) ∧
        ((t.otpWord x).lo = w → (t.otpWord x).hi = w → rest ≠ [] → t.otp.run = some { r with todo := rest, attempts := 0 }) ∧
        ((t.otpWord x).lo ≠ w ∨ (t.otpWord x).hi ≠ w → r.attempts < 7 → t.otp.run = some { r with attempts := r.attempts + 1 }) ∧
        ((t.otpWord x).lo ≠ w ∨ (t.otpWord x).hi ≠ w → r.attempts = 7 → t.otp.run = none ∧ t.otp.result = 8 ∧ t.otp.attempts = 8 ∧
          t.counter 98 = (s.count 98).counter 98))

/-- Life cycle, shutdown log, tamper (09 R304, 11 R364-R366): an advance burns its state word, after the regions that production finalises one by
one, one with an uncorrectable word ending it, and then takes the state; one that R364 does not allow, or out of temperature, is refused; a log word that verifies leaves the list, one that does not is tried again;
TAMPER_CONFIG; a detection of an enabled detector wipes Caddy and sets the hold.  The regions one after another, SHUTDOWN_LOG_WRITE as the whole programming
of one word, and REFUSED_LIFECYCLE for a TO of 0 to 4 that R364 does not permit are deduced (log entry 11). -/
def Obligations.LifecycleAndTamper : Prop :=
  ∀ (s : State),
    (∀ c : Cmd, s.KettleTakes 0x0B00 c →
      let tgt := le c.params 0 1
      (tgt ≤ 4 → s.advanceAllowed tgt = false → exec (.lifecycleAdvance c) s = .next (s.taken.reply true (packetOfCmd 0x0B00 c) .ring stREFUSED_LIFECYCLE [])) ∧
      (s.advanceAllowed tgt = true → s.tempOk = false →
        exec (.lifecycleAdvance c) s = .next (s.taken.reply true (packetOfCmd 0x0B00 c) .ring stREFUSED_TEMPERATURE [])) ∧
      (1 ≤ tgt → tgt ≤ 4 → s.advanceAllowed tgt = true → s.tempOk = true → (∀ k, k < 4 → s.jobAt k = none) → s.otpBusy = false →
        le c.params 4 4 = 0x4C435943 → zeros c.params 1 3 = true →
        let starts (t : State) (todo : List (Nat × BitVec 39)) (left : List Nat) (last : Nat) : Prop :=
          t = { s with pe := t.pe, host := t.host, link := t.link, otp := t.otp, tc := t.tc } ∧
          t.otp = { s.otp with advance := some tgt, run := some { kind := 7, todo := todo, attempts := 0, regions := left, stateTo := last }, weak := t.otp.weak } ∧
          t.pe.ops = s.pe.ops ++ [{ kind := .lifecycle tgt, pkt := packetOfCmd 0x0B00 c, src := .ring, seq := s.pe.seq }]
        let first := if tgt = 2 then [1, 3, 4, 5].filter (fun r => !s.otpLocked r) else []
        (first = [] → ∃ t, exec (.lifecycleAdvance c) s = .next t ∧ starts t [(512 + (tgt - 1), otpCode (stateWord tgt))] [] 0) ∧
        (∀ g gs, first = g :: gs →
          ((∀ i, i < 246 → (State.otpRead s (otpAddr g i)).isSome = true) →
            ∃ t, exec (.lifecycleAdvance c) s = .next t ∧ starts t (s.finaliseWords g) gs tgt) ∧
          ((∃ i, i < 246 ∧ State.otpRead s (otpAddr g i) = none) →
            ∃ t, exec (.lifecycleAdvance c) s = .next t ∧ t.otp.run = none ∧ t.otp.advance = none ∧ t.otp.result = 11 ∧ t.otp.words = s.otp.words ∧
              t.otp.wires = { s.otp.wires with lifecycle := s.otpLifecycle } ∧ ∀ o k, o ∈ t.pe.ops → o.kind ≠ .lifecycle k)))) ∧
    (∀ tgt, s.inRun = true → s.kettleDown = false → s.otp.advance = some tgt → s.otp.run = none →
      ∃ t, exec .lifecycleAdvanceDone s = .next t ∧ t.otp.wires = { s.otp.wires with lifecycle := tgt } ∧ t.otp.advance = none ∧ t.otp.words = s.otp.words ∧
        (2 < s.otpLifecycle → t.mem.caddy = none ∧ t.mem.caddyKeys = [] ∧ t.mem.caddyFirm = []) ∧ (∀ o k, o ∈ t.pe.ops → o.kind ≠ .lifecycle k) ∧ t.chans = s.chans) ∧
    (∀ x d rest (lo nom hi : BitVec 39), s.inRun = true → s.kettleDown = false → s.therm.logWait = (x, d) :: rest → s.otpBusy = false → s.tempOk = true →
      s.otp.vppOk = true → swf {} s.otp.words = true →
      (∀ a, s.logAddr = some a →
        ∃ t, exec (.shutdownLogWrite lo nom hi) s = .next t ∧ (t.otpWord a).lo = (s.otpWord a).lo ||| ((lo ||| nom ||| hi) &&& otpCode d) ∧
          (t.otpWord a).hi = (s.otpWord a).hi ||| (hi &&& otpCode d) ∧ (∀ y, y ≠ a → t.otpWord y = s.otpWord y) ∧
          ((t.otpWord a).lo = otpCode d → (t.otpWord a).hi = otpCode d → t.therm = { s.therm with logWait := rest, logRetry := none } ∧ t.tc = s.tc) ∧
          ((t.otpWord a).lo ≠ otpCode d ∨ (t.otpWord a).hi ≠ otpCode d → t.therm = { s.therm with logRetry := some a } ∧
            t.counter 98 = (s.count 98).counter 98 ∧ (t.otpWeak a = true → a ∈ t.otp.weak) ∧ (a ∈ s.otp.weak → t.tc = (s.count 98).tc))) ∧
      (s.logAddr = none → exec (.shutdownLogWrite lo nom hi) s = .next ({ s with therm := { s.therm with logWait := rest } }.count 67))) ∧
    (∀ c : Cmd, s.KettleTakes 0x0B01 c →
      let removes : Prop := s.otp.tamperEn &&& ~~~ BitVec.ofNat 4 (le c.params 0 1) ≠ 0 ∧ 1 < s.otp.wires.lifecycle
      (removes → exec (.tamperConfig c) s = .next (s.taken.reply true (packetOfCmd 0x0B01 c) .ring stREFUSED_LIFECYCLE [])) ∧
      (le c.params 0 1 ≤ 15 → le c.params 1 1 = 0 → 0 < le c.params 2 2 → ¬ removes →
        exec (.tamperConfig c) s = .next (({ s.taken with otp := { s.otp with
          tamperEn := BitVec.ofNat 4 (le c.params 0 1), tamperFilter := BitVec.ofNat 16 (le c.params 2 2) } }).ok 0x0B01 c []))) ∧
    (∀ d : TamperDetector, s.pwr.supply = true →
      (s.otp.tamperEn.getLsbD (tamperIndex d) = true → ∃ t, exec (.tamperDetect d) s = .next t ∧
        t.otp = { s.otp with tamperSeen := setBit s.otp.tamperSeen (tamperIndex d) true, caddyHold := true } ∧
        t.mem = { s.mem with caddy := none, caddyKeys := [], caddyFirm := [] } ∧ t.counter 101 = (s.count 101).counter 101 ∧ t.chans = s.chans ∧ t.jobs = s.jobs ∧
        t.pwr = s.pwr) ∧
      (s.otp.tamperEn.getLsbD (tamperIndex d) = false → exec (.tamperDetect d) s = .next s))

/-! ### WizerLink -/

/-- Ports of WizerLink (12 R369, R373, R374, R394, R396-R398; 02 R76): comma lock begins training, training ends up and wakes a neighbour in turn; a break
and a retrain take the port down, count, tell with event 0x0040, and, while the other port is up, with a TOPO break notice and every frame not acknowledged
through that port; after a break the hop counts and a closed ring return with the port; a ring reset clears what the ring gave the master and gives a follower no ID, and a follower that
prints from the ring loses its position; RING_STATUS.  That RING_STATUS shows a parked port as 0, down, is deduced (log entry 27), and so is that a port
comes up with the link PLL in lock (log entry 13). -/
def Obligations.RingPorts : Prop :=
  ∀ (s : State) (p : Side),
    let q := s.wport p
    let o := s.wport (other p)
    let usable : Prop := s.shot 2 = false ∧ s.pe.evtDropped = 0 ∧ s.pe.evt.en = true ∧ s.host.bme = true ∧ 0 < s.pe.evt.free ∧ s.pe.evt.tail < s.pe.evt.slots ∧
      swf 0 s.host.mem = true
    -- the break notice, then a frame that waited for its acknowledgement, out of the other port
    let notice : Frame := { typ := tTOPO, dest := 0xFF, seq := o.txSeq, payload := routeWord s.deviceId (max 1 (copyHops false (other p) o.others)) }
    let told (t : State) : Prop :=
      (usable → t.pe = { s.pe with evt := { s.pe.evt with tail := (s.pe.evt.tail + 1) % s.pe.evt.slots } } ∧ t.host.pba = s.host.pba ∧
        ∀ i, i < 64 → mget t.host.mem (s.pe.evt.base.toNat + 64 * s.pe.evt.tail + i) =
          (s.eventBytes 0xE100 s.timebase 0x40 (match p with | .east => 0 | .west => 1)).getD i 0) ∧
      (o.state = .up → o.unacked.length ≤ 62 → s.shot 113 = false → q.waiting = [] →
        (q.unacked = [] → (t.wport (other p)).unacked = o.unacked ++ [notice] ∧ t.link.replays = s.link.replays) ∧
        (∀ f h, q.unacked = [f] → sequencedType f.typ = true → f.dest ≠ 0xFF → s.hopsTo (other p) f.dest.toNat = some h → h ≠ 0 →
          t.link.replays = s.link.replays + 1 ∧ t.counter 113 = (s.count 113).counter 113 ∧ (t.wport (other p)).unacked = o.unacked ++ [notice,
            { f with seq := o.txSeq + 1, payload := f.payload.take 1 ++ toLe 1 h ++ f.payload.drop 2 }]))
    let fell (t : State) : Prop := (t.wport p).state = .down ∧ (t.wport p).unacked = [] ∧ (t.wport p).hopsLast = q.hops ∧ (t.wport p).othersLast = q.others ∧
      (∀ k, t.hopsTo p k = none) ∧ t.link.closedLast = (s.link.closedLast || s.link.closed) ∧ t.link.breaks = s.link.breaks + 1 ∧ t.link.closed = false ∧
      t.counter 114 = (s.count 114).counter 114 ∧ 0x60 ∈ t.fab.raised ∧ (t.wport (other p)).state = o.state ∧
      t.link.id = s.link.id ∧ t.chans = s.chans ∧ t.jobs = s.jobs
    (s.inRunIdle = true → s.link.en = true → s.pwr.blockHeld.getLsbD 16 = false → (q.state = .down ∨ q.state = .parked) →
      exec (.wlCommaLock p) s = .next (s.modWport p (fun x => { x with state := .training })).portsMoved) ∧
    (q.state = .training ∨ q.state = .up → exec (.wlCommaLock p) s = .next s) ∧
    (s.inRunIdle = true → q.state = .training → ∃ t, exec (.wlPortUp p) s = .next t ∧ (t.wport p).state = .up ∧
      t.wport p = { q with state := .up, hops := (t.wport p).hops, others := (t.wport p).others, hopsLast := List.replicate 8 none, othersLast := 0 } ∧
      -- after a break the shortest paths return, unless a frame has brought others
      ((∀ x, x ∈ q.hops → x = none) → (t.wport p).hops = q.hopsLast ∧ (t.wport p).others = q.othersLast) ∧
      ((∃ x, x ∈ q.hops ∧ x ≠ none) → (t.wport p).hops = q.hops ∧ (t.wport p).others = q.others) ∧
      -- the ring is closed again where it was, the neighbour beyond this port reached through the other one last
      (s.link.closedLast = true → o.state = .up → t.link.closed = true ∧ t.link.closedLast = false ∧
        t.wport (other p) = { o with hops := (t.wport (other p)).hops, others := q.othersLast } ∧ ∀ k, k < o.hops.length →
          t.hopsTo (other p) k = if s.hopsTo (other p) k = none ∧ q.hopsLast.getD k none = some 1 then some q.othersLast else s.hopsTo (other p) k) ∧
      (s.link.closedLast = false ∨ o.state ≠ .up → t.link.closed = s.link.closed ∧ t.link.closedLast = s.link.closedLast ∧
        t.wport (other p) = (if s.link.wakeOn = true ∧ o.state ≠ .up then { o with idleSent := o.idleSent + 1 } else o)) ∧
      (∀ k, k < 8 → t.link.present.getLsbD k = (s.link.present.getLsbD k || decide (q.hopsLast.getD k none = some 1))) ∧
      t.link.heldFrom = s.clock ∧ t.link.wakeOn = false ∧
      t.link.joined = true ∧ t.link.noId = (s.link.noId || (s.link.id.isNone && !s.isMaster)) ∧
      t = { s with link := t.link, pwr := { s.pwr with pllLock := setBit s.pwr.pllLock 3 true } }) ∧
    (s.linkOn p = true → ∃ t, exec (.ringBreak p) s = .next t ∧ fell t ∧ told t) ∧
    (q.state ≠ .up → exec (.ringBreak p) s = .next s) ∧
    (s.Awake → s.shot 4 = false → s.pwr.blockHeld.getLsbD 16 = false → s.link.en = true → s.link.posEnc < 8 →
      (q.state = .up → p = .east → ∃ t, exec .retrainE s = .next t ∧ fell t) ∧
      (q.state = .up → p = .west → ∃ t, exec .retrainW s = .next t ∧ fell t) ∧
      (s.isMaster = false → exec .ringReset s = .next s) ∧
      (s.isMaster = true → ∃ t, exec .ringReset s = .next t ∧ (s.portUp .east = true ∨ s.portUp .west = true → t.link.id = s.link.id) ∧
        (s.portUp .east = false → s.portUp .west = false → t.link.id = none) ∧ t.link.conflict = (s.link.conflict && s.link.rival) ∧
        t.link.present = 0 ∧ t.link.heldFrom = s.clock ∧
        t.link.ringTrips = 0 ∧ (∀ k, k < 8 → vget t.link.reports k 0 = 0) ∧ t.pwr.rstCause.getLsbD 7 = true ∧
        (q.state = .up → (t.wport p).resetSent = q.resetSent + 16) ∧ t.chans = s.chans ∧ t.jobs = s.jobs)) ∧
    (s.linkOn p = true → s.isMaster = true → exec (.resetColumnsReceived p) s = .next s) ∧
    (s.linkOn p = true → s.isMaster = false → ∃ t, exec (.resetColumnsReceived p) s = .next t ∧ t.link.id = none ∧ t.link.noId = true ∧
      t.link.conflict = (s.link.conflict && s.link.rival) ∧ t.link.present = 0 ∧ t.link.ringTrips = 0 ∧ t.link.stepped = false ∧ t.pwr.rstCause.getLsbD 7 = true ∧
      (o.state = .up → (t.wport (other p)).resetSent = o.resetSent + 16) ∧
      (s.link.posOk = false ∨ s.ringJobs = false → t.chans = s.chans ∧ t.jobs = s.jobs) ∧
      (s.link.posOk = true → s.ringJobs = true → t.link.poslost = true)) ∧
    (∀ c : Cmd, s.KettleTakes 0x0A00 c → exec (.ringStatus c) s = .next (s.taken.ok 0x0A00 c (toLe 1 s.ringDevices ++
      toLe 1 (b2n s.isMaster + 2 * b2n s.link.conflict + 4 * b2n s.link.closed) ++
      toLe 1 (if s.link.east.state = .training then 1 else if s.link.east.state = .up then 2 else 0) ++
      toLe 1 (if s.link.west.state = .training then 1 else if s.link.west.state = .up then 2 else 0) ++
      toLe 4 s.link.breaks.toNat ++ toLe 4 s.link.replays.toNat ++ toLeS 4 s.link.offset)))

/-- IDs, hop counts and waking over the ring (12 R373, R376-R379, R394, R397, 13 R404; 02 R76): the first numbering by the master, 1 ms after the ports have
come to their states, and one of devices that hold their IDs; a TOPO frame in its turn is taken, another is not; a follower takes the ID offered and the
hop counts; a frame that shows a second master sets CONFLICT, one that shows it gone through a reset clears it; a break notice; a park notice, after which
the neighbour is reached through neither port; a WAKE frame, and in SLEEP light on a parked port, wake the device; a WAKE frame in its turn that is for a
parked neighbour has it woken, one out of its turn or without a hop left has not; RING_MAP.  The content of a TOPO frame is
the model's own (log entry 14), and the devices reached and the second master as operands are its reading (log entry 27). -/
def Obligations.RingNumbering : Prop :=
  ∀ (s : State) (p : Side),
    (∀ (closed : Bool) (east west : List (Option (Fin 8))), s.isMaster = false ∨ s.link.conflict = true →
      exec (.ringEnumerate closed east west) s = .next s) ∧
    (s.inRunIdle = true → s.isMaster = true → s.link.conflict = false → s.portUp p = true →
      (s.link.present = 0 → s.clock < s.link.heldFrom + 400000 → ∀ closed east west, exec (.ringEnumerate closed east west) s = .next s) ∧
      (s.link.present ≠ 0 ∨ s.link.heldFrom + 400000 ≤ s.clock → ∀ (closed : Bool) (e w : Nat), let west := if closed then 0 else w
        (closed = false → s.link.known &&& ~~~ 1 = 0) → e + west ≤ 7 →
        ∃ t, exec (.ringEnumerate closed (List.replicate e none) (List.replicate w none)) s = .next t ∧ t.link.id = some 0 ∧
          t.link.devices = e + west + 1 ∧ t.link.closed = closed ∧ (t.wport .east).others = e ∧ (t.wport .west).others = (if closed then e else w) ∧ (∀ k, k < 8 → t.link.present.getLsbD k = decide (k ≤ e + west)) ∧
          (∀ k, k < 8 → t.hopsTo .east k = if 1 ≤ k ∧ k ≤ e then some k else none) ∧
          (∀ k, k < 8 → t.hopsTo .west k = if closed then (if 1 ≤ k ∧ k ≤ e then some (1 + e - k) else none) else if e < k ∧ k ≤ e + w then some (k - e) else none) ∧
          t.chans = s.chans ∧ t.jobs = s.jobs) ∧
      (s.link.present ≠ 0 ∨ s.link.heldFrom + 400000 ≤ s.clock → ∀ l m : List (Fin 8), ∃ t, exec (.ringEnumerate false (l.map some) (m.map some)) s = .next t ∧ t.link.devices = 1 + l.length + m.length ∧
          (∀ k, k < 8 → t.hopsTo .east k = (l.findIdx? (fun i => i.val = k)).map (fun n => n + 1)) ∧
          (∀ k, k < 8 → t.hopsTo .west k = (m.findIdx? (fun i => i.val = k)).map (fun n => n + 1)) ∧ t.chans = s.chans ∧ t.jobs = s.jobs)) ∧
    (s.linkOn p = true → s.shot 112 = false → ∀ t : Topo, t.seq ≠ (s.wport p).rxSeq → ∀ i, i ∈ [Instr.topoEnumeration p t, .topoBreakNotice p t] →
      ∃ u, exec i s = .next u ∧ u = { s with link := u.link } ∧ u.link.id = s.link.id ∧ u.link.conflict = s.link.conflict ∧ u.link.present = s.link.present ∧
        (u.wport p).rxSeq = (s.wport p).rxSeq ∧ ∀ q k, u.hopsTo q k = s.hopsTo q k) ∧
    (s.linkOn p = true → s.shot 112 = false → (s.wport p).unackedRx < 15 → ∀ t : Topo, t.seq = (s.wport p).rxSeq → t.hopsEast.length = 8 →
      t.hopsWest.length = 8 → t.present.length = 8 →
      let after : Bool := match t.masters with | .one => s.link.conflict | .left => s.link.conflict | .second => true | .sensedAgain => false
      let brought (u : State) : Prop := u.link.closed = t.closed ∧ u.link.devices = (t.present.filter (fun x => x)).length ∧
        (∀ k, k < 8 → u.link.present.getLsbD k = t.present.getD k false) ∧
        (∀ k, u.hopsTo .east k = t.hopsEast.getD k none) ∧ (∀ k, u.hopsTo .west k = t.hopsWest.getD k none) ∧
        (u.wport .east).others = t.sideEast ∧ (u.wport .west).others = t.sideWest
      (∃ u, exec (.topoEnumeration p t) s = .next u ∧ u.link.conflict = after ∧ (u.wport p).rxSeq = (s.wport p).rxSeq + 1 ∧ u.chans = s.chans ∧
        u.jobs = s.jobs ∧ (t.hops < 2 → (u.wport (other p)).unacked = (s.wport (other p)).unacked) ∧
        (s.isMaster = true ∨ t.masters = .second →
          u.link.id = s.link.id ∧ u.link.present = s.link.present ∧ ∀ q k, u.hopsTo q k = s.hopsTo q k) ∧
        (s.isMaster = false → t.masters ≠ .second → brought u ∧ (∀ i, s.link.id = some i → u.link.id = some i) ∧
          (s.link.id = none → ∀ i, t.offer = some i → u.link.id = some i ∧ u.link.noId = false) ∧
          (s.link.id = none → t.offer = none → u.link.id = none ∧ u.link.noId = true ∧ u.counter 115 = (s.count 115).counter 115))) ∧
      (∃ u, exec (.topoBreakNotice p t) s = .next u ∧ u.link.closed = false ∧ u.link.conflict = after ∧ u.link.id = s.link.id ∧
        (∀ k, u.hopsTo .east k = t.hopsEast.getD k none) ∧ (∀ k, u.hopsTo .west k = t.hopsWest.getD k none) ∧ u.chans = s.chans)) ∧
    (s.linkOn p = true → s.shot 112 = false → (s.wport p).unackedRx < 15 → ∀ seq, seq = (s.wport p).rxSeq →
      ∃ u, exec (.topoParkNotice ⟨p, seq⟩) s = .next u ∧ (u.wport p).state = .parked ∧ (u.wport p).unacked = [] ∧ (u.wport p).txSeq = 0 ∧
        (u.wport p).rxSeq = 0 ∧ u.link.closed = false ∧ (∀ k, u.hopsTo p k = none) ∧ (u.wport (other p)).state = (s.wport (other p)).state ∧
        (∀ k, u.hopsTo (other p) k = if s.hopsTo p k = some 1 then none else s.hopsTo (other p) k) ∧
        (∀ k, k < 8 → u.link.present.getLsbD k = (s.link.present.getLsbD k && decide (s.hopsTo p k ≠ some 1))) ∧ u.chans = s.chans) ∧
    (∀ f : Frame, f.typ = tWAKE →
      (s.Delivers p f → s.pwr.state = .idle → s.pwr.waking = false → s.pwr.wakeEn.getLsbD 2 = true →
        ∃ u, exec (.wakeFrame p f) s = .next u ∧ u.pwr.waking = true ∧ u.pwr.wakeCause.getLsbD 2 = true ∧ 0x63 ∈ u.fab.raised ∧ u.chans = s.chans) ∧
      (s.Delivers p f → s.pwr.state = .run → s.pwr.entering = none →
        ∃ u, exec (.wakeFrame p f) s = .next u ∧ u.pwr = s.pwr ∧ 0x63 ∈ u.fab.raised ∧ u.chans = s.chans) ∧
      (s.linkOn p = true → s.shot 112 = false → (s.wport (other p)).state = .parked →
        let idles (n : Nat) : Prop := ∃ u, exec (.wakeFrame p f) s = .next u ∧ (u.wport (other p)).idleSent = (s.wport (other p)).idleSent + n ∧ u.chans = s.chans
        (f.seq = (s.wport p).rxSeq → f.dest = 0xFF → idles 1) ∧
        (f.seq = (s.wport p).rxSeq → s.takes f = false → 1 < frameHops f → (s.wport (other p)).hopsLast.getD f.dest.toNat none = some 1 → idles 1) ∧
        (f.seq = (s.wport p).rxSeq → s.takes f = false → frameHops f ≤ 1 → idles 0) ∧
        (f.seq ≠ (s.wport p).rxSeq → idles 0))) ∧
    ((s.wport p).state ≠ .parked → exec (.wlSignalDetect p) s = .next s) ∧
    ((s.wport p).state = .parked → s.pwr.supply = true → s.pwr.pinHeld = false → s.pwr.waking = false → s.pwr.state = .sleep →
      s.pwr.wakeEn.getLsbD 2 = true → ∃ u, exec (.wlSignalDetect p) s = .next u ∧ u.pwr.waking = true ∧ u.pwr.wakeCause.getLsbD 2 = true ∧
        u.link = { s.link with wakeOn := true } ∧ u.chans = s.chans) ∧
    ((s.wport p).state = .parked → s.pwr.supply = true → (s.pwr.state = .run ∨ s.pwr.state = .idle) → s.pwr.entering = none →
      exec (.wlSignalDetect p) s = .next (s.raise 0x63)) ∧
    (∀ c : Cmd, s.KettleTakes 0x0A01 c → ∃ (t : State) (b : Bytes), exec (.ringMap c) s = .next (t.ok 0x0A01 c b) ∧ t = { s.taken with fresh := s.fresh + 1 } ∧
      b.length = 64 ∧ (b.drop (8 * s.deviceId)).take 8 = [1, 0, 0, 0xB1, (if s.isMaster then 1 else 0), 0, 0, 0] ∧
      (∀ i, i < 8 → i ≠ s.deviceId → s.link.present.getLsbD i = false → (b.drop (8 * i)).take 8 = [0, 0, 0, 0, 0, 0, 0, 0]) ∧
      (∀ i h, i < 8 → i ≠ s.deviceId → s.link.present.getLsbD i = true → s.hopsTo .east i = some h → h < 256 → le b (8 * i) 1 = 1 ∧ le b (8 * i + 1) 1 = h))

/-- Ring position and the common timebase (12 R381-R386, R395): the first copy of a POS_SEQ is taken, a further one discarded (one that comes 50 µs after the
first is none, log entry 53); the master sends its own; 50 µs without a valid one clear POS_OK; POSLOST clears after 10 ms; a SYNC request is answered at
once, the answer to one's own that comes from the port towards the master gives an estimate, of which what the timestamps hold below a FIRE tick is free
(log entry 28), the sixteenth a step where none was made; an answer through another port changes nothing. -/
def Obligations.RingPositionAndTime : Prop :=
  ∀ (s : State) (p : Side),
    (∀ f : Frame, f.typ = tPOS → s.linkOn p = true → s.shot 112 = false → s.takes f = true → s.isMaster = false → f.payload.length = 28 →
      let n := (BitVec.ofNat 16 (le f.payload 4 2) : BitVec 16)
      ((∀ x, x ∈ s.link.posTaken → x.1 = n → x.2 + 20000 ≤ s.clock) → ∃ t, exec (.pos p f) s = .next t ∧ t.link.posSeq = n ∧
        t.link.posPos = leS f.payload 8 8 ∧ t.link.posVel = leS f.payload 16 4 ∧ t.link.posStamp = le f.payload 20 8 ∧ t.link.posAt = some s.clock ∧
        t.link.posReached = (if s.link.posAt = none then leS f.payload 8 8 else s.link.position s.timebase.toNat) ∧
        (bit (le f.payload 7 1) 0 = true → t.link.posOk = true ∧ t.link.posValidAt = some s.clock) ∧
        (bit (le f.payload 7 1) 0 = false → t.link.posOk = s.link.posOk ∧ t.link.posValidAt = s.link.posValidAt) ∧ t.chans = s.chans ∧ t.jobs = s.jobs) ∧
      (∀ x, x ∈ s.link.posTaken → x.1 = n → s.clock < x.2 + 20000 →
        ∃ t, exec (.pos p f) s = .next t ∧ t.link.posSeq = s.link.posSeq ∧ t.link.posPos = s.link.posPos ∧ t.link.posOk = s.link.posOk ∧ t.chans = s.chans)) ∧
    (s.inRunIdle = true → s.isMaster = true → s.link.posEn = true → s.link.conflict = false → s.link.en = true →
      ∃ t, exec .posSend s = .next t ∧ t.link.posTx = s.link.posTx + 1 ∧ t.chans = s.chans ∧
        (s.portUp p = true → s.broadcastHops p ≠ 0 → (t.wport p).lastFrame = some {
          typ := tPOS, dest := 0xFF, seq := 0, payload := routeWord s.deviceId (s.broadcastHops p) ++ (toLe 2 s.link.posTx.toNat ++
            toLe 1 s.link.posEnc ++ toLe 1 (b2n (s.axis s.link.posEnc).configured) ++ toLeS 8 ((s.encoder s.link.posEnc).position s.timebase.toNat) ++
            toLeS 4 (s.encoder s.link.posEnc).velocity24 ++ toLe 8 s.timebase.toNat) })) ∧
    (s.link.posEn = false ∨ s.isMaster = false → exec .posSend s = .next s) ∧
    (s.inRunIdle = true → s.link.posOk = true →
      (∀ v, s.link.posValidAt = some v → s.clock < v + 20000 → exec .posTimeout s = .next s) ∧
      (∀ v, s.link.posValidAt = some v → v + 20000 ≤ s.clock →
        (s.ringJobs = false ∨ s.isMaster = true → exec .posTimeout s = .next { s with link := { s.link with posOk := false } }) ∧
        (s.ringJobs = true → s.isMaster = false → ∃ t, exec .posTimeout s = .next t ∧ t.link.posOk = false ∧ t.link.poslost = true)) ∧
      (s.link.poslost = true → s.link.posOkFrom + 4000000 ≤ s.clock → ∃ t, exec .poslostClear s = .next t ∧ t.link.poslost = false ∧ t.chans = s.chans ∧ t.jobs = s.jobs) ∧
      (s.link.poslost = true → s.clock < s.link.posOkFrom + 4000000 → exec .poslostClear s = .next s)) ∧
    (s.inRunIdle = true → ∃ t, exec .syncSend s = .next t ∧ t.chans = s.chans ∧ t.timebase = s.timebase ∧
      (s.portUp p = true → (t.wport p).lastFrame =
        some { typ := tSYNC, dest := 0xFE, seq := 0, payload := [0, 0, 0, 0] ++ toLe 8 s.timebase.toNat ++ pad 16 } ∧
        (match p with | .east => t.link.syncT1E | .west => t.link.syncT1W) = s.timebase.toNat)) ∧
    (∀ f : Frame, f.typ = tSYNC → f.dest = 0xFE → f.payload.length = 28 → s.linkOn p = true → s.shot 112 = false →
      (le f.payload 0 1 = 0 → exec (.sync p f) s = .next (s.modWport p (fun q => { q with lastFrame := some {
        typ := tSYNC, dest := 0xFE, seq := 0, payload := [1, 0, 0, 0] ++ toLe 8 s.timebase.toNat ++ (f.payload.drop 4).take 8 ++ toLe 8 s.timebase.toNat } }))) ∧
      (le f.payload 0 1 ≠ 0 → (∀ h, s.routeTo 0 ≠ some (p, h)) → exec (.sync p f) s = .next s) ∧
      (∀ h, le f.payload 0 1 ≠ 0 → s.isMaster = false → s.link.id.isSome = true → s.routeTo 0 = some (p, h) →
        let t1 := match p with | .east => s.link.syncT1E | .west => s.link.syncT1W
        le f.payload 12 8 = t1 →
        (s.link.offsets.length < 15 → exec (.sync p f) s = .next { s with fresh := s.fresh + 1, link := { s.link with
          offsets := (1250 * (((le f.payload 20 8 : Int) - t1) - ((s.timebase.toNat : Int) - le f.payload 4 8)) + 100 * uiPart (Config.freeNat s.fresh)) ::
            s.link.offsets } }) ∧
        (15 ≤ s.link.offsets.length → s.link.stepped = false → s.ringRuns = false → ∃ t, exec (.sync p f) s = .next t ∧ t.link.stepped = true ∧
          t.link.aligned = true ∧ t.link.offsets = [] ∧ t.link.lostMaster = false ∧ t.chans = s.chans ∧ t.jobs = s.jobs))) ∧
    (∀ at_, s.link.outFrom = some at_ → s.inRunIdle = true → s.isMaster = false → s.link.aligned = true →
      (at_ + 40000 ≤ s.clock → exec .alignLost s = .next ({ s with link := { s.link with aligned := false } }.count 116)) ∧
      (s.clock < at_ + 40000 → exec .alignLost s = .next s))

/-- Faults and the sequencing of frames (12 R373, R374, R387-R389): two columns of three decide a FAULT and it is forwarded, unless the same
came within 2 µs, and one of this device's own ID does nothing; a change of LOCAL sends a FAULT column for the classes newly set out of the ports that are
up, then an FLT frame; an FLT report is held and latched, that of a device without an ID too; the refresh; the sixteenth frame taken is acknowledged; an ACK frees the frames up to it; a NAK frees those before it and sends the rest again, a timeout sends all again, the fifth time
the port goes down; the ACK timer; a damaged frame counts, a sequenced one is answered with NAK once.  That each damaged frame counts, that a NAK acknowledges the frames before its SEQ
and begins its repeats anew, and what a device without an ID takes for its own FAULT, are the model's readings (log entry 27). -/
def Obligations.RingFaultsAndReplay : Prop :=
  ∀ (s : State) (p : Side),
    let q := s.wport p
    (∀ a b c : Byte, a ≠ b → a ≠ c → b ≠ c → exec (.faultColumn p a b c) s = .next s) ∧
    (∀ (a b : Byte) (i : Fin 8), s.link.id = some i → i.val < 7 → a.toNat / 16 % 8 = i.val →
      ∀ x, x ∈ [Instr.faultColumn p a a b, .faultColumn p a b a, .faultColumn p b a a] → exec x s = .next s) ∧
    (∀ (a b : Byte) (t0 : Nat), s.linkOn p = true → bit a.toNat 7 = false → a.toNat / 16 % 8 ≠ s.deviceId % 8 → (a, t0) ∈ s.link.forwarded → s.clock < t0 + 800 →
      ∃ t, exec (.faultColumn p a a b) s = .next t ∧ t.link.ringTrips = s.link.ringTrips ||| BitVec.ofNat 4 a.toNat ∧ t.link.forwarded = s.link.forwarded ∧
        (t.wport (other p)).lastFault = (s.wport (other p)).lastFault) ∧
    (let sent := s.localReport &&& ~~~ s.link.localSent
      let t := s.reportLocal
      (s.localReport = s.link.localSent → t = s) ∧
      (s.localReport ≠ s.link.localSent → t.link.localSent = s.localReport ∧
        (q.state = .up → sent ≠ 0 → (t.wport p).lastFault = some (BitVec.ofNat 8 (sent.toNat + 16 * (s.deviceId % 8)))) ∧
        (q.state = .up → s.broadcastHops p ≠ 0 → q.unacked.length < 64 → s.shot 113 = false → (t.wport p).unacked = q.unacked ++ [{
          typ := tFLT, dest := 0xFF, seq := q.txSeq, payload := routeWord s.deviceId (s.broadcastHops p) ++ toLe 4 s.localReport.toNat }]))) ∧
    (∀ i : Fin 13, s.pwr.supply = true → s.link.localSent = s.localReport → s.localReport.getLsbD (i.val / 4) = false →
      ∃ t, exec (.interlockAssert i) s = .next t ∧ t.link.localSent = t.localReport ∧
        (q.state = .up → (t.wport p).lastFault = some (BitVec.ofNat 8 (2 ^ (i.val / 4) + 16 * (s.deviceId % 8))))) ∧
    (∀ f : Frame, f.typ = tFLT → s.linkOn p = true → s.shot 112 = false → f.seq = q.rxSeq → f.dest = 0xFF → frameHops f ≤ 1 →
      (q.unackedRx = 15 → BitVec.ofNat 4 (le f.payload 4 1) &&& ~~~ s.link.ringTrips = 0 → ∃ t, exec (.flt p f) s = .next t ∧ (t.wport p).rxSeq = q.rxSeq + 1 ∧
        (t.wport p).unackedRx = 0 ∧ (t.wport p).lastFrame = some { typ := tACK, dest := 0xFE, seq := f.seq, payload := [] }) ∧
      (q.unackedRx < 15 → frameOrigin f = 0xFF → ∃ t, exec (.flt p f) s = .next t ∧ t.link.strayReport = BitVec.ofNat 4 (le f.payload 4 1) ∧
        (∀ d, d < 8 → vget t.link.reports d 0 = vget s.link.reports d 0) ∧
        t.link.ringTrips &&& BitVec.ofNat 4 (le f.payload 4 1) = BitVec.ofNat 4 (le f.payload 4 1) ∧ 0x61 ∈ t.fab.raised)) ∧
    (∀ a b : Byte, s.linkOn p = true → bit a.toNat 7 = false → a.toNat / 16 % 8 ≠ s.deviceId % 8 → s.link.forwarded = [] →
      ∃ t, exec (.faultColumn p a a b) s = .next t ∧ exec (.faultColumn p a b a) s = .next t ∧ exec (.faultColumn p b a a) s = .next t ∧
        t.link.ringTrips = s.link.ringTrips ||| BitVec.ofNat 4 a.toNat ∧ t.link.forwarded = [(a, s.clock)] ∧
        (s.portUp (other p) = true → (t.wport (other p)).lastFault = some a)) ∧
    (∀ f : Frame, f.typ = tFLT → s.linkOn p = true → s.shot 112 = false → f.seq = q.rxSeq → q.unackedRx < 15 → f.dest = 0xFF → frameHops f ≤ 1 →
      frameOrigin f < 8 → frameOrigin f ≠ s.deviceId → ∃ t, exec (.flt p f) s = .next t ∧
        vget t.link.reports (frameOrigin f) 0 = BitVec.ofNat 4 (le f.payload 4 1) ∧
        t.link.ringTrips &&& BitVec.ofNat 4 (le f.payload 4 1) = BitVec.ofNat 4 (le f.payload 4 1) ∧ 0x61 ∈ t.fab.raised ∧
        (∀ d, d < 8 → d ≠ frameOrigin f → vget t.link.reports d 0 = vget s.link.reports d 0) ∧
        ((∀ d, d < 8 → d ≠ s.deviceId → d ≠ frameOrigin f → vget s.link.reports d 0 = 0) → s.link.strayReport = 0 → le f.payload 4 1 = 0 → t.link.ringTrips = 0)) ∧
    (s.inRunIdle = true → ∃ t, exec .fltRefresh s = .next t ∧ t.link.localSent = s.localReport ∧ t.chans = s.chans ∧ t.jobs = s.jobs ∧ t.ilk = s.ilk) ∧
    (s.linkOn p = true →
      (∀ seq, q.waiting = [] → s.shot 112 = false →
        (∀ i, q.unacked.findIdx? (fun f => f.seq = seq) = some i →
          exec (.ack p seq) s = .next (s.modWport p (fun x => { x with unacked := x.unacked.drop (i + 1), repeats := 0, sentAt := s.clock }))) ∧
        (q.unacked.findIdx? (fun f => f.seq = seq) = none → exec (.ack p seq) s = .next s)) ∧
      (∀ seq, q.waiting = [] → s.shot 112 = false →
        (∀ i, q.unacked.findIdx? (fun f => f.seq = seq - 1) = some i → q.unacked.drop (i + 1) ≠ [] → ∃ t, exec (.nak p seq) s = .next t ∧
          t.link.replays = s.link.replays + BitVec.ofNat 32 (q.unacked.drop (i + 1)).length ∧ t.tc = (s.countN 113 (q.unacked.drop (i + 1)).length).tc ∧
          t.wport p = { q with unacked := q.unacked.drop (i + 1), repeats := 1, sentAt := s.clock, lastFrame := q.unacked.getLast? } ∧
          t.wport (other p) = s.wport (other p) ∧ t.chans = s.chans) ∧
        (q.unacked ≠ [] → q.unacked.findIdx? (fun f => f.seq = seq - 1) = none →
          (q.repeats < 4 → ∃ t, exec (.nak p seq) s = .next t ∧ t.link.replays = s.link.replays + BitVec.ofNat 32 q.unacked.length ∧
            t.tc = (s.countN 113 q.unacked.length).tc ∧ t.wport p = { q with repeats := q.repeats + 1, sentAt := s.clock, lastFrame := q.unacked.getLast? } ∧
            t.wport (other p) = s.wport (other p) ∧ t.chans = s.chans) ∧
          (4 ≤ q.repeats → ∃ t, exec (.nak p seq) s = .next t ∧ (t.wport p).state = .down ∧ t.link.breaks = s.link.breaks + 1))) ∧
      (q.unacked ≠ [] → q.sentAt + 4000 ≤ s.clock →
        (q.repeats < 4 → ∃ t, exec (.replayTimeout p) s = .next t ∧ t.link.replays = s.link.replays + BitVec.ofNat 32 q.unacked.length ∧
          t.tc = (s.countN 113 q.unacked.length).tc ∧ t.wport p = { q with repeats := q.repeats + 1, sentAt := s.clock, lastFrame := q.unacked.getLast? } ∧
          t.chans = s.chans) ∧
        (4 ≤ q.repeats → ∃ t, exec (.replayTimeout p) s = .next t ∧ (t.wport p).state = .down ∧ t.link.breaks = s.link.breaks + 1)) ∧
      (q.unacked = [] ∨ s.clock < q.sentAt + 4000 → exec (.replayTimeout p) s = .next s) ∧
      (q.unackedRx ≠ 0 → q.rxFrom + 400 ≤ s.clock → exec (.ackTimer p) s = .next (s.modWport p (fun x => { x with
        unackedRx := 0, lastFrame := some { typ := tACK, dest := 0xFE, seq := x.rxSeq - 1, payload := [] } }))) ∧
      (q.unackedRx = 0 ∨ s.clock < q.rxFrom + 400 → exec (.ackTimer p) s = .next s) ∧
      (s.shot 112 = false →
        exec (.wlFrameError p false) s = .next (s.count 112) ∧
        (q.nakked = true → exec (.wlFrameError p true) s = .next (s.count 112)) ∧
        (q.nakked = false → exec (.wlFrameError p true) s = .next ((s.count 112).modWport p (fun x => { x with
          nakked := true, lastFrame := some { typ := tNAK, dest := 0xFE, seq := x.rxSeq, payload := [] } })))))

/-- The relay (02 R67, 12 R379, R380, R390-R393): a command of the ring for another device goes out under the next PKT_ID on the way with the fewer hops and
waits for its delivery acknowledgement, a tile of host memory being read here; one for all goes out of both ports and is taken here too; a segment that is
not the last is kept; a relayed command is acknowledged and handled; a reply goes into the reply
ring and, unless pending, ends the wait; the four job signals; of each of these a packet whose ORIGIN and PKT_ID match one of the last 16 taken is discarded;
a delivery acknowledgement; 1 ms without one answers TARGET_UNREACHABLE; tile data lands, or waits for its TILE_POST in Kettle's queue; a broadcast with
hops left goes on out of the other port.  Which of several commands with one opcode a reply answers is the model's choice (log entry 30). -/
def Obligations.RingRelay : Prop :=
  ∀ (s : State) (p : Side) (f : Frame),
    let a := s.passed p f
    let u := a.dropAssembly f
    -- the packet is noted among the last 16 taken
    let v : State := { u with link := { u.link with taken := ((pktOrigin f, pktIdOf f) :: u.link.taken).take 16 } }
    let again := s.link.taken.contains (pktOrigin f, pktIdOf f)
    (∀ b, s.Delivers p f → f.typ = tPKT → 8 ≤ f.payload.length → pktKind f ∈ [0, 1, 3] → pktLast f = false → s.assembled f = some b →
      exec (.pkt p f) s = .next { a with link := { a.link with assembly :=
        { origin := pktOrigin f, pktId := pktIdOf f, kind := pktKind f, bytes := b } :: a.link.assembly.filter (fun x => !x.of f) } }) ∧
    (∀ b, s.DeliversPkt p f 0 → s.assembled f = some b →
      (again = true → exec (.relayCommand p f) s = .next u) ∧
      (again = false → exec (.relayCommand p f) s = .next
        ((v.sendPkt (pktOrigin f).toNat 2 (pktIdOf f) []).handlePacket (packetOf b) (.relay (pktOrigin f) (pktIdOf f))))) ∧
    (∀ b, s.DeliversPkt p f 1 → s.assembled f = some b → again = true → exec (.relayReply p f) s = .next u) ∧
    (∀ b, s.DeliversPkt p f 1 → s.assembled f = some b → again = false →
      let e := v.engineReply {
        opcode := BitVec.ofNat 16 (le b 0 2), tag := BitVec.ofNat 16 (le b 4 2), status := BitVec.ofNat 16 (le b 8 2), params := b.drop 16, raw := b }
      (le b 8 2 = 1 → exec (.relayReply p f) s = .next e) ∧
      (le b 8 2 ≠ 1 → exec (.relayReply p f) s = .next { e with link := { e.link with awaiting := dropAnswered b s.link.awaiting } })) ∧
    (s.DeliversPkt p f 2 → ∃ t, exec (.deliveryAcknowledgement p f) s = .next t ∧ t.link.relayed = s.link.relayed.filter (fun r => r.pktId ≠ pktIdOf f) ∧
      t.link.awaiting = s.link.awaiting ++ (s.link.relayed.filter (fun r => r.pktId = pktIdOf f)).filter (fun r => r.pkt.wantReply) ∧
      t = { a with link := { a.link with relayed := t.link.relayed, awaiting := t.link.awaiting } }) ∧
    (∀ k r, s.link.relayed.find? (fun x => x.pktId = k) = some r → s.inRunIdle = true →
      (s.clock < r.since + 400000 → exec (.relayTimeout k) s = .next s) ∧
      (r.since + 400000 ≤ s.clock → ∃ u : State, exec (.relayTimeout k) s = .next (u.reply false r.pkt r.src stTARGET_UNREACHABLE []) ∧
        u = { s with link := { s.link with relayed := s.link.relayed.filter (fun x => x.pktId ≠ k) }, tiles := u.tiles } ∧
        u.tiles = s.tiles.filter (fun t => !(t.source = 3 && t.seq = r.seq)))) ∧
    (s.Delivers p f → f.typ = tDATA → 12 ≤ f.payload.length →
      let mine := s.tiles.find? (fun t => t.source = 2 && !t.done && t.src = .relay (pktOrigin f) (BitVec.ofNat 16 (le f.payload 4 2)))
      let waits := s.pe.queue.any (fun q => q.pkt.opcode = 0x0310 && q.src = .relay (pktOrigin f) (BitVec.ofNat 16 (le f.payload 4 2)))
      (mine = none → waits = false → exec (.data p f) s = .next a) ∧
      (mine = none → waits = true → exec (.data p f) s = .next { a with link := { a.link with heldData := a.link.heldData ++ [f] } }) ∧
      (∀ t, mine = some t → exec (.data p f) s = .next (a.landTile t (le f.payload 8 4) (f.payload.drop 12)))) ∧
    (∀ b, s.DeliversPkt p f 3 → s.assembled f = some b → again = true → le (pktBody f) 0 1 < 4 →
      ∃ i, i ∈ [Instr.jobSignalLate p f, .jobSignalStopFiring p f, .jobSignalFifosFull p f, .jobSignalArm p f] ∧ exec i s = .next u) ∧
    (∀ b, s.DeliversPkt p f 3 → s.assembled f = some b → again = false → le (pktBody f) 0 1 = le b 0 1 →
      ∀ slot j, s.jobSlot (BitVec.ofNat 16 (le b 2 2)) = some slot → s.jobAt slot = some j →
        (le b 0 1 = 0 →
          (s.isMaster = false ∨ (j.state ≠ .running ∧ j.state ≠ .late) ∨ 8 ≤ j.feed → exec (.jobSignalLate p f) s = .next v) ∧
          (s.isMaster = true → j.state = .late → j.feed < 8 → exec (.jobSignalLate p f) s = .next
            (v.modJob slot (fun x => { x with ringDevs := setBit x.ringDevs (frameOrigin f) true }))) ∧
          (s.isMaster = true → j.state = .running → j.feed < 8 → exec (.jobSignalLate p f) s = .next
            ((v.lateStart slot (le b 4 4)).modJob slot (fun x => { x with ringDevs := setBit x.ringDevs (frameOrigin f) true })))) ∧
        (le b 0 1 = 1 →
          (s.isMaster = true ∨ j.state ≠ .running ∨ s.ringForm j = false → exec (.jobSignalStopFiring p f) s = .next v) ∧
          (s.isMaster = false → j.state = .running → s.ringForm j = true → exec (.jobSignalStopFiring p f) s = .next (v.enterLate slot (le b 4 4)))) ∧
        (le b 0 1 = 2 →
          (s.isMaster = false → exec (.jobSignalFifosFull p f) s = .next v) ∧
          (s.isMaster = true → exec (.jobSignalFifosFull p f) s = .next
            (v.modJob slot (fun x => { x with fullFrom := setBit x.fullFrom (frameOrigin f) true })))) ∧
        (le b 0 1 = 3 →
          (s.isMaster = true ∨ j.state ≠ .late → exec (.jobSignalArm p f) s = .next v) ∧
          (s.isMaster = false → j.state = .late → exec (.jobSignalArm p f) s = .next
            ((v.modJob slot (fun x => { x with resumePending := some ((s.clock - j.waitFrom) / 400, 0) })).armJob slot false)))) ∧
    (∀ (c : Packet) (q : Side), s.packetCheck c .ring = none → s.link.id.isSome = true → s.portUp q = true → (s.wport q).unacked.length < 64 → s.shot 113 = false →
      (packetBytes c).length ≤ 248 → (c.opcode = 0x0310 → s.host.bme = true) →
      let t := s.handlePacket c .ring
      let frame (hops : Nat) : Frame := { typ := tPKT, dest := c.target, seq := (s.wport q).txSeq
                                          payload := routeWord s.deviceId hops ++ ([0, 0x80] ++ toLe 2 s.link.pktId.toNat ++ packetBytes c) }
      (∀ h, c.target ≠ 0xFF → c.target.toNat ≠ s.deviceId → s.routeTo c.target.toNat = some (q, h) →
        (t.wport q).unacked = (s.wport q).unacked ++ [frame h] ∧ t.wport (other q) = s.wport (other q) ∧ t.link.pktId = s.link.pktId + 1 ∧
        t.link.relayed = s.link.relayed ++ [{ pktId := s.link.pktId, pkt := c, src := .ring, seq := s.pe.seq, since := s.clock }] ∧
        (c.opcode ≠ 0x0310 → t = { s with pe := { s.pe with seq := s.pe.seq + 1 }, link := t.link }) ∧
        (c.opcode = 0x0310 → le c.params 3 1 = 0 → 4 ≤ le c.params 24 2 → 0 < le c.params 26 2 → ∃ x : Tile, t.tiles = s.tiles ++ [x] ∧
          x.source = 3 ∧ x.seq = s.pe.seq ∧ x.addr = le c.params 4 8 ∧ x.width = le c.params 24 2 ∧ x.height = le c.params 26 2 ∧ x.done = false)) ∧
      (c.target = 0xFF → c.hardware = false → s.pe.stalled = false → s.pe.romFail = false → s.pe.queue.length < 64 → s.broadcastHops q ≠ 0 →
        (t.wport q).unacked = (s.wport q).unacked ++ [frame (s.broadcastHops q)] ∧ t.link.relayed = s.link.relayed ∧ t.link.pktId = s.link.pktId + 1 ∧
        t.pe.queue = s.pe.queue ++ [{ pkt := c, src := .ring, seq := s.pe.seq }]))

/-! ### The whole machine -/

/-- Every step completes and keeps the invariant, whatever command is at the front of the queue (02 R63, R81, 13 R421). -/
def Obligations.StepKeepsInvariant : Prop :=
  ∀ s : State, s.Inv → ∃ t, step s = .next t ∧ t.Inv

/-- The machine right after reset has the invariant. -/
def Obligations.ResetHasInvariant : Prop := State.reset.Inv
end

