-- ==== Sys2Proof/Laws/Mem.lean ====
section
/-! SUPPORT. Sparse maps and byte memories: the canonical form is kept, a read after a write gives what was written, other places stay. -/
namespace Sys2Proof.Machine
variable {α : Type} [DecidableEq α] (d : α)

/-- A lower bound of the keys may be lowered. -/
theorem swfFrom_weaken (m : List (Nat × α)) (x y : Nat) (h : swfFrom d (some y) m = true) (hxy : x ≤ y) : swfFrom d (some x) m = true := by
  cases m with
  | nil => rfl
  | cons p r =>
    obtain ⟨k, v⟩ := p
    simp only [swfFrom, Bool.and_eq_true, decide_eq_true_eq] at h ⊢
    exact ⟨⟨by omega, h.1.2⟩, h.2⟩

/-- No bound is the weakest one. -/
theorem swfFrom_none (m : List (Nat × α)) (x : Nat) (h : swfFrom d (some x) m = true) : swfFrom d none m = true := by
  cases m with
  | nil => rfl
  | cons p r =>
    obtain ⟨k, v⟩ := p
    simp only [swfFrom, Bool.and_eq_true, decide_eq_true_eq] at h ⊢
    exact ⟨⟨trivial, h.1.2⟩, h.2⟩

/-- Below its first key a map reads the default. -/
theorem sget_below (m : List (Nat × α)) (x a : Nat) (h : swfFrom d (some x) m = true) (ha : a ≤ x) : sget d m a = d := by
  cases m with
  | nil => rfl
  | cons p r =>
    obtain ⟨k, v⟩ := p
    simp only [swfFrom, Bool.and_eq_true, decide_eq_true_eq] at h
    have : a < k := by omega
    simp [sget, Nat.ne_of_lt this, this]

/-- A write above a bound keeps the canonical form above that bound. -/
theorem swfFrom_sput (m : List (Nat × α)) (b : Option Nat) (a : Nat) (v : α) (h : swfFrom d b m = true)
    (hb : ∀ x, b = some x → x < a) : swfFrom d b (sput d m a v) = true := by
  induction m generalizing b with
  | nil =>
    unfold sput
    split
    · exact h
    · rename_i hv
      cases b with
      | none => simp [swfFrom, hv]
      | some x => simp [swfFrom, hv, hb x rfl]
  | cons p r ih =>
    obtain ⟨k, w⟩ := p
    simp only [swfFrom, Bool.and_eq_true, decide_eq_true_eq] at h
    unfold sput
    split
    · rename_i hk
      subst hk
      split
      · cases b with
        | none => exact swfFrom_none d r a h.2
        | some x => exact swfFrom_weaken d r x a h.2 (Nat.le_of_lt (hb x rfl))
      · rename_i hv
        simp only [swfFrom, Bool.and_eq_true, decide_eq_true_eq]
        exact ⟨⟨h.1.1, hv⟩, h.2⟩
    · split
      · rename_i hne hlt
        split
        · simp only [swfFrom, Bool.and_eq_true, decide_eq_true_eq]
          exact h
        · rename_i hv
          simp only [swfFrom, Bool.and_eq_true, decide_eq_true_eq]
          refine ⟨⟨?_, hv⟩, ⟨hlt, h.1.2⟩, h.2⟩
          cases b with
          | none => rfl
          | some x => simpa using hb x rfl
      · rename_i hne hlt
        simp only [swfFrom, Bool.and_eq_true, decide_eq_true_eq]
        refine ⟨h.1, ih (some k) h.2 ?_⟩
        intro x hx
        cases hx
        omega

/-- A write keeps the canonical form. -/
theorem swf_sput (m : List (Nat × α)) (a : Nat) (v : α) (h : swf d m = true) : swf d (sput d m a v) = true :=
  swfFrom_sput d m none a v h (by simp)

/-- A read after a write at the same key, above a bound. -/
theorem sget_sput_from (m : List (Nat × α)) (b : Option Nat) (a : Nat) (v : α) (h : swfFrom d b m = true) : sget d (sput d m a v) a = v := by
  induction m generalizing b with
  | nil =>
    unfold sput
    split <;> simp_all [sget]
  | cons p r ih =>
    obtain ⟨k, w⟩ := p
    simp only [swfFrom, Bool.and_eq_true, decide_eq_true_eq] at h
    unfold sput
    split
    · rename_i hk
      subst hk
      split
      · rename_i hv
        rw [hv]
        exact sget_below d r a a h.2 (Nat.le_refl a)
      · simp [sget]
    · rename_i hne
      split
      · rename_i hlt
        split
        · rename_i hv
          simp [sget, hne, hlt, hv]
        · simp [sget]
      · rename_i hlt
        simp only [sget, if_neg hne, if_neg hlt]
        exact ih (some k) h.2

/-- A read after a write at the same key. -/
@[simp] theorem sget_sput_self (m : List (Nat × α)) (a : Nat) (v : α) (h : swf d m = true) : sget d (sput d m a v) a = v :=
  sget_sput_from d m none a v h

/-- A write leaves every other key alone, above a bound. -/
theorem sget_sput_ne_from (m : List (Nat × α)) (b : Option Nat) (a c : Nat) (v : α) (h : swfFrom d b m = true) (hc : c ≠ a) :
    sget d (sput d m a v) c = sget d m c := by
  induction m generalizing b with
  | nil =>
    unfold sput
    split
    · rfl
    · simp [sget, hc]
  | cons p r ih =>
    obtain ⟨k, w⟩ := p
    simp only [swfFrom, Bool.and_eq_true, decide_eq_true_eq] at h
    unfold sput
    split
    · rename_i hk
      subst hk
      split
      · simp only [sget, if_neg hc]
        split
        · rename_i hlt
          exact sget_below d r a c h.2 (Nat.le_of_lt hlt)
        · rfl
      · simp [sget, hc]
    · rename_i hne
      split
      · rename_i hlt
        split
        · rfl
        · simp only [sget, if_neg hc]
          split
          · rename_i hca
            have : c < k := by omega
            simp [Nat.ne_of_lt this, this]
          · rfl
      · simp only [sget]
        rw [ih (some k) h.2]

/-- A write leaves every other key alone. -/
@[simp] theorem sget_sput_ne (m : List (Nat × α)) (a c : Nat) (v : α) (h : swf d m = true) (hc : c ≠ a) : sget d (sput d m a v) c = sget d m c :=
  sget_sput_ne_from d m none a c v h hc

/-! ### Byte memories -/

/-- Every write of bytes keeps the canonical form. -/
theorem mwrite_wf (m : List Host.Cell) (a : Nat) (b : Bytes) (h : Mem.wf m = true) : Mem.wf (mwrite m a b) = true := by
  induction b generalizing m a with
  | nil => exact h
  | cons x r ih => exact ih _ _ (swf_sput 0 m a x h)

/-- A byte outside the bytes written reads as before. -/
theorem mget_mwrite_outside (m : List Host.Cell) (a : Nat) (b : Bytes) (c : Nat) (h : Mem.wf m = true) (hc : c < a ∨ a + b.length ≤ c) :
    mget (mwrite m a b) c = mget m c := by
  induction b generalizing m a with
  | nil => rfl
  | cons x r ih =>
    have hl : (x :: r).length = r.length + 1 := rfl
    rw [mwrite, ih _ _ (swf_sput 0 m a x h) (by omega)]
    exact sget_sput_ne 0 m a c x h (by omega)

/-- A byte written reads as it was written. -/
theorem mget_mwrite (m : List Host.Cell) (a : Nat) (b : Bytes) (i : Nat) (h : Mem.wf m = true) (hi : i < b.length) :
    mget (mwrite m a b) (a + i) = b.getD i 0 := by
  induction b generalizing m a i with
  | nil => simp at hi
  | cons x r ih =>
    cases i with
    | zero =>
      rw [mwrite, mget_mwrite_outside _ _ _ _ (swf_sput 0 m a x h) (by omega)]
      exact sget_sput_self 0 m a x h
    | succ j =>
      have := ih (sput 0 m a x) (a + 1) j (swf_sput 0 m a x h) (by simpa using hi)
      rw [mwrite, show a + (j + 1) = a + 1 + j by omega]
      simpa using this

/-- The empty memory has the canonical form. -/
theorem mem_wf_nil : Mem.wf [] = true := rfl

end Sys2Proof.Machine
end

