-- ==== Sys2Proof/Laws/State.lean ====
section
/-! SUPPORT. What each update of State leaves as it was, field by field, and what the accessors read after it. -/
namespace Sys2Proof.Machine
variable (s : State)

/-! ### modChan -/
@[simp] theorem State.modChan_pending (n : Nat) (f : Chan → Chan) : (s.modChan n f).pending = s.pending := rfl
@[simp] theorem State.modChan_clock (n : Nat) (f : Chan → Chan) : (s.modChan n f).clock = s.clock := rfl
@[simp] theorem State.modChan_fresh (n : Nat) (f : Chan → Chan) : (s.modChan n f).fresh = s.fresh := rfl
@[simp] theorem State.modChan_timebase (n : Nat) (f : Chan → Chan) : (s.modChan n f).timebase = s.timebase := rfl
@[simp] theorem State.modChan_pwr (n : Nat) (f : Chan → Chan) : (s.modChan n f).pwr = s.pwr := rfl
@[simp] theorem State.modChan_pe (n : Nat) (f : Chan → Chan) : (s.modChan n f).pe = s.pe := rfl
@[simp] theorem State.modChan_host (n : Nat) (f : Chan → Chan) : (s.modChan n f).host = s.host := rfl
@[simp] theorem State.modChan_mirror (n : Nat) (f : Chan → Chan) : (s.modChan n f).mirror = s.mirror := rfl
@[simp] theorem State.modChan_tc (n : Nat) (f : Chan → Chan) : (s.modChan n f).tc = s.tc := rfl
@[simp] theorem State.modChan_inj (n : Nat) (f : Chan → Chan) : (s.modChan n f).inj = s.inj := rfl
@[simp] theorem State.modChan_fab (n : Nat) (f : Chan → Chan) : (s.modChan n f).fab = s.fab := rfl
@[simp] theorem State.modChan_ilk (n : Nat) (f : Chan → Chan) : (s.modChan n f).ilk = s.ilk := rfl
@[simp] theorem State.modChan_enc (n : Nat) (f : Chan → Chan) : (s.modChan n f).enc = s.enc := rfl
@[simp] theorem State.modChan_axes (n : Nat) (f : Chan → Chan) : (s.modChan n f).axes = s.axes := rfl
@[simp] theorem State.modChan_attach (n : Nat) (f : Chan → Chan) : (s.modChan n f).attach = s.attach := rfl
@[simp] theorem State.modChan_jobs (n : Nat) (f : Chan → Chan) : (s.modChan n f).jobs = s.jobs := rfl
@[simp] theorem State.modChan_tiles (n : Nat) (f : Chan → Chan) : (s.modChan n f).tiles = s.tiles := rfl
@[simp] theorem State.modChan_health (n : Nat) (f : Chan → Chan) : (s.modChan n f).health = s.health := rfl
@[simp] theorem State.modChan_cam (n : Nat) (f : Chan → Chan) : (s.modChan n f).cam = s.cam := rfl
@[simp] theorem State.modChan_therm (n : Nat) (f : Chan → Chan) : (s.modChan n f).therm = s.therm := rfl
@[simp] theorem State.modChan_mem (n : Nat) (f : Chan → Chan) : (s.modChan n f).mem = s.mem := rfl
@[simp] theorem State.modChan_otp (n : Nat) (f : Chan → Chan) : (s.modChan n f).otp = s.otp := rfl
@[simp] theorem State.modChan_link (n : Nat) (f : Chan → Chan) : (s.modChan n f).link = s.link := rfl

/-! ### modAxis -/
@[simp] theorem State.modAxis_pending (n : Nat) (f : Axis → Axis) : (s.modAxis n f).pending = s.pending := rfl
@[simp] theorem State.modAxis_clock (n : Nat) (f : Axis → Axis) : (s.modAxis n f).clock = s.clock := rfl
@[simp] theorem State.modAxis_fresh (n : Nat) (f : Axis → Axis) : (s.modAxis n f).fresh = s.fresh := rfl
@[simp] theorem State.modAxis_timebase (n : Nat) (f : Axis → Axis) : (s.modAxis n f).timebase = s.timebase := rfl
@[simp] theorem State.modAxis_pwr (n : Nat) (f : Axis → Axis) : (s.modAxis n f).pwr = s.pwr := rfl
@[simp] theorem State.modAxis_pe (n : Nat) (f : Axis → Axis) : (s.modAxis n f).pe = s.pe := rfl
@[simp] theorem State.modAxis_host (n : Nat) (f : Axis → Axis) : (s.modAxis n f).host = s.host := rfl
@[simp] theorem State.modAxis_mirror (n : Nat) (f : Axis → Axis) : (s.modAxis n f).mirror = s.mirror := rfl
@[simp] theorem State.modAxis_tc (n : Nat) (f : Axis → Axis) : (s.modAxis n f).tc = s.tc := rfl
@[simp] theorem State.modAxis_inj (n : Nat) (f : Axis → Axis) : (s.modAxis n f).inj = s.inj := rfl
@[simp] theorem State.modAxis_fab (n : Nat) (f : Axis → Axis) : (s.modAxis n f).fab = s.fab := rfl
@[simp] theorem State.modAxis_ilk (n : Nat) (f : Axis → Axis) : (s.modAxis n f).ilk = s.ilk := rfl
@[simp] theorem State.modAxis_enc (n : Nat) (f : Axis → Axis) : (s.modAxis n f).enc = s.enc := rfl
@[simp] theorem State.modAxis_chans (n : Nat) (f : Axis → Axis) : (s.modAxis n f).chans = s.chans := rfl
@[simp] theorem State.modAxis_attach (n : Nat) (f : Axis → Axis) : (s.modAxis n f).attach = s.attach := rfl
@[simp] theorem State.modAxis_jobs (n : Nat) (f : Axis → Axis) : (s.modAxis n f).jobs = s.jobs := rfl
@[simp] theorem State.modAxis_tiles (n : Nat) (f : Axis → Axis) : (s.modAxis n f).tiles = s.tiles := rfl
@[simp] theorem State.modAxis_health (n : Nat) (f : Axis → Axis) : (s.modAxis n f).health = s.health := rfl
@[simp] theorem State.modAxis_cam (n : Nat) (f : Axis → Axis) : (s.modAxis n f).cam = s.cam := rfl
@[simp] theorem State.modAxis_therm (n : Nat) (f : Axis → Axis) : (s.modAxis n f).therm = s.therm := rfl
@[simp] theorem State.modAxis_mem (n : Nat) (f : Axis → Axis) : (s.modAxis n f).mem = s.mem := rfl
@[simp] theorem State.modAxis_otp (n : Nat) (f : Axis → Axis) : (s.modAxis n f).otp = s.otp := rfl
@[simp] theorem State.modAxis_link (n : Nat) (f : Axis → Axis) : (s.modAxis n f).link = s.link := rfl

/-! ### modEncoder -/
@[simp] theorem State.modEncoder_pending (n : Nat) (f : Encoder → Encoder) : (s.modEncoder n f).pending = s.pending := rfl
@[simp] theorem State.modEncoder_clock (n : Nat) (f : Encoder → Encoder) : (s.modEncoder n f).clock = s.clock := rfl
@[simp] theorem State.modEncoder_fresh (n : Nat) (f : Encoder → Encoder) : (s.modEncoder n f).fresh = s.fresh := rfl
@[simp] theorem State.modEncoder_timebase (n : Nat) (f : Encoder → Encoder) : (s.modEncoder n f).timebase = s.timebase := rfl
@[simp] theorem State.modEncoder_pwr (n : Nat) (f : Encoder → Encoder) : (s.modEncoder n f).pwr = s.pwr := rfl
@[simp] theorem State.modEncoder_pe (n : Nat) (f : Encoder → Encoder) : (s.modEncoder n f).pe = s.pe := rfl
@[simp] theorem State.modEncoder_host (n : Nat) (f : Encoder → Encoder) : (s.modEncoder n f).host = s.host := rfl
@[simp] theorem State.modEncoder_mirror (n : Nat) (f : Encoder → Encoder) : (s.modEncoder n f).mirror = s.mirror := rfl
@[simp] theorem State.modEncoder_tc (n : Nat) (f : Encoder → Encoder) : (s.modEncoder n f).tc = s.tc := rfl
@[simp] theorem State.modEncoder_inj (n : Nat) (f : Encoder → Encoder) : (s.modEncoder n f).inj = s.inj := rfl
@[simp] theorem State.modEncoder_fab (n : Nat) (f : Encoder → Encoder) : (s.modEncoder n f).fab = s.fab := rfl
@[simp] theorem State.modEncoder_ilk (n : Nat) (f : Encoder → Encoder) : (s.modEncoder n f).ilk = s.ilk := rfl
@[simp] theorem State.modEncoder_axes (n : Nat) (f : Encoder → Encoder) : (s.modEncoder n f).axes = s.axes := rfl
@[simp] theorem State.modEncoder_chans (n : Nat) (f : Encoder → Encoder) : (s.modEncoder n f).chans = s.chans := rfl
@[simp] theorem State.modEncoder_attach (n : Nat) (f : Encoder → Encoder) : (s.modEncoder n f).attach = s.attach := rfl
@[simp] theorem State.modEncoder_jobs (n : Nat) (f : Encoder → Encoder) : (s.modEncoder n f).jobs = s.jobs := rfl
@[simp] theorem State.modEncoder_tiles (n : Nat) (f : Encoder → Encoder) : (s.modEncoder n f).tiles = s.tiles := rfl
@[simp] theorem State.modEncoder_health (n : Nat) (f : Encoder → Encoder) : (s.modEncoder n f).health = s.health := rfl
@[simp] theorem State.modEncoder_cam (n : Nat) (f : Encoder → Encoder) : (s.modEncoder n f).cam = s.cam := rfl
@[simp] theorem State.modEncoder_therm (n : Nat) (f : Encoder → Encoder) : (s.modEncoder n f).therm = s.therm := rfl
@[simp] theorem State.modEncoder_mem (n : Nat) (f : Encoder → Encoder) : (s.modEncoder n f).mem = s.mem := rfl
@[simp] theorem State.modEncoder_otp (n : Nat) (f : Encoder → Encoder) : (s.modEncoder n f).otp = s.otp := rfl
@[simp] theorem State.modEncoder_link (n : Nat) (f : Encoder → Encoder) : (s.modEncoder n f).link = s.link := rfl

/-! ### modJob -/
@[simp] theorem State.modJob_pending (n : Nat) (f : Job → Job) : (s.modJob n f).pending = s.pending := rfl
@[simp] theorem State.modJob_clock (n : Nat) (f : Job → Job) : (s.modJob n f).clock = s.clock := rfl
@[simp] theorem State.modJob_fresh (n : Nat) (f : Job → Job) : (s.modJob n f).fresh = s.fresh := rfl
@[simp] theorem State.modJob_timebase (n : Nat) (f : Job → Job) : (s.modJob n f).timebase = s.timebase := rfl
@[simp] theorem State.modJob_pwr (n : Nat) (f : Job → Job) : (s.modJob n f).pwr = s.pwr := rfl
@[simp] theorem State.modJob_pe (n : Nat) (f : Job → Job) : (s.modJob n f).pe = s.pe := rfl
@[simp] theorem State.modJob_host (n : Nat) (f : Job → Job) : (s.modJob n f).host = s.host := rfl
@[simp] theorem State.modJob_mirror (n : Nat) (f : Job → Job) : (s.modJob n f).mirror = s.mirror := rfl
@[simp] theorem State.modJob_tc (n : Nat) (f : Job → Job) : (s.modJob n f).tc = s.tc := rfl
@[simp] theorem State.modJob_inj (n : Nat) (f : Job → Job) : (s.modJob n f).inj = s.inj := rfl
@[simp] theorem State.modJob_fab (n : Nat) (f : Job → Job) : (s.modJob n f).fab = s.fab := rfl
@[simp] theorem State.modJob_ilk (n : Nat) (f : Job → Job) : (s.modJob n f).ilk = s.ilk := rfl
@[simp] theorem State.modJob_enc (n : Nat) (f : Job → Job) : (s.modJob n f).enc = s.enc := rfl
@[simp] theorem State.modJob_axes (n : Nat) (f : Job → Job) : (s.modJob n f).axes = s.axes := rfl
@[simp] theorem State.modJob_chans (n : Nat) (f : Job → Job) : (s.modJob n f).chans = s.chans := rfl
@[simp] theorem State.modJob_attach (n : Nat) (f : Job → Job) : (s.modJob n f).attach = s.attach := rfl
@[simp] theorem State.modJob_tiles (n : Nat) (f : Job → Job) : (s.modJob n f).tiles = s.tiles := rfl
@[simp] theorem State.modJob_health (n : Nat) (f : Job → Job) : (s.modJob n f).health = s.health := rfl
@[simp] theorem State.modJob_cam (n : Nat) (f : Job → Job) : (s.modJob n f).cam = s.cam := rfl
@[simp] theorem State.modJob_therm (n : Nat) (f : Job → Job) : (s.modJob n f).therm = s.therm := rfl
@[simp] theorem State.modJob_mem (n : Nat) (f : Job → Job) : (s.modJob n f).mem = s.mem := rfl
@[simp] theorem State.modJob_otp (n : Nat) (f : Job → Job) : (s.modJob n f).otp = s.otp := rfl
@[simp] theorem State.modJob_link (n : Nat) (f : Job → Job) : (s.modJob n f).link = s.link := rfl

/-! ### modPort -/
@[simp] theorem State.modPort_pending (n : Nat) (f : CamPort → CamPort) : (s.modPort n f).pending = s.pending := rfl
@[simp] theorem State.modPort_clock (n : Nat) (f : CamPort → CamPort) : (s.modPort n f).clock = s.clock := rfl
@[simp] theorem State.modPort_fresh (n : Nat) (f : CamPort → CamPort) : (s.modPort n f).fresh = s.fresh := rfl
@[simp] theorem State.modPort_timebase (n : Nat) (f : CamPort → CamPort) : (s.modPort n f).timebase = s.timebase := rfl
@[simp] theorem State.modPort_pwr (n : Nat) (f : CamPort → CamPort) : (s.modPort n f).pwr = s.pwr := rfl
@[simp] theorem State.modPort_pe (n : Nat) (f : CamPort → CamPort) : (s.modPort n f).pe = s.pe := rfl
@[simp] theorem State.modPort_host (n : Nat) (f : CamPort → CamPort) : (s.modPort n f).host = s.host := rfl
@[simp] theorem State.modPort_mirror (n : Nat) (f : CamPort → CamPort) : (s.modPort n f).mirror = s.mirror := rfl
@[simp] theorem State.modPort_tc (n : Nat) (f : CamPort → CamPort) : (s.modPort n f).tc = s.tc := rfl
@[simp] theorem State.modPort_inj (n : Nat) (f : CamPort → CamPort) : (s.modPort n f).inj = s.inj := rfl
@[simp] theorem State.modPort_fab (n : Nat) (f : CamPort → CamPort) : (s.modPort n f).fab = s.fab := rfl
@[simp] theorem State.modPort_ilk (n : Nat) (f : CamPort → CamPort) : (s.modPort n f).ilk = s.ilk := rfl
@[simp] theorem State.modPort_enc (n : Nat) (f : CamPort → CamPort) : (s.modPort n f).enc = s.enc := rfl
@[simp] theorem State.modPort_axes (n : Nat) (f : CamPort → CamPort) : (s.modPort n f).axes = s.axes := rfl
@[simp] theorem State.modPort_chans (n : Nat) (f : CamPort → CamPort) : (s.modPort n f).chans = s.chans := rfl
@[simp] theorem State.modPort_attach (n : Nat) (f : CamPort → CamPort) : (s.modPort n f).attach = s.attach := rfl
@[simp] theorem State.modPort_jobs (n : Nat) (f : CamPort → CamPort) : (s.modPort n f).jobs = s.jobs := rfl
@[simp] theorem State.modPort_tiles (n : Nat) (f : CamPort → CamPort) : (s.modPort n f).tiles = s.tiles := rfl
@[simp] theorem State.modPort_health (n : Nat) (f : CamPort → CamPort) : (s.modPort n f).health = s.health := rfl
@[simp] theorem State.modPort_therm (n : Nat) (f : CamPort → CamPort) : (s.modPort n f).therm = s.therm := rfl
@[simp] theorem State.modPort_mem (n : Nat) (f : CamPort → CamPort) : (s.modPort n f).mem = s.mem := rfl
@[simp] theorem State.modPort_otp (n : Nat) (f : CamPort → CamPort) : (s.modPort n f).otp = s.otp := rfl
@[simp] theorem State.modPort_link (n : Nat) (f : CamPort → CamPort) : (s.modPort n f).link = s.link := rfl

/-! ### modDma -/
@[simp] theorem State.modDma_pending (n : Nat) (f : Dma → Dma) : (s.modDma n f).pending = s.pending := rfl
@[simp] theorem State.modDma_clock (n : Nat) (f : Dma → Dma) : (s.modDma n f).clock = s.clock := rfl
@[simp] theorem State.modDma_fresh (n : Nat) (f : Dma → Dma) : (s.modDma n f).fresh = s.fresh := rfl
@[simp] theorem State.modDma_timebase (n : Nat) (f : Dma → Dma) : (s.modDma n f).timebase = s.timebase := rfl
@[simp] theorem State.modDma_pwr (n : Nat) (f : Dma → Dma) : (s.modDma n f).pwr = s.pwr := rfl
@[simp] theorem State.modDma_pe (n : Nat) (f : Dma → Dma) : (s.modDma n f).pe = s.pe := rfl
@[simp] theorem State.modDma_host (n : Nat) (f : Dma → Dma) : (s.modDma n f).host = s.host := rfl
@[simp] theorem State.modDma_mirror (n : Nat) (f : Dma → Dma) : (s.modDma n f).mirror = s.mirror := rfl
@[simp] theorem State.modDma_tc (n : Nat) (f : Dma → Dma) : (s.modDma n f).tc = s.tc := rfl
@[simp] theorem State.modDma_inj (n : Nat) (f : Dma → Dma) : (s.modDma n f).inj = s.inj := rfl
@[simp] theorem State.modDma_fab (n : Nat) (f : Dma → Dma) : (s.modDma n f).fab = s.fab := rfl
@[simp] theorem State.modDma_ilk (n : Nat) (f : Dma → Dma) : (s.modDma n f).ilk = s.ilk := rfl
@[simp] theorem State.modDma_enc (n : Nat) (f : Dma → Dma) : (s.modDma n f).enc = s.enc := rfl
@[simp] theorem State.modDma_axes (n : Nat) (f : Dma → Dma) : (s.modDma n f).axes = s.axes := rfl
@[simp] theorem State.modDma_chans (n : Nat) (f : Dma → Dma) : (s.modDma n f).chans = s.chans := rfl
@[simp] theorem State.modDma_attach (n : Nat) (f : Dma → Dma) : (s.modDma n f).attach = s.attach := rfl
@[simp] theorem State.modDma_jobs (n : Nat) (f : Dma → Dma) : (s.modDma n f).jobs = s.jobs := rfl
@[simp] theorem State.modDma_tiles (n : Nat) (f : Dma → Dma) : (s.modDma n f).tiles = s.tiles := rfl
@[simp] theorem State.modDma_health (n : Nat) (f : Dma → Dma) : (s.modDma n f).health = s.health := rfl
@[simp] theorem State.modDma_cam (n : Nat) (f : Dma → Dma) : (s.modDma n f).cam = s.cam := rfl
@[simp] theorem State.modDma_therm (n : Nat) (f : Dma → Dma) : (s.modDma n f).therm = s.therm := rfl
@[simp] theorem State.modDma_otp (n : Nat) (f : Dma → Dma) : (s.modDma n f).otp = s.otp := rfl
@[simp] theorem State.modDma_link (n : Nat) (f : Dma → Dma) : (s.modDma n f).link = s.link := rfl

/-! ### modBank -/
@[simp] theorem State.modBank_pending (n : Nat) (f : Bank → Bank) : (s.modBank n f).pending = s.pending := rfl
@[simp] theorem State.modBank_clock (n : Nat) (f : Bank → Bank) : (s.modBank n f).clock = s.clock := rfl
@[simp] theorem State.modBank_fresh (n : Nat) (f : Bank → Bank) : (s.modBank n f).fresh = s.fresh := rfl
@[simp] theorem State.modBank_timebase (n : Nat) (f : Bank → Bank) : (s.modBank n f).timebase = s.timebase := rfl
@[simp] theorem State.modBank_pwr (n : Nat) (f : Bank → Bank) : (s.modBank n f).pwr = s.pwr := rfl
@[simp] theorem State.modBank_pe (n : Nat) (f : Bank → Bank) : (s.modBank n f).pe = s.pe := rfl
@[simp] theorem State.modBank_host (n : Nat) (f : Bank → Bank) : (s.modBank n f).host = s.host := rfl
@[simp] theorem State.modBank_mirror (n : Nat) (f : Bank → Bank) : (s.modBank n f).mirror = s.mirror := rfl
@[simp] theorem State.modBank_tc (n : Nat) (f : Bank → Bank) : (s.modBank n f).tc = s.tc := rfl
@[simp] theorem State.modBank_inj (n : Nat) (f : Bank → Bank) : (s.modBank n f).inj = s.inj := rfl
@[simp] theorem State.modBank_fab (n : Nat) (f : Bank → Bank) : (s.modBank n f).fab = s.fab := rfl
@[simp] theorem State.modBank_ilk (n : Nat) (f : Bank → Bank) : (s.modBank n f).ilk = s.ilk := rfl
@[simp] theorem State.modBank_enc (n : Nat) (f : Bank → Bank) : (s.modBank n f).enc = s.enc := rfl
@[simp] theorem State.modBank_axes (n : Nat) (f : Bank → Bank) : (s.modBank n f).axes = s.axes := rfl
@[simp] theorem State.modBank_chans (n : Nat) (f : Bank → Bank) : (s.modBank n f).chans = s.chans := rfl
@[simp] theorem State.modBank_attach (n : Nat) (f : Bank → Bank) : (s.modBank n f).attach = s.attach := rfl
@[simp] theorem State.modBank_jobs (n : Nat) (f : Bank → Bank) : (s.modBank n f).jobs = s.jobs := rfl
@[simp] theorem State.modBank_tiles (n : Nat) (f : Bank → Bank) : (s.modBank n f).tiles = s.tiles := rfl
@[simp] theorem State.modBank_health (n : Nat) (f : Bank → Bank) : (s.modBank n f).health = s.health := rfl
@[simp] theorem State.modBank_cam (n : Nat) (f : Bank → Bank) : (s.modBank n f).cam = s.cam := rfl
@[simp] theorem State.modBank_therm (n : Nat) (f : Bank → Bank) : (s.modBank n f).therm = s.therm := rfl
@[simp] theorem State.modBank_otp (n : Nat) (f : Bank → Bank) : (s.modBank n f).otp = s.otp := rfl
@[simp] theorem State.modBank_link (n : Nat) (f : Bank → Bank) : (s.modBank n f).link = s.link := rfl

/-! ### modHead -/
@[simp] theorem State.modHead_pending (n : Nat) (f : SensorState → SensorState) : (s.modHead n f).pending = s.pending := rfl
@[simp] theorem State.modHead_clock (n : Nat) (f : SensorState → SensorState) : (s.modHead n f).clock = s.clock := rfl
@[simp] theorem State.modHead_fresh (n : Nat) (f : SensorState → SensorState) : (s.modHead n f).fresh = s.fresh := rfl
@[simp] theorem State.modHead_timebase (n : Nat) (f : SensorState → SensorState) : (s.modHead n f).timebase = s.timebase := rfl
@[simp] theorem State.modHead_pwr (n : Nat) (f : SensorState → SensorState) : (s.modHead n f).pwr = s.pwr := rfl
@[simp] theorem State.modHead_pe (n : Nat) (f : SensorState → SensorState) : (s.modHead n f).pe = s.pe := rfl
@[simp] theorem State.modHead_host (n : Nat) (f : SensorState → SensorState) : (s.modHead n f).host = s.host := rfl
@[simp] theorem State.modHead_mirror (n : Nat) (f : SensorState → SensorState) : (s.modHead n f).mirror = s.mirror := rfl
@[simp] theorem State.modHead_tc (n : Nat) (f : SensorState → SensorState) : (s.modHead n f).tc = s.tc := rfl
@[simp] theorem State.modHead_inj (n : Nat) (f : SensorState → SensorState) : (s.modHead n f).inj = s.inj := rfl
@[simp] theorem State.modHead_fab (n : Nat) (f : SensorState → SensorState) : (s.modHead n f).fab = s.fab := rfl
@[simp] theorem State.modHead_ilk (n : Nat) (f : SensorState → SensorState) : (s.modHead n f).ilk = s.ilk := rfl
@[simp] theorem State.modHead_enc (n : Nat) (f : SensorState → SensorState) : (s.modHead n f).enc = s.enc := rfl
@[simp] theorem State.modHead_axes (n : Nat) (f : SensorState → SensorState) : (s.modHead n f).axes = s.axes := rfl
@[simp] theorem State.modHead_chans (n : Nat) (f : SensorState → SensorState) : (s.modHead n f).chans = s.chans := rfl
@[simp] theorem State.modHead_attach (n : Nat) (f : SensorState → SensorState) : (s.modHead n f).attach = s.attach := rfl
@[simp] theorem State.modHead_jobs (n : Nat) (f : SensorState → SensorState) : (s.modHead n f).jobs = s.jobs := rfl
@[simp] theorem State.modHead_tiles (n : Nat) (f : SensorState → SensorState) : (s.modHead n f).tiles = s.tiles := rfl
@[simp] theorem State.modHead_health (n : Nat) (f : SensorState → SensorState) : (s.modHead n f).health = s.health := rfl
@[simp] theorem State.modHead_cam (n : Nat) (f : SensorState → SensorState) : (s.modHead n f).cam = s.cam := rfl
@[simp] theorem State.modHead_mem (n : Nat) (f : SensorState → SensorState) : (s.modHead n f).mem = s.mem := rfl
@[simp] theorem State.modHead_otp (n : Nat) (f : SensorState → SensorState) : (s.modHead n f).otp = s.otp := rfl
@[simp] theorem State.modHead_link (n : Nat) (f : SensorState → SensorState) : (s.modHead n f).link = s.link := rfl

/-! ### countN -/
@[simp] theorem State.countN_pending (k n : Nat) : (s.countN k n).pending = s.pending := rfl
@[simp] theorem State.countN_clock (k n : Nat) : (s.countN k n).clock = s.clock := rfl
@[simp] theorem State.countN_fresh (k n : Nat) : (s.countN k n).fresh = s.fresh := rfl
@[simp] theorem State.countN_timebase (k n : Nat) : (s.countN k n).timebase = s.timebase := rfl
@[simp] theorem State.countN_pwr (k n : Nat) : (s.countN k n).pwr = s.pwr := rfl
@[simp] theorem State.countN_pe (k n : Nat) : (s.countN k n).pe = s.pe := rfl
@[simp] theorem State.countN_host (k n : Nat) : (s.countN k n).host = s.host := rfl
@[simp] theorem State.countN_mirror (k n : Nat) : (s.countN k n).mirror = s.mirror := rfl
@[simp] theorem State.countN_inj (k n : Nat) : (s.countN k n).inj = s.inj := rfl
@[simp] theorem State.countN_fab (k n : Nat) : (s.countN k n).fab = s.fab := rfl
@[simp] theorem State.countN_ilk (k n : Nat) : (s.countN k n).ilk = s.ilk := rfl
@[simp] theorem State.countN_enc (k n : Nat) : (s.countN k n).enc = s.enc := rfl
@[simp] theorem State.countN_axes (k n : Nat) : (s.countN k n).axes = s.axes := rfl
@[simp] theorem State.countN_chans (k n : Nat) : (s.countN k n).chans = s.chans := rfl
@[simp] theorem State.countN_attach (k n : Nat) : (s.countN k n).attach = s.attach := rfl
@[simp] theorem State.countN_jobs (k n : Nat) : (s.countN k n).jobs = s.jobs := rfl
@[simp] theorem State.countN_tiles (k n : Nat) : (s.countN k n).tiles = s.tiles := rfl
@[simp] theorem State.countN_health (k n : Nat) : (s.countN k n).health = s.health := rfl
@[simp] theorem State.countN_cam (k n : Nat) : (s.countN k n).cam = s.cam := rfl
@[simp] theorem State.countN_therm (k n : Nat) : (s.countN k n).therm = s.therm := rfl
@[simp] theorem State.countN_mem (k n : Nat) : (s.countN k n).mem = s.mem := rfl
@[simp] theorem State.countN_otp (k n : Nat) : (s.countN k n).otp = s.otp := rfl
@[simp] theorem State.countN_link (k n : Nat) : (s.countN k n).link = s.link := rfl

/-! ### count -/
@[simp] theorem State.count_pending (k : Nat) : (s.count k).pending = s.pending := rfl
@[simp] theorem State.count_clock (k : Nat) : (s.count k).clock = s.clock := rfl
@[simp] theorem State.count_fresh (k : Nat) : (s.count k).fresh = s.fresh := rfl
@[simp] theorem State.count_timebase (k : Nat) : (s.count k).timebase = s.timebase := rfl
@[simp] theorem State.count_pwr (k : Nat) : (s.count k).pwr = s.pwr := rfl
@[simp] theorem State.count_pe (k : Nat) : (s.count k).pe = s.pe := rfl
@[simp] theorem State.count_host (k : Nat) : (s.count k).host = s.host := rfl
@[simp] theorem State.count_mirror (k : Nat) : (s.count k).mirror = s.mirror := rfl
@[simp] theorem State.count_inj (k : Nat) : (s.count k).inj = s.inj := rfl
@[simp] theorem State.count_fab (k : Nat) : (s.count k).fab = s.fab := rfl
@[simp] theorem State.count_ilk (k : Nat) : (s.count k).ilk = s.ilk := rfl
@[simp] theorem State.count_enc (k : Nat) : (s.count k).enc = s.enc := rfl
@[simp] theorem State.count_axes (k : Nat) : (s.count k).axes = s.axes := rfl
@[simp] theorem State.count_chans (k : Nat) : (s.count k).chans = s.chans := rfl
@[simp] theorem State.count_attach (k : Nat) : (s.count k).attach = s.attach := rfl
@[simp] theorem State.count_jobs (k : Nat) : (s.count k).jobs = s.jobs := rfl
@[simp] theorem State.count_tiles (k : Nat) : (s.count k).tiles = s.tiles := rfl
@[simp] theorem State.count_health (k : Nat) : (s.count k).health = s.health := rfl
@[simp] theorem State.count_cam (k : Nat) : (s.count k).cam = s.cam := rfl
@[simp] theorem State.count_therm (k : Nat) : (s.count k).therm = s.therm := rfl
@[simp] theorem State.count_mem (k : Nat) : (s.count k).mem = s.mem := rfl
@[simp] theorem State.count_otp (k : Nat) : (s.count k).otp = s.otp := rfl
@[simp] theorem State.count_link (k : Nat) : (s.count k).link = s.link := rfl

/-! ### shotTaken -/
@[simp] theorem State.shotTaken_pending : (s.shotTaken).pending = s.pending := rfl
@[simp] theorem State.shotTaken_clock : (s.shotTaken).clock = s.clock := rfl
@[simp] theorem State.shotTaken_fresh : (s.shotTaken).fresh = s.fresh := rfl
@[simp] theorem State.shotTaken_timebase : (s.shotTaken).timebase = s.timebase := rfl
@[simp] theorem State.shotTaken_pwr : (s.shotTaken).pwr = s.pwr := rfl
@[simp] theorem State.shotTaken_pe : (s.shotTaken).pe = s.pe := rfl
@[simp] theorem State.shotTaken_host : (s.shotTaken).host = s.host := rfl
@[simp] theorem State.shotTaken_mirror : (s.shotTaken).mirror = s.mirror := rfl
@[simp] theorem State.shotTaken_tc : (s.shotTaken).tc = s.tc := rfl
@[simp] theorem State.shotTaken_fab : (s.shotTaken).fab = s.fab := rfl
@[simp] theorem State.shotTaken_ilk : (s.shotTaken).ilk = s.ilk := rfl
@[simp] theorem State.shotTaken_enc : (s.shotTaken).enc = s.enc := rfl
@[simp] theorem State.shotTaken_axes : (s.shotTaken).axes = s.axes := rfl
@[simp] theorem State.shotTaken_chans : (s.shotTaken).chans = s.chans := rfl
@[simp] theorem State.shotTaken_attach : (s.shotTaken).attach = s.attach := rfl
@[simp] theorem State.shotTaken_jobs : (s.shotTaken).jobs = s.jobs := rfl
@[simp] theorem State.shotTaken_tiles : (s.shotTaken).tiles = s.tiles := rfl
@[simp] theorem State.shotTaken_health : (s.shotTaken).health = s.health := rfl
@[simp] theorem State.shotTaken_cam : (s.shotTaken).cam = s.cam := rfl
@[simp] theorem State.shotTaken_therm : (s.shotTaken).therm = s.therm := rfl
@[simp] theorem State.shotTaken_mem : (s.shotTaken).mem = s.mem := rfl
@[simp] theorem State.shotTaken_otp : (s.shotTaken).otp = s.otp := rfl
@[simp] theorem State.shotTaken_link : (s.shotTaken).link = s.link := rfl

/-! ### latchLine -/
@[simp] theorem State.latchLine_pending (l : BitVec 6) : (s.latchLine l).pending = s.pending := rfl
@[simp] theorem State.latchLine_clock (l : BitVec 6) : (s.latchLine l).clock = s.clock := rfl
@[simp] theorem State.latchLine_fresh (l : BitVec 6) : (s.latchLine l).fresh = s.fresh := rfl
@[simp] theorem State.latchLine_timebase (l : BitVec 6) : (s.latchLine l).timebase = s.timebase := rfl
@[simp] theorem State.latchLine_pwr (l : BitVec 6) : (s.latchLine l).pwr = s.pwr := rfl
@[simp] theorem State.latchLine_pe (l : BitVec 6) : (s.latchLine l).pe = s.pe := rfl
@[simp] theorem State.latchLine_host (l : BitVec 6) : (s.latchLine l).host = s.host := rfl
@[simp] theorem State.latchLine_mirror (l : BitVec 6) : (s.latchLine l).mirror = s.mirror := rfl
@[simp] theorem State.latchLine_tc (l : BitVec 6) : (s.latchLine l).tc = s.tc := rfl
@[simp] theorem State.latchLine_inj (l : BitVec 6) : (s.latchLine l).inj = s.inj := rfl
@[simp] theorem State.latchLine_ilk (l : BitVec 6) : (s.latchLine l).ilk = s.ilk := rfl
@[simp] theorem State.latchLine_enc (l : BitVec 6) : (s.latchLine l).enc = s.enc := rfl
@[simp] theorem State.latchLine_axes (l : BitVec 6) : (s.latchLine l).axes = s.axes := rfl
@[simp] theorem State.latchLine_chans (l : BitVec 6) : (s.latchLine l).chans = s.chans := rfl
@[simp] theorem State.latchLine_attach (l : BitVec 6) : (s.latchLine l).attach = s.attach := rfl
@[simp] theorem State.latchLine_jobs (l : BitVec 6) : (s.latchLine l).jobs = s.jobs := rfl
@[simp] theorem State.latchLine_tiles (l : BitVec 6) : (s.latchLine l).tiles = s.tiles := rfl
@[simp] theorem State.latchLine_health (l : BitVec 6) : (s.latchLine l).health = s.health := rfl
@[simp] theorem State.latchLine_cam (l : BitVec 6) : (s.latchLine l).cam = s.cam := rfl
@[simp] theorem State.latchLine_therm (l : BitVec 6) : (s.latchLine l).therm = s.therm := rfl
@[simp] theorem State.latchLine_mem (l : BitVec 6) : (s.latchLine l).mem = s.mem := rfl
@[simp] theorem State.latchLine_otp (l : BitVec 6) : (s.latchLine l).otp = s.otp := rfl
@[simp] theorem State.latchLine_link (l : BitVec 6) : (s.latchLine l).link = s.link := rfl

/-! ### storeWrite -/
@[simp] theorem State.storeWrite_pending (a : Nat) (b : Bytes) : (s.storeWrite a b).pending = s.pending := rfl
@[simp] theorem State.storeWrite_clock (a : Nat) (b : Bytes) : (s.storeWrite a b).clock = s.clock := rfl
@[simp] theorem State.storeWrite_fresh (a : Nat) (b : Bytes) : (s.storeWrite a b).fresh = s.fresh := rfl
@[simp] theorem State.storeWrite_timebase (a : Nat) (b : Bytes) : (s.storeWrite a b).timebase = s.timebase := rfl
@[simp] theorem State.storeWrite_pwr (a : Nat) (b : Bytes) : (s.storeWrite a b).pwr = s.pwr := rfl
@[simp] theorem State.storeWrite_pe (a : Nat) (b : Bytes) : (s.storeWrite a b).pe = s.pe := rfl
@[simp] theorem State.storeWrite_host (a : Nat) (b : Bytes) : (s.storeWrite a b).host = s.host := rfl
@[simp] theorem State.storeWrite_mirror (a : Nat) (b : Bytes) : (s.storeWrite a b).mirror = s.mirror := rfl
@[simp] theorem State.storeWrite_tc (a : Nat) (b : Bytes) : (s.storeWrite a b).tc = s.tc := rfl
@[simp] theorem State.storeWrite_inj (a : Nat) (b : Bytes) : (s.storeWrite a b).inj = s.inj := rfl
@[simp] theorem State.storeWrite_fab (a : Nat) (b : Bytes) : (s.storeWrite a b).fab = s.fab := rfl
@[simp] theorem State.storeWrite_ilk (a : Nat) (b : Bytes) : (s.storeWrite a b).ilk = s.ilk := rfl
@[simp] theorem State.storeWrite_enc (a : Nat) (b : Bytes) : (s.storeWrite a b).enc = s.enc := rfl
@[simp] theorem State.storeWrite_axes (a : Nat) (b : Bytes) : (s.storeWrite a b).axes = s.axes := rfl
@[simp] theorem State.storeWrite_chans (a : Nat) (b : Bytes) : (s.storeWrite a b).chans = s.chans := rfl
@[simp] theorem State.storeWrite_attach (a : Nat) (b : Bytes) : (s.storeWrite a b).attach = s.attach := rfl
@[simp] theorem State.storeWrite_jobs (a : Nat) (b : Bytes) : (s.storeWrite a b).jobs = s.jobs := rfl
@[simp] theorem State.storeWrite_tiles (a : Nat) (b : Bytes) : (s.storeWrite a b).tiles = s.tiles := rfl
@[simp] theorem State.storeWrite_health (a : Nat) (b : Bytes) : (s.storeWrite a b).health = s.health := rfl
@[simp] theorem State.storeWrite_cam (a : Nat) (b : Bytes) : (s.storeWrite a b).cam = s.cam := rfl
@[simp] theorem State.storeWrite_therm (a : Nat) (b : Bytes) : (s.storeWrite a b).therm = s.therm := rfl
@[simp] theorem State.storeWrite_otp (a : Nat) (b : Bytes) : (s.storeWrite a b).otp = s.otp := rfl
@[simp] theorem State.storeWrite_link (a : Nat) (b : Bytes) : (s.storeWrite a b).link = s.link := rfl

/-! ### hostWrite -/
@[simp] theorem State.hostWrite_pending (a : Nat) (b : Bytes) : (s.hostWrite a b).pending = s.pending := rfl
@[simp] theorem State.hostWrite_clock (a : Nat) (b : Bytes) : (s.hostWrite a b).clock = s.clock := rfl
@[simp] theorem State.hostWrite_fresh (a : Nat) (b : Bytes) : (s.hostWrite a b).fresh = s.fresh := rfl
@[simp] theorem State.hostWrite_timebase (a : Nat) (b : Bytes) : (s.hostWrite a b).timebase = s.timebase := rfl
@[simp] theorem State.hostWrite_pwr (a : Nat) (b : Bytes) : (s.hostWrite a b).pwr = s.pwr := rfl
@[simp] theorem State.hostWrite_pe (a : Nat) (b : Bytes) : (s.hostWrite a b).pe = s.pe := rfl
@[simp] theorem State.hostWrite_mirror (a : Nat) (b : Bytes) : (s.hostWrite a b).mirror = s.mirror := rfl
@[simp] theorem State.hostWrite_tc (a : Nat) (b : Bytes) : (s.hostWrite a b).tc = s.tc := rfl
@[simp] theorem State.hostWrite_inj (a : Nat) (b : Bytes) : (s.hostWrite a b).inj = s.inj := rfl
@[simp] theorem State.hostWrite_fab (a : Nat) (b : Bytes) : (s.hostWrite a b).fab = s.fab := rfl
@[simp] theorem State.hostWrite_ilk (a : Nat) (b : Bytes) : (s.hostWrite a b).ilk = s.ilk := rfl
@[simp] theorem State.hostWrite_enc (a : Nat) (b : Bytes) : (s.hostWrite a b).enc = s.enc := rfl
@[simp] theorem State.hostWrite_axes (a : Nat) (b : Bytes) : (s.hostWrite a b).axes = s.axes := rfl
@[simp] theorem State.hostWrite_chans (a : Nat) (b : Bytes) : (s.hostWrite a b).chans = s.chans := rfl
@[simp] theorem State.hostWrite_attach (a : Nat) (b : Bytes) : (s.hostWrite a b).attach = s.attach := rfl
@[simp] theorem State.hostWrite_jobs (a : Nat) (b : Bytes) : (s.hostWrite a b).jobs = s.jobs := rfl
@[simp] theorem State.hostWrite_tiles (a : Nat) (b : Bytes) : (s.hostWrite a b).tiles = s.tiles := rfl
@[simp] theorem State.hostWrite_health (a : Nat) (b : Bytes) : (s.hostWrite a b).health = s.health := rfl
@[simp] theorem State.hostWrite_cam (a : Nat) (b : Bytes) : (s.hostWrite a b).cam = s.cam := rfl
@[simp] theorem State.hostWrite_therm (a : Nat) (b : Bytes) : (s.hostWrite a b).therm = s.therm := rfl
@[simp] theorem State.hostWrite_mem (a : Nat) (b : Bytes) : (s.hostWrite a b).mem = s.mem := rfl
@[simp] theorem State.hostWrite_otp (a : Nat) (b : Bytes) : (s.hostWrite a b).otp = s.otp := rfl
@[simp] theorem State.hostWrite_link (a : Nat) (b : Bytes) : (s.hostWrite a b).link = s.link := rfl

/-! ### setHpErr -/
@[simp] theorem State.setHpErr_pending (k : Nat) : (s.setHpErr k).pending = s.pending := rfl
@[simp] theorem State.setHpErr_clock (k : Nat) : (s.setHpErr k).clock = s.clock := rfl
@[simp] theorem State.setHpErr_fresh (k : Nat) : (s.setHpErr k).fresh = s.fresh := rfl
@[simp] theorem State.setHpErr_timebase (k : Nat) : (s.setHpErr k).timebase = s.timebase := rfl
@[simp] theorem State.setHpErr_pwr (k : Nat) : (s.setHpErr k).pwr = s.pwr := rfl
@[simp] theorem State.setHpErr_pe (k : Nat) : (s.setHpErr k).pe = s.pe := rfl
@[simp] theorem State.setHpErr_mirror (k : Nat) : (s.setHpErr k).mirror = s.mirror := rfl
@[simp] theorem State.setHpErr_tc (k : Nat) : (s.setHpErr k).tc = s.tc := rfl
@[simp] theorem State.setHpErr_inj (k : Nat) : (s.setHpErr k).inj = s.inj := rfl
@[simp] theorem State.setHpErr_fab (k : Nat) : (s.setHpErr k).fab = s.fab := rfl
@[simp] theorem State.setHpErr_ilk (k : Nat) : (s.setHpErr k).ilk = s.ilk := rfl
@[simp] theorem State.setHpErr_enc (k : Nat) : (s.setHpErr k).enc = s.enc := rfl
@[simp] theorem State.setHpErr_axes (k : Nat) : (s.setHpErr k).axes = s.axes := rfl
@[simp] theorem State.setHpErr_chans (k : Nat) : (s.setHpErr k).chans = s.chans := rfl
@[simp] theorem State.setHpErr_attach (k : Nat) : (s.setHpErr k).attach = s.attach := rfl
@[simp] theorem State.setHpErr_jobs (k : Nat) : (s.setHpErr k).jobs = s.jobs := rfl
@[simp] theorem State.setHpErr_tiles (k : Nat) : (s.setHpErr k).tiles = s.tiles := rfl
@[simp] theorem State.setHpErr_health (k : Nat) : (s.setHpErr k).health = s.health := rfl
@[simp] theorem State.setHpErr_cam (k : Nat) : (s.setHpErr k).cam = s.cam := rfl
@[simp] theorem State.setHpErr_therm (k : Nat) : (s.setHpErr k).therm = s.therm := rfl
@[simp] theorem State.setHpErr_mem (k : Nat) : (s.setHpErr k).mem = s.mem := rfl
@[simp] theorem State.setHpErr_otp (k : Nat) : (s.setHpErr k).otp = s.otp := rfl
@[simp] theorem State.setHpErr_link (k : Nat) : (s.setHpErr k).link = s.link := rfl

/-! ### accepted -/
@[simp] theorem State.accepted_pending (p : Side) : (s.accepted p).pending = s.pending := by cases p <;> rfl
@[simp] theorem State.accepted_clock (p : Side) : (s.accepted p).clock = s.clock := by cases p <;> rfl
@[simp] theorem State.accepted_fresh (p : Side) : (s.accepted p).fresh = s.fresh := by cases p <;> rfl
@[simp] theorem State.accepted_timebase (p : Side) : (s.accepted p).timebase = s.timebase := by cases p <;> rfl
@[simp] theorem State.accepted_pwr (p : Side) : (s.accepted p).pwr = s.pwr := by cases p <;> rfl
@[simp] theorem State.accepted_pe (p : Side) : (s.accepted p).pe = s.pe := by cases p <;> rfl
@[simp] theorem State.accepted_host (p : Side) : (s.accepted p).host = s.host := by cases p <;> rfl
@[simp] theorem State.accepted_mirror (p : Side) : (s.accepted p).mirror = s.mirror := by cases p <;> rfl
@[simp] theorem State.accepted_tc (p : Side) : (s.accepted p).tc = s.tc := by cases p <;> rfl
@[simp] theorem State.accepted_inj (p : Side) : (s.accepted p).inj = s.inj := by cases p <;> rfl
@[simp] theorem State.accepted_fab (p : Side) : (s.accepted p).fab = s.fab := by cases p <;> rfl
@[simp] theorem State.accepted_ilk (p : Side) : (s.accepted p).ilk = s.ilk := by cases p <;> rfl
@[simp] theorem State.accepted_enc (p : Side) : (s.accepted p).enc = s.enc := by cases p <;> rfl
@[simp] theorem State.accepted_axes (p : Side) : (s.accepted p).axes = s.axes := by cases p <;> rfl
@[simp] theorem State.accepted_chans (p : Side) : (s.accepted p).chans = s.chans := by cases p <;> rfl
@[simp] theorem State.accepted_attach (p : Side) : (s.accepted p).attach = s.attach := by cases p <;> rfl
@[simp] theorem State.accepted_jobs (p : Side) : (s.accepted p).jobs = s.jobs := by cases p <;> rfl
@[simp] theorem State.accepted_tiles (p : Side) : (s.accepted p).tiles = s.tiles := by cases p <;> rfl
@[simp] theorem State.accepted_health (p : Side) : (s.accepted p).health = s.health := by cases p <;> rfl
@[simp] theorem State.accepted_cam (p : Side) : (s.accepted p).cam = s.cam := by cases p <;> rfl
@[simp] theorem State.accepted_therm (p : Side) : (s.accepted p).therm = s.therm := by cases p <;> rfl
@[simp] theorem State.accepted_mem (p : Side) : (s.accepted p).mem = s.mem := by cases p <;> rfl
@[simp] theorem State.accepted_otp (p : Side) : (s.accepted p).otp = s.otp := by cases p <;> rfl

/-! ### taken -/
@[simp] theorem State.taken_pending : (s.taken).pending = s.pending := rfl
@[simp] theorem State.taken_clock : (s.taken).clock = s.clock := rfl
@[simp] theorem State.taken_fresh : (s.taken).fresh = s.fresh := rfl
@[simp] theorem State.taken_timebase : (s.taken).timebase = s.timebase := rfl
@[simp] theorem State.taken_pwr : (s.taken).pwr = s.pwr := rfl
@[simp] theorem State.taken_host : (s.taken).host = s.host := rfl
@[simp] theorem State.taken_mirror : (s.taken).mirror = s.mirror := rfl
@[simp] theorem State.taken_tc : (s.taken).tc = s.tc := rfl
@[simp] theorem State.taken_inj : (s.taken).inj = s.inj := rfl
@[simp] theorem State.taken_fab : (s.taken).fab = s.fab := rfl
@[simp] theorem State.taken_ilk : (s.taken).ilk = s.ilk := rfl
@[simp] theorem State.taken_enc : (s.taken).enc = s.enc := rfl
@[simp] theorem State.taken_axes : (s.taken).axes = s.axes := rfl
@[simp] theorem State.taken_chans : (s.taken).chans = s.chans := rfl
@[simp] theorem State.taken_attach : (s.taken).attach = s.attach := rfl
@[simp] theorem State.taken_jobs : (s.taken).jobs = s.jobs := rfl
@[simp] theorem State.taken_tiles : (s.taken).tiles = s.tiles := rfl
@[simp] theorem State.taken_health : (s.taken).health = s.health := rfl
@[simp] theorem State.taken_cam : (s.taken).cam = s.cam := rfl
@[simp] theorem State.taken_therm : (s.taken).therm = s.therm := rfl
@[simp] theorem State.taken_mem : (s.taken).mem = s.mem := rfl
@[simp] theorem State.taken_otp : (s.taken).otp = s.otp := rfl
@[simp] theorem State.taken_link : (s.taken).link = s.link := rfl

/-! ### handled -/
@[simp] theorem State.handled_pending : (s.handled).pending = s.pending := rfl
@[simp] theorem State.handled_clock : (s.handled).clock = s.clock := rfl
@[simp] theorem State.handled_fresh : (s.handled).fresh = s.fresh := rfl
@[simp] theorem State.handled_timebase : (s.handled).timebase = s.timebase := rfl
@[simp] theorem State.handled_pwr : (s.handled).pwr = s.pwr := rfl
@[simp] theorem State.handled_host : (s.handled).host = s.host := rfl
@[simp] theorem State.handled_mirror : (s.handled).mirror = s.mirror := rfl
@[simp] theorem State.handled_tc : (s.handled).tc = s.tc := rfl
@[simp] theorem State.handled_inj : (s.handled).inj = s.inj := rfl
@[simp] theorem State.handled_fab : (s.handled).fab = s.fab := rfl
@[simp] theorem State.handled_ilk : (s.handled).ilk = s.ilk := rfl
@[simp] theorem State.handled_enc : (s.handled).enc = s.enc := rfl
@[simp] theorem State.handled_axes : (s.handled).axes = s.axes := rfl
@[simp] theorem State.handled_chans : (s.handled).chans = s.chans := rfl
@[simp] theorem State.handled_attach : (s.handled).attach = s.attach := rfl
@[simp] theorem State.handled_jobs : (s.handled).jobs = s.jobs := rfl
@[simp] theorem State.handled_tiles : (s.handled).tiles = s.tiles := rfl
@[simp] theorem State.handled_health : (s.handled).health = s.health := rfl
@[simp] theorem State.handled_cam : (s.handled).cam = s.cam := rfl
@[simp] theorem State.handled_therm : (s.handled).therm = s.therm := rfl
@[simp] theorem State.handled_mem : (s.handled).mem = s.mem := rfl
@[simp] theorem State.handled_otp : (s.handled).otp = s.otp := rfl
@[simp] theorem State.handled_link : (s.handled).link = s.link := rfl

/-! ### modWport -/
@[simp] theorem State.modWport_pending (p : Side) (f : Port → Port) : (s.modWport p f).pending = s.pending := by cases p <;> rfl
@[simp] theorem State.modWport_clock (p : Side) (f : Port → Port) : (s.modWport p f).clock = s.clock := by cases p <;> rfl
@[simp] theorem State.modWport_fresh (p : Side) (f : Port → Port) : (s.modWport p f).fresh = s.fresh := by cases p <;> rfl
@[simp] theorem State.modWport_timebase (p : Side) (f : Port → Port) : (s.modWport p f).timebase = s.timebase := by cases p <;> rfl
@[simp] theorem State.modWport_pwr (p : Side) (f : Port → Port) : (s.modWport p f).pwr = s.pwr := by cases p <;> rfl
@[simp] theorem State.modWport_pe (p : Side) (f : Port → Port) : (s.modWport p f).pe = s.pe := by cases p <;> rfl
@[simp] theorem State.modWport_host (p : Side) (f : Port → Port) : (s.modWport p f).host = s.host := by cases p <;> rfl
@[simp] theorem State.modWport_mirror (p : Side) (f : Port → Port) : (s.modWport p f).mirror = s.mirror := by cases p <;> rfl
@[simp] theorem State.modWport_tc (p : Side) (f : Port → Port) : (s.modWport p f).tc = s.tc := by cases p <;> rfl
@[simp] theorem State.modWport_inj (p : Side) (f : Port → Port) : (s.modWport p f).inj = s.inj := by cases p <;> rfl
@[simp] theorem State.modWport_fab (p : Side) (f : Port → Port) : (s.modWport p f).fab = s.fab := by cases p <;> rfl
@[simp] theorem State.modWport_ilk (p : Side) (f : Port → Port) : (s.modWport p f).ilk = s.ilk := by cases p <;> rfl
@[simp] theorem State.modWport_enc (p : Side) (f : Port → Port) : (s.modWport p f).enc = s.enc := by cases p <;> rfl
@[simp] theorem State.modWport_axes (p : Side) (f : Port → Port) : (s.modWport p f).axes = s.axes := by cases p <;> rfl
@[simp] theorem State.modWport_chans (p : Side) (f : Port → Port) : (s.modWport p f).chans = s.chans := by cases p <;> rfl
@[simp] theorem State.modWport_attach (p : Side) (f : Port → Port) : (s.modWport p f).attach = s.attach := by cases p <;> rfl
@[simp] theorem State.modWport_jobs (p : Side) (f : Port → Port) : (s.modWport p f).jobs = s.jobs := by cases p <;> rfl
@[simp] theorem State.modWport_tiles (p : Side) (f : Port → Port) : (s.modWport p f).tiles = s.tiles := by cases p <;> rfl
@[simp] theorem State.modWport_health (p : Side) (f : Port → Port) : (s.modWport p f).health = s.health := by cases p <;> rfl
@[simp] theorem State.modWport_cam (p : Side) (f : Port → Port) : (s.modWport p f).cam = s.cam := by cases p <;> rfl
@[simp] theorem State.modWport_therm (p : Side) (f : Port → Port) : (s.modWport p f).therm = s.therm := by cases p <;> rfl
@[simp] theorem State.modWport_mem (p : Side) (f : Port → Port) : (s.modWport p f).mem = s.mem := by cases p <;> rfl
@[simp] theorem State.modWport_otp (p : Side) (f : Port → Port) : (s.modWport p f).otp = s.otp := by cases p <;> rfl

/-! ### modSensor -/
@[simp] theorem State.modSensor_pending (x : Sensor) (f : SensorState → SensorState) : (s.modSensor x f).pending = s.pending := by cases x <;> rfl
@[simp] theorem State.modSensor_clock (x : Sensor) (f : SensorState → SensorState) : (s.modSensor x f).clock = s.clock := by cases x <;> rfl
@[simp] theorem State.modSensor_fresh (x : Sensor) (f : SensorState → SensorState) : (s.modSensor x f).fresh = s.fresh := by cases x <;> rfl
@[simp] theorem State.modSensor_timebase (x : Sensor) (f : SensorState → SensorState) : (s.modSensor x f).timebase = s.timebase := by cases x <;> rfl
@[simp] theorem State.modSensor_pwr (x : Sensor) (f : SensorState → SensorState) : (s.modSensor x f).pwr = s.pwr := by cases x <;> rfl
@[simp] theorem State.modSensor_pe (x : Sensor) (f : SensorState → SensorState) : (s.modSensor x f).pe = s.pe := by cases x <;> rfl
@[simp] theorem State.modSensor_host (x : Sensor) (f : SensorState → SensorState) : (s.modSensor x f).host = s.host := by cases x <;> rfl
@[simp] theorem State.modSensor_mirror (x : Sensor) (f : SensorState → SensorState) : (s.modSensor x f).mirror = s.mirror := by cases x <;> rfl
@[simp] theorem State.modSensor_tc (x : Sensor) (f : SensorState → SensorState) : (s.modSensor x f).tc = s.tc := by cases x <;> rfl
@[simp] theorem State.modSensor_inj (x : Sensor) (f : SensorState → SensorState) : (s.modSensor x f).inj = s.inj := by cases x <;> rfl
@[simp] theorem State.modSensor_fab (x : Sensor) (f : SensorState → SensorState) : (s.modSensor x f).fab = s.fab := by cases x <;> rfl
@[simp] theorem State.modSensor_ilk (x : Sensor) (f : SensorState → SensorState) : (s.modSensor x f).ilk = s.ilk := by cases x <;> rfl
@[simp] theorem State.modSensor_enc (x : Sensor) (f : SensorState → SensorState) : (s.modSensor x f).enc = s.enc := by cases x <;> rfl
@[simp] theorem State.modSensor_axes (x : Sensor) (f : SensorState → SensorState) : (s.modSensor x f).axes = s.axes := by cases x <;> rfl
@[simp] theorem State.modSensor_chans (x : Sensor) (f : SensorState → SensorState) : (s.modSensor x f).chans = s.chans := by cases x <;> rfl
@[simp] theorem State.modSensor_attach (x : Sensor) (f : SensorState → SensorState) : (s.modSensor x f).attach = s.attach := by cases x <;> rfl
@[simp] theorem State.modSensor_jobs (x : Sensor) (f : SensorState → SensorState) : (s.modSensor x f).jobs = s.jobs := by cases x <;> rfl
@[simp] theorem State.modSensor_tiles (x : Sensor) (f : SensorState → SensorState) : (s.modSensor x f).tiles = s.tiles := by cases x <;> rfl
@[simp] theorem State.modSensor_health (x : Sensor) (f : SensorState → SensorState) : (s.modSensor x f).health = s.health := by cases x <;> rfl
@[simp] theorem State.modSensor_cam (x : Sensor) (f : SensorState → SensorState) : (s.modSensor x f).cam = s.cam := by cases x <;> rfl
@[simp] theorem State.modSensor_mem (x : Sensor) (f : SensorState → SensorState) : (s.modSensor x f).mem = s.mem := by cases x <;> rfl
@[simp] theorem State.modSensor_otp (x : Sensor) (f : SensorState → SensorState) : (s.modSensor x f).otp = s.otp := by cases x <;> rfl
@[simp] theorem State.modSensor_link (x : Sensor) (f : SensorState → SensorState) : (s.modSensor x f).link = s.link := by cases x <;> rfl

/-! ### reportAer -/
@[simp] theorem State.reportAer_pending (e : AerError) : (s.reportAer e).pending = s.pending := rfl
@[simp] theorem State.reportAer_clock (e : AerError) : (s.reportAer e).clock = s.clock := rfl
@[simp] theorem State.reportAer_fresh (e : AerError) : (s.reportAer e).fresh = s.fresh := rfl
@[simp] theorem State.reportAer_timebase (e : AerError) : (s.reportAer e).timebase = s.timebase := rfl
@[simp] theorem State.reportAer_pwr (e : AerError) : (s.reportAer e).pwr = s.pwr := rfl
@[simp] theorem State.reportAer_pe (e : AerError) : (s.reportAer e).pe = s.pe := rfl
@[simp] theorem State.reportAer_mirror (e : AerError) : (s.reportAer e).mirror = s.mirror := rfl
@[simp] theorem State.reportAer_tc (e : AerError) : (s.reportAer e).tc = s.tc := rfl
@[simp] theorem State.reportAer_inj (e : AerError) : (s.reportAer e).inj = s.inj := rfl
@[simp] theorem State.reportAer_fab (e : AerError) : (s.reportAer e).fab = s.fab := rfl
@[simp] theorem State.reportAer_ilk (e : AerError) : (s.reportAer e).ilk = s.ilk := rfl
@[simp] theorem State.reportAer_enc (e : AerError) : (s.reportAer e).enc = s.enc := rfl
@[simp] theorem State.reportAer_axes (e : AerError) : (s.reportAer e).axes = s.axes := rfl
@[simp] theorem State.reportAer_chans (e : AerError) : (s.reportAer e).chans = s.chans := rfl
@[simp] theorem State.reportAer_attach (e : AerError) : (s.reportAer e).attach = s.attach := rfl
@[simp] theorem State.reportAer_jobs (e : AerError) : (s.reportAer e).jobs = s.jobs := rfl
@[simp] theorem State.reportAer_tiles (e : AerError) : (s.reportAer e).tiles = s.tiles := rfl
@[simp] theorem State.reportAer_health (e : AerError) : (s.reportAer e).health = s.health := rfl
@[simp] theorem State.reportAer_cam (e : AerError) : (s.reportAer e).cam = s.cam := rfl
@[simp] theorem State.reportAer_therm (e : AerError) : (s.reportAer e).therm = s.therm := rfl
@[simp] theorem State.reportAer_mem (e : AerError) : (s.reportAer e).mem = s.mem := rfl
@[simp] theorem State.reportAer_otp (e : AerError) : (s.reportAer e).otp = s.otp := rfl
@[simp] theorem State.reportAer_link (e : AerError) : (s.reportAer e).link = s.link := rfl

/-! ### hostReadError -/
@[simp] theorem State.hostReadError_pending (e : ReadError) : (s.hostReadError e).pending = s.pending := rfl
@[simp] theorem State.hostReadError_clock (e : ReadError) : (s.hostReadError e).clock = s.clock := rfl
@[simp] theorem State.hostReadError_fresh (e : ReadError) : (s.hostReadError e).fresh = s.fresh := rfl
@[simp] theorem State.hostReadError_timebase (e : ReadError) : (s.hostReadError e).timebase = s.timebase := rfl
@[simp] theorem State.hostReadError_pwr (e : ReadError) : (s.hostReadError e).pwr = s.pwr := rfl
@[simp] theorem State.hostReadError_pe (e : ReadError) : (s.hostReadError e).pe = s.pe := rfl
@[simp] theorem State.hostReadError_mirror (e : ReadError) : (s.hostReadError e).mirror = s.mirror := rfl
@[simp] theorem State.hostReadError_tc (e : ReadError) : (s.hostReadError e).tc = s.tc := rfl
@[simp] theorem State.hostReadError_inj (e : ReadError) : (s.hostReadError e).inj = s.inj := rfl
@[simp] theorem State.hostReadError_fab (e : ReadError) : (s.hostReadError e).fab = s.fab := rfl
@[simp] theorem State.hostReadError_ilk (e : ReadError) : (s.hostReadError e).ilk = s.ilk := rfl
@[simp] theorem State.hostReadError_enc (e : ReadError) : (s.hostReadError e).enc = s.enc := rfl
@[simp] theorem State.hostReadError_axes (e : ReadError) : (s.hostReadError e).axes = s.axes := rfl
@[simp] theorem State.hostReadError_chans (e : ReadError) : (s.hostReadError e).chans = s.chans := rfl
@[simp] theorem State.hostReadError_attach (e : ReadError) : (s.hostReadError e).attach = s.attach := rfl
@[simp] theorem State.hostReadError_jobs (e : ReadError) : (s.hostReadError e).jobs = s.jobs := rfl
@[simp] theorem State.hostReadError_tiles (e : ReadError) : (s.hostReadError e).tiles = s.tiles := rfl
@[simp] theorem State.hostReadError_health (e : ReadError) : (s.hostReadError e).health = s.health := rfl
@[simp] theorem State.hostReadError_cam (e : ReadError) : (s.hostReadError e).cam = s.cam := rfl
@[simp] theorem State.hostReadError_therm (e : ReadError) : (s.hostReadError e).therm = s.therm := rfl
@[simp] theorem State.hostReadError_mem (e : ReadError) : (s.hostReadError e).mem = s.mem := rfl
@[simp] theorem State.hostReadError_otp (e : ReadError) : (s.hostReadError e).otp = s.otp := rfl
@[simp] theorem State.hostReadError_link (e : ReadError) : (s.hostReadError e).link = s.link := rfl

/-! ### setPend -/
@[simp] theorem State.setPend_pending (k : Nat) (b : Bool) : (s.setPend k b).pending = s.pending := rfl
@[simp] theorem State.setPend_clock (k : Nat) (b : Bool) : (s.setPend k b).clock = s.clock := rfl
@[simp] theorem State.setPend_fresh (k : Nat) (b : Bool) : (s.setPend k b).fresh = s.fresh := rfl
@[simp] theorem State.setPend_timebase (k : Nat) (b : Bool) : (s.setPend k b).timebase = s.timebase := rfl
@[simp] theorem State.setPend_pwr (k : Nat) (b : Bool) : (s.setPend k b).pwr = s.pwr := rfl
@[simp] theorem State.setPend_pe (k : Nat) (b : Bool) : (s.setPend k b).pe = s.pe := rfl
@[simp] theorem State.setPend_host (k : Nat) (b : Bool) : (s.setPend k b).host = s.host := rfl
@[simp] theorem State.setPend_mirror (k : Nat) (b : Bool) : (s.setPend k b).mirror = s.mirror := rfl
@[simp] theorem State.setPend_tc (k : Nat) (b : Bool) : (s.setPend k b).tc = s.tc := rfl
@[simp] theorem State.setPend_inj (k : Nat) (b : Bool) : (s.setPend k b).inj = s.inj := rfl
@[simp] theorem State.setPend_ilk (k : Nat) (b : Bool) : (s.setPend k b).ilk = s.ilk := rfl
@[simp] theorem State.setPend_enc (k : Nat) (b : Bool) : (s.setPend k b).enc = s.enc := rfl
@[simp] theorem State.setPend_axes (k : Nat) (b : Bool) : (s.setPend k b).axes = s.axes := rfl
@[simp] theorem State.setPend_chans (k : Nat) (b : Bool) : (s.setPend k b).chans = s.chans := rfl
@[simp] theorem State.setPend_attach (k : Nat) (b : Bool) : (s.setPend k b).attach = s.attach := rfl
@[simp] theorem State.setPend_jobs (k : Nat) (b : Bool) : (s.setPend k b).jobs = s.jobs := rfl
@[simp] theorem State.setPend_tiles (k : Nat) (b : Bool) : (s.setPend k b).tiles = s.tiles := rfl
@[simp] theorem State.setPend_health (k : Nat) (b : Bool) : (s.setPend k b).health = s.health := rfl
@[simp] theorem State.setPend_cam (k : Nat) (b : Bool) : (s.setPend k b).cam = s.cam := rfl
@[simp] theorem State.setPend_therm (k : Nat) (b : Bool) : (s.setPend k b).therm = s.therm := rfl
@[simp] theorem State.setPend_mem (k : Nat) (b : Bool) : (s.setPend k b).mem = s.mem := rfl
@[simp] theorem State.setPend_otp (k : Nat) (b : Bool) : (s.setPend k b).otp = s.otp := rfl
@[simp] theorem State.setPend_link (k : Nat) (b : Bool) : (s.setPend k b).link = s.link := rfl

/-! ### raise -/
@[simp] theorem State.raise_pending (k : Nat) : (s.raise k).pending = s.pending := by
  unfold State.raise
  split <;> (try split) <;> (try split) <;> rfl
@[simp] theorem State.raise_clock (k : Nat) : (s.raise k).clock = s.clock := by
  unfold State.raise
  split <;> (try split) <;> (try split) <;> rfl
@[simp] theorem State.raise_fresh (k : Nat) : (s.raise k).fresh = s.fresh := by
  unfold State.raise
  split <;> (try split) <;> (try split) <;> rfl
@[simp] theorem State.raise_timebase (k : Nat) : (s.raise k).timebase = s.timebase := by
  unfold State.raise
  split <;> (try split) <;> (try split) <;> rfl
@[simp] theorem State.raise_pwr (k : Nat) : (s.raise k).pwr = s.pwr := by
  unfold State.raise
  split <;> (try split) <;> (try split) <;> rfl
@[simp] theorem State.raise_pe (k : Nat) : (s.raise k).pe = s.pe := by
  unfold State.raise
  split <;> (try split) <;> (try split) <;> rfl
@[simp] theorem State.raise_host (k : Nat) : (s.raise k).host = s.host := by
  unfold State.raise
  split <;> (try split) <;> (try split) <;> rfl
@[simp] theorem State.raise_mirror (k : Nat) : (s.raise k).mirror = s.mirror := by
  unfold State.raise
  split <;> (try split) <;> (try split) <;> rfl
@[simp] theorem State.raise_inj (k : Nat) : (s.raise k).inj = s.inj := by
  unfold State.raise
  split <;> (try split) <;> (try split) <;> rfl
@[simp] theorem State.raise_ilk (k : Nat) : (s.raise k).ilk = s.ilk := by
  unfold State.raise
  split <;> (try split) <;> (try split) <;> rfl
@[simp] theorem State.raise_enc (k : Nat) : (s.raise k).enc = s.enc := by
  unfold State.raise
  split <;> (try split) <;> (try split) <;> rfl
@[simp] theorem State.raise_axes (k : Nat) : (s.raise k).axes = s.axes := by
  unfold State.raise
  split <;> (try split) <;> (try split) <;> rfl
@[simp] theorem State.raise_chans (k : Nat) : (s.raise k).chans = s.chans := by
  unfold State.raise
  split <;> (try split) <;> (try split) <;> rfl
@[simp] theorem State.raise_attach (k : Nat) : (s.raise k).attach = s.attach := by
  unfold State.raise
  split <;> (try split) <;> (try split) <;> rfl
@[simp] theorem State.raise_jobs (k : Nat) : (s.raise k).jobs = s.jobs := by
  unfold State.raise
  split <;> (try split) <;> (try split) <;> rfl
@[simp] theorem State.raise_tiles (k : Nat) : (s.raise k).tiles = s.tiles := by
  unfold State.raise
  split <;> (try split) <;> (try split) <;> rfl
@[simp] theorem State.raise_health (k : Nat) : (s.raise k).health = s.health := by
  unfold State.raise
  split <;> (try split) <;> (try split) <;> rfl
@[simp] theorem State.raise_cam (k : Nat) : (s.raise k).cam = s.cam := by
  unfold State.raise
  split <;> (try split) <;> (try split) <;> rfl
@[simp] theorem State.raise_therm (k : Nat) : (s.raise k).therm = s.therm := by
  unfold State.raise
  split <;> (try split) <;> (try split) <;> rfl
@[simp] theorem State.raise_mem (k : Nat) : (s.raise k).mem = s.mem := by
  unfold State.raise
  split <;> (try split) <;> (try split) <;> rfl
@[simp] theorem State.raise_otp (k : Nat) : (s.raise k).otp = s.otp := by
  unfold State.raise
  split <;> (try split) <;> (try split) <;> rfl
@[simp] theorem State.raise_link (k : Nat) : (s.raise k).link = s.link := by
  unfold State.raise
  split <;> (try split) <;> (try split) <;> rfl

/-! ### Reading after an update -/

@[simp] theorem vget_vset_self {α : Type} {n : Nat} (v : Vector α n) (i : Nat) (x d : α) (h : i < n) : vget (vset v i x) i d = x := by
  simp [vget, vset, h]

@[simp] theorem vget_vset_ne {α : Type} {n : Nat} (v : Vector α n) (i j : Nat) (x d : α) (h : i ≠ j) : vget (vset v i x) j d = vget v j d := by
  unfold vget vset
  rw [Vector.getElem?_setIfInBounds_ne h]

theorem vset_vset {α : Type} {n : Nat} (v : Vector α n) (i : Nat) (x y : α) : vset (vset v i x) i y = vset v i y := by
  unfold vset
  ext j hj
  simp only [Vector.getElem_setIfInBounds]
  split <;> rfl

@[simp] theorem State.chan_modChan (n : Nat) (f : Chan → Chan) (h : n < 48) : (s.modChan n f).chan n = f (s.chan n) := vget_vset_self _ _ _ _ h
@[simp] theorem State.chan_modChan_ne (n m : Nat) (f : Chan → Chan) (h : n ≠ m) : (s.modChan n f).chan m = s.chan m := vget_vset_ne _ _ _ _ _ h
@[simp] theorem State.axis_modAxis (n : Nat) (f : Axis → Axis) (h : n < 8) : (s.modAxis n f).axis n = f (s.axis n) := vget_vset_self _ _ _ _ h
@[simp] theorem State.axis_modAxis_ne (n m : Nat) (f : Axis → Axis) (h : n ≠ m) : (s.modAxis n f).axis m = s.axis m := vget_vset_ne _ _ _ _ _ h
@[simp] theorem State.encoder_modEncoder (n : Nat) (f : Encoder → Encoder) (h : n < 8) : (s.modEncoder n f).encoder n = f (s.encoder n) := vget_vset_self _ _ _ _ h
@[simp] theorem State.encoder_modEncoder_ne (n m : Nat) (f : Encoder → Encoder) (h : n ≠ m) : (s.modEncoder n f).encoder m = s.encoder m := vget_vset_ne _ _ _ _ _ h
@[simp] theorem State.port_modPort (n : Nat) (f : CamPort → CamPort) (h : n < 2) : (s.modPort n f).port n = f (s.port n) := vget_vset_self _ _ _ _ h
@[simp] theorem State.port_modPort_ne (n m : Nat) (f : CamPort → CamPort) (h : n ≠ m) : (s.modPort n f).port m = s.port m := vget_vset_ne _ _ _ _ _ h
@[simp] theorem State.dma_modDma (n : Nat) (f : Dma → Dma) (h : n < 16) : (s.modDma n f).dma n = f (s.dma n) := vget_vset_self _ _ _ _ h
@[simp] theorem State.dma_modDma_ne (n m : Nat) (f : Dma → Dma) (h : n ≠ m) : (s.modDma n f).dma m = s.dma m := vget_vset_ne _ _ _ _ _ h
@[simp] theorem State.bank_modBank (n : Nat) (f : Bank → Bank) (h : n < 17) : (s.modBank n f).bank n = f (s.bank n) := vget_vset_self _ _ _ _ h
@[simp] theorem State.bank_modBank_ne (n m : Nat) (f : Bank → Bank) (h : n ≠ m) : (s.modBank n f).bank m = s.bank m := vget_vset_ne _ _ _ _ _ h
@[simp] theorem State.headSensor_modHead (n : Nat) (f : SensorState → SensorState) (h : n < 48) : (s.modHead n f).headSensor n = f (s.headSensor n) := vget_vset_self _ _ _ _ h
@[simp] theorem State.headSensor_modHead_ne (n m : Nat) (f : SensorState → SensorState) (h : n ≠ m) : (s.modHead n f).headSensor m = s.headSensor m := vget_vset_ne _ _ _ _ _ h
@[simp] theorem State.jobAt_modJob (n : Nat) (f : Job → Job) (h : n < 4) : (s.modJob n f).jobAt n = (s.jobAt n).map f := vget_vset_self _ _ _ _ h
@[simp] theorem State.jobAt_modJob_ne (n m : Nat) (f : Job → Job) (h : n ≠ m) : (s.modJob n f).jobAt m = s.jobAt m := vget_vset_ne _ _ _ _ _ h
@[simp] theorem State.wport_modWport (p : Side) (f : Port → Port) : (s.modWport p f).wport p = f (s.wport p) := by cases p <;> rfl
@[simp] theorem State.wport_modWport_other (p : Side) (f : Port → Port) : (s.modWport p f).wport (other p) = s.wport (other p) := by cases p <;> rfl
@[simp] theorem State.counter_count_ne (k i : Nat) (h : i ≠ k) : (s.count k).counter i = s.counter i := vget_vset_ne _ _ _ _ _ h.symm

/-- One detection of a counter below its ceiling (15 R447). -/
theorem State.counter_count (k : Nat) (h : k < 128) (hv : (s.counter k).toNat < 0xFFFF) : ((s.count k).counter k).toNat = (s.counter k).toNat + 1 := by
  have : (s.count k).counter k = BitVec.ofNat 16 (min 0xFFFF ((s.counter k).toNat + 1)) := vget_vset_self _ _ _ _ h
  rw [this, BitVec.toNat_ofNat]
  omega

/-- A check with no shot on its detector finds what is there (15 R455). -/
@[simp] theorem State.detect_eq (k : Nat) (real : Bool) (h : s.shot k = false) : s.detect k real = (real, s) := by simp [State.detect, h]

/-- A check that a shot meets detects, and the shot has acted (15 R455). -/
theorem State.detect_shot (k : Nat) (real : Bool) (h : s.shot k = true) : s.detect k real = (true, s.shotTaken) := by simp [State.detect, h]

/-- Frames: the accessors after an update of another part. -/
@[simp] theorem State.chan_count (k n : Nat) : (s.count k).chan n = s.chan n := rfl
@[simp] theorem State.chan_raise (k n : Nat) : (s.raise k).chan n = s.chan n := by simp [State.chan]
@[simp] theorem State.axis_raise (k n : Nat) : (s.raise k).axis n = s.axis n := by simp [State.axis]
@[simp] theorem State.jobAt_raise (k n : Nat) : (s.raise k).jobAt n = s.jobAt n := by simp [State.jobAt]

/-- A source pulse counts nothing but a merge (01 R21). -/
@[simp] theorem State.counter_raise (k i : Nat) (h : i ≠ 3) : (s.raise k).counter i = s.counter i := by
  unfold State.raise
  split
  · split
    · split
      · exact s.counter_count_ne 3 i h
      · rfl
    · rfl
  · split <;> rfl

/-- A source pulse in RUN or IDLE is on its way, unless an earlier one of the source still is (01 R21, R31, R35). -/
theorem State.raise_awake (k : Nat) (h : s.inRunIdle = true) (hn : s.fab.raised.contains k = false ∨ coreSource k = true) :
    s.raise k = { s with fab := { s.fab with raised := s.fab.raised ++ [k] } } := by
  have : (s.fab.raised.contains k && !coreSource k) = false := by rcases hn with e | e <;> rw [e] <;> simp
  simp only [State.raise, h, this, if_true, Bool.false_eq_true, if_false]

/-- A pulse that finds the source's synchroniser pending merges, and is counted while the source's route is enabled (01 R21, R34). -/
theorem State.raise_merges (k : Nat) (h : s.inRunIdle = true) (hn : s.fab.raised.contains k = true) (hc : coreSource k = false) :
    s.raise k = if (vget s.fab.src k {}).en then s.count 3 else s := by
  simp only [State.raise, h, hn, hc, Bool.not_false, Bool.and_self, if_true]

/-- After a pulse in RUN or IDLE the source is on its way. -/
theorem State.mem_raise (k : Nat) (h : s.inRunIdle = true) : k ∈ (s.raise k).fab.raised := by
  unfold State.raise
  rw [if_pos h]
  split
  · rename_i hc
    have : k ∈ s.fab.raised := by simp at hc; exact hc.1
    split <;> exact this
  · simp

end Sys2Proof.Machine
end

