-- ==== Sys2Proof/Laws/Packets.lean ====
section
/-! SUPPORT. The way of a command packet and of a host access, said once; what a reply of Kettle can touch. -/
namespace Sys2Proof.Machine

/-! ### Replies -/

/-- The parts that replies touch are two. -/
theorem State.SameButReplies.refl (s : State) : s.SameButReplies s := rfl

theorem State.SameButReplies.trans {s t u : State} (h : s.SameButReplies t) (g : t.SameButReplies u) : s.SameButReplies u := by
  unfold State.SameButReplies at *
  rw [g, h]

theorem State.pe_same (s : State) (p : PacketEngine) : s.SameButReplies { s with pe := p } := rfl

theorem State.hostWrite_same (s : State) (a : Nat) (b : Bytes) : s.SameButReplies (s.hostWrite a b) := rfl

theorem State.raiseVector_same (s : State) (v : Nat) : s.SameButReplies (s.raiseVector v) := by
  unfold State.raiseVector
  split <;> rfl

/-- Slots written, whatever the ring: host memory only. -/
theorem State.writeSlots_same (s : State) (r : Ring) (n i : Nat) (b : Bytes) : s.SameButReplies (s.writeSlots r n i b) := by
  induction n generalizing s i b with
  | zero => rfl
  | succ k ih => exact (s.hostWrite_same _ _).trans (ih _ _ _)

/-- A reply written touches the packet engine and the host port. -/
theorem State.writeReply_same (s : State) (b : Bytes) : s.SameButReplies (s.writeReply b) := by
  exact ((s.writeSlots_same _ _ _ _).trans (State.pe_same _ _)).trans (State.raiseVector_same _ _)

/-- A reply that leaves Kettle for the device's own ring touches the packet engine alone, and so do those that follow it. -/
theorem State.kettleWrites_same {s t : State} (h : s.kettleWrites = some t) (own : ∀ r, r ∈ s.pe.kettleWait → r.relayTo = none) :
    s.SameButReplies t ∧ ∀ r, r ∈ t.pe.kettleWait → r.relayTo = none := by
  unfold State.kettleWrites at h
  split at h
  · cases h
  · rename_i k ks hw
    have hk : k.relayTo = none := own k (by rw [hw]; exact List.mem_cons_self)
    rw [hk] at h
    split at h
    · cases h
    · dsimp only at h
      split at h
      · cases h
        exact ⟨rfl, fun r hr => own r (by rw [hw]; exact List.mem_cons_of_mem _ hr)⟩
      · cases h

theorem State.writeSlots_pe (r : Ring) (n : Nat) : ∀ (s : State) (i : Nat) (b : Bytes), (s.writeSlots r n i b).pe = s.pe := by
  induction n with
  | zero => intro s i b; rfl
  | succ k ih => intro s i b; exact ih (s.hostWrite _ _) _ _

theorem State.raiseVector_pe (s : State) (v : Nat) : (s.raiseVector v).pe = s.pe := by
  unfold State.raiseVector
  split <;> rfl

theorem State.writeReply_wait (s : State) (b : Bytes) : (s.writeReply b).pe.kettleWait = s.pe.kettleWait := by
  unfold State.writeReply
  dsimp only
  rw [State.raiseVector_pe, State.writeSlots_pe]

/-- Draining touches the packet engine and the host port where no waiting reply goes to another device (02 R81, 12 R390). -/
theorem State.drainReplies_same (n : Nat) (s : State) (own : ∀ r, r ∈ s.pe.kettleWait → r.relayTo = none) : s.SameButReplies (State.drainReplies n s) := by
  induction n generalizing s with
  | zero => rfl
  | succ k ih =>
    have hnext : s.SameButReplies (match s.kettleWrites with | some t => State.drainReplies k t | none => s) := by
      split
      · rename_i t ht
        have := State.kettleWrites_same ht own
        exact this.1.trans (ih _ this.2)
      · rfl
    unfold State.drainReplies
    dsimp only
    split
    · rename_i r rest _
      split
      · exact ((State.pe_same s _).trans (State.writeReply_same _ _)).trans (ih _ (by rw [State.writeReply_wait]; exact own))
      · exact hnext
    · exact hnext

theorem State.drain_same (s : State) (own : ∀ r, r ∈ s.pe.kettleWait → r.relayTo = none) : s.SameButReplies s.drain := State.drainReplies_same _ s own

theorem State.kettleReply_same (s : State) (r : Reply) (own : ∀ x, x ∈ s.pe.kettleWait → x.relayTo = none) (hr : r.relayTo = none) :
    s.SameButReplies (s.kettleReply r) := by
  refine (State.pe_same s _).trans (State.drain_same _ ?_)
  intro x hx
  rcases List.mem_append.mp hx with h | h
  · exact own x h
  · rw [List.mem_singleton.mp h]; exact hr

/-- Kettle's reply to a packet of the command ring touches the packet engine and the host port (02 R58), while no reply to another device waits. -/
theorem State.reply_same (s : State) (p : Packet) (st : BitVec 16) (b : Bytes) (own : ∀ r, r ∈ s.pe.kettleWait → r.relayTo = none) :
    s.SameButReplies (s.reply true p .ring st b) := by
  unfold State.reply
  dsimp only
  split
  · exact State.kettleReply_same _ _ own rfl
  · rfl

theorem State.ok_same (s : State) (op : BitVec 16) (c : Cmd) (b : Bytes) (own : ∀ r, r ∈ s.pe.kettleWait → r.relayTo = none) :
    s.SameButReplies (s.ok op c b) := s.reply_same _ _ _ own

/-! ### The rows of command packets -/

/-- A packet for this device alone that passes checks 2 to 6 goes to the agent that executes it (02 R56). -/
theorem State.handlePacket_local (s : State) (op : BitVec 16) (c : Cmd) (hop : opcodes.contains op.toNat = true) (h : s.Addressed op c) :
    s.handlePacket (packetOfCmd op c) .ring = s.handled.dispatch (packetOfCmd op c) .ring s.pe.seq := by
  obtain ⟨-, hf, ht, hm, hl, hlen, hk⟩ := h
  have h1 : c.target ≠ 0xFF := by
    intro e
    rw [e] at ht
    simp at ht
    omega
  have h2 : (packetOfCmd op c).broadcast = false := by
    simp only [Packet.broadcast, packetOfCmd]
    rw [BitVec.getLsbD, Nat.testBit_lt_two_pow]
    omega
  have hc : s.packetCheck (packetOfCmd op c) .ring = none := by
    have e1 : ¬ ((packetOfCmd op c).length % 4 ≠ 0 ∨ 4080 < (packetOfCmd op c).length) := by
      simp only [packetOfCmd]
      omega
    have e3 : (packetOfCmd op c).headerOk = true := by
      unfold Packet.headerOk
      rw [h2]
      have h3 : (packetOfCmd op c).target.toNat < 8 := by simp only [packetOfCmd]; omega
      have h4 : (packetOfCmd op c).flags.toNat < 8 := by simp only [packetOfCmd]; omega
      have h5 : (packetOfCmd op c).target ≠ 0xFF := h1
      simp [h3, h4]
      exact h5
    have e4 : s.isLocal (packetOfCmd op c) .ring = true := by simp [State.isLocal, packetOfCmd, ht]
    have e5 : lengthOk (packetOfCmd op c).opcode.toNat (packetOfCmd op c).length (packetOfCmd op c).params = true := hk
    have e2 : opcodes.contains (packetOfCmd op c).opcode.toNat = true := hop
    unfold State.packetCheck
    simp only [Bool.or_eq_true, decide_eq_true_eq] at *
    rw [if_neg e1, e2, e3, e4, e5]
    simp
  have hr : s.isRemote (packetOfCmd op c) .ring = false := by simp [State.isRemote, packetOfCmd, ht]
  unfold State.handlePacket
  rw [hc]
  have hl' : s.handled.isLocal (packetOfCmd op c) .ring = true := by
    have : s.handled.deviceId = s.deviceId := rfl
    simp [State.isLocal, this, packetOfCmd, ht]
  have hr' : s.handled.isRemote (packetOfCmd op c) .ring = false := hr
  show s.route (packetOfCmd op c) .ring = _
  have e : s.route (packetOfCmd op c) .ring =
      (let t := if s.handled.isRemote (packetOfCmd op c) .ring then s.handled.relayOut (packetOfCmd op c) .ring s.pe.seq else s.handled
       if t.isLocal (packetOfCmd op c) .ring then t.dispatch (packetOfCmd op c) .ring s.pe.seq else t) := rfl
  rw [e, hr']
  simp only [Bool.false_eq_true, if_false]
  rw [hl']
  rfl

/-- A Kettle-bound packet that Kettle takes at once (02 R63). -/
theorem State.packetRow_kettle (s : State) (op : BitVec 16) (c : Cmd) (hop : opcodes.contains op.toNat = true)
    (hk : (packetOfCmd op c).hardware = false) (h : s.KettleTakes op c) :
    s.packetRow op c = s.taken.runKettle (packetOfCmd op c) .ring s.pe.seq := by
  obtain ⟨hfree, hq, ha, hlc, hw⟩ := h
  have hf := hfree
  simp only [State.kettleFree, Bool.and_eq_true, Bool.not_eq_true', decide_eq_true_eq] at hf
  obtain ⟨⟨⟨⟨⟨⟨hrun, hent⟩, hst⟩, hrom⟩, hreb⟩, hwait⟩, hmap⟩ := hf
  have hent' : s.pwr.entering.isSome = false := by
    cases hx : s.pwr.entering <;> simp_all
  unfold State.packetRow
  have e := s.handlePacket_local op c hop ha
  have hs : s.shot 0 = false := ha.1
  simp only [hrun, hent', Bool.not_true, Bool.or_self, hs, Bool.false_eq_true, if_false, hq, if_true]
  rw [show ({ opcode := op, flags := c.flags, target := c.target, tag := c.tag, length := c.params.length, params := c.params } : Packet) =
    packetOfCmd op c from rfl, e]
  unfold State.dispatch
  rw [hk]
  have hen : s.handled.enqueue (packetOfCmd op c) .ring s.pe.seq =
      { s.handled with pe := { s.handled.pe with queue := [{ pkt := packetOfCmd op c, src := .ring, seq := s.pe.seq }], takeFrom := s.clock } } := by
    unfold State.enqueue
    simp [State.handled, hst, hrom, hq]
  simp only [Bool.false_eq_true, if_false]
  rw [hen]
  have hfree' : State.kettleFree { s.handled with pe := { s.handled.pe with queue := [{ pkt := packetOfCmd op c, src := .ring, seq := s.pe.seq }], takeFrom := s.clock } } = true := hfree
  have hw' : State.mustWait { s.handled with pe := { s.handled.pe with queue := [{ pkt := packetOfCmd op c, src := .ring, seq := s.pe.seq }], takeFrom := s.clock } }
      { pkt := packetOfCmd op c, src := .ring, seq := s.pe.seq } = false := hw
  have ht : s.taken = { s.handled with pe := { s.handled.pe with queue := [], takeFrom := s.clock } } := by
    simp only [State.taken, State.handled, ← hq]
  rw [ht]
  unfold State.kettleTake
  simp only [hfree', hw', Bool.not_true, Bool.or_self, Bool.false_eq_true, if_false]
  rfl

/-- A hardware-handled packet takes effect at once (02 R77). -/
theorem State.packetRow_hardware (s : State) (op : BitVec 16) (c : Cmd) (hop : opcodes.contains op.toNat = true)
    (hk : (packetOfCmd op c).hardware = true) (ha : s.Awake) (hq : s.pe.queue ≠ []) (h : s.Addressed op c) :
    s.packetRow op c = s.handled.runHardware (packetOfCmd op c) .ring s.pe.seq := by
  unfold State.packetRow
  have hent' : s.pwr.entering.isSome = false := by rw [ha.2]; rfl
  have e := s.handlePacket_local op c hop h
  have hs : s.shot 0 = false := h.1
  simp only [ha.1, hent', Bool.not_true, Bool.or_self, hs, Bool.false_eq_true, if_false, hq]
  rw [show ({ opcode := op, flags := c.flags, target := c.target, tag := c.tag, length := c.params.length, params := c.params } : Packet) =
    packetOfCmd op c from rfl, e]
  simp [State.dispatch, hk]

/-! ### Accesses of the host -/

/-- An access is carried out in RUN (13 R404, R405). -/
theorem State.hostAccess_awake (s : State) (a : HostAccess) (h : s.Awake) : s.hostAccess a = s.perform a := by
  simp [State.hostAccess, h.1, h.2]

/-- A whole dword written to BAR0 or BAR2 in RUN (14 R425). -/
theorem State.hostWriteReg_awake (s : State) (bar : Bar) (off v : Nat) (h : s.Awake) (h4 : s.shot 4 = false) :
    s.hostWriteReg bar off v = (match bar with
      | .bar0 => s.writeBar0 (off / 4 * 4) (w32 v)
      | .bar2 => s.writeBar2 (off / 4 * 4) (w32 v)) := by
  rw [State.hostWriteReg, s.hostAccess_awake _ h]
  simp only [State.perform, State.writeAccess]
  rw [s.detect_eq 4 _ h4]
  cases bar <;> rfl

end Sys2Proof.Machine
end

