-- ==== Sys2Proof/Laws/Inv.lean ====
section
/-! SUPPORT. The invariant of a state under the shared operations: updates of other parts, both memories, replies, events, frames, the queue. -/
namespace Sys2Proof.Machine

/-- A state that agrees on the seven parts of the invariant has it too. -/
theorem State.Inv.congr {s t : State} (h : s.Inv) (h1 : t.mem.store = s.mem.store) (h2 : t.host.mem = s.host.mem)
    (h3 : t.pe.queue = s.pe.queue) (h4 : t.pe.hold = s.pe.hold) (h5 : t.pwr.wakeEn = s.pwr.wakeEn) (h6 : t.mirror.sram = s.mirror.sram)
    (h7 : t.otp.words = s.otp.words) : t.Inv :=
  ⟨h1 ▸ h.store, h2 ▸ h.hostMem, h6 ▸ h.sram, h7 ▸ h.otpWords, h3 ▸ h.queue, h4 ▸ h.hold, h5 ▸ h.wakeEn⟩

/-- A fold of operations that keep the invariant keeps it. -/
theorem inv_foldl {α : Type} (f : State → α → State) (hf : ∀ s x, s.Inv → (f s x).Inv) (l : List α) (s : State) (h : s.Inv) : (l.foldl f s).Inv := by
  induction l generalizing s with
  | nil => exact h
  | cons x r ih => exact ih _ (hf _ _ h)

/-! ### Updates of other parts -/

variable {s : State}

theorem State.Inv.modChan (h : s.Inv) (n : Nat) (f : Chan → Chan) : (s.modChan n f).Inv := h.congr rfl rfl rfl rfl rfl rfl rfl
theorem State.Inv.modAxis (h : s.Inv) (n : Nat) (f : Axis → Axis) : (s.modAxis n f).Inv := h.congr rfl rfl rfl rfl rfl rfl rfl
theorem State.Inv.modEncoder (h : s.Inv) (n : Nat) (f : Encoder → Encoder) : (s.modEncoder n f).Inv := h.congr rfl rfl rfl rfl rfl rfl rfl
theorem State.Inv.modJob (h : s.Inv) (n : Nat) (f : Job → Job) : (s.modJob n f).Inv := h.congr rfl rfl rfl rfl rfl rfl rfl
theorem State.Inv.modPort (h : s.Inv) (n : Nat) (f : CamPort → CamPort) : (s.modPort n f).Inv := h.congr rfl rfl rfl rfl rfl rfl rfl
theorem State.Inv.modDma (h : s.Inv) (n : Nat) (f : Dma → Dma) : (s.modDma n f).Inv := h.congr rfl rfl rfl rfl rfl rfl rfl
theorem State.Inv.modBank (h : s.Inv) (n : Nat) (f : Bank → Bank) : (s.modBank n f).Inv := h.congr rfl rfl rfl rfl rfl rfl rfl
theorem State.Inv.modHead (h : s.Inv) (n : Nat) (f : SensorState → SensorState) : (s.modHead n f).Inv := h.congr rfl rfl rfl rfl rfl rfl rfl
theorem State.Inv.modSensor (h : s.Inv) (x : Sensor) (f : SensorState → SensorState) : (s.modSensor x f).Inv := by
  cases x <;> exact h.congr rfl rfl rfl rfl rfl rfl rfl
theorem State.Inv.modWport (h : s.Inv) (p : Side) (f : Port → Port) : (s.modWport p f).Inv := by
  cases p <;> exact h.congr rfl rfl rfl rfl rfl rfl rfl
theorem State.Inv.countN (h : s.Inv) (k n : Nat) : (s.countN k n).Inv := h.congr rfl rfl rfl rfl rfl rfl rfl
theorem State.Inv.count (h : s.Inv) (k : Nat) : (s.count k).Inv := h.congr rfl rfl rfl rfl rfl rfl rfl
theorem State.Inv.shotTaken (h : s.Inv) : s.shotTaken.Inv := h.congr rfl rfl rfl rfl rfl rfl rfl
theorem State.Inv.draw (h : s.Inv) : s.draw.2.Inv := h.congr rfl rfl rfl rfl rfl rfl rfl
theorem State.Inv.setHpErr (h : s.Inv) (k : Nat) : (s.setHpErr k).Inv := h.congr rfl rfl rfl rfl rfl rfl rfl
theorem State.Inv.setPend (h : s.Inv) (k : Nat) (b : Bool) : (s.setPend k b).Inv := h.congr rfl rfl rfl rfl rfl rfl rfl
theorem State.Inv.detect (h : s.Inv) (k : Nat) (real : Bool) : (s.detect k real).2.Inv := by
  unfold State.detect
  split
  · exact h.shotTaken
  · exact h
theorem State.Inv.latchLine (h : s.Inv) (l : BitVec 6) : (s.latchLine l).Inv := h.congr rfl rfl rfl rfl rfl rfl rfl
theorem State.Inv.reportAer (h : s.Inv) (e : AerError) : (s.reportAer e).Inv := h.congr rfl rfl rfl rfl rfl rfl rfl
theorem State.Inv.hostReadError (h : s.Inv) (e : ReadError) : (s.hostReadError e).Inv := h.congr rfl rfl rfl rfl rfl rfl rfl
theorem State.Inv.raise (h : s.Inv) (k : Nat) : (s.raise k).Inv := by
  unfold State.raise
  split
  · split
    · split
      · exact h.count _
      · exact h
    · exact h.congr rfl rfl rfl rfl rfl rfl rfl
  · split
    · exact h.latchLine _
    · exact h

/-! ### Memories and sparse arrays -/

theorem State.Inv.storeWrite (h : s.Inv) (a : Nat) (b : Bytes) : (s.storeWrite a b).Inv :=
  { h with store := mwrite_wf _ _ _ h.store }
theorem State.Inv.hostWrite (h : s.Inv) (a : Nat) (b : Bytes) : (s.hostWrite a b).Inv :=
  { h with hostMem := mwrite_wf _ _ _ h.hostMem }

theorem mirrorPut_wf (m : List (Nat × BitVec 16)) (a n v : Nat) (h : swf 0 m = true) : swf 0 (mirrorPut m a n v) = true := by
  unfold mirrorPut
  generalize List.range n = l
  induction l generalizing m with
  | nil => exact h
  | cons x r ih => exact ih _ (swf_sput _ _ _ _ h)

theorem State.Inv.mirrorWrite (h : s.Inv) (vs : List (Nat × Nat × Nat)) : (s.mirrorWrite vs).Inv := by
  refine { h with sram := ?_ }
  have : ∀ (l : List (Nat × Nat × Nat)) (m : List (Nat × BitVec 16)), swf 0 m = true →
      swf 0 (l.foldl (fun (m : List (Nat × BitVec 16)) (x : Nat × Nat × Nat) => mirrorPut m x.1 x.2.1 x.2.2) m) = true := by
    intro l
    induction l with
    | nil => intro m hm; exact hm
    | cons x r ih => intro m hm; exact ih _ (mirrorPut_wf _ _ _ _ hm)
  exact this vs _ h.sram

/-- A word of the OTP array written. -/
theorem State.Inv.otpPut (h : s.Inv) (a : Nat) (w : OtpWord) : ({ s with otp := { s.otp with words := sput {} s.otp.words a w } } : State).Inv :=
  { h with otpWords := swf_sput _ _ _ _ h.otpWords }

/-! ### Frames on WizerLink -/

theorem State.Inv.countReplays (h : s.Inv) (n : Nat) : (s.countReplays n).Inv := h.congr rfl rfl rfl rfl rfl rfl rfl
theorem State.Inv.freeThrough (h : s.Inv) (p : Side) (q : BitVec 12) : (s.freeThrough p q).Inv := by
  unfold State.freeThrough
  split
  · exact h.modWport _ _
  · exact h
theorem State.Inv.replay (h : s.Inv) (p : Side) : (s.replay p).Inv := by
  unfold State.replay
  dsimp only
  split
  · exact h
  · exact (h.countReplays _).modWport _ _

theorem State.Inv.sendFrame (h : s.Inv) (p : Side) (f : Frame) : (s.sendFrame p f).Inv := by
  unfold State.sendFrame
  dsimp only
  split
  · exact h
  split
  · split
    · split
      · exact ((h.modWport _ _).shotTaken.freeThrough _ _).replay _
      · exact h.modWport _ _
    · exact h.modWport _ _
  · exact h.modWport _ _

theorem State.Inv.sendTo (h : s.Inv) (id : Nat) (typ : BitVec 4) (b : Bytes) : (s.sendTo id typ b).Inv := by
  unfold State.sendTo
  split
  · exact h
  · exact h.sendFrame _ _

theorem State.Inv.sendAll (h : s.Inv) (typ : BitVec 4) (b : Bytes) : (s.sendAll typ b).Inv := by
  refine inv_foldl _ (fun s p h => ?_) _ _ h
  dsimp only
  split
  · exact h
  · exact h.sendFrame _ _

theorem State.Inv.sendPkt (h : s.Inv) (id kind : Nat) (x : BitVec 16) (b : Bytes) : (s.sendPkt id kind x b).Inv := by
  refine inv_foldl _ (fun s p h => ?_) _ _ h
  split
  · exact h.sendAll _ _
  · exact h.sendTo _ _ _

theorem State.Inv.sendNewPkt (h : s.Inv) (id kind : Nat) (b : Bytes) : (s.sendNewPkt id kind b).Inv :=
  State.Inv.sendPkt (s := s.takePktId.2) (h.congr rfl rfl rfl rfl rfl rfl rfl) _ _ _ _

/-! ### Vectors, replies, events -/

theorem State.Inv.raiseVector (h : s.Inv) (v : Nat) : (s.raiseVector v).Inv := by
  unfold State.raiseVector
  split
  · exact h.hostWrite _ _
  · exact h.congr rfl rfl rfl rfl rfl rfl rfl

theorem State.Inv.setRplLost (h : s.Inv) : s.setRplLost.Inv := by
  unfold State.setRplLost
  split
  · exact h
  · exact State.Inv.raiseVector (by exact h.congr rfl rfl rfl rfl rfl rfl rfl) _

theorem State.Inv.setEvtLost (h : s.Inv) : s.setEvtLost.Inv := by
  unfold State.setEvtLost
  split
  · exact h
  · exact State.Inv.raiseVector (by exact h.congr rfl rfl rfl rfl rfl rfl rfl) _

theorem State.Inv.writeSlots (r : Ring) (n : Nat) : ∀ {s : State}, s.Inv → ∀ i b, (s.writeSlots r n i b).Inv := by
  induction n with
  | zero => intro s h i b; exact h
  | succ k ih => intro s h i b; exact ih (h.hostWrite _ _) _ _

/-- A reply written keeps the hold buffer as it is. -/
theorem State.Inv.writeReply (h : s.Inv) (b : Bytes) : (s.writeReply b).Inv :=
  State.Inv.raiseVector (by exact State.Inv.congr (State.Inv.writeSlots s.pe.rpl (b.length / 64) h s.pe.rpl.tail b) rfl rfl rfl rfl rfl rfl rfl) _

/-- A reply leaves Kettle only where fewer than 32 are held, or for another device (02 R81, 12 R390). -/
theorem State.Inv.kettleWrites {t : State} (h : s.Inv) (hw : s.kettleWrites = some t) : t.Inv := by
  unfold State.kettleWrites at hw
  split at hw
  · cases hw
  · split at hw
    · cases hw
    · split at hw
      · cases hw
        exact State.Inv.sendNewPkt (by exact h.congr rfl rfl rfl rfl rfl rfl rfl) _ _ _
      · split at hw
        · rename_i hl
          cases hw
          refine { h with hold := ?_ }
          simp only [List.length_append, List.length_cons, List.length_nil]
          omega
        · cases hw

/-- Draining the hold buffer never fills it beyond 32 replies (02 R81). -/
theorem State.Inv.drainReplies (n : Nat) : ∀ {s : State}, s.Inv → (State.drainReplies n s).Inv := by
  induction n with
  | zero => intro s h; exact h
  | succ k ih =>
    intro s h
    have hnext : State.Inv (match s.kettleWrites with | some t => State.drainReplies k t | none => s) := by
      split
      · rename_i t ht
        exact ih (h.kettleWrites ht)
      · exact h
    unfold State.drainReplies
    dsimp only
    split
    · rename_i r rest hold
      have hl : rest.length ≤ 32 := by
        have := h.hold
        rw [hold] at this
        simp at this
        omega
      split
      · exact ih (State.Inv.writeReply (by exact { h with hold := hl }) _)
      · exact hnext
    · exact hnext

theorem State.Inv.drain (h : s.Inv) : s.drain.Inv := State.Inv.drainReplies _ h

theorem State.Inv.kettleReply (h : s.Inv) (r : Reply) : (s.kettleReply r).Inv := State.Inv.drain (by exact h.congr rfl rfl rfl rfl rfl rfl rfl)

/-- A reply of the packet engine is dropped when 32 replies are held (02 R81). -/
theorem State.Inv.engineReply (h : s.Inv) (r : Reply) : (s.engineReply r).Inv := by
  unfold State.engineReply
  dsimp only
  split
  · exact State.Inv.setRplLost (State.Inv.count (h.detect _ _) _)
  · rename_i hc
    have hd := h.detect 1 (decide (32 ≤ s.pe.hold.length))
    have hn : (s.detect 1 (decide (32 ≤ s.pe.hold.length))).2.pe.hold.length < 32 := by
      revert hc
      unfold State.detect
      split
      · simp
      · simp
    refine State.Inv.drain { hd with hold := ?_ }
    simp only [List.length_append, List.length_cons, List.length_nil]
    omega

theorem State.Inv.writeEvent (h : s.Inv) (fabric : Bool) (tb : BitVec 64) (code data : Nat) : (s.writeEvent fabric tb code data).Inv := by
  unfold State.writeEvent
  dsimp only
  split
  · refine State.Inv.raiseVector ?_ _
    exact State.Inv.congr (h.hostWrite (s.pe.evt.addr s.pe.evt.tail) (s.eventBytes (if fabric then 0xE000 else 0xE100) tb code data)) rfl rfl rfl rfl rfl rfl rfl
  · exact State.Inv.congr (h.hostWrite (s.pe.evt.addr s.pe.evt.tail) (s.eventBytes (if fabric then 0xE000 else 0xE100) tb code data)) rfl rfl rfl rfl rfl rfl rfl

theorem State.Inv.dropEvent (h : s.Inv) : s.dropEvent.Inv :=
  State.Inv.setEvtLost (State.Inv.count (h.congr (t := { s with pe := { s.pe with evtDropped := s.pe.evtDropped + 1 } }) rfl rfl rfl rfl rfl rfl rfl) 2)

theorem State.Inv.eventsLost (h : s.Inv) : s.eventsLost.Inv := by
  unfold State.eventsLost
  split
  · exact State.Inv.writeEvent (by exact h.congr rfl rfl rfl rfl rfl rfl rfl) _ _ _ _
  · exact h

theorem State.Inv.event (h : s.Inv) (fabric : Bool) (tb : BitVec 64) (code data : Nat) : (s.event fabric tb code data).Inv := by
  unfold State.event
  dsimp only
  split
  · exact (h.eventsLost.detect _ _).dropEvent
  · exact (h.eventsLost.detect _ _).writeEvent _ _ _ _

theorem State.Inv.deviceEvent (h : s.Inv) (code data : Nat) : (s.deviceEvent code data).Inv := h.event _ _ _ _

/-! ### Replies to packets, the Kettle queue -/

theorem State.Inv.reply (h : s.Inv) (kettle : Bool) (p : Packet) (src : Source) (st : BitVec 16) (b : Bytes) : (s.reply kettle p src st b).Inv := by
  unfold State.reply
  dsimp only
  split
  · split
    · split
      · split
        · exact h.kettleReply _
        · exact h.engineReply _
      · split
        · exact h.kettleReply _
        · exact h.sendNewPkt _ _ _
    · split
      · exact h.kettleReply _
      · exact h.engineReply _
  · exact h

theorem State.Inv.ok (h : s.Inv) (op : BitVec 16) (c : Cmd) (b : Bytes) : (s.ok op c b).Inv := h.reply _ _ _ _ _

/-- A packet is queued only where fewer than 64 are (02 R63). -/
theorem State.Inv.enqueue (h : s.Inv) (p : Packet) (src : Source) (seq : Nat) : (s.enqueue p src seq).Inv := by
  unfold State.enqueue
  split
  · exact h.reply _ _ _ _ _
  · rename_i hc
    have hq : s.pe.queue.length < 64 := by
      simp at hc
      omega
    refine { h with queue := ?_ }
    simp only [List.length_append, List.length_cons, List.length_nil]
    omega

/-- A packet taken from the head of the queue leaves a shorter queue. -/
theorem State.Inv.dequeue (h : s.Inv) (q : QPacket) (rest : List QPacket) (hq : s.pe.queue = q :: rest) (t : Nat) :
    ({ s with pe := { s.pe with queue := rest, takeFrom := t } } : State).Inv := by
  refine { h with queue := ?_ }
  have := h.queue
  rw [hq] at this
  simp only [List.length_cons] at this
  change rest.length ≤ 64
  omega

/-! ### WAKE_EN -/

/-- A value written to WAKE_EN leaves bits 0 and 1 set and bits 15:5 clear (13 R421). -/
theorem wakeEn_written (v : Word) : ((v &&& 0xFFFF001C) ||| 3) &&& 0xFFE3 = 3 := by
  apply BitVec.eq_of_getLsbD_eq
  intro i hi
  simp only [BitVec.getLsbD_and, BitVec.getLsbD_or]
  have : i < 32 := hi
  interval_cases i <;> simp

end Sys2Proof.Machine
end

