-- ==== Sys2Proof/Laws/Otp.lean ====
section
/-! SUPPORT. The OTP code (11 R343): its columns and code words have the weights that detect two wrong bits. -/
namespace Sys2Proof.Machine

/-- The parity of a 7-bit vector. -/
def par7 (x : BitVec 7) : Bool :=
  x.getLsbD 0 ^^ x.getLsbD 1 ^^ x.getLsbD 2 ^^ x.getLsbD 3 ^^ x.getLsbD 4 ^^ x.getLsbD 5 ^^ x.getLsbD 6

theorem par7_xor (x y : BitVec 7) : par7 (x ^^^ y) = (par7 x ^^ par7 y) := by
  simp only [par7, BitVec.getLsbD_xor]
  generalize x.getLsbD 0 = a0, x.getLsbD 1 = a1, x.getLsbD 2 = a2, x.getLsbD 3 = a3, x.getLsbD 4 = a4, x.getLsbD 5 = a5, x.getLsbD 6 = a6
  generalize y.getLsbD 0 = b0, y.getLsbD 1 = b1, y.getLsbD 2 = b2, y.getLsbD 3 = b3, y.getLsbD 4 = b4, y.getLsbD 5 = b5, y.getLsbD 6 = b6
  simp only [Bool.xor_assoc, Bool.xor_left_comm]

/-- A column picked is one of the candidates, as long as there are enough of them. -/
theorem pickColumns_mem (n : Nat) (l : List (BitVec 7)) (h : n ≤ l.length) : ∀ c, c ∈ pickColumns n l → c ∈ l := by
  induction n generalizing l with
  | zero => simp [pickColumns]
  | succ n ih =>
    intro c hc
    simp only [pickColumns, List.mem_cons] at hc
    have hk : Config.otpPick n % l.length < l.length := Nat.mod_lt _ (by omega)
    rcases hc with rfl | hc
    · rw [List.getD_eq_getElem _ _ hk]; exact List.getElem_mem hk
    · exact List.mem_of_mem_eraseIdx (ih _ (by rw [List.length_eraseIdx_of_lt hk]; omega) c hc)

/-- Columns picked from distinct candidates are distinct. -/
theorem pickColumns_nodup (n : Nat) (l : List (BitVec 7)) (h : n ≤ l.length) (hd : l.Nodup) : (pickColumns n l).Nodup := by
  induction n generalizing l with
  | zero => simp [pickColumns]
  | succ n ih =>
    have hk : Config.otpPick n % l.length < l.length := Nat.mod_lt _ (by omega)
    have hl : n ≤ (l.eraseIdx (Config.otpPick n % l.length)).length := by rw [List.length_eraseIdx_of_lt hk]; omega
    simp only [pickColumns, List.nodup_cons]
    refine ⟨fun hc => ?_, ih _ hl (hd.eraseIdx _)⟩
    have := pickColumns_mem n _ hl _ hc
    rw [List.getD_eq_getElem _ _ hk, List.mem_eraseIdx_iff_getElem] at this
    obtain ⟨i, hi, hne, he⟩ := this
    exact hne ((List.Nodup.getElem_inj_iff hd).1 he)

theorem otpColumns_length : otpColumns.length = 32 := by
  have (n : Nat) (l : List (BitVec 7)) : (pickColumns n l).length = n := by
    induction n generalizing l with
    | zero => rfl
    | succ n ih => simp [pickColumns, ih]
  exact this _ _

/-- The columns are distinct and of odd weight. -/
theorem otpColumns_nodup : otpColumns.Nodup := pickColumns_nodup _ _ (by decide +kernel) (by decide +kernel)
theorem otpColumns_odd : ∀ c, c ∈ otpColumns → par7 c = true := fun c hc =>
  have h : ∀ c, c ∈ otpCandidates → par7 c = true := by decide +kernel
  h c (pickColumns_mem _ _ (by decide +kernel) c hc)

/-- The parity of the set bits of a data word. -/
def par32 (d : Word) : Bool := (List.range 32).foldl (fun b i => b ^^ d.getLsbD i) false

theorem par7_fold (d : Word) (l : List (BitVec 7 × Nat)) (m : BitVec 7) (h : ∀ c, c ∈ l → par7 c.1 = true) :
    par7 (l.foldl (fun (m : BitVec 7) (c : BitVec 7 × Nat) => if d.getLsbD c.2 then m ^^^ c.1 else m) m) =
      l.foldl (fun b (c : BitVec 7 × Nat) => b ^^ d.getLsbD c.2) (par7 m) := by
  induction l generalizing m with
  | nil => rfl
  | cons c r ih =>
    rw [List.foldl_cons, List.foldl_cons, ih _ (fun x hx => h x (List.mem_cons_of_mem _ hx))]
    have := h c List.mem_cons_self
    cases d.getLsbD c.2 <;> simp [par7_xor, this]

/-- The check bits have the parity of the data. -/
theorem par7_checkBits (d : Word) : par7 (otpCheckBits d) = par32 d := by
  unfold otpCheckBits
  split
  · rename_i h; subst h; decide
  · rw [par7_fold d _ 0 (fun c hc => otpColumns_odd _ (List.fst_mem_of_mem_zipIdx hc))]
    have : otpColumns.zipIdx.foldl (fun b (c : BitVec 7 × Nat) => b ^^ d.getLsbD c.2) (par7 0) =
        (otpColumns.zipIdx.map Prod.snd).foldl (fun b i => b ^^ d.getLsbD i) (par7 0) := by rw [List.foldl_map]
    rw [this, List.zipIdx_map_snd, otpColumns_length]; rfl

/-- Every code word has even weight. -/
theorem otpValid_par (r : BitVec 39) (h : otpValid r = true) : par7 (BitVec.ofNat 7 (r.toNat / 2 ^ 32)) = par32 (otpData r) := by
  have h' : r = otpCode (otpData r) := by simpa [otpValid] using h
  have : BitVec.ofNat 7 (r.toNat / 2 ^ 32) = otpCheckBits (otpData r) := by
    apply BitVec.eq_of_toNat_eq
    have h1 := congrArg BitVec.toNat h'
    have h2 := (otpData r).isLt
    have h3 := (otpCheckBits (otpData r)).isLt
    simp only [otpCode, BitVec.toNat_ofNat] at h1
    rw [h1, BitVec.toNat_ofNat]; omega
  rw [this, par7_checkBits]

/-- The data bits of a code word. -/
theorem otpData_otpCode (d : Word) : otpData (otpCode d) = d := by
  apply BitVec.eq_of_toNat_eq
  have := d.isLt
  simp [otpData, otpCode, w32]; omega

/-- What a raw word that holds a data word is (11 R343). -/
theorem otpHolds_iff (r : BitVec 39) (d : Word) : otpHolds r d = true ↔ r = otpCode d := by
  unfold otpHolds
  constructor
  · intro h; simp_all
  · rintro rfl; simp [otpData_otpCode]

/-- A good word reads as its data, whatever the code is. -/
theorem otpCorrect_otpCode (d : Word) : otpCorrect (otpCode d) = some (d, false) := by
  simp [otpCorrect, otpValid, otpData_otpCode]

/-- A word that is no code word and has even weight is uncorrectable: this is how two wrong bits are detected. -/
theorem otpCorrect_even (r : BitVec 39) (h : otpValid r = false)
    (hp : ∀ i, i < 39 → par7 (BitVec.ofNat 7 ((r ^^^ BitVec.ofNat 39 (2 ^ i)).toNat / 2 ^ 32)) ≠ par32 (otpData (r ^^^ BitVec.ofNat 39 (2 ^ i)))) :
    otpCorrect r = none := by
  have : (List.range 39).find? (fun i => otpValid (r ^^^ BitVec.ofNat 39 (2 ^ i))) = none := by
    rw [List.find?_eq_none]
    exact fun i hi hv => hp i (List.mem_range.1 hi) (otpValid_par _ hv)
  unfold otpCorrect; rw [h, this]; rfl

end Sys2Proof.Machine
end

