-- ==== Sys2Proof/Tests/Slice0.lean ====
section
/-! SUPPORT. Small tests: worked examples of the spec, terms that WellFormed refuses, and for every statement with
hypotheses a concrete state and operands that meet them. -/
namespace Sys2Proof.Tests
open Sys2Proof Sys2Proof.Machine

set_option linter.unusedVariables false
set_option Elab.async false

/-- The state after reset. -/
def rst : State := State.reset

/-- The same with every die measured (11 R353 TEMP_OK). -/
def warm : State := { rst with therm.dies := rst.therm.dies.map (fun d => { d with known := true }) }

/-- Bytes with fields (offset, length, value) put in. -/
def body (n : Nat) (fs : List (Nat × Nat × Nat)) : Bytes :=
  fs.foldl (fun b x => b.take x.1 ++ toLe x.2.1 x.2.2 ++ b.drop (x.1 + x.2.1)) (pad n)

/-- A command packet for this device with WANT_REPLY. -/
def cm (n : Nat) (fs : List (Nat × Nat × Nat)) : Cmd := { flags := 1, target := 0, tag := 7, params := body n fs }

/-- A packet with zero parameters. -/
def pk (op : BitVec 16) (n : Nat) : Packet := { opcode := op, flags := 1, target := 0, tag := 7, length := n, params := pad n }

/-- An open web job on channel 0. -/
def jb : Job := { id := 1, geometry := 0, feed := 255, channels := 1, lines := 0, record := 0, pitch := 65536 }

/-- A state with a job in slot 0. -/
def withJob (s : State) (j : Job) : State := { s with jobs := vset s.jobs 0 (some j) }

/-- A layer of 64 lines. -/
def lay : Layer := { op := 0, base := 0, stride := 512, lines := 64, phase := 0, required := true }

/-- A tile of 64 nozzles and 64 lines for layer 3 of job 1. -/
def tl : Tile :=
  { id := 0, job := 1, layer := 3, source := 0, addr := 0, line := 0, ch := 0, nozzle := 0, width := 64, height := 64, rowsDone := 0
    landed := [], lateCounted := false, orphan := false, forceLate := false, done := false, pkt := pk 0x310 28, src := .ring, seq := 0 }

/-- A state with DRAM, bus mastering and a job whose layer 3 is `lay`. -/
def tileSt : State :=
  withJob { rst with mem.cfg := some { rate := 0, channels := 1, ranks := 1, density := 0 }, host.bme := true } { jb with layers := vset jb.layers 3 (some lay) }

/-- Bytes of a packet with its CRC. -/
def sealed (b : Bytes) : Bytes := b.take 12 ++ toLe 4 (crc32c (b.take 12 ++ [0, 0, 0, 0] ++ b.drop 16)).toNat ++ b.drop 16

/-- FIRE_HOLD of channel 47 in one slot. -/
def goodHold : Bytes := sealed (body 24 [(0, 2, 0xF000), (2, 1, 1), (6, 2, 8), (16, 8, 2 ^ 47)]) ++ pad 40

/-- PING in one slot. -/
def goodPing : Bytes := sealed (body 20 [(0, 2, 0x100), (2, 1, 1), (6, 2, 4)]) ++ pad 44

/-- PING in the immediate slot. -/
def goodImm : Bytes := sealed (body 16 [(0, 2, 0x100), (2, 1, 1)])

/-- The words of the immediate slot. -/
def immOf (b : Bytes) : Vector Word 16 := Vector.ofFn (fun i => w32 (le b (4 * i.val) 4))

/-- An identification frame with its CHECK. -/
def idFrame (b : Bytes) : Bytes := b ++ toBe 2 (crc16 b).toNat

/-- The composition table of a job at store address 0 and nothing else in the store. -/
def withTable (s : State) : State :=
  { s with mem.store := (0, 1) :: (5, 4) :: (List.range 48).map (fun i => (128 + 8 * i, 255)) }

/-- A survey under way. -/
def sr : SurveyRun :=
  { channels := 1, since := 0, stations := [0], moving := false, work := [], awaited := none, repeated := false, roundBad := false, seen := []
    roundSeen := [], roundsDone := 0, roundsAll := 1, percent := 0, classified := 0, dead := 0, weak := 0, shadow := [], roundAt := none }

/-- A survey setup without a service axis. -/
def ss : SurveySetup :=
  { axis := 255, repeats := 1, frameUs := 1000, trigWidth := 100, fireDelay := 0, strobe0 := 1, strobe1 := 2, strobeWidth := 1, win := 1
    minArea := 0, vDead := 0, vWeak := 0, devWeak := 0, pixUm := 0, areaLo := 0, areaHi := 101, stationPos := List.replicate 16 0
    moveMs := List.replicate 16 0, ch := List.replicate 48 { cam := 0, station := 0, x0 := 0, xp := 0, y0 := 0 } }

/-- A state with these trip latches in which a survey of channel 0 can start. -/
def svSt (trips : BitVec 4) : State :=
  (({ rst with health.setup := some ss, ilk.trips := trips } : State).modChan 0 (fun c =>
    { c with attached := true, configured := true, brewS := vset c.brewS 0 { na := 1 } })).modHead 0 (fun x => { x with value := 150 })

/-- Its one channel is ready, warm and in no job. -/
theorem sv_ready (t : BitVec 4) : ∀ n, n < 48 → bit (le (cm 8 [(0, 8, 1)]).params 0 8) n = true →
    ((svSt t).chan n).ready = true ∧ ((svSt t).chan n).sizes ≠ [] ∧ (ss.chan n).cam ≠ 255 ∧ (ss.chan n).station ≤ 15 ∧
      150 ≤ ((svSt t).headSensor n).value ∧ ∀ k j, (svSt t).jobOf n = some k → (svSt t).jobAt k = some j → j.active = false := by
  intro n hn hb
  obtain rfl : n = 0 := by revert n; decide +kernel
  have h : (svSt t).jobOf 0 = none := by rfl
  exact ⟨by rfl, (by intro h; cases h), by decide, by decide, by rfl, fun k j hk _ => by rw [h] at hk; cases hk⟩

/-- An area camera. -/
def us : CamSetup :=
  { flags := 1, bus := 0, context := 0, linePixels := 64, frameLines := 2, posSrc := 0, strobeMode := 0, trigGap := 8, strobeDelay := 0
    strobeWidth := 1, timeoutUs := 1, trigStart := 0, descBase := 0, descLog2 := 4 }

/-- A frame of it of which two lines are to come. -/
def cf : CamFrame :=
  { key := 0, num := 0, setup := us, begun := true, exp := {}, marks := 0, stopped := false, trigLast := 0, endTb := 0, trigTb := 0, trigPos := 0, ctxSeq := 0, ctxBody := []
    triggers := 1, lines := 0, inLines := 2, fullLines := 2, closed := false, overs := [], dropped := 0, crcLines := 0, outs := [], wrote := [], edge := [], edgeOf := 0, rows := [] }

/-- A check bar whose channel 0 has the first part. -/
def barS : CheckBar :=
  { port := 0, enable := true, period := 100, phase := 0, steps := 8, stepLines := 1, drop := 1, hideOn := 1, confirm := 1, recover := 2
    weakOn := 1, invalidPct := 100, minPix := 0, weakPix := 0, win := 1, camOffset := 0, ch := List.replicate 48 (0, 0, 0) }

/-- The three reads of a good OTP word. -/
def w39 (d : Word) : OtpWord := { lo := otpCode d, nom := otpCode d, hi := otpCode d }

/-- A channel's head with calibration words in OTP region 4 (09 R291). -/
def wordsState : State :=
  ({ rst with otp.words := [(1024, w39 0xC4010001), (1025, w39 625000), (1026, w39 69386), (1027, w39 1)] } : State).modChan 47
    (fun c => { c with attached := true, headId := { maker := 1, type := 1 } })

/-- A slot of 500 ticks of group 0, a prepared line and a line whose slot 0 began at 0. -/
def sp : SlotPlan := { groups := [0], fireA := [], fireB := [], len := 500 }
def pe : Period := { line := 0, raw := [], plan := [sp], codes := [], quiet := false, held := false, due := 0, since := 0, cosy := false }
def fi : Firing := { period := { pe with due := 1 }, slot := 0, start := 0, ended := false, mask := 0, fireA := [], fireB := [] }

/-- A rotation of 8 slots. -/
def rot8 : Rotation := { slots := 8, gTable := 4, slotOf := (List.range 32).map (· % 8) }

/-- Lines 0 to 7 in a FIFO. -/
def fifo8 : List FifoLine :=
  [{ line := 0, codes := [] }, { line := 1, codes := [] }, { line := 2, codes := [] }, { line := 3, codes := [] }, { line := 4, codes := [] },
    { line := 5, codes := [] }, { line := 6, codes := [] }, { line := 7, codes := [] }]

/-- A check on the value of an option, where there is one. -/
theorem optAll {α : Type} {o : Option α} {P : α → Prop} [DecidablePred P] (h : (match o with | some x => decide (P x) | none => true) = true) :
    ∀ x, o = some x → P x := by
  cases o <;> simp_all

/-- A check on the value that each element of a list gives, where it gives one. -/
theorem listOpt {α β : Type} {l : List α} {c : α → Option β} {P : α → β → Prop} [∀ x g, Decidable (P x g)]
    (h : l.all (fun x => (c x).all (fun g => decide (P x g))) = true) : ∀ x g, x ∈ l → c x = some g → P x g := by
  intro x g hx hg
  have := List.all_eq_true.mp h x hx
  rw [hg] at this
  simpa using this

/-- No route, none over a port. -/
theorem noRoute {o : Option (Side × Nat)} {p : Side} (h : o = none) : ∀ n, o ≠ some (p, n) := by simp [h]

/-- A property of the one channel of a job. -/
theorem only0 {l : List Nat} {p : Nat → Prop} (h : l = [0]) (h0 : p 0) : ∀ n, n ∈ l → p n := by
  intro n hn; subst h; simp at hn; subst hn; exact h0

/-- Two wrong check bits: uncorrectable. -/
theorem two_wrong : otpCorrect (3 * 2 ^ 32) = none := otpCorrect_even _ (by decide +kernel) (by decide +kernel)

/-- A state whose OTP word 768 has two wrong check bits. -/
def wrongState : State := { rst with otp.words := [(768, { lo := 0, nom := 3 * 2 ^ 32, hi := 0 })], otp.addr := 768 }

/-- The words of `wordsState` as read. -/
theorem otpVal_words :
    wordsState.otpVal 1024 = 0xC4010001 ∧ wordsState.otpVal 1025 = 625000 ∧ wordsState.otpVal 1026 = 69386 ∧ wordsState.otpVal 1027 = 1 := by
  have h (a : Nat) (d : Word) (e : (wordsState.otpWord a).nom = otpCode d) : wordsState.otpVal a = d := by
    simp [State.otpVal, State.otpRead, e, otpCorrect_otpCode]
  exact ⟨h _ _ rfl, h _ _ rfl, h _ _ rfl, h _ _ rfl⟩

/-- The calibration found in them. -/
theorem headEntry_words : wordsState.headEntry 47 = some (625000, 1, 3850, 1) := by
  have hr : List.range 61 = 0 :: (List.range 61).tail := by decide
  have hi : (wordsState.chan 47).headId = { maker := 1, type := 1 } := by decide +kernel
  have hk : wordsState.otp.regionOk.getLsbD 4 = true := by decide +kernel
  obtain ⟨h0, h1, h2, h3⟩ := otpVal_words
  unfold State.headEntry
  rw [hk, hr]; dsimp only
  rw [List.find?_cons_of_pos]
  · simp [otpAddr, h1, h2, h3, bits]
  · simp [otpAddr, h0, h1, h2, h3, hi, bits]

/-- The body of a context with MODE 4 and WHITE 1, as far as it is not zero (08 R276). -/
def plain : Bytes := [4, 0, 0, 0, 0, 0, 0, 0, 1]

/-- A number in a zero tail is 0. -/
theorem le_tail (pre : Bytes) (m off n : Nat) (h : pre.length ≤ off) : le (pre ++ pad m) off n = 0 := by
  unfold le pad
  rw [List.drop_append, List.drop_of_length_le h, List.nil_append, List.drop_replicate, List.take_replicate]
  generalize min n _ = k
  induction k with
  | zero => rfl
  | succ k ih => rw [List.replicate_succ, List.foldr_cons, ih]; rfl

/-- A zero tail is zero. -/
theorem zeros_tail (pre : Bytes) (m off n : Nat) (h : pre.length ≤ off) : zeros (pre ++ pad m) off n = true := by
  unfold zeros pad
  rw [List.drop_append, List.drop_of_length_le h, List.nil_append, List.drop_replicate, List.take_replicate]
  simp

/-- The context is in range (08 R276). -/
theorem plain_ok : contextOk (plain ++ pad 1111) = true := by
  have hl (off n : Nat) (h : 9 ≤ off) : le (plain ++ pad 1111) off n = 0 := le_tail _ _ _ _ (by simpa [plain] using h)
  have hs (off n : Nat) (h : 9 ≤ off) : leS (plain ++ pad 1111) off n = 0 := by
    unfold leS; rw [hl off n h]; simp [sext]
  have hz (off n : Nat) (h : 9 ≤ off) : zeros (plain ++ pad 1111) off n = true := zeros_tail _ _ _ _ (by simpa [plain] using h)
  have a0 : le (plain ++ pad 1111) 0 1 = 4 := rfl
  have a1 : le (plain ++ pad 1111) 1 1 = 0 := rfl
  have a2 : le (plain ++ pad 1111) 2 2 = 0 := rfl
  have a4 : le (plain ++ pad 1111) 4 2 = 0 := rfl
  have a6 : le (plain ++ pad 1111) 6 2 = 0 := rfl
  have a8 : le (plain ++ pad 1111) 8 2 = 1 := rfl
  simp (disch := omega) [contextOk, a0, a1, a2, a4, a6, a8, hl, hs, hz]

/-! ### Worked examples of the spec -/

/-- 02 R46. -/
theorem test_crc32c : crc32c [0x31, 0x32, 0x33, 0x34, 0x35, 0x36, 0x37, 0x38, 0x39] = 0xE3069283 := by decide +kernel

/-- 12 R371. -/
theorem test_crc32 : crc32 [0x31, 0x32, 0x33, 0x34, 0x35, 0x36, 0x37, 0x38, 0x39] = 0xCBF43926 := by decide +kernel

/-- 03 R92: 2,048 nozzles, CLK_DIV 4. -/
theorem test_tShift : ({ nozzles := 2048, clkDiv := 4 } : Chan).tShift 4 = 544 ∧ ({ nozzles := 2048, clkDiv := 4 } : Chan).tShift 2 = 288 := by decide

/-- The brew table of 04, Worked example: encoding and compensating the wristband waveform. -/
def wristband : Brew :=
  { na := 1, tRef := 450, slope := -512, limit := 64, pulseA := [0x0A003C08]
    groupDt := (List.range 32).map (fun g => if g = 3 then 4 else if g = 11 then 2 else if g = 27 then -2 else 0) }

/-- 04 R137, that example: ΔW is −12, and the FIREA main pulse falls at tick 397. -/
theorem test_correction : wristband.correction 510 [3, 11, 19, 27] = -12 ∧ pulseOf (-12) 0x0A003C08 = (640, 4 * 397) := by decide +kernel

/-- 02 R47: 64-byte slots of a packet. -/
theorem test_slots : slotsOf 0 = 1 ∧ slotsOf 48 = 1 ∧ slotsOf 49 = 2 ∧ slotsOf 4080 = 64 := by decide

/-- 11 R362: the state word of DEVELOP. -/
theorem test_stateWord : stateWord 1 = 0xA5C3FE01 := by decide

/-- No row of the table has bits. -/
theorem test_noWords : decodeTableWord 32 0 = none := by decide

/-- A command in front of the queue runs at the next step, with the queue's rest: an address outside the mirror map counts a mirror bus error (14 R445, 15). -/
theorem test_step : ∃ t, step { rst with pending := [.mirrorWriteRejected 0 0, .kettleStall] } = .next t ∧ t.pending = [.kettleStall] ∧ t.counter 5 = 1 :=
  ⟨_, rfl, by decide +kernel, by decide +kernel⟩

/-! ### Terms that WellFormed refuses -/

/-- A well-formed topology frame. -/
def topo0 : Topo :=
  { seq := 0, hops := 7, masters := .one, origin := 0, offer := none, hopsEast := List.replicate 8 none, hopsWest := List.replicate 8 none
    present := List.replicate 8 false, closed := false, sideEast := 0, sideWest := 0 }

/-- An ill-formed term for each check of Instr.wf. -/
theorem test_wf_refuses :
    (Instr.registerWrite .bar0 2 0 0).wf = false ∧ (Instr.registerWrite .bar0 0x10000 0 0).wf = false ∧
    (Instr.loRegisterRead .bar2 0x100000).wf = false ∧ (Instr.ringReadCompletion [0] []).wf = false ∧
    (Instr.fireConfigWrite 0 0x18 0).wf = false ∧ (Instr.shadowWrite 0 0x08 0).wf = false ∧
    (Instr.eventPulse [0x80]).wf = false ∧ (Instr.eventPulse [1, 1]).wf = false ∧
    (Instr.bar4Access 0 none 0 {}).wf = false ∧ (Instr.bar4Access 0 (some [some 1]) 2 {}).wf = false ∧
    (Instr.mirrorWriteRejected 0xFF0 0).wf = false ∧ (Instr.mirrorWriteRejected 0xFF3 0xE5E5).wf = false ∧
    (Instr.preparationPoint 0 ⟨[128], [], []⟩).wf = false ∧ (Instr.lineComposed 0 0 ⟨[(4, 0)], [], []⟩).wf = false ∧
    (Instr.preparationPoint 3 ⟨[], [.fifo 4 0], []⟩).wf = false ∧ (Instr.lineComposed 0 0 ⟨[], [.working], []⟩).wf = false ∧
    (Instr.preparationPoint 0 ⟨[], [], [8192]⟩).wf = false ∧ (Instr.lineComposed 0 0 ⟨[], [], [8192]⟩).wf = false ∧
    (Instr.pcieLinkUp 4 4).wf = false ∧ (Instr.pcieLinkUp 3 3).wf = false ∧ (Instr.statsRead { toCmd := cm 8 [], errors := ⟨[65536], []⟩ }).wf = false ∧
    (Instr.thermalMeasurement (.die 0) 32768).wf = false ∧ (Instr.strainerBarObserved 0 (2 ^ 32)).wf = false ∧
    (Instr.camLine 0 [65536] { trailer := 0 }).wf = false ∧ (Instr.camLine 0 [] { trailer := 0, errors := ⟨[], [65536]⟩ }).wf = false ∧
    (Instr.topoBreakNotice .east { topo0 with hopsEast := [] }).wf = false ∧ (Instr.topoBreakNotice .east { topo0 with hopsWest := [] }).wf = false ∧
    (Instr.topoEnumeration .east { topo0 with present := [] }).wf = false ∧ (Instr.topoEnumeration .east { topo0 with hops := 0 }).wf = false ∧
    (Instr.topoEnumeration .east { topo0 with hops := 8 }).wf = false ∧
    (Instr.pos .east { typ := 2, dest := 0xFE, seq := 0, payload := [] }).wf = false ∧
    (Instr.sync .east { typ := 2, dest := 0xFE, seq := 0, payload := [0] }).wf = false := by decide +kernel

/-- Long terms. -/
theorem test_wf_refuses_long :
    (Instr.ping { flags := 0, target := 0, tag := 0, params := List.replicate 65536 0 }).wf = false ∧
    (Instr.idAnswer 0 { codeError := false, bytes := List.replicate 256 0 }).wf = false := by
  simp only [Instr.wf, Cmd.wf, List.length_replicate]; decide

/-- Well-formed terms. -/
theorem test_wf_accepts :
    (Instr.registerWrite .bar2 0xFFFFC 0 0xF).wf = true ∧ (Instr.eventPulse [1, 0x70]).wf = true ∧ (Instr.mirrorWriteRejected 0xFF3 0).wf = true ∧ (Instr.topoEnumeration .east topo0).wf = true ∧ (Instr.pcieLinkUp 3 4).wf = true ∧
    (Instr.pos .east { typ := 1, dest := 0xFE, seq := 0, payload := pad 28 }).wf = true := by decide +kernel

/-! ### A witness for every statement with hypotheses -/

/-- A state and operands for each clause of Obligations.StepRunsFrontCommand. -/
theorem witness_StepRunsFrontCommand :
    ∃ (c : Instr), ∃ (r : List Instr), ∃ (s : State), s.pending = c :: r :=
    ⟨.kettleStall, [], { rst with pending := [.kettleStall] }, by decide +kernel⟩

/-- A state and operands for each clause of Obligations.IdleTickCounts. -/
theorem witness_IdleTickCounts :
    (∃ (s : State), s.pending = [] ∧ s.inRunIdle = false) ∧
    (∃ (s : State), s.pending = [] ∧ s.inRunIdle = true ∧ s.link.rate = 0 ∧ s.link.tbFrac = 0 ∧ s.inj.released = none ∧ s.pe.queue = [] ∧ s.fab.due = [] ∧ ((∀ n, n < 48 → (s.chan n).taken = none ∧ (s.chan n).armed ≠ some .idle)) ∧ s.fab.raised = []) ∧
    (∃ (s : State), ∃ k, ∃ l, s.pending = [] ∧ s.inRunIdle = true ∧ s.link.rate = 0 ∧ s.link.tbFrac = 0 ∧ s.inj.released = none ∧ s.pe.queue = [] ∧ s.fab.due = [] ∧ ((∀ n, n < 48 → (s.chan n).taken = none ∧ (s.chan n).armed ≠ some .idle)) ∧ s.fab.raised = [k] ∧ k < 0x80 ∧ sourceId k = true ∧ vget s.fab.src k {} = { en := true, line := l } ∧ ((∀ d, d < 128 → (vget s.fab.dst d {}).en = true → (vget s.fab.dst d {}).line ≠ l)) ∧ (coreSource k = true ∨ 0 < s.fab.aged)) ∧
    (∃ (s : State), ∃ k, ∃ l, s.pending = [] ∧ s.inRunIdle = true ∧ s.link.rate = 0 ∧ s.link.tbFrac = 0 ∧ s.inj.released = none ∧ s.pe.queue = [] ∧ s.fab.due = [] ∧ ((∀ n, n < 48 → (s.chan n).taken = none ∧ (s.chan n).armed ≠ some .idle)) ∧ s.fab.raised = [k] ∧ k < 0x80 ∧ sourceId k = true ∧ vget s.fab.src k {} = { en := true, line := l } ∧ ((∀ d, d < 128 → (vget s.fab.dst d {}).en = true → (vget s.fab.dst d {}).line ≠ l)) ∧ coreSource k = false ∧ s.fab.aged = 0) ∧
    (∃ (s : State), ∃ k, ∃ c, s.pending = [] ∧ s.inRun = true ∧ s.link.rate = 0 ∧ s.link.tbFrac = 0 ∧ s.inj.released = none ∧ s.pe.queue = [] ∧ s.fab.raised = [] ∧ ((∀ n, n < 48 → (s.chan n).taken = none ∧ (s.chan n).armed ≠ some .idle)) ∧ k < 8 ∧ s.fab.due = [(0x18 + k, c)] ∧ s.isPend (0x18 + k) = true ∧ (s.axis k).configured = false ∧ c ≤ s.clock + 1) ∧
    (∃ (s : State), ∃ k, ∃ c, s.pending = [] ∧ s.inRun = true ∧ s.link.rate = 0 ∧ s.link.tbFrac = 0 ∧ s.inj.released = none ∧ s.pe.queue = [] ∧ s.fab.raised = [] ∧ ((∀ n, n < 48 → (s.chan n).taken = none ∧ (s.chan n).armed ≠ some .idle)) ∧ k < 8 ∧ s.fab.due = [(0x18 + k, c)] ∧ s.isPend (0x18 + k) = true ∧ (s.axis k).configured = false ∧ s.clock + 1 < c) :=
    ⟨⟨{ rst with pwr.state := .sleep }, by decide +kernel⟩,
    ⟨rst, by decide +kernel⟩,
    ⟨{ rst with fab.raised := [1], fab.src := vset rst.fab.src 1 { en := true, line := 63 } }, 1, 63, by decide +kernel⟩,
    ⟨{ rst with fab.raised := [0x1D], fab.src := vset rst.fab.src 0x1D { en := true, line := 63 } }, 0x1D, 63, by decide +kernel⟩,
    ⟨(State.setPend ({ rst with fab.due := [(31, 1)] }) 31 true), 7, 1, by decide +kernel⟩,
    ⟨(State.setPend ({ rst with fab.due := [(31, 2)] }) 31 true), 7, 2, by decide +kernel⟩⟩

/-- A state and operands for each clause of Obligations.ResetHoldsSpecValues. -/
theorem witness_ResetHoldsSpecValues :
    (∃ k, k < 128) ∧
    (∃ j, j < 4) ∧
    (∃ n, n < 8) ∧
    (∃ n, n < 48) :=
    ⟨⟨127, by decide +kernel⟩,
    ⟨3, by decide +kernel⟩,
    ⟨7, by decide +kernel⟩,
    ⟨47, by decide +kernel⟩⟩

/-- A state and operands for each clause of Obligations.CrcIsCrc32C. -/
theorem witness_CrcIsCrc32C :
    ∃ (s : State), ∃ (r : Reply), r.raw = [] ∧ r.params.length ≤ 4080 :=
    ⟨rst, { opcode := 0x100, tag := 7, status := 0, params := [1, 2, 3, 4] }, by decide +kernel⟩

/-- A state and operands for each clause of Obligations.RepliesAreWritten. -/
theorem witness_RepliesAreWritten :
    (∃ (s : State), ∃ (p : Packet), ∃ (params : Bytes), ∃ i, p.wantReply = true ∧ s.pe.hold = [] ∧ s.pe.kettleWait = [] ∧ s.pe.stalled = false ∧ s.pe.rebooting = false ∧ s.pe.rpl.en = true ∧ s.host.bme = true ∧ swf 0 s.host.mem = true ∧ s.vectorOpen 0 = false ∧ params.length ≤ 4080 ∧ slotsOf params.length ≤ s.pe.rpl.free ∧ s.pe.rpl.tail + slotsOf params.length ≤ s.pe.rpl.slots ∧ i < 64 * slotsOf params.length) ∧
    (∃ (s : State), ∃ (p : Packet), ∃ (params : Bytes), ∃ a, p.wantReply = true ∧ s.pe.hold = [] ∧ s.pe.kettleWait = [] ∧ s.pe.stalled = false ∧ s.pe.rebooting = false ∧ s.pe.rpl.en = true ∧ s.host.bme = true ∧ swf 0 s.host.mem = true ∧ s.vectorOpen 0 = false ∧ params.length ≤ 4080 ∧ slotsOf params.length ≤ s.pe.rpl.free ∧ s.pe.rpl.tail + slotsOf params.length ≤ s.pe.rpl.slots ∧ (a < s.pe.rpl.base.toNat + 64 * s.pe.rpl.tail ∨ s.pe.rpl.base.toNat + 64 * (s.pe.rpl.tail + slotsOf params.length) ≤ a)) ∧
    (∃ (s : State), ∃ (r : Reply), r.raw = [] ∧ r.params.length ≤ 4080 ∧ s.deviceId < 256 ∧ s.pe.queue.length < 65536) ∧
    (∃ (s : State), ∃ (p : Packet), ∃ (params : Bytes), p.wantReply = true ∧ s.shot 1 = false ∧ s.pe.kettleWait = [] ∧ s.pe.stalled = false ∧ s.pe.rebooting = false ∧ ((s.pe.rpl.en = false ∨ s.host.bme = false ∨ s.pe.rpl.free = 0)) ∧ s.pe.hold.length < 32) ∧
    (∃ (s : State), ∃ (p : Packet), ∃ (params : Bytes), p.wantReply = true ∧ s.shot 1 = false ∧ s.pe.kettleWait = [] ∧ s.pe.stalled = false ∧ s.pe.rebooting = false ∧ ((s.pe.rpl.en = false ∨ s.host.bme = false ∨ s.pe.rpl.free = 0)) ∧ 32 ≤ s.pe.hold.length) ∧
    (∃ (s : State), ∃ (r : Reply), ∃ (v : Word), s.Awake ∧ s.shot 4 = false ∧ s.pe.hold = [r] ∧ s.pe.kettleWait = [] ∧ r.raw = [] ∧ r.params.length ≤ 48 ∧ s.pe.rpl.en = true ∧ s.host.bme = true ∧ swf 0 s.host.mem = true ∧ s.vectorOpen 0 = false ∧ s.pe.rpl.tail < s.pe.rpl.slots ∧ v.toNat % 4096 < s.pe.rpl.slots ∧ v.toNat % 4096 ≠ (s.pe.rpl.tail + 1) % s.pe.rpl.slots) :=
    ⟨⟨{ rst with pe.rpl.en := true, pe.rpl.base := 0x1000, host.bme := true }, (pk 0x100 4), [1, 2, 3, 4], 63, by decide +kernel⟩,
    ⟨{ rst with pe.rpl.en := true, pe.rpl.base := 0x1000, host.bme := true }, (pk 0x100 4), [1, 2, 3, 4], 4095, by decide +kernel⟩,
    ⟨rst, { opcode := 0x100, tag := 7, status := 0, params := [1, 2, 3, 4] }, by decide +kernel⟩,
    ⟨rst, (pk 0x100 4), [1, 2, 3, 4], by decide +kernel⟩,
    ⟨{ rst with pe.hold := List.replicate 32 { opcode := 0x100, tag := 7, status := 0, params := [1, 2, 3, 4] } }, (pk 0x100 4), [1, 2, 3, 4], by decide +kernel⟩,
    ⟨{ rst with pe.hold := [{ opcode := 0x100, tag := 7, status := 0, params := [1, 2, 3, 4] }], pe.rpl.en := true, pe.rpl.base := 0x1000, host.bme := true }, { opcode := 0x100, tag := 7, status := 0, params := [1, 2, 3, 4] }, 5, by unfold State.Awake; decide +kernel⟩⟩

/-- A state and operands for each clause of Obligations.FirstFailingCheckAnswers. -/
theorem witness_FirstFailingCheckAnswers :
    (∃ (s : State), ∃ (p : Packet), (p.length % 4 ≠ 0 ∨ 4080 < p.length)) ∧
    (∃ (s : State), ∃ (p : Packet), p.length % 4 = 0 ∧ p.length ≤ 4080 ∧ p.opcode.toNat ∉ opcodes) ∧
    (∃ (s : State), ∃ (p : Packet), p.length % 4 = 0 ∧ p.length ≤ 4080 ∧ p.opcode.toNat ∈ opcodes ∧ ((8 ≤ p.flags.toNat ∨ (p.broadcast = true ∧ p.target ≠ 0xFF) ∨ (p.broadcast = false ∧ p.target = 0xFF) ∨ (8 ≤ p.target.toNat ∧ p.target ≠ 0xFF)))) ∧
    (∃ (s : State), ∃ (p : Packet), p.length % 4 = 0 ∧ p.length ≤ 4080 ∧ p.opcode.toNat ∈ opcodes ∧ p.headerOk = true ∧ p.target.toNat = s.deviceId ∧ lengthOk p.opcode.toNat p.length p.params = false) ∧
    (∃ (s : State), ∃ (p : Packet), p.length % 4 = 0 ∧ p.length ≤ 4080 ∧ p.opcode.toNat ∈ opcodes ∧ p.headerOk = true ∧ p.target ≠ 0xFF ∧ p.target.toNat ≠ s.deviceId ∧ ((s.link.id = none ∨ s.routeTo p.target.toNat = none ∨ (s.link.conflict = true ∧ p.hardware = false ∧ p.target ≠ 0)))) ∧
    (∃ (s : State), ∃ (p : Packet), ∃ (seq : Nat), s.otp.wires.lifecycle = 4 ∧ p.opcode.toNat ∉ [0x0100, 0x0101, 0x0900, 0x0A00, 0x0A01]) ∧
    (∃ (s : State), ∃ (p : Packet), ∃ (seq : Nat), ∃ slot, ∃ j, s.otp.wires.lifecycle ≠ 4 ∧ s.jobSlot (BitVec.ofNat 16 (le p.params 0 2)) = some slot ∧ s.jobAt slot = some j ∧ (p.opcode = 0x0302 ∨ p.opcode = 0x0304) ∧ s.tripped = true) ∧
    (∃ (s : State), ∃ (p : Packet), ∃ (seq : Nat), ∃ slot, ∃ j, let waits : Prop := le p.params 2 2 % 2 = 1; let cold : Prop := ∃ n, n ∈ j.chans ∧ (s.headSensor n).value < 150; let latched : Prop := ∃ n, n ∈ j.chans ∧ s.shutdownLatched n = true; s.otp.wires.lifecycle ≠ 4 ∧ s.jobSlot (BitVec.ofNat 16 (le p.params 0 2)) = some slot ∧ s.jobAt slot = some j ∧ (p.opcode = 0x0302 ∨ p.opcode = 0x0304) ∧ s.tripped = false ∧ (((¬ waits ∧ cold) ∨ (p.opcode = 0x0304 ∧ latched)))) ∧
    (∃ (s : State), ∃ (p : Packet), ∃ (seq : Nat), ∃ slot, ∃ j, let waits : Prop := le p.params 2 2 % 2 = 1; let cold : Prop := ∃ n, n ∈ j.chans ∧ (s.headSensor n).value < 150; let latched : Prop := ∃ n, n ∈ j.chans ∧ s.shutdownLatched n = true; s.otp.wires.lifecycle ≠ 4 ∧ s.jobSlot (BitVec.ofNat 16 (le p.params 0 2)) = some slot ∧ s.jobAt slot = some j ∧ (p.opcode = 0x0302 ∨ p.opcode = 0x0304) ∧ s.tripped = false ∧ (¬ ((¬ waits ∧ cold) ∨ (p.opcode = 0x0304 ∧ latched))) ∧ s.link.conflict = true) ∧
    (∃ (s : State), ∃ (p : Packet), ∃ (seq : Nat), ∃ n, s.otp.wires.lifecycle ≠ 4 ∧ p.opcode = 0x0600 ∧ s.tripped = false ∧ n < 48 ∧ bit (le p.params 0 8) n = true ∧ (s.chan n).attached = true ∧ (s.headSensor n).value < 150) :=
    ⟨⟨rst, { pk 0x100 4 with length := 4084 }, by decide +kernel⟩,
    ⟨rst, (pk 0x0102 4), by decide +kernel⟩,
    ⟨rst, { pk 0x100 4 with target := 8 }, by decide +kernel⟩,
    ⟨rst, (pk 0x0101 4), by decide +kernel⟩,
    ⟨rst, { pk 0x100 4 with target := 3 }, by decide +kernel⟩,
    ⟨{ rst with otp.wires.lifecycle := 4 }, (pk 0x0302 12), 0, by decide +kernel⟩,
    ⟨(withJob rst (jb)), { pk 0x0302 12 with params := body 12 [(0, 2, 1)] }, 0, 0, jb, by decide +kernel⟩,
    ⟨(withJob ((State.modHead ({ rst with ilk.trips := 0 }) 0 (fun x => { x with value := 149 }))) (jb)), { pk 0x0302 12 with params := body 12 [(0, 2, 1)] }, 0, 0, jb, by dsimp only; decide +kernel⟩,
    ⟨(withJob ((State.modHead ({ rst with ilk.trips := 0, link.conflict := true }) 0 (fun x => { x with value := 150 }))) (jb)), { pk 0x0304 12 with params := body 12 [(0, 2, 1)] }, 0, 0, jb, by dsimp only; decide +kernel⟩,
    ⟨(((State.modHead ({ rst with ilk.trips := 0 }) 47 (fun x => { x with value := 149 })) : State).modChan 47 (fun c => { c with attached := true })), { pk 0x0600 12 with params := body 12 [(0, 8, 2 ^ 47)] }, 0, 47, by decide +kernel⟩⟩

/-- A state and operands for each clause of Obligations.KettleQueueTakesSixtyFour. -/
theorem witness_KettleQueueTakesSixtyFour :
    (∃ (s : State), ∃ (p : Packet), ∃ (seq : Nat), (s.pe.stalled = true ∨ 64 ≤ s.pe.queue.length)) ∧
    (∃ (s : State), ∃ (p : Packet), ∃ (seq : Nat), s.pe.stalled = false ∧ s.pe.romFail = false ∧ s.pe.queue.length < 64) :=
    ⟨⟨{ rst with pe.queue := List.replicate 64 { pkt := pk 0x100 4, src := .ring, seq := 0 } }, (pk 0x100 4), 0, by decide +kernel⟩,
    ⟨{ rst with pe.queue := List.replicate 63 { pkt := pk 0x100 4, src := .ring, seq := 0 } }, (pk 0x100 4), 0, by decide +kernel⟩⟩

/-- A state and operands for each clause of Obligations.SystemQueriesAnswer. -/
theorem witness_SystemQueriesAnswer :
    (∃ (c : Cmd), ∃ (s : State), s.KettleTakes 0x0100 c) ∧
    (∃ (c : Cmd), ∃ (s : State), s.KettleTakes 0x0101 c) ∧
    (∃ (c : Cmd), ∃ (s : State), s.KettleTakes 0x0900 c ∧ le c.params 0 1 ≤ 127 ∧ 0 < le c.params 1 1 ∧ le c.params 0 1 + le c.params 1 1 ≤ 128 ∧ zeros c.params 2 2 = true) :=
    ⟨⟨(cm 4 []), rst, by unfold State.KettleTakes State.Addressed; decide +kernel⟩,
    ⟨(cm 0 []), rst, by unfold State.KettleTakes State.Addressed; decide +kernel⟩,
    ⟨(cm 4 [(0, 1, 127), (1, 1, 1)]), rst, by unfold State.KettleTakes State.Addressed; decide +kernel⟩⟩

/-- A state and operands for each clause of Obligations.HardwareOpcodesTakeEffect. -/
theorem witness_HardwareOpcodesTakeEffect :
    (∃ (c : Cmd), ∃ (s : State), s.Awake ∧ s.Addressed 0xF000 c ∧ channelsOk (le c.params 0 8) = true) ∧
    (∃ (c : Cmd), ∃ (s : State), s.Awake ∧ s.Addressed 0xF001 c ∧ channelsOk (le c.params 0 8) = true) ∧
    (∃ (c : Cmd), ∃ (s : State), s.Awake ∧ s.Addressed 0xF002 c) ∧
    (∃ (c : Cmd), ∃ (s : State), s.Awake ∧ s.Addressed 0xF003 c ∧ swf 0 s.mirror.sram = true) :=
    ⟨⟨(cm 8 [(0, 8, 2 ^ 47)]), rst, by unfold State.Addressed State.Awake; decide +kernel⟩,
    ⟨(cm 8 [(0, 8, 1)]), rst, by unfold State.Addressed State.Awake; decide +kernel⟩,
    ⟨(cm 0 []), rst, by unfold State.Addressed State.Awake; decide +kernel⟩,
    ⟨(cm 0 []), rst, by unfold State.Addressed State.Awake; decide +kernel⟩⟩

/-- A state and operands for each clause of Obligations.RingIndexWrites. -/
theorem witness_RingIndexWrites :
    (∃ (v : Word), ∃ (s : State), s.Awake ∧ s.shot 4 = false ∧ v.toNat % 4096 < s.pe.cmd.slots) ∧
    (∃ (v : Word), ∃ (s : State), s.Awake ∧ s.shot 4 = false ∧ s.pe.cmd.slots ≤ v.toNat % 4096) ∧
    (∃ (v : Word), ∃ (s : State), s.Awake ∧ s.shot 4 = false ∧ v.toNat % 4096 < s.pe.rpl.slots) ∧
    (∃ (v : Word), ∃ (s : State), s.Awake ∧ s.shot 4 = false ∧ s.pe.rpl.slots ≤ v.toNat % 4096) ∧
    (∃ (v : Word), ∃ (s : State), s.Awake ∧ s.shot 4 = false ∧ v.toNat % 4096 < s.pe.evt.slots) ∧
    (∃ (v : Word), ∃ (s : State), s.Awake ∧ s.shot 4 = false ∧ s.pe.evt.slots ≤ v.toNat % 4096) :=
    ⟨⟨255, rst, by unfold State.Awake; decide +kernel⟩,
    ⟨256, rst, by unfold State.Awake; decide +kernel⟩,
    ⟨255, rst, by unfold State.Awake; decide +kernel⟩,
    ⟨256, rst, by unfold State.Awake; decide +kernel⟩,
    ⟨255, rst, by unfold State.Awake; decide +kernel⟩,
    ⟨256, rst, by unfold State.Awake; decide +kernel⟩⟩

/-- A state and operands for each clause of Obligations.RingEnables. -/
theorem witness_RingEnables :
    ∃ (s : State), s.Awake ∧ s.shot 4 = false :=
    ⟨rst, by unfold State.Awake; decide +kernel⟩

/-- A state and operands for each clause of Obligations.ImmediateSlot. -/
theorem witness_ImmediateSlot :
    (∃ (s : State), ∃ (v : BitVec 16), s.Awake ∧ s.shot 4 = false ∧ s.shot 5 = false ∧ s.pe.immBusy = true ∧ v.getLsbD 0 = true) ∧
    (∃ (s : State), ∃ (v : Word), let b := s.pe.immSlot.toList.flatMap (fun (w : Word) => toLe 4 w.toNat); let p := packetOf b; s.Awake ∧ s.shot 4 = false ∧ s.shot 5 = false ∧ s.pe.immBusy = false ∧ v.getLsbD 0 = true ∧ p.length ≤ 48 ∧ crcOk b = true) ∧
    (∃ (s : State), ∃ (v : Word), let b := s.pe.immSlot.toList.flatMap (fun (w : Word) => toLe 4 w.toNat); let p := packetOf b; s.Awake ∧ s.shot 4 = false ∧ s.shot 5 = false ∧ s.pe.immBusy = false ∧ v.getLsbD 0 = true ∧ p.length ≤ 48 ∧ crcOk b = false) ∧
    (∃ (s : State), ∃ (v : Word), let b := s.pe.immSlot.toList.flatMap (fun (w : Word) => toLe 4 w.toNat); let p := packetOf b; s.Awake ∧ s.shot 4 = false ∧ s.shot 5 = false ∧ s.pe.immBusy = false ∧ v.getLsbD 0 = true ∧ 48 < p.length) ∧
    (∃ (s : State), ∃ (v : Word), s.Awake ∧ s.shot 4 = false ∧ s.shot 5 = false ∧ s.pe.immBusy = false ∧ v.getLsbD 0 = false) ∧
    (∃ (s : State), ∃ (v : BitVec 16), let b := s.pe.immSlot.toList.flatMap (fun (w : Word) => toLe 4 w.toNat); let p := packetOf b; s.Awake ∧ s.shot 4 = false ∧ s.shot 5 = false ∧ s.pe.immBusy = false ∧ v.getLsbD 0 = true ∧ p.length ≤ 48 ∧ crcOk b = true) ∧
    (∃ (s : State), ∃ (v : BitVec 16), let b := s.pe.immSlot.toList.flatMap (fun (w : Word) => toLe 4 w.toNat); let p := packetOf b; s.Awake ∧ s.shot 4 = false ∧ s.shot 5 = false ∧ s.pe.immBusy = false ∧ v.getLsbD 0 = true ∧ p.length ≤ 48 ∧ crcOk b = false) ∧
    (∃ (s : State), ∃ (v : BitVec 16), let b := s.pe.immSlot.toList.flatMap (fun (w : Word) => toLe 4 w.toNat); let p := packetOf b; s.Awake ∧ s.shot 4 = false ∧ s.shot 5 = false ∧ s.pe.immBusy = false ∧ v.getLsbD 0 = true ∧ 48 < p.length) ∧
    (∃ (s : State), ∃ (v : BitVec 16), s.Awake ∧ s.shot 4 = false ∧ s.shot 5 = false ∧ v.getLsbD 0 = false) :=
    ⟨⟨{ rst with pe.immBusy := true }, 1, by unfold State.Awake; decide +kernel⟩,
    ⟨{ rst with pe.immSlot := immOf goodImm }, 1, by dsimp only; unfold State.Awake; decide +kernel⟩,
    ⟨rst, 1, by dsimp only; unfold State.Awake; decide +kernel⟩,
    ⟨{ rst with pe.immSlot := immOf (pad 6 ++ toLe 2 52) }, 1, by dsimp only; unfold State.Awake; decide +kernel⟩,
    ⟨rst, 2, by unfold State.Awake; decide +kernel⟩,
    ⟨{ rst with pe.immSlot := immOf goodImm }, 1, by dsimp only; unfold State.Awake; decide +kernel⟩,
    ⟨rst, 1, by dsimp only; unfold State.Awake; decide +kernel⟩,
    ⟨{ rst with pe.immSlot := immOf (pad 6 ++ toLe 2 52) }, 1, by dsimp only; unfold State.Awake; decide +kernel⟩,
    ⟨rst, 2, by unfold State.Awake; decide +kernel⟩⟩

/-- A state and operands for each clause of Obligations.RingFetch. -/
theorem witness_RingFetch :
    (∃ (s : State), ∃ (f : Fetch), ∃ (e : ReadError), s.inRun = true ∧ s.pe.fetch = some f ∧ ((e = .timeout → s.host.ctl.timeoutOff = false))) ∧
    (∃ (s : State), ∃ (f : Fetch), s.inRun = true ∧ s.pe.fetch = some f ∧ s.host.ctl.timeoutOff = true) ∧
    (∃ (s : State), ∃ (f : Fetch), ∃ (d r : Bytes), let left := (f.stop + s.pe.cmd.slots - f.next) % s.pe.cmd.slots; let b := f.buf ++ d; let n := extentOf b; s.inRun = true ∧ s.pe.fetch = some f ∧ s.host.bme = true ∧ s.shot 0 = false ∧ f.buf.length % 64 = 0 ∧ d ≠ [] ∧ d.length % 64 = 0 ∧ d.length < 64 * left ∧ b.length < 64 * n) ∧
    (∃ (s : State), ∃ (f : Fetch), ∃ (d r : Bytes), let left := (f.stop + s.pe.cmd.slots - f.next) % s.pe.cmd.slots; let b := f.buf ++ d; let n := extentOf b; let waits (p : Packet) : Prop := s.packetCheck p .ring = none ∧ s.isRemote p .ring = false ∧ p.hardware = false ∧ s.pe.stalled = false ∧ s.pe.romFail = false ∧ s.pe.queue.length < 64; s.inRun = true ∧ s.pe.fetch = some f ∧ s.host.bme = true ∧ s.shot 0 = false ∧ f.buf.length % 64 = 0 ∧ d ≠ [] ∧ d.length % 64 = 0 ∧ d.length = 64 * left ∧ b.length = 64 * n ∧ f.stop = s.pe.cmd.tail ∧ crcOk b = true ∧ waits (packetOf b)) ∧
    (∃ (s : State), ∃ (f : Fetch), ∃ (d r : Bytes), let left := (f.stop + s.pe.cmd.slots - f.next) % s.pe.cmd.slots; let b := f.buf ++ d; let n := extentOf b; let waits (p : Packet) : Prop := s.packetCheck p .ring = none ∧ s.isRemote p .ring = false ∧ p.hardware = false ∧ s.pe.stalled = false ∧ s.pe.romFail = false ∧ s.pe.queue.length < 64; s.inRun = true ∧ s.pe.fetch = some f ∧ s.host.bme = true ∧ s.shot 0 = false ∧ f.buf.length % 64 = 0 ∧ d ≠ [] ∧ d.length % 64 = 0 ∧ d.length = 64 * left ∧ b.length = 64 * n ∧ f.stop = s.pe.cmd.tail ∧ crcOk b = false ∧ r.length = b.length ∧ crcOk r = true ∧ extentOf r = n ∧ waits (packetOf r)) ∧
    (∃ (s : State), ∃ (f : Fetch), ∃ (d r : Bytes), let left := (f.stop + s.pe.cmd.slots - f.next) % s.pe.cmd.slots; let b := f.buf ++ d; let n := extentOf b; s.inRun = true ∧ s.pe.fetch = some f ∧ s.host.bme = true ∧ s.shot 0 = false ∧ f.buf.length % 64 = 0 ∧ d ≠ [] ∧ d.length % 64 = 0 ∧ d.length = 64 * left ∧ b.length = 64 * n ∧ f.stop = s.pe.cmd.tail ∧ crcOk b = true ∧ (packetOf b).opcode = 0xF000 ∧ s.packetCheck (packetOf b) .ring = none ∧ (packetOf b).target.toNat = s.deviceId ∧ channelsOk (le (packetOf b).params 0 8) = true) ∧
    (∃ (s : State), ∃ (f : Fetch), ∃ (d r : Bytes), let left := (f.stop + s.pe.cmd.slots - f.next) % s.pe.cmd.slots; let b := f.buf ++ d; let n := extentOf b; s.inRun = true ∧ s.pe.fetch = some f ∧ s.host.bme = true ∧ s.shot 0 = false ∧ f.buf.length % 64 = 0 ∧ d ≠ [] ∧ d.length % 64 = 0 ∧ d.length = 64 * left ∧ b.length = 64 * n ∧ f.stop = s.pe.cmd.tail ∧ crcOk b = false ∧ r.length = b.length ∧ crcOk r = false ∧ s.pe.cmd.tail < s.pe.cmd.slots) :=
    ⟨⟨{ rst with host.bme := true, pe.cmd.en := true, pe.cmd.tail := 1, pe.fetch := some { next := 0, stop := 1, buf := [] } }, { next := 0, stop := 1, buf := [] }, .abort, by decide +kernel⟩,
    ⟨{ { rst with host.bme := true, pe.cmd.en := true, pe.cmd.tail := 1, pe.fetch := some { next := 0, stop := 1, buf := [] } } with host.ctl.timeoutOff := true }, { next := 0, stop := 1, buf := [] }, by decide +kernel⟩,
    ⟨{ rst with host.bme := true, pe.cmd.en := true, pe.cmd.tail := 2, pe.fetch := some { next := 0, stop := 2, buf := [] } }, { next := 0, stop := 2, buf := [] }, (pad 6 ++ toLe 2 52 ++ pad 56), [], by dsimp only; decide +kernel⟩,
    ⟨{ rst with host.bme := true, pe.cmd.en := true, pe.cmd.tail := 1, pe.fetch := some { next := 0, stop := 1, buf := [] } }, { next := 0, stop := 1, buf := [] }, goodPing, [], by dsimp only; decide +kernel⟩,
    ⟨{ rst with host.bme := true, pe.cmd.en := true, pe.cmd.tail := 1, pe.fetch := some { next := 0, stop := 1, buf := [] } }, { next := 0, stop := 1, buf := [] }, (pad 64), goodPing, by dsimp only; decide +kernel⟩,
    ⟨{ rst with host.bme := true, pe.cmd.en := true, pe.cmd.tail := 1, pe.fetch := some { next := 0, stop := 1, buf := [] } }, { next := 0, stop := 1, buf := [] }, goodHold, [], by dsimp only; decide +kernel⟩,
    ⟨{ rst with host.bme := true, pe.cmd.en := true, pe.cmd.head := 255, pe.cmd.tail := 0, pe.fetch := some { next := 255, stop := 0, buf := [] } }, { next := 255, stop := 0, buf := [] }, (pad 64), (pad 64), by dsimp only; decide +kernel⟩⟩

/-- A state and operands for each clause of Obligations.KettleTakesStallsRecovers. -/
theorem witness_KettleTakesStallsRecovers :
    (∃ (s : State), ∃ (q : QPacket), ∃ (r : List QPacket), s.kettleFree = true ∧ s.pe.queue = q :: r ∧ s.mustWait q = false) ∧
    (∃ (s : State), ∃ (q : QPacket), ∃ (r : List QPacket), s.pe.queue = q :: r ∧ s.mustWait q = true) ∧
    (∃ (s : State), ∃ (q : QPacket), ∃ (r : List QPacket), s.inRun = true ∧ s.pe.stalled = false ∧ s.pe.queue = q :: r ∧ s.mustWait q = false ∧ s.pe.takeFrom + 5 * 400000 ≤ s.clock) ∧
    (∃ (s : State), ∃ (q : QPacket), ∃ (r : List QPacket), s.pe.queue = q :: r ∧ s.clock < s.pe.takeFrom + 5 * 400000) ∧
    (∃ (s : State), s.inRun = true ∧ s.pe.rebooting = false ∧ s.pe.romFail = false ∧ s.pe.stalled = true) ∧
    (∃ (s : State), ∃ (k : Fin 101), s.inRun = true) :=
    ⟨⟨{ rst with pe.queue := [{ pkt := pk 0x100 4, src := .ring, seq := 0 }] }, { pkt := pk 0x100 4, src := .ring, seq := 0 }, [], by decide +kernel⟩,
    ⟨{ rst with pe.queue := [{ pkt := { pk 0x100 4 with flags := 2 }, src := .ring, seq := 1 }], pe.ops := [{ kind := .survey, pkt := pk 0x600 8, src := .ring, seq := 0 }] }, { pkt := { pk 0x100 4 with flags := 2 }, src := .ring, seq := 1 }, [], by decide +kernel⟩,
    ⟨{ rst with clock := 2000000, pe.queue := [{ pkt := pk 0x100 4, src := .ring, seq := 0 }] }, { pkt := pk 0x100 4, src := .ring, seq := 0 }, [], by decide +kernel⟩,
    ⟨{ rst with clock := 1999999, pe.queue := [{ pkt := pk 0x100 4, src := .ring, seq := 0 }] }, { pkt := pk 0x100 4, src := .ring, seq := 0 }, [], by decide +kernel⟩,
    ⟨{ rst with pe.stalled := true }, by decide +kernel⟩,
    ⟨rst, 100, by decide +kernel⟩⟩

/-- A state and operands for each clause of Obligations.RegisterAccess. -/
theorem witness_RegisterAccess :
    (∃ (bar : Bar), ∃ (off : Nat), ∃ (v : Word), ∃ (s : State), ∃ (be : BitVec 4), s.Awake ∧ s.shot 4 = false ∧ be ≠ 0xF) ∧
    (∃ (bar : Bar), ∃ (off : Nat), ∃ (v : Word), ∃ (s : State), s.Awake ∧ s.shot 4 = false ∧ off % 4 = 0 ∧ writable bar off = false) ∧
    (∃ (bar : Bar), ∃ (off : Nat), ∃ (s : State), s.Awake) ∧
    (∃ (s : State), ∃ (n : Fin 48), s.Awake ∧ s.host.hiLatch.find? (fun x => x.1 = chanOff n 0x28) = none) ∧
    (∃ (s : State), ∃ (n : Fin 48), ∃ w, s.Awake ∧ s.host.hiLatch.find? (fun x => x.1 = chanOff n 0x2C) = some (chanOff n 0x2C, w)) ∧
    (∃ (s : State), ∃ (n : Fin 48), ∃ (x : Nat × Word), s.Awake ∧ s.host.hiLatch = [] ∧ x ∈ [(0x00, 0x4816), (0x04, 0xB1), (0x44, s.host.recov), (0x48, s.host.err.setWidth 32), (0x80, s.host.bar4Win.setWidth 32), (0x108, s.pwr.wakeEn), (0x10C, s.pwr.wakeCause), (0x134, s.pwr.rstCause.setWidth 32), (chanOff n 0x20, BitVec.ofNat 32 (s.chan n.val).rateMax), (chanOff n 0x24, BitVec.ofInt 32 (s.chan n.val).rowOffset), (chanOff n 0x34, BitVec.ofNat 32 (s.chan n.val).lastLine), (0xA018, s.link.breaks), (0xA01C, s.link.replays), (0xB000, 0), (0xFFFC, 0)]) ∧
    (∃ (s : State), ∃ (n : Fin 48), ∃ k, s.Awake ∧ k < 64 ∧ s.host.hiLatch = []) ∧
    (∃ (s : State), ∃ (n : Fin 48), ∃ (x : Nat × Nat), s.Awake ∧ x ∈ [(0x0C, s.pe.cmd.tail), (0x10, s.pe.cmd.head), (0x2C, s.pe.rpl.tail), (0x30, s.pe.rpl.head), (0x4C, s.pe.evt.tail), (0x50, s.pe.evt.head), (0x3000, s.host.pba.toNat), (0x3004, 0)]) ∧
    (∃ (s : State), ∃ (v : Word), ∃ (x : Nat × Ring × (Ring → PacketEngine)), s.Awake ∧ s.shot 4 = false ∧ x ∈ [(0x00, s.pe.cmd, fun r => { s.pe with cmd := r }), (0x20, s.pe.rpl, fun r => { s.pe with rpl := r }), (0x40, s.pe.evt, fun r => { s.pe with evt := r })] ∧ x.2.1.en = true) ∧
    (∃ (s : State), ∃ (v : Word), ∃ (x : Nat × Ring × (Ring → PacketEngine)), s.Awake ∧ s.shot 4 = false ∧ x ∈ [(0x00, s.pe.cmd, fun r => { s.pe with cmd := r }), (0x20, s.pe.rpl, fun r => { s.pe with rpl := r }), (0x40, s.pe.evt, fun r => { s.pe with evt := r })] ∧ x.2.1.en = false ∧ 8 ≤ v.toNat % 16 ∧ v.toNat % 16 ≤ 12) ∧
    (∃ (s : State), ∃ (v : Word), ∃ (x : Nat × Ring × (Ring → PacketEngine)), s.Awake ∧ s.shot 4 = false ∧ x ∈ [(0x00, s.pe.cmd, fun r => { s.pe with cmd := r }), (0x20, s.pe.rpl, fun r => { s.pe with rpl := r }), (0x40, s.pe.evt, fun r => { s.pe with evt := r })] ∧ x.2.1.en = false ∧ (v.toNat % 16 < 8 ∨ 12 < v.toNat % 16)) ∧
    (∃ (s : State), ∃ (v : Word), ∃ i, s.Awake ∧ s.shot 4 = false ∧ i < 16 ∧ s.pe.immBusy = false) ∧
    (∃ (s : State), ∃ (v : Word), ∃ i, s.Awake ∧ s.shot 4 = false ∧ i < 16 ∧ s.pe.immBusy = true) ∧
    (∃ (s : State), ∃ (v : Word), ∃ k, s.Awake ∧ s.shot 4 = false ∧ k < 32 ∧ s.host.pba = 0) ∧
    (∃ (s : State), ∃ (v : Word), ∃ k, s.Awake ∧ s.shot 4 = false ∧ k < 128) ∧
    (∃ (s : State), ∃ (v : Word), ∃ (pwr : Power → State), s.Awake ∧ s.shot 4 = false ∧ pwr = (fun p => { s with pwr := p })) ∧
    (∃ (s : State), ∃ (v : Word), ∃ (n : Fin 48), s.Awake ∧ s.shot 4 = false ∧ s.pe.rebooting = false ∧ s.pwr.blockHeld.getLsbD (n.val / 4) = false) ∧
    (∃ (s : State), ∃ (v : Word), ∃ (k : Fin 16), s.Awake ∧ s.shot 4 = false ∧ s.pe.rebooting = false ∧ s.pwr.blockHeld.getLsbD 15 = false) ∧
    (∃ (s : State), ∃ (v : Word), s.Awake ∧ s.shot 4 = false ∧ s.pwr.blockHeld.getLsbD 16 = false ∧ v.getLsbD 8 = false ∧ v.getLsbD 9 = false ∧ v.getLsbD 10 = false ∧ (s.link.en = false ∨ v.getLsbD 0 = true)) ∧
    (∃ (s : State), ∃ (v : Word), s.Awake ∧ s.shot 4 = false ∧ s.pwr.blockHeld.getLsbD 16 = false ∧ v.getLsbD 8 = false ∧ v.getLsbD 9 = false ∧ v.getLsbD 10 = false ∧ s.link.en = true ∧ v.getLsbD 0 = false) :=
    ⟨⟨.bar0, 0x0C, 1, rst, 7, by unfold State.Awake; decide +kernel⟩,
    ⟨.bar0, 0x10, 1, rst, by unfold State.Awake; decide +kernel⟩,
    ⟨.bar0, 0, rst, by unfold State.Awake; decide +kernel⟩,
    ⟨rst, 47, by unfold State.Awake; decide +kernel⟩,
    ⟨{ rst with host.hiLatch := [(chanOff 47 0x2C, 9)] }, 47, 9, by unfold State.Awake; decide +kernel⟩,
    ⟨rst, 47, (0x00, 0x4816), by unfold State.Awake; decide +kernel⟩,
    ⟨rst, 47, 63, by unfold State.Awake; decide +kernel⟩,
    ⟨rst, 47, (0x3004, 0), by unfold State.Awake; decide +kernel⟩,
    ⟨{ rst with pe.cmd.en := true }, 5, (0x00, ({ rst with pe.cmd.en := true }).pe.cmd, fun r => { ({ rst with pe.cmd.en := true }).pe with cmd := r }), by dsimp only; unfold State.Awake; exact ⟨(by decide +kernel), (by decide +kernel), List.Mem.head _, (by decide +kernel)⟩⟩,
    ⟨rst, 12, (0x00, (rst).pe.cmd, fun r => { (rst).pe with cmd := r }), by dsimp only; unfold State.Awake; exact ⟨(by decide +kernel), (by decide +kernel), List.Mem.head _, (by decide +kernel), (by decide +kernel), (by decide +kernel)⟩⟩,
    ⟨rst, 13, (0x00, (rst).pe.cmd, fun r => { (rst).pe with cmd := r }), by dsimp only; unfold State.Awake; exact ⟨(by decide +kernel), (by decide +kernel), List.Mem.head _, (by decide +kernel)⟩⟩,
    ⟨rst, 5, 15, by unfold State.Awake; decide +kernel⟩,
    ⟨{ rst with pe.immBusy := true }, 5, 15, by unfold State.Awake; decide +kernel⟩,
    ⟨rst, 5, 31, by unfold State.Awake; decide +kernel⟩,
    ⟨rst, 5, 127, by unfold State.Awake; decide +kernel⟩,
    ⟨rst, 5, fun p => { rst with pwr := p }, by unfold State.Awake; exact ⟨(by decide +kernel), (by decide +kernel), rfl⟩⟩,
    ⟨rst, 5, 47, by unfold State.Awake; decide +kernel⟩,
    ⟨rst, 5, 15, by unfold State.Awake; decide +kernel⟩,
    ⟨rst, 1, by unfold State.Awake; decide +kernel⟩,
    ⟨{ rst with link.en := true }, 0, by unfold State.Awake; decide +kernel⟩⟩

/-- A state and operands for each clause of Obligations.FireConfiguration. -/
theorem witness_FireConfiguration :
    (∃ (n : Fin 48), ∃ (v : Word), ∃ (s : State), s.Awake ∧ s.shot 4 = false ∧ s.shot 18 = false ∧ s.pe.rebooting = false ∧ s.pwr.blockHeld.getLsbD (n.val / 4) = false ∧ s.jobOf n.val = none ∧ 0 < v.toNat % 2 ^ 17 ∧ v.toNat % 2 ^ 17 ≤ 64000) ∧
    (∃ (n : Fin 48), ∃ (v : Word), ∃ (s : State), s.Awake ∧ s.shot 4 = false ∧ s.shot 18 = false ∧ s.pe.rebooting = false ∧ s.pwr.blockHeld.getLsbD (n.val / 4) = false ∧ s.jobOf n.val = none ∧ s.otp.wires.lifecycle ≠ 2 ∧ v.toNat % 16 ≤ 8) ∧
    (∃ (n : Fin 48), ∃ (v : Word), ∃ (s : State), s.Awake ∧ s.shot 4 = false ∧ s.shot 18 = false ∧ s.pe.rebooting = false ∧ s.pwr.blockHeld.getLsbD (n.val / 4) = false ∧ s.jobOf n.val ≠ none ∧ s.otp.wires.lifecycle ≠ 2 ∧ v.toNat % 16 ≤ 8 ∧ v.toNat % 16 ≠ (s.chan n.val).posSrc) ∧
    (∃ (n : Fin 48), ∃ (v : Word), ∃ (s : State), s.Awake ∧ s.shot 4 = false ∧ s.shot 18 = false ∧ s.pe.rebooting = false ∧ s.pwr.blockHeld.getLsbD (n.val / 4) = false ∧ s.otp.wires.lifecycle ≠ 2 ∧ v.toNat % 16 = (s.chan n.val).posSrc) :=
    ⟨⟨47, 64000, rst, by unfold State.Awake; decide +kernel⟩,
    ⟨47, 8, rst, by unfold State.Awake; decide +kernel⟩,
    ⟨0, 5, (withJob rst (jb)), by unfold State.Awake; decide +kernel⟩,
    ⟨47, 3, (rst.modChan 47 (fun c => { c with posSrc := 3 })), by unfold State.Awake; decide +kernel⟩⟩

/-- A state and operands for each clause of Obligations.ShadowAndCommit. -/
theorem witness_ShadowAndCommit :
    (∃ (n : Fin 48), ∃ (s : State), ∃ (v : Word), let c := s.chan n.val; s.Awake ∧ s.shot 4 = false ∧ s.shot 19 = false ∧ s.pe.rebooting = false ∧ s.pwr.blockHeld.getLsbD (n.val / 4) = false ∧ ((∀ h, c.handoverClock = some h → h + 1 < s.clock))) ∧
    (∃ (n : Fin 48), ∃ (s : State), ∃ (v : Word), ∃ h, let c := s.chan n.val; s.Awake ∧ s.shot 4 = false ∧ s.shot 19 = false ∧ s.pe.rebooting = false ∧ s.pwr.blockHeld.getLsbD (n.val / 4) = false ∧ c.handoverClock = some h ∧ h ≤ s.clock ∧ s.clock ≤ h + 1) ∧
    (∃ (n : Fin 48), ∃ (s : State), s.Awake ∧ s.shot 4 = false ∧ s.shot 19 = false ∧ s.pe.rebooting = false ∧ s.pwr.blockHeld.getLsbD (n.val / 4) = false ∧ s.started n.val = false) ∧
    (∃ (n : Fin 48), ∃ (s : State), s.Awake ∧ s.shot 4 = false ∧ s.shot 19 = false ∧ s.pe.rebooting = false ∧ s.pwr.blockHeld.getLsbD (n.val / 4) = false ∧ s.started n.val = true) ∧
    (∃ (n : Fin 48), ∃ (s : State), let c := s.chan n.val; s.Awake ∧ s.shot 4 = false ∧ s.shot 19 = false ∧ s.pe.rebooting = false ∧ s.pwr.blockHeld.getLsbD (n.val / 4) = false ∧ (s.started n.val = false ∨ (∀ l, c.boundary = some l → l < c.shLine))) ∧
    (∃ (n : Fin 48), ∃ (s : State), ∃ l, let c := s.chan n.val; s.Awake ∧ s.shot 4 = false ∧ s.shot 19 = false ∧ s.pe.rebooting = false ∧ s.pwr.blockHeld.getLsbD (n.val / 4) = false ∧ s.started n.val = true ∧ c.boundary = some l ∧ c.shLine ≤ l) ∧
    (∃ (n : Fin 48), ∃ (s : State), let c := s.chan n.val; s.inRunIdle = true ∧ s.pending = [] ∧ s.fab.raised = [] ∧ s.fab.due = [] ∧ s.inj.released = none ∧ c.taken = none ∧ c.armed = some .idle ∧ c.armedAt ≤ s.clock) ∧
    (∃ (n : Fin 48), ∃ (s : State), ∃ set, ∃ l, ∃ h, let c := s.chan n.val; s.inRunIdle = true ∧ s.pending = [] ∧ s.fab.raised = [] ∧ s.fab.due = [] ∧ s.inj.released = none ∧ c.taken = some (set, l, h) ∧ h ≤ s.clock ∧ c.armed ≠ some .idle) :=
    ⟨⟨47, rst, 5, by dsimp only; unfold State.Awake; exact ⟨(by decide +kernel), (by decide +kernel), (by decide +kernel), (by decide +kernel), (by decide +kernel), optAll (by decide +kernel)⟩⟩,
    ⟨47, (({ rst with clock := 1 } : State).modChan 47 (fun c => { c with handoverClock := some 0 })), 5, 0, by dsimp only; unfold State.Awake; decide +kernel⟩,
    ⟨47, rst, by unfold State.Awake; decide +kernel⟩,
    ⟨0, (withJob rst ({ jb with state := .running })), by unfold State.Awake; decide +kernel⟩,
    ⟨47, rst, by dsimp only; unfold State.Awake; decide +kernel⟩,
    ⟨0, (withJob ((rst.modChan 0 (fun c => { c with boundary := some 7, shLine := 7 }))) ({ jb with state := .running })), 7, by dsimp only; unfold State.Awake; decide +kernel⟩,
    ⟨47, (rst.modChan 47 (fun c => { c with armed := some .idle })), by dsimp only; decide +kernel⟩,
    ⟨47, (rst.modChan 47 (fun c => { c with taken := some ({}, 3, 0) })), {}, 3, 0, by dsimp only; decide +kernel⟩⟩

/-- A state and operands for each clause of Obligations.CountersCountAndClear. -/
theorem witness_CountersCountAndClear :
    (∃ (s : State), ∃ (j : Fin 4), ∃ (v : Word), s.Awake ∧ s.shot 4 = false) ∧
    (∃ (s : State), ∃ (c : Cmd), s.KettleTakes 0x0901 c) ∧
    (∃ (s : State), ∃ k, k < 128 ∧ (s.counter k).toNat < 0xFFFF) ∧
    (∃ (s : State), ∃ k, k < 128 ∧ s.counter k = 0xFFFF) ∧
    (∃ (s : State), ∃ k, ∃ a, ∃ b, k < 128 ∧ (s.counter k).toNat + a + b ≤ 0xFFFF) ∧
    (∃ (s : State), ∃ (k : Nat), ∃ (i : Nat), i ≠ k) :=
    ⟨⟨rst, 3, 5, by unfold State.Awake; decide +kernel⟩,
    ⟨rst, (cm 16 []), by unfold State.KettleTakes State.Addressed; decide +kernel⟩,
    ⟨rst, 127, by decide +kernel⟩,
    ⟨{ rst with tc.val := Vector.replicate 128 0xFFFF }, 127, by decide +kernel⟩,
    ⟨rst, 127, 0xFFFF, 0, by decide +kernel⟩,
    ⟨rst, 1, 2, by decide +kernel⟩⟩

/-- A state and operands for each clause of Obligations.Injection. -/
theorem witness_Injection :
    (∃ (s : State), ∃ (c : Cmd), s.KettleTakes 0x0910 c ∧ s.injForbidden = false ∧ ((s.otp.wires.lifecycle = 2 → s.firingStill = true)) ∧ detectorOk (le c.params 0 1) = true ∧ 0 < le c.params 1 1 ∧ zeros c.params 2 2 = true) ∧
    (∃ (s : State), ∃ (c : Cmd), let atOnce : List Nat := [3, 6, 7, 24, 65, 68, 69, 82, 83, 101, 102, 103, 114, 115, 116]; s.KettleTakes 0x0911 c ∧ s.injectStatus (le c.params 0 1) = stOK ∧ zeros c.params 1 3 = true ∧ le c.params 0 1 ∉ atOnce) ∧
    (∃ (s : State), ∃ (c : Cmd), s.KettleTakes 0x0911 c ∧ s.injectStatus (le c.params 0 1) = stOK ∧ zeros c.params 1 3 = true ∧ le c.params 0 1 ∈ [3, 82, 83, 103, 115]) ∧
    (∃ (s : State), ∃ (v : Word), s.Awake ∧ s.shot 4 = false ∧ v.toNat / 65536 = 0x494A ∧ s.injectStatus (v.toNat % 128) = stOK ∧ v.toNat % 128 ∈ [3, 82, 83, 103, 115]) ∧
    (∃ (s : State), ∃ (v : Word), let atOnce : List Nat := [3, 6, 7, 24, 65, 68, 69, 82, 83, 101, 102, 103, 114, 115, 116]; s.Awake ∧ s.shot 4 = false ∧ v.toNat / 65536 = 0x494A ∧ s.injectStatus (v.toNat % 128) = stOK ∧ v.toNat % 128 ∉ atOnce) ∧
    (∃ (s : State), ∃ (v : Word), s.Awake ∧ s.shot 4 = false ∧ v.toNat / 65536 ≠ 0x494A) ∧
    (∃ (s : State), ∃ (v : Word), s.Awake ∧ s.shot 4 = false ∧ v.toNat / 65536 = 0x494A ∧ s.injectStatus (v.toNat % 128) ≠ stOK) :=
    ⟨⟨rst, (cm 4 [(0, 1, 1), (1, 1, 1)]), by unfold State.KettleTakes State.Addressed; decide +kernel⟩,
    ⟨{ rst with inj.armed := some 37, inj.shots := 1 }, (cm 4 [(0, 1, 37)]), by dsimp only; unfold State.KettleTakes State.Addressed; decide +kernel⟩,
    ⟨{ rst with inj.armed := some 3, inj.shots := 1 }, (cm 4 [(0, 1, 3)]), by unfold State.KettleTakes State.Addressed; decide +kernel⟩,
    ⟨{ rst with inj.armed := some 3, inj.shots := 1 }, 0x494A0003, by unfold State.Awake; decide +kernel⟩,
    ⟨{ rst with inj.armed := some 37, inj.shots := 1 }, 0x494A0025, by dsimp only; unfold State.Awake; decide +kernel⟩,
    ⟨rst, 0x494B0000, by unfold State.Awake; decide +kernel⟩,
    ⟨rst, 0x494A0003, by unfold State.Awake; decide +kernel⟩⟩

/-- A state and operands for each clause of Obligations.EventFabric. -/
theorem witness_EventFabric :
    (∃ (s : State), ∃ (l : BitVec 6), s.Awake ∧ s.shot 4 = false) ∧
    (∃ (s : State), ∃ (a b : Nat), ∃ (l : BitVec 6), let unheard (l : BitVec 6) : Prop := ∀ k, k < 128 → (vget s.fab.dst k {}).en = true → (vget s.fab.dst k {}).line ≠ l; s.inRunIdle = true ∧ sourceId a = true ∧ sourceId b = true ∧ a ≠ b ∧ a < 0x80 ∧ b < 0x80 ∧ vget s.fab.src a {} = { en := true, line := l } ∧ a ∉ s.fab.raised ∧ unheard l) ∧
    (∃ (s : State), ∃ (a b : Nat), ∃ (l : BitVec 6), let unheard (l : BitVec 6) : Prop := ∀ k, k < 128 → (vget s.fab.dst k {}).en = true → (vget s.fab.dst k {}).line ≠ l; s.inRunIdle = true ∧ sourceId a = true ∧ sourceId b = true ∧ a ≠ b ∧ a < 0x80 ∧ b < 0x80 ∧ vget s.fab.src a {} = { en := true, line := l } ∧ a ∉ s.fab.raised ∧ vget s.fab.src b {} = { en := true, line := l } ∧ b ∉ s.fab.raised ∧ unheard l) ∧
    (∃ (s : State), ∃ (a b : Nat), ∃ (l : BitVec 6), ∃ (p : Fin 2), s.inRunIdle = true ∧ sourceId a = true ∧ sourceId b = true ∧ a ≠ b ∧ a < 0x80 ∧ b < 0x80 ∧ vget s.fab.src a {} = { en := true, line := l } ∧ a ∉ s.fab.raised ∧ s.pe.rebooting = false ∧ ((∀ k, k < 128 → (vget s.fab.dst k {}).en = true → (vget s.fab.dst k {}).line = l → k = 0x10 + p.val)) ∧ vget s.fab.dst (0x10 + p.val) {} = { en := true, line := l } ∧ s.isPend (0x10 + p.val) = true) ∧
    (∃ (s : State), ∃ (a b : Nat), ∃ (l : BitVec 6), ∃ (p : Fin 2), s.inRunIdle = true ∧ sourceId a = true ∧ sourceId b = true ∧ a ≠ b ∧ a < 0x80 ∧ b < 0x80 ∧ vget s.fab.src a {} = { en := true, line := l } ∧ a ∉ s.fab.raised ∧ s.pe.rebooting = false ∧ ((∀ k, k < 128 → (vget s.fab.dst k {}).en = true → (vget s.fab.dst k {}).line = l → k = 0x10 + p.val)) ∧ vget s.fab.dst (0x10 + p.val) {} = { en := true, line := l } ∧ s.isPend (0x10 + p.val) = false ∧ s.fab.due = []) ∧
    (∃ (s : State), ∃ (p : Fin 2), ∃ (c : Nat), s.inRunIdle = true ∧ s.pending = [] ∧ s.fab.raised = [] ∧ s.inj.released = none ∧ s.pe.queue = [] ∧ s.fab.due = [(0x10 + p.val, c)] ∧ s.isPend (0x10 + p.val) = true ∧ c ≤ s.clock + 1 ∧ (s.port p.val).flashArmed = false) ∧
    (∃ (s : State), ∃ (a : Nat), s.inRunIdle = true ∧ sourceId a = true ∧ a < 0x80 ∧ (vget s.fab.src a {}).en = false ∧ a ∉ s.fab.raised) ∧
    (∃ (s : State), ∃ (r : Ring), ∃ (fabric : Bool), ∃ (tb : BitVec 64), ∃ (code data : Nat), let usable : Prop := r.en = true ∧ s.host.bme = true ∧ r.tail < r.slots ∧ swf 0 s.host.mem = true ∧ ∀ v, v < 32 → s.vectorOpen v = false; r = s.pe.evt ∧ s.shot 2 = false ∧ usable ∧ 0 < r.free ∧ s.pe.evtDropped = 0) ∧
    (∃ (s : State), ∃ (r : Ring), ∃ (fabric : Bool), ∃ (tb : BitVec 64), ∃ (code data : Nat), r = s.pe.evt ∧ s.shot 2 = false ∧ (r.en = false ∨ s.host.bme = false ∨ r.free = 0)) ∧
    (∃ (s : State), ∃ (r : Ring), ∃ (v : Word), let usable : Prop := r.en = true ∧ s.host.bme = true ∧ r.tail < r.slots ∧ swf 0 s.host.mem = true ∧ ∀ v, v < 32 → s.vectorOpen v = false; r = s.pe.evt ∧ s.Awake ∧ s.shot 4 = false ∧ usable ∧ s.pe.evtDropped ≠ 0 ∧ v.toNat % 4096 < r.slots ∧ v.toNat % 4096 ≠ (r.tail + 1) % r.slots) ∧
    (∃ (s : State), ∃ (r : Ring), ∃ (a : Nat), ∃ (l : BitVec 6), ∃ (n : Fin 32), let usable : Prop := r.en = true ∧ s.host.bme = true ∧ r.tail < r.slots ∧ swf 0 s.host.mem = true ∧ ∀ v, v < 32 → s.vectorOpen v = false; r = s.pe.evt ∧ s.inRunIdle = true ∧ sourceId a = true ∧ a < 0x80 ∧ vget s.fab.src a {} = { en := true, line := l } ∧ a ∉ s.fab.raised ∧ ((∀ k, k < 128 → (vget s.fab.dst k {}).en = true → (vget s.fab.dst k {}).line = l → k = 0x20 + n.val)) ∧ vget s.fab.dst (0x20 + n.val) {} = { en := true, line := l } ∧ s.shot 2 = false ∧ usable ∧ 0 < r.free ∧ s.pe.evtDropped = 0) :=
    ⟨⟨rst, 63, by unfold State.Awake; decide +kernel⟩,
    ⟨{ rst with fab.src := vset (vset rst.fab.src 1 { en := true, line := 63 }) 2 { en := true, line := 63 } }, 1, 3, 63, by dsimp only; decide +kernel⟩,
    ⟨{ rst with fab.src := vset (vset rst.fab.src 1 { en := true, line := 63 }) 2 { en := true, line := 63 } }, 1, 2, 63, by dsimp only; decide +kernel⟩,
    ⟨(State.setPend ({ rst with fab.src := vset (vset rst.fab.src 1 { en := true, line := 63 }) 2 { en := true, line := 63 }, fab.dst := vset rst.fab.dst 0x11 { en := true, line := 63 } }) 0x11 true), 1, 2, 63, 1, by decide +kernel⟩,
    ⟨{ rst with fab.src := vset (vset rst.fab.src 1 { en := true, line := 63 }) 2 { en := true, line := 63 }, fab.dst := vset rst.fab.dst 0x11 { en := true, line := 63 } }, 1, 2, 63, 1, by decide +kernel⟩,
    ⟨(State.setPend ({ rst with fab.due := [(0x11, 1)] }) 0x11 true), 1, 1, by decide +kernel⟩,
    ⟨rst, 1, by decide +kernel⟩,
    ⟨{ rst with pe.evt.en := true, pe.evt.base := 0x2000, host.bme := true }, ({ rst with pe.evt.en := true, pe.evt.base := 0x2000, host.bme := true }).pe.evt, true, 5, 0x30, 7, by dsimp only; decide +kernel⟩,
    ⟨rst, rst.pe.evt, true, 5, 0x30, 7, by decide +kernel⟩,
    ⟨{ rst with pe.evt.en := true, pe.evt.base := 0x2000, host.bme := true, pe.evtDropped := 3 }, ({ rst with pe.evt.en := true, pe.evt.base := 0x2000, host.bme := true, pe.evtDropped := 3 }).pe.evt, 9, by dsimp only; unfold State.Awake; decide +kernel⟩,
    ⟨{ rst with pe.evt.en := true, pe.evt.base := 0x2000, host.bme := true, fab.src := vset rst.fab.src 1 { en := true, line := 63 }, fab.dst := vset rst.fab.dst 0x3F { en := true, line := 63 } }, ({ rst with pe.evt.en := true, pe.evt.base := 0x2000, host.bme := true }).pe.evt, 1, 63, 31, by dsimp only; decide +kernel⟩⟩

/-- A state and operands for each clause of Obligations.MirrorAccess. -/
theorem witness_MirrorAccess :
    (∃ (a : BitVec 12), ∃ (s : State), s.pwr.supply = true ∧ valueAt a.toNat = none) ∧
    (∃ (a : BitVec 12), ∃ (s : State), ∃ n, s.pwr.supply = true ∧ valueAt a.toNat = some (a.toNat, n)) ∧
    (∃ (a : BitVec 12), ∃ (s : State), ∃ low, ∃ n, ∃ ws, s.pwr.supply = true ∧ valueAt a.toNat = some (low, n) ∧ a.toNat ≠ low ∧ s.mirror.latch = some (low, ws)) ∧
    (∃ (a : BitVec 12), ∃ (s : State), ∃ low, ∃ n, s.pwr.supply = true ∧ valueAt a.toNat = some (low, n) ∧ a.toNat ≠ low ∧ ((∀ tag ws, s.mirror.latch = some (tag, ws) → tag ≠ low))) ∧
    (∃ (s : State), ∃ a, ∃ v, s.pwr.supply = true ∧ s.shot 5 = false ∧ writeWord a v = false) ∧
    (∃ (s : State), ∃ v, s.pwr.supply = true ∧ s.shot 5 = false ∧ v ≠ 0xE5E5) ∧
    (∃ (s : State), s.pwr.supply = true ∧ s.shot 5 = false ∧ s.Awake) ∧
    (∃ (s : State), ∃ (v : BitVec 16), s.pwr.supply = true ∧ s.shot 5 = false ∧ (s.pwr.state = .idle ∨ s.pwr.state = .sleep) ∧ s.pwr.pinHeld = false ∧ s.pwr.waking = false ∧ s.pwr.wakeEn.getLsbD 1 = true ∧ v.getLsbD 0 = true) :=
    ⟨⟨0xFFF, rst, by decide +kernel⟩,
    ⟨0x184, rst, 4, by decide +kernel⟩,
    ⟨0x187, { rst with mirror.latch := some (0x184, [1, 2, 3, 4]) }, 0x184, 4, [1, 2, 3, 4], by decide +kernel⟩,
    ⟨0x187, { rst with mirror.latch := some (0x180, [1, 2, 3, 4]) }, 0x184, 4, ⟨(by decide +kernel), (by decide +kernel), (by decide +kernel), fun tag ws e => by cases e; decide⟩⟩,
    ⟨rst, 0xFF3, 0, by decide +kernel⟩,
    ⟨rst, 0, by decide +kernel⟩,
    ⟨rst, by unfold State.Awake; decide +kernel⟩,
    ⟨{ rst with pwr.state := .sleep }, 1, by decide +kernel⟩⟩

/-- A state and operands for each clause of Obligations.MirrorWordsFollow. -/
theorem witness_MirrorWordsFollow :
    ∃ (s : State), s.pwr.supply = true ∧ swf 0 s.mirror.sram = true :=
    ⟨rst, by decide +kernel⟩

/-- A state and operands for each clause of Obligations.EndpointAndLink. -/
theorem witness_EndpointAndLink :
    (∃ (s : State), s.pwr.supply = true) ∧
    (∃ (s : State), s.host.linkUp = true ∧ s.shot 7 = false) ∧
    (∃ (s : State), s.inRunIdle = true ∧ s.host.linkUp = true ∧ s.shot 6 = false) ∧
    (∃ (s : State), ∃ (v : Nat), ∃ (w : Nat), let listed : Prop := (v = 1 ∨ v = 2 ∨ v = 3) ∧ (w = 1 ∨ w = 2 ∨ w = 4); s.inRunIdle = true ∧ s.host.linkUp = false ∧ listed) ∧
    (∃ (s : State), ∃ (v : Nat), ∃ (w : Nat), let listed : Prop := (v = 1 ∨ v = 2 ∨ v = 3) ∧ (w = 1 ∨ w = 2 ∨ w = 4); s.inRunIdle = true ∧ s.host.linkUp = false ∧ (¬ listed)) ∧
    (∃ (s : State), ∃ (w : ConfigWrite), s.inRunIdle = true ∧ ((∀ on, w ≠ .bme on))) ∧
    (∃ (s : State), s.inRunIdle = true ∧ s.host.bme = true) ∧
    (∃ (s : State), s.inRunIdle = true ∧ s.host.bme = false) :=
    ⟨⟨rst, by decide +kernel⟩,
    ⟨{ rst with host.linkUp := true }, by decide +kernel⟩,
    ⟨{ rst with host.linkUp := true }, by decide +kernel⟩,
    ⟨rst, 3, 4, by dsimp only; decide +kernel⟩,
    ⟨rst, 0, 0, by dsimp only; decide +kernel⟩,
    ⟨rst, .power true, by decide +kernel⟩,
    ⟨{ rst with host.bme := true }, by decide +kernel⟩,
    ⟨rst, by decide +kernel⟩⟩

/-- A state and operands for each clause of Obligations.VectorsWaitForUnmask. -/
theorem witness_VectorsWaitForUnmask :
    (∃ (s : State), ∃ (v : Fin 32), ((s.msixEntry v.val).ctrl.getLsbD 0 = true ∨ s.host.funcMask = true ∨ s.host.msixEn = false)) ∧
    (∃ (s : State), ∃ (v : Fin 32), s.Awake ∧ s.shot 4 = false ∧ s.host.msixEn = true ∧ s.host.funcMask = false ∧ s.host.bme = true ∧ (s.msixEntry v.val).ctrl.getLsbD 0 = true ∧ swf 0 s.host.mem = true ∧ ((∀ w, w < 32 → s.host.pba.getLsbD w = decide (w = v.val)))) :=
    ⟨⟨rst, 31, by decide +kernel⟩,
    ⟨{ rst with host.msixEn := true, host.funcMask := false, host.bme := true, host.pba := 0x80000000 }, 31, by unfold State.Awake; decide +kernel⟩⟩

/-- A state and operands for each clause of Obligations.ApertureAccess. -/
theorem witness_ApertureAccess :
    (∃ (s : State), ∃ (off len corrected bad : Nat), s.Awake ∧ off < 2 ^ 28 ∧ s.otp.wires.bar4 = false) ∧
    (∃ (s : State), ∃ (off len corrected bad : Nat), ∃ (b : List (Option Byte)), let a := s.host.bar4Win.toNat * 2 ^ 28 + off; s.Awake ∧ off < 2 ^ 28 ∧ s.otp.wires.bar4 = true ∧ a < s.storeBytes ∧ swf 0 s.mem.store = true) ∧
    (∃ (s : State), ∃ (off len corrected bad : Nat), ∃ (p : Bool), let a := s.host.bar4Win.toNat * 2 ^ 28 + off; s.Awake ∧ off < 2 ^ 28 ∧ s.otp.wires.bar4 = true ∧ a < s.storeBytes ∧ bad = 0) ∧
    (∃ (s : State), ∃ (off len corrected bad : Nat), ∃ (p : Bool), let a := s.host.bar4Win.toNat * 2 ^ 28 + off; s.Awake ∧ off < 2 ^ 28 ∧ s.otp.wires.bar4 = true ∧ a < s.storeBytes ∧ bad ≠ 0) ∧
    (∃ (s : State), ∃ (off len corrected bad : Nat), let a := s.host.bar4Win.toNat * 2 ^ 28 + off; s.Awake ∧ off < 2 ^ 28 ∧ s.otp.wires.bar4 = true ∧ s.storeBytes ≤ a) :=
    ⟨⟨{ rst with otp.wires.bar4 := false }, (2 ^ 28 - 1), 4, 1, 1, by unfold State.Awake; decide +kernel⟩,
    ⟨{ rst with mem.cfg := some { rate := 0, channels := 1, ranks := 1, density := 0 }, otp.wires.bar4 := true }, 0, 1, 1, 1, [some 5], by dsimp only; unfold State.Awake; decide +kernel⟩,
    ⟨{ rst with mem.cfg := some { rate := 0, channels := 1, ranks := 1, density := 0 }, otp.wires.bar4 := true }, 0, 4, 1, 0, true, by dsimp only; unfold State.Awake; decide +kernel⟩,
    ⟨{ rst with mem.cfg := some { rate := 0, channels := 1, ranks := 1, density := 0 }, otp.wires.bar4 := true }, 0, 4, 1, 2, true, by dsimp only; unfold State.Awake; decide +kernel⟩,
    ⟨{ rst with otp.wires.bar4 := true }, (2 ^ 28 - 1), 4, 1, 1, by dsimp only; unfold State.Awake; decide +kernel⟩⟩

/-- A state and operands for each clause of Obligations.EnteringALowerState. -/
theorem witness_EnteringALowerState :
    (∃ (s : State), ∃ (c : Cmd), ∃ (tgt : PowerState), ∃ st, s.KettleTakes 0x0110 c ∧ ((le c.params 0 1 = 1 ∧ tgt = .sleep) ∨ (le c.params 0 1 = 2 ∧ tgt = .idle)) ∧ s.entryRefused tgt = some st) ∧
    (∃ (s : State), ∃ (c : Cmd), ∃ (tgt : PowerState), s.KettleTakes 0x0110 c ∧ ((le c.params 0 1 = 1 ∧ tgt = .sleep) ∨ (le c.params 0 1 = 2 ∧ tgt = .idle)) ∧ s.entryRefused tgt = none ∧ zeros c.params 1 3 = true) ∧
    (∃ (s : State), ∃ (c : Cmd), s.KettleTakes 0x0110 c ∧ le c.params 0 1 = 3 ∧ zeros c.params 1 3 = true) ∧
    (∃ (s : State), s.Awake ∧ s.shot 4 = false ∧ s.entryRefused .sleep = none) ∧
    (∃ (s : State), s.Awake ∧ s.shot 4 = false ∧ s.entryRefused .idle = none) ∧
    (∃ (s : State), s.Awake ∧ s.shot 4 = false ∧ s.entryRefused .off = none) ∧
    (∃ (s : State), ∃ st, s.Awake ∧ s.shot 4 = false ∧ s.entryRefused .sleep = some st) ∧
    (∃ (s : State), ∃ st, s.Awake ∧ s.shot 4 = false ∧ s.entryRefused .idle = some st) ∧
    (∃ (s : State), ∃ st, s.Awake ∧ s.shot 4 = false ∧ s.entryRefused .off = some st) ∧
    (∃ (s : State), s.pwr.supply = true ∧ s.pwr.state = .sleep ∧ s.pwr.waking = false ∧ s.pwr.pinHeld = false ∧ s.pwr.entering = none ∧ s.pwr.offAfter ≠ 0 ∧ s.aonPassed s.pwr.sleepAt (1000 * s.pwr.offAfter.toNat) = true ∧ s.entryRefused .off = none) ∧
    (∃ (s : State), ∃ tgt, s.pwr.entering = some tgt ∧ tgt ≠ .run ∧ s.pwr.supply = true ∧ s.pwr.pinHeld = false ∧ s.pwr.waking = false) ∧
    (∃ (s : State), ∃ (tgt : PowerState), ∃ k, ∃ j, k < 4 ∧ s.jobAt k = some j ∧ ((j.state = .arming ∨ j.state = .running ∨ j.state = .late))) ∧
    (∃ (s : State), ∃ (tgt : PowerState), ∃ n, n < 48 ∧ (s.chan n).cosy = true) ∧
    (∃ (s : State), ∃ (tgt : PowerState), ∃ p, p < 2 ∧ (s.port p).on = true) ∧
    (∃ (s : State), ∃ (tgt : PowerState), ∃ n, ∃ m, ∃ v, n < 8 ∧ (s.axis n).state = .moving ∧ (s.axis n).move = some m ∧ m.goal = .vel v) ∧
    (∃ (s : State), ∃ (tgt : PowerState), s.isMaster = true ∧ s.link.posEn = true) ∧
    (∃ (s : State), ∃ (tgt : PowerState), ∃ n, n < 8 ∧ (s.axis n).standing = false) ∧
    (∃ (s : State), ∃ (tgt : PowerState), s.health.run.isSome = true) ∧
    (∃ (s : State), ∃ (tgt : PowerState), ∃ k, k < 16 ∧ (s.dma k).run.isSome = true) ∧
    (∃ (s : State), ∃ (tgt : PowerState), s.otpBusy = true) ∧
    (∃ (s : State), ∃ (tgt : PowerState), s.mem.training.isSome = true) :=
    ⟨⟨(withJob rst ({ jb with state := .running })), (cm 8 [(0, 1, 1)]), .sleep, stBAD_STATE, by unfold State.KettleTakes State.Addressed; decide +kernel⟩,
    ⟨rst, (cm 8 [(0, 1, 2)]), .idle, by unfold State.KettleTakes State.Addressed; decide +kernel⟩,
    ⟨rst, (cm 8 [(0, 1, 3)]), by unfold State.KettleTakes State.Addressed; decide +kernel⟩,
    ⟨rst, by unfold State.Awake; decide +kernel⟩,
    ⟨rst, by unfold State.Awake; decide +kernel⟩,
    ⟨rst, by unfold State.Awake; decide +kernel⟩,
    ⟨(withJob rst ({ jb with state := .running })), stBAD_STATE, by unfold State.Awake; decide +kernel⟩,
    ⟨(withJob rst ({ jb with state := .running })), stBAD_STATE, by unfold State.Awake; decide +kernel⟩,
    ⟨(withJob rst ({ jb with state := .running })), stBAD_STATE, by unfold State.Awake; decide +kernel⟩,
    ⟨{ rst with pwr.state := .sleep, pwr.offAfter := 1, clock := 1000 * 400000 * 2 }, by decide +kernel⟩,
    ⟨{ rst with pwr.entering := some .sleep }, .sleep, by decide +kernel⟩,
    ⟨(withJob rst ({ jb with state := .running })), .idle, 0, { jb with state := .running }, by decide +kernel⟩,
    ⟨(rst.modChan 47 (fun c => { c with cosy := true })), .idle, 47, by decide +kernel⟩,
    ⟨(State.modPort (rst) 1 (fun p => { p with on := true })), .idle, 1, by decide +kernel⟩,
    ⟨(State.modAxis (rst) 7 (fun a => { a with state := .moving, move := some { goal := .vel 5, prof := 0, v := 100, a := 100, j := 100 } })), .idle, 7, { goal := .vel 5, prof := 0, v := 100, a := 100, j := 100 }, 5, by decide +kernel⟩,
    ⟨{ rst with otp.wires.master := true, link.posEn := true }, .idle, by decide +kernel⟩,
    ⟨(State.modAxis (rst) 7 (fun a => { a with state := .moving, speed := 1, move := some { goal := .vel 5, prof := 0, v := 100, a := 100, j := 100 } })), .idle, 7, by decide +kernel⟩,
    ⟨{ rst with health.run := some sr }, .idle, by decide +kernel⟩,
    ⟨(State.modDma (rst) 15 (fun d => { d with run := some { src := 0, dst := 0, count := 4, rate := 0, fill := false, start := [] } })), .idle, 15, by decide +kernel⟩,
    ⟨{ rst with otp.run := some { kind := 4, todo := [(1024, 5)], attempts := 0 } }, .idle, by decide +kernel⟩,
    ⟨{ rst with mem.training := some { rate := 0, channels := 1, ranks := 1, density := 0 } }, .idle, by decide +kernel⟩⟩

/-- A state and operands for each clause of Obligations.Waking. -/
theorem witness_Waking :
    (∃ (s : State), ∃ (n : Fin 16), ∃ (up : Bool), s.pwr.supply = true ∧ s.ilk.sens.getLsbD n.val ≠ up) ∧
    (∃ (s : State), s.pwr.supply = true ∧ s.pwr.aonTimer ≠ 0 ∧ s.aonPassed s.pwr.aonTimerAt s.pwr.aonTimer.toNat = true) ∧
    (∃ (s : State), ∃ src, s.pwr.supply = true ∧ s.pwr.pinHeld = false ∧ (s.pwr.state = .idle ∨ s.pwr.state = .sleep) ∧ s.wakeStates src = true ∧ s.pwr.waking = false ∧ s.pwr.wakeEn.getLsbD (wakeBit src) = true) ∧
    (∃ (s : State), ∃ src, s.pwr.supply = true ∧ s.pwr.pinHeld = false ∧ (s.pwr.state = .idle ∨ s.pwr.state = .sleep) ∧ s.pwr.wakeEn.getLsbD (wakeBit src) = false) ∧
    (∃ (s : State), ∃ (n : Fin 16), ∃ (up : Bool), s.pwr.supply = true ∧ s.pwr.pinHeld = false ∧ (s.pwr.state = .idle ∨ s.pwr.state = .sleep) ∧ s.ilk.sens.getLsbD n.val ≠ up ∧ s.pwr.waking = false ∧ s.pwr.wakeEn.getLsbD (16 + n.val) = true) ∧
    (∃ (s : State), s.pwr.supply = true ∧ s.pwr.pinHeld = false ∧ s.pwr.waking = true ∧ ((s.pwr.cold = true → s.pwr.sensed = true ∧ s.pwr.railWait = false)) ∧ s.host.held = [] ∧ s.mirror.heldTail = none ∧ s.mirror.heldGo = false ∧ ((∀ k, k < 16 → (s.dma k).pending = false ∧ s.isPend k = false))) :=
    ⟨⟨rst, 15, true, by decide +kernel⟩,
    ⟨{ rst with pwr.aonTimer := 1, clock := 1000000 }, by decide +kernel⟩,
    ⟨{ rst with pwr.state := .sleep }, .mirror, by decide +kernel⟩,
    ⟨{ rst with pwr.state := .sleep }, .sensor 3, by decide +kernel⟩,
    ⟨{ rst with pwr.state := .sleep, pwr.wakeEn := 0x8000001F }, 15, true, by decide +kernel⟩,
    ⟨{ rst with pwr.state := .idle, pwr.waking := true }, by decide +kernel⟩⟩

/-- A state and operands for each clause of Obligations.ColdResets. -/
theorem witness_ColdResets :
    (∃ (s : State), s.pwr.supply = true ∧ s.pwr.pinHeld = true) ∧
    (∃ (s : State), s.pwr.supply = true ∧ s.pwr.railWait = true) ∧
    (∃ (s : State), ∃ (rail : Rail), s.pwr.supply = true ∧ (rail = .vddAon ∨ rail = .vddio)) ∧
    (∃ (s : State), s.pwr.supply = true ∧ s.pwr.corePwrEn = true) :=
    ⟨⟨{ rst with pwr.pinHeld := true, pwr.sensed := false }, by decide +kernel⟩,
    ⟨{ rst with pwr.railWait := true }, by decide +kernel⟩,
    ⟨rst, .vddio, by decide +kernel⟩,
    ⟨rst, by decide +kernel⟩⟩

/-- A state and operands for each clause of Obligations.WarmReset. -/
theorem witness_WarmReset :
    (∃ (s : State), ∃ (v : Word), s.Awake ∧ s.shot 4 = false ∧ v.toNat / 65536 = 0x5752 ∧ v.getLsbD 0 = true) ∧
    (∃ (s : State), ∃ (v : Word), s.Awake ∧ s.shot 4 = false ∧ (v.toNat / 65536 ≠ 0x5752 ∨ v.getLsbD 0 = false)) ∧
    (∃ (s : State), s.inRunIdle = true ∧ s.shot 102 = false) ∧
    (∃ (s : State), s.pe.rebooting = true ∧ s.inRun = true ∧ s.host.held = [] ∧ s.mirror.heldTail = none ∧ s.mirror.heldGo = false) :=
    ⟨⟨rst, 0x57520001, by unfold State.Awake; decide +kernel⟩,
    ⟨rst, 0x57530001, by unfold State.Awake; decide +kernel⟩,
    ⟨rst, by decide +kernel⟩,
    ⟨{ rst with pe.rebooting := true }, by decide +kernel⟩⟩

/-- A state and operands for each clause of Obligations.BlockReset. -/
theorem witness_BlockReset :
    (∃ (s : State), ∃ (c : Cmd), s.KettleTakes 0x0120 c ∧ s.pwr.blockHeld ≠ 0) ∧
    (∃ (s : State), ∃ (c : Cmd), let m := le c.params 0 4; s.KettleTakes 0x0120 c ∧ s.pwr.blockHeld = 0 ∧ 2 ^ 17 ≤ m) ∧
    (∃ (s : State), ∃ (c : Cmd), let m := le c.params 0 4; s.KettleTakes 0x0120 c ∧ s.pwr.blockHeld = 0 ∧ m = 0) ∧
    (∃ (s : State), ∃ (c : Cmd), let m := le c.params 0 4; s.KettleTakes 0x0120 c ∧ s.pwr.blockHeld = 0 ∧ 0 < m ∧ m < 2 ^ 17) ∧
    (∃ (s : State), s.inRun = true ∧ s.pwr.blockHeld ≠ 0) :=
    ⟨⟨{ rst with pwr.blockHeld := 1 }, (cm 4 [(0, 4, 32768)]), by unfold State.KettleTakes State.Addressed; decide +kernel⟩,
    ⟨rst, (cm 4 [(0, 4, 131072)]), by dsimp only; unfold State.KettleTakes State.Addressed; decide +kernel⟩,
    ⟨rst, (cm 4 []), by dsimp only; unfold State.KettleTakes State.Addressed; decide +kernel⟩,
    ⟨rst, (cm 4 [(0, 4, 131071)]), by dsimp only; unfold State.KettleTakes State.Addressed; decide +kernel⟩,
    ⟨{ rst with pwr.blockHeld := 1 }, by decide +kernel⟩⟩

/-- A state and operands for each clause of Obligations.HeadTables. -/
theorem witness_HeadTables :
    (∃ (c : Cmd), ∃ (s : State), let n := le c.params 0 1; s.KettleTakes 0x0201 c ∧ n < 48 ∧ (s.chan n).attached = true ∧ s.jobOf n = none ∧ le c.params 1 1 ≤ 7 ∧ le c.params 2 1 ≤ 3 ∧ 1 ≤ le c.params 3 1 ∧ le c.params 3 1 ≤ 8 ∧ 64 ≤ le c.params 4 2 ∧ le c.params 4 2 ≤ 2048 ∧ le c.params 4 2 = 64 * (s.chan n).headId.size.toNat ∧ ((le c.params 6 1 < 48 ∨ le c.params 6 1 = 255)) ∧ 4 ≤ le c.params 7 1 ∧ le c.params 7 1 ≤ 64 ∧ le c.params 8 4 ≤ 40000) ∧
    (∃ (c : Cmd), ∃ (s : State), ∃ drop, ∃ k, let n := le c.params 0 1; drop = le c.params 1 1 ∧ k = le c.params 2 1 ∧ s.KettleTakes 0x0210 c ∧ n < 48 ∧ 1 ≤ drop ∧ drop ≤ 3 ∧ k ≤ 7 ∧ (s.chan n).protects true (fun u => u.brew drop = k) = false ∧ (¬ (drop = 1 ∧ k = 7 ∧ (s.chan n).cosy = true)) ∧ le c.params 3 1 = 0 ∧ (brewOf (c.params.drop 4)).ok drop = true) ∧
    (∃ (c : Cmd), ∃ (s : State), ∃ (r : Rotation), let n := le c.params 0 1; let good : Prop := 4 ≤ r.slots ∧ r.slots ≤ 32 ∧ 1 ≤ r.gTable ∧ r.gTable ≤ 8 ∧ (∀ g, g < 32 → le c.params (8 + g) 1 < r.slots) ∧ (∀ t, t < r.slots → 1 ≤ ((List.range 32).filter (fun g => le c.params (8 + g) 1 = t)).length ∧ ((List.range 32).filter (fun g => le c.params (8 + g) 1 = t)).length ≤ r.gTable); r = { slots := le c.params 4 1, gTable := le c.params 5 1, slotOf := (List.range 32).map (fun g => le c.params (8 + g) 1) } ∧ s.KettleTakes 0x0220 c ∧ n < 48 ∧ le c.params 1 1 ≤ 3 ∧ (s.chan n).protects false (fun u => u.rot = le c.params 1 1) = false ∧ zeros c.params 2 2 = true ∧ zeros c.params 6 2 = true ∧ good) ∧
    (∃ (c : Cmd), ∃ (s : State), ∃ (r : Rotation), let n := le c.params 0 1; let good : Prop := 4 ≤ r.slots ∧ r.slots ≤ 32 ∧ 1 ≤ r.gTable ∧ r.gTable ≤ 8 ∧ (∀ g, g < 32 → le c.params (8 + g) 1 < r.slots) ∧ (∀ t, t < r.slots → 1 ≤ ((List.range 32).filter (fun g => le c.params (8 + g) 1 = t)).length ∧ ((List.range 32).filter (fun g => le c.params (8 + g) 1 = t)).length ≤ r.gTable); r = { slots := le c.params 4 1, gTable := le c.params 5 1, slotOf := (List.range 32).map (fun g => le c.params (8 + g) 1) } ∧ s.KettleTakes 0x0220 c ∧ n < 48 ∧ le c.params 1 1 ≤ 3 ∧ (s.chan n).protects false (fun u => u.rot = le c.params 1 1) = false ∧ zeros c.params 2 2 = true ∧ zeros c.params 6 2 = true ∧ (¬ good)) ∧
    (∃ (c : Cmd), ∃ (s : State), s.KettleTakes 0x0230 c ∧ channelsOk (le c.params 0 8) = true ∧ le c.params 10 2 ≤ 1 ∧ s.tripped = true ∧ le c.params 10 2 = 1) ∧
    (∃ (c : Cmd), ∃ (s : State), s.KettleTakes 0x0230 c ∧ channelsOk (le c.params 0 8) = true ∧ le c.params 10 2 ≤ 1 ∧ (s.tripped = false ∨ le c.params 10 2 = 0) ∧ ((∀ m, m < 48 → bit (le c.params 0 8) m = true → (s.chan m).ready = true ∧ ((s.chan m).small 7).na ≠ 0 ∧ (leS c.params 8 2 ≠ 0 → 150 ≤ leS c.params 8 2 ∧ leS c.params 8 2 ≤ (s.headSensor m).warn - (s.headSensor m).hyst)))) :=
    ⟨⟨(cm 16 [(0, 1, 47), (1, 1, 7), (2, 1, 3), (3, 1, 8), (4, 2, 2048), (6, 1, 255), (7, 1, 64), (8, 4, 40000)]), (rst.modChan 47 (fun c => { c with attached := true, headId := { maker := 1, type := 1, size := 32, serial := 5 } })), by dsimp only; unfold State.KettleTakes State.Addressed; decide +kernel⟩,
    ⟨(cm 76 [(0, 1, 47), (1, 1, 1), (2, 1, 7)]), rst, 1, 7, by dsimp only; unfold State.KettleTakes State.Addressed; decide +kernel⟩,
    ⟨(cm 40 [(0, 1, 47), (1, 1, 3), (4, 1, 8), (5, 1, 4), (8, 1, 0), (9, 1, 1), (10, 1, 2), (11, 1, 3), (12, 1, 4), (13, 1, 5), (14, 1, 6), (15, 1, 7), (16, 1, 0), (17, 1, 1), (18, 1, 2), (19, 1, 3), (20, 1, 4), (21, 1, 5), (22, 1, 6), (23, 1, 7), (24, 1, 0), (25, 1, 1), (26, 1, 2), (27, 1, 3), (28, 1, 4), (29, 1, 5), (30, 1, 6), (31, 1, 7), (32, 1, 0), (33, 1, 1), (34, 1, 2), (35, 1, 3), (36, 1, 4), (37, 1, 5), (38, 1, 6), (39, 1, 7)]), rst, { slots := 8, gTable := 4, slotOf := (List.range 32).map (· % 8) }, by dsimp only; unfold State.KettleTakes State.Addressed; decide +kernel⟩,
    ⟨(cm 40 [(0, 1, 47), (1, 1, 3), (4, 1, 3), (5, 1, 4)]), rst, { slots := 3, gTable := 4, slotOf := List.replicate 32 0 }, by dsimp only; unfold State.KettleTakes State.Addressed; decide +kernel⟩,
    ⟨(cm 12 [(0, 8, 1), (10, 2, 1)]), rst, by unfold State.KettleTakes State.Addressed; decide +kernel⟩,
    ⟨(cm 12 [(0, 8, 2 ^ 47), (10, 2, 1)]), (({ rst with ilk.trips := 0 } : State).modChan 47 (fun c => { c with attached := true, configured := true, brewS := vset c.brewS 7 { na := 1 } })), by unfold State.KettleTakes State.Addressed; decide +kernel⟩⟩

/-- A state and operands for each clause of Obligations.HeadIdentification. -/
theorem witness_HeadIdentification :
    (∃ (s : State), ∃ (ch : Fin 48), ∃ (c : Cmd), s.KettleTakes 0x0200 c ∧ channelsOk (le c.params 0 8) = true ∧ le c.params 8 4 ≤ 1 ∧ s.attach = none ∧ ((∀ n, n < 48 → bit (le c.params 0 8) n = true → s.jobOf n = none))) ∧
    (∃ (s : State), ∃ (ch : Fin 48), ∃ i, ∃ (f : IdFrame), let us := 400; s.inRun = true ∧ (s.chan ch.val).ident = some i ∧ s.clock + 400 * us < i.waitEnd) ∧
    (∃ (s : State), ∃ (ch : Fin 48), ∃ i, ∃ (f : IdFrame), let us := 400; s.inRun = true ∧ (s.chan ch.val).ident = some i ∧ i.waitEnd + (20 + 80 * f.bytes.length) * us < s.clock) ∧
    (∃ (s : State), ∃ (ch : Fin 48), ∃ i, ∃ (f : IdFrame), ∃ b, let us := 400; let comes (f : IdFrame) : Prop := i.waitEnd ≤ s.clock + 400 * us ∧ s.clock ≤ i.waitEnd + (20 + 80 * f.bytes.length) * us; s.inRun = true ∧ (s.chan ch.val).ident = some i ∧ comes f ∧ i.phase = 0 ∧ IdFrame.taken f = some (0, b) ∧ b.length = 8 ∧ s.shot 16 = false ∧ s.attach.any (fun r => r.auth) = false) ∧
    (∃ (s : State), ∃ (ch : Fin 48), ∃ i, ∃ (f : IdFrame), ∃ b, let us := 400; let comes (f : IdFrame) : Prop := i.waitEnd ≤ s.clock + 400 * us ∧ s.clock ≤ i.waitEnd + (20 + 80 * f.bytes.length) * us; s.inRun = true ∧ (s.chan ch.val).ident = some i ∧ comes f ∧ i.phase = 0 ∧ IdFrame.taken f = some (0, b) ∧ b.length = 8 ∧ s.shot 16 = false ∧ s.attach.any (fun r => r.auth) = true ∧ s.mem.caddy.isSome = true) ∧
    (∃ (s : State), ∃ (ch : Fin 48), ∃ i, ∃ (f : IdFrame), let us := 400; let comes (f : IdFrame) : Prop := i.waitEnd ≤ s.clock + 400 * us ∧ s.clock ≤ i.waitEnd + (20 + 80 * f.bytes.length) * us; s.inRun = true ∧ (s.chan ch.val).ident = some i ∧ comes f ∧ i.phase = 0 ∧ IdFrame.taken f = none ∧ s.shot 16 = false ∧ i.missing ≤ 1 ∧ i.missing + i.failed ≤ 1) ∧
    (∃ (s : State), ∃ (ch : Fin 48), ∃ i, ∃ (f : IdFrame), let us := 400; let comes (f : IdFrame) : Prop := i.waitEnd ≤ s.clock + 400 * us ∧ s.clock ≤ i.waitEnd + (20 + 80 * f.bytes.length) * us; s.inRun = true ∧ (s.chan ch.val).ident = some i ∧ comes f ∧ i.phase = 0 ∧ IdFrame.taken f = none ∧ s.shot 16 = false ∧ 2 ≤ i.missing + i.failed) ∧
    (∃ (s : State), ∃ (ch : Fin 48), ∃ i, ∃ (f : IdFrame), let us := 400; let comes (f : IdFrame) : Prop := i.waitEnd ≤ s.clock + 400 * us ∧ s.clock ≤ i.waitEnd + (20 + 80 * f.bytes.length) * us; s.inRun = true ∧ (s.chan ch.val).ident = some i ∧ comes f ∧ i.phase = 2 ∧ IdFrame.taken f = some (0, [])) ∧
    (∃ (s : State), ∃ (ch : Fin 48), ∃ i, ∃ (f : IdFrame), ∃ k, ∃ b, let us := 400; let comes (f : IdFrame) : Prop := i.waitEnd ≤ s.clock + 400 * us ∧ s.clock ≤ i.waitEnd + (20 + 80 * f.bytes.length) * us; s.inRun = true ∧ (s.chan ch.val).ident = some i ∧ comes f ∧ i.phase = 3 ∧ IdFrame.taken f = some (0, b) ∧ b.length = 16 ∧ s.mem.caddy = some k ∧ s.clock < i.since + 50000 * us) ∧
    (∃ (s : State), ∃ (ch : Fin 48), ∃ i, s.inRun = true ∧ (s.chan ch.val).ident = some i ∧ s.clock < i.waitEnd) ∧
    (∃ (s : State), ∃ (ch : Fin 48), ∃ i, s.inRun = true ∧ (s.chan ch.val).ident = some i ∧ i.waitEnd ≤ s.clock ∧ i.phase = 0 ∧ i.missing = 0 ∧ i.failed ≤ 1) ∧
    (∃ (s : State), ∃ (ch : Fin 48), ∃ i, s.inRun = true ∧ (s.chan ch.val).ident = some i ∧ i.waitEnd ≤ s.clock ∧ i.phase = 0 ∧ 1 ≤ i.missing) ∧
    (∃ (s : State), ∃ (ch : Fin 48), ∃ i, s.inRun = true ∧ (s.chan ch.val).ident = some i ∧ i.phase = 1 ∧ i.readyAt ≤ s.clock) ∧
    (∃ (s : State), ∃ (ch : Fin 48), ∃ i, s.inRun = true ∧ (s.chan ch.val).ident = some i ∧ i.phase = 1 ∧ s.clock < i.readyAt) ∧
    (∃ (s : State), ∃ (ch : Fin 48), ∃ i, s.inRun = true ∧ (s.chan ch.val).ident = some i ∧ i.phase = 4 ∧ i.readyAt ≤ s.clock) ∧
    (∃ (s : State), ∃ (ch : Fin 48), ∃ i, s.inRun = true ∧ (s.chan ch.val).ident = some i ∧ i.phase = 4 ∧ s.clock < i.readyAt) ∧
    (∃ (s : State), ∃ (ch : Fin 48), ∃ i, let us := 400; s.inRun = true ∧ (s.chan ch.val).ident = some i ∧ (i.phase = 3 ∨ i.phase = 4) ∧ i.since + 50000 * us ≤ s.clock) ∧
    (∃ (s : State), ∃ (ch : Fin 48), ∃ i, let us := 400; s.inRun = true ∧ (s.chan ch.val).ident = some i ∧ (i.phase = 3 ∨ i.phase = 4) ∧ s.clock < i.since + 50000 * us) :=
    ⟨⟨rst, 47, (cm 12 [(0, 8, 2 ^ 47), (8, 4, 1)]), by unfold State.KettleTakes State.Addressed; decide +kernel⟩,
    ⟨(rst.modChan 47 (fun c => { c with ident := some { Ident.start 0 with waitEnd := 160001 } })), 47, { Ident.start 0 with waitEnd := 160001 }, { codeError := false, bytes := [] }, by dsimp only; decide +kernel⟩,
    ⟨(({ rst with clock := 8001 } : State).modChan 47 (fun c => { c with ident := some (Ident.start 0) })), 47, (Ident.start 0), { codeError := false, bytes := [] }, by dsimp only; decide +kernel⟩,
    ⟨(rst.modChan 47 (fun c => { c with ident := some (Ident.start 0) })), 47, (Ident.start 0), { codeError := false, bytes := idFrame [0, 8, 1, 0, 1, 32, 5, 0, 0, 0] }, [1, 0, 1, 32, 5, 0, 0, 0], by dsimp only; decide +kernel⟩,
    ⟨(({ rst with attach := some { channels := 1, auth := true, present := 0, authFail := 0, ids := [] }, mem.caddy := some [] } : State).modChan 47 (fun c => { c with ident := some (Ident.start 0) })), 47, (Ident.start 0), { codeError := false, bytes := idFrame [0, 8, 1, 0, 1, 32, 5, 0, 0, 0] }, [1, 0, 1, 32, 5, 0, 0, 0], by dsimp only; decide +kernel⟩,
    ⟨(rst.modChan 47 (fun c => { c with ident := some { Ident.start 0 with missing := 1 } })), 47, { Ident.start 0 with missing := 1 }, { codeError := true, bytes := [] }, by dsimp only; decide +kernel⟩,
    ⟨(rst.modChan 47 (fun c => { c with ident := some { Ident.start 0 with missing := 1, failed := 1 } })), 47, { Ident.start 0 with missing := 1, failed := 1 }, { codeError := true, bytes := [] }, by dsimp only; decide +kernel⟩,
    ⟨(rst.modChan 47 (fun c => { c with ident := some { Ident.start 0 with phase := 2 } })), 47, { Ident.start 0 with phase := 2 }, { codeError := false, bytes := idFrame [0, 0] }, by dsimp only; decide +kernel⟩,
    ⟨(({ rst with mem.caddy := some [], clock := 19999999 } : State).modChan 47 (fun c => { c with ident := some { Ident.start 0 with phase := 3, waitEnd := 19999999 } })), 47, { Ident.start 0 with phase := 3, waitEnd := 19999999 }, { codeError := false, bytes := idFrame ([0, 16] ++ pad 16) }, [], (pad 16), by dsimp only; decide +kernel⟩,
    ⟨(rst.modChan 47 (fun c => { c with ident := some { Ident.start 0 with waitEnd := 1 } })), 47, { Ident.start 0 with waitEnd := 1 }, by decide +kernel⟩,
    ⟨(rst.modChan 47 (fun c => { c with ident := some { Ident.start 0 with failed := 1 } })), 47, { Ident.start 0 with failed := 1 }, by decide +kernel⟩,
    ⟨(rst.modChan 47 (fun c => { c with ident := some { Ident.start 0 with missing := 1 } })), 47, { Ident.start 0 with missing := 1 }, by decide +kernel⟩,
    ⟨(rst.modChan 47 (fun c => { c with ident := some { Ident.start 0 with phase := 1 } })), 47, { Ident.start 0 with phase := 1 }, by decide +kernel⟩,
    ⟨(rst.modChan 47 (fun c => { c with ident := some { Ident.start 0 with phase := 1, readyAt := 1 } })), 47, { Ident.start 0 with phase := 1, readyAt := 1 }, by decide +kernel⟩,
    ⟨(rst.modChan 47 (fun c => { c with ident := some { Ident.start 0 with phase := 4 } })), 47, { Ident.start 0 with phase := 4 }, by decide +kernel⟩,
    ⟨(rst.modChan 47 (fun c => { c with ident := some { Ident.start 0 with phase := 4, readyAt := 1 } })), 47, { Ident.start 0 with phase := 4, readyAt := 1 }, by decide +kernel⟩,
    ⟨(({ rst with clock := 20000000 } : State).modChan 47 (fun c => { c with ident := some { Ident.start 0 with phase := 3 } })), 47, { Ident.start 0 with phase := 3 }, by dsimp only; decide +kernel⟩,
    ⟨(({ rst with clock := 19999999 } : State).modChan 47 (fun c => { c with ident := some { Ident.start 0 with phase := 3 } })), 47, { Ident.start 0 with phase := 3 }, by dsimp only; decide +kernel⟩⟩

/-- A state and operands for each clause of Obligations.InterlocksTripAndRelease. -/
theorem witness_InterlocksTripAndRelease :
    (∃ (s : State), ∃ (k : TripClass), s.pwr.supply = true ∧ 328 * 390625 ≤ (s.clock - vget s.ilk.assertedAt (tripIndex k) 0) * 32) ∧
    (∃ (s : State), ∃ (k : TripClass), s.pwr.supply = true ∧ (s.clock - vget s.ilk.assertedAt (tripIndex k) 0) * 32 < 328 * 390625) :=
    ⟨⟨{ rst with clock := 4003907 }, .jam, by decide +kernel⟩,
    ⟨{ rst with clock := 4003906 }, .jam, by decide +kernel⟩⟩

/-- A state and operands for each clause of Obligations.JobsOpen. -/
theorem witness_JobsOpen :
    (∃ (c : Cmd), ∃ (s : State), ∃ (slot : Nat), s.KettleTakes 0x0300 c ∧ slot < 4 ∧ s.jobAt slot = none ∧ ((∀ k, k < slot → s.jobAt k ≠ none)) ∧ s.jobSlot (BitVec.ofNat 16 (le c.params 0 2)) = none ∧ ((∀ n, n < 48 → bit (le c.params 4 8) n = true → s.jobOf n = none ∧ (s.chan n).ready = true)) ∧ le c.params 2 1 ≤ 2 ∧ ((le c.params 3 1 ≤ 7 ∨ le c.params 3 1 = 255)) ∧ channelsOk (le c.params 4 8) = true ∧ le c.params 16 8 % 512 = 0 ∧ le c.params 16 8 + 1536 ≤ s.storeBytes ∧ le c.params 24 8 < 2 ^ 48) ∧
    (∃ (c : Cmd), ∃ (s : State), ∃ (slot : Nat), ∃ j, ∃ (d : Layer), s.KettleTakes 0x0301 c ∧ s.jobSlot (BitVec.ofNat 16 (le c.params 0 2)) = some slot ∧ s.jobAt slot = some j ∧ j.state = .opened ∧ zeros c.params 25 3 = true ∧ d = { op := le c.params 3 1, base := le c.params 4 8, stride := le c.params 12 4, lines := le c.params 16 4, phase := le c.params 20 4, required := decide (le c.params 24 1 % 2 = 1) } ∧ s.layerOk j (le c.params 2 1) d.op d (le c.params 24 1) = true) :=
    ⟨⟨(cm 32 [(0, 2, 5), (2, 1, 2), (3, 1, 255), (4, 8, 1), (16, 8, 512), (24, 8, 2 ^ 48 - 1)]), (({ rst with mem.cfg := some { rate := 0, channels := 1, ranks := 1, density := 0 } } : State).modChan 0 (fun c => { c with attached := true, configured := true })), 0, by unfold State.KettleTakes State.Addressed; decide +kernel⟩,
    ⟨(cm 28 [(0, 2, 1), (2, 1, 1), (3, 1, 0), (12, 4, 512), (16, 4, 64), (24, 1, 1)]), (withJob ({ rst with mem.cfg := some { rate := 0, channels := 1, ranks := 1, density := 0 } }) (jb)), 0, jb, { op := 0, base := 0, stride := 512, lines := 64, phase := 0, required := true }, by unfold State.KettleTakes State.Addressed; decide +kernel⟩⟩

/-- A state and operands for each clause of Obligations.JobsStartStopClose. -/
theorem witness_JobsStartStopClose :
    (∃ (c : Cmd), ∃ (s : State), ∃ (slot : Nat), ∃ (j : Job), ∃ (bad : Fin 3), ∃ (corrected : Nat), s.jobSlot (BitVec.ofNat 16 (le c.params 0 2)) = some slot ∧ s.jobAt slot = some j ∧ s.KettleTakes 0x0302 c ∧ s.tripped = true) ∧
    (∃ (c : Cmd), ∃ (s : State), ∃ (slot : Nat), ∃ (j : Job), ∃ (bad : Fin 3), ∃ (corrected : Nat), s.jobSlot (BitVec.ofNat 16 (le c.params 0 2)) = some slot ∧ s.jobAt slot = some j ∧ s.KettleTakes 0x0302 c ∧ s.tripped = false ∧ s.tempBan j false (decide (le c.params 2 2 % 2 = 1)) = false ∧ s.link.conflict = false ∧ j.state = .opened ∧ s.badFire j false = false ∧ s.pairsOk j (tableOf (s.storeRead j.record 512)) = true ∧ s.surveyHolds j = false ∧ le c.params 2 2 ≤ 1 ∧ s.tableOk j (s.storeRead j.record 512) = true ∧ bad.val ≤ 1) ∧
    (∃ (c : Cmd), ∃ (s : State), ∃ (slot : Nat), ∃ (j : Job), s.jobSlot (BitVec.ofNat 16 (le c.params 0 2)) = some slot ∧ s.jobAt slot = some j ∧ s.KettleTakes 0x0303 c ∧ ((∀ o, o ∈ s.pe.ops → o.kind ≠ .jobStop (BitVec.ofNat 16 (le c.params 0 2)))) ∧ j.active = true ∧ le c.params 2 2 = 0) ∧
    (∃ (c : Cmd), ∃ (s : State), ∃ (slot : Nat), ∃ (j : Job), s.jobSlot (BitVec.ofNat 16 (le c.params 0 2)) = some slot ∧ s.jobAt slot = some j ∧ s.KettleTakes 0x0303 c ∧ ((∀ o, o ∈ s.pe.ops → o.kind ≠ .jobStop (BitVec.ofNat 16 (le c.params 0 2)))) ∧ (j.state = .arming ∨ j.state = .running) ∧ le c.params 2 2 = 1 ∧ ((∃ n, n ∈ j.chans ∧ (s.chan n).nextToFire ≤ le c.params 4 4))) ∧
    (∃ (c : Cmd), ∃ (s : State), ∃ (slot : Nat), ∃ (j : Job), s.jobSlot (BitVec.ofNat 16 (le c.params 0 2)) = some slot ∧ s.jobAt slot = some j ∧ s.KettleTakes 0x0304 c ∧ s.tripped = true) ∧
    (∃ (c : Cmd), ∃ (s : State), ∃ (slot : Nat), ∃ (j : Job), s.jobSlot (BitVec.ofNat 16 (le c.params 0 2)) = some slot ∧ s.jobAt slot = some j ∧ s.KettleTakes 0x0304 c ∧ s.tripped = false ∧ s.tempBan j true (decide (le c.params 2 2 % 2 = 1)) = false ∧ s.link.conflict = false ∧ ((j.state = .stopped ∨ (j.state = .ended ∧ (j.lines = 0 ∨ ∃ n, n ∈ j.chans ∧ (s.chan n).nextToFire < j.lines)))) ∧ s.badFire j true = false ∧ s.surveyHolds j = false ∧ ((8 ≤ j.feed ∨ (s.axis j.feed).standing = true)) ∧ le c.params 2 2 ≤ 1) ∧
    (∃ (c : Cmd), ∃ (s : State), ∃ (slot : Nat), ∃ (j : Job), s.jobSlot (BitVec.ofNat 16 (le c.params 0 2)) = some slot ∧ s.jobAt slot = some j ∧ s.KettleTakes 0x0305 c ∧ j.active = false ∧ zeros c.params 2 2 = true) :=
    ⟨⟨(cm 12 [(0, 2, 1)]), (withJob rst (jb)), 0, jb, 2, 5, by unfold State.KettleTakes State.Addressed; decide +kernel⟩,
    ⟨(cm 12 [(0, 2, 1), (2, 2, 1)]), (withTable (withJob ((({ rst with mem.cfg := some { rate := 0, channels := 1, ranks := 1, density := 0 }, ilk.trips := 0 } : State).modChan 0 (fun c => { c with attached := true, configured := true }))) (jb))), 0, jb, 1, 5, by unfold State.KettleTakes State.Addressed; decide +kernel⟩,
    ⟨(cm 8 [(0, 2, 1)]), (withJob rst ({ jb with state := .running })), 0, { jb with state := .running }, by unfold State.KettleTakes State.Addressed; decide +kernel⟩,
    ⟨(cm 8 [(0, 2, 1), (2, 2, 1), (4, 4, 0)]), (withJob rst ({ jb with state := .running })), 0, { jb with state := .running }, by unfold State.KettleTakes State.Addressed; decide +kernel⟩,
    ⟨(cm 8 [(0, 2, 1)]), (withJob rst ({ jb with state := .stopped })), 0, { jb with state := .stopped }, by unfold State.KettleTakes State.Addressed; decide +kernel⟩,
    ⟨(cm 8 [(0, 2, 1), (2, 2, 1)]), (withJob ({ rst with ilk.trips := 0 }) ({ jb with state := .stopped })), 0, { jb with state := .stopped }, by unfold State.KettleTakes State.Addressed; decide +kernel⟩,
    ⟨(cm 4 [(0, 2, 1)]), (withJob rst ({ jb with state := .stopped })), 0, { jb with state := .stopped }, by unfold State.KettleTakes State.Addressed; decide +kernel⟩⟩

/-- A state and operands for each clause of Obligations.TilesLand. -/
theorem witness_TilesLand :
    (∃ (s : State), ∃ (slot : Nat), ∃ (j : Job), ∃ (c : Cmd), ∃ (d : Layer), ∃ (base : State), s.jobAt slot = some j ∧ ((s.Awake ∧ s.Addressed 0x0310 c ∧ c.flags.getLsbD 1 = false ∧ base = s.handled) ∨ (s.KettleTakes 0x0310 c ∧ c.flags.getLsbD 1 = true ∧ s.link.heldData = [] ∧ base = s.taken)) ∧ s.shot 23 = false ∧ s.jobSlot (BitVec.ofNat 16 (le c.params 0 2)) = some slot ∧ (if j.geometry = 2 then j.state = .opened else j.state ≠ .ended) ∧ vget j.layers (le c.params 2 1) none = some d ∧ 0 < le c.params 2 1 ∧ le c.params 3 1 ≤ 1 ∧ ((le c.params 3 1 = 0 → s.host.bme = true)) ∧ ((le c.params 3 1 = 1 → le c.params 4 8 + le c.params 12 4 ≤ s.storeBytes)) ∧ le c.params 20 1 < 48 ∧ j.channels.getLsbD (le c.params 20 1) = true ∧ s.layerCh j (le c.params 20 1) = le c.params 20 1 ∧ le c.params 22 2 % 64 = 0 ∧ le c.params 24 2 % 64 = 0 ∧ 0 < le c.params 24 2 ∧ le c.params 22 2 + le c.params 24 2 ≤ (if j.geometry = 2 then le (s.storeRead (j.record + 10) 2) 0 2 else (s.chan (le c.params 20 1)).nozzles) ∧ 0 < le c.params 26 2 ∧ (if j.geometry = 2 then le c.params 16 4 + le c.params 26 2 else le c.params 26 2) ≤ d.lines ∧ le c.params 12 4 = le c.params 26 2 * (le c.params 24 2 / 4) ∧ le c.params 4 8 % 4 = 0 ∧ le c.params 21 1 = 0 ∧ ((j.geometry ≠ 2 → s.tileC j (le c.params 20 1) < le c.params 16 4 + le c.params 26 2 ∧ le c.params 16 4 + le c.params 26 2 ≤ s.tileC j (le c.params 20 1) + d.lines))) ∧
    (∃ (s : State), ∃ (slot : Nat), ∃ (j : Job), ∃ (t : Tile), ∃ (d : Layer), ∃ (b : Bytes), s.jobAt slot = some j ∧ j.geometry ≠ 2 ∧ s.inRun = true ∧ s.tiles = [t] ∧ s.jobSlot t.job = some slot ∧ t.orphan = false ∧ t.done = false ∧ t.forceLate = false ∧ t.landed = [] ∧ t.rowsDone = 0 ∧ vget j.layers t.layer none = some d ∧ 0 < t.width ∧ t.width % 4 = 0 ∧ t.nozzle % 4 = 0 ∧ t.nozzle + t.width ≤ 2048 ∧ 0 < t.height ∧ t.height ≤ d.lines ∧ 512 ≤ d.stride ∧ s.tileC j t.ch ≤ t.line ∧ swf 0 s.mem.store = true ∧ t.source = 0 ∧ s.shot 10 = false ∧ b.length = t.bytes) ∧
    (∃ (s : State), ∃ (slot : Nat), ∃ (j : Job), ∃ (t : Tile), ∃ (d : Layer), ∃ (e : ReadError), s.jobAt slot = some j ∧ j.geometry ≠ 2 ∧ s.inRun = true ∧ s.tiles = [t] ∧ s.jobSlot t.job = some slot ∧ t.orphan = false ∧ t.done = false ∧ t.forceLate = false ∧ t.landed = [] ∧ t.rowsDone = 0 ∧ vget j.layers t.layer none = some d ∧ 0 < t.width ∧ t.width % 4 = 0 ∧ t.nozzle % 4 = 0 ∧ t.nozzle + t.width ≤ 2048 ∧ 0 < t.height ∧ t.height ≤ d.lines ∧ 512 ≤ d.stride ∧ s.tileC j t.ch ≤ t.line ∧ swf 0 s.mem.store = true ∧ t.source = 0 ∧ s.shot 10 = false ∧ ((e = .timeout → s.host.ctl.timeoutOff = false))) ∧
    (∃ (s : State), ∃ (slot : Nat), ∃ (j : Job), ∃ (t : Tile), ∃ (d : Layer), ∃ (er : ReadErrors), s.jobAt slot = some j ∧ j.geometry ≠ 2 ∧ s.inRun = true ∧ s.tiles = [t] ∧ s.jobSlot t.job = some slot ∧ t.orphan = false ∧ t.done = false ∧ t.forceLate = false ∧ t.landed = [] ∧ t.rowsDone = 0 ∧ vget j.layers t.layer none = some d ∧ 0 < t.width ∧ t.width % 4 = 0 ∧ t.nozzle % 4 = 0 ∧ t.nozzle + t.width ≤ 2048 ∧ 0 < t.height ∧ t.height ≤ d.lines ∧ 512 ≤ d.stride ∧ s.tileC j t.ch ≤ t.line ∧ swf 0 s.mem.store = true ∧ t.source = 1) :=
    ⟨⟨tileSt, 0, { jb with layers := vset jb.layers 3 (some lay) }, (cm 28 [(0, 2, 1), (2, 1, 3), (12, 4, 1024), (24, 2, 64), (26, 2, 64)]), lay, tileSt.handled, by unfold State.KettleTakes State.Addressed State.Awake; decide +kernel⟩,
    ⟨{ (withJob ({ rst with mem.cfg := some { rate := 0, channels := 1, ranks := 1, density := 0 } }) ({ jb with layers := vset jb.layers 3 (some lay) })) with tiles := [tl] }, 0, { jb with layers := vset jb.layers 3 (some lay) }, tl, lay, (pad 1024), by decide +kernel⟩,
    ⟨{ (withJob ({ rst with mem.cfg := some { rate := 0, channels := 1, ranks := 1, density := 0 } }) ({ jb with layers := vset jb.layers 3 (some lay) })) with tiles := [tl] }, 0, { jb with layers := vset jb.layers 3 (some lay) }, tl, lay, .abort, by decide +kernel⟩,
    ⟨{ (withJob ({ rst with mem.cfg := some { rate := 0, channels := 1, ranks := 1, density := 0 } }) ({ jb with layers := vset jb.layers 3 (some lay) })) with tiles := [{ tl with source := 1 }] }, 0, { jb with layers := vset jb.layers 3 (some lay) }, { tl with source := 1 }, lay, { corrected := [], bad := [5] }, by decide +kernel⟩⟩

/-- A state and operands for each clause of Obligations.LinesComposeAndComeDue. -/
theorem witness_LinesComposeAndComeDue :
    (∃ (s : State), ∃ (ch : Fin 48), ∃ (slot : Nat), ∃ (j : Job), ∃ (corrected : Nat), ∃ (bad : List (Nat × Nat)), s.inRun = true ∧ s.jobOf ch.val = some slot ∧ s.jobAt slot = some j ∧ s.canCompose j ch.val = true ∧ s.shot 84 = false ∧ s.shot 85 = false) ∧
    (∃ (s : State), ∃ (ch : Fin 48), ∃ (slot : Nat), ∃ (j : Job), ∃ (k : Fin 4), s.inRun = true ∧ s.jobOf ch.val = some slot ∧ s.jobAt slot = some j ∧ k.val = slot ∧ j.state = .running ∧ j.passWait = false ∧ ((j.lines = 0 ∨ j.trigLine < j.lines)) ∧ j.reached (s.chanPosition j.firstCh) (j.start + ((j.column j.trigLine * j.pitch : Nat) : Int) / 65536) = true) ∧
    (∃ (s : State), ∃ (ch : Fin 48), ∃ (slot : Nat), ∃ (j : Job), ∃ (k : Fin 4), s.inRun = true ∧ s.jobOf ch.val = some slot ∧ s.jobAt slot = some j ∧ k.val = slot ∧ j.state = .running ∧ j.passWait = false ∧ ((j.lines = 0 ∨ j.trigLine < j.lines)) ∧ j.reached (s.chanPosition j.firstCh) (j.start + ((j.column j.trigLine * j.pitch : Nat) : Int) / 65536) = false) ∧
    (∃ (s : State), ∃ (ch : Fin 48), ∃ (slot : Nat), ∃ (j : Job), let c := s.chan ch.val; s.inRun = true ∧ s.jobOf ch.val = some slot ∧ s.jobAt slot = some j ∧ j.state = .running ∧ j.passWait = false ∧ s.shutdownLatched ch.val = false ∧ c.shutAtSlot = 0 ∧ c.dueEarly = 0 ∧ ((∀ p, c.prepared = some p → p.due = 0)) ∧ s.reaches j ch.val (s.slotPos j ch.val c.nextLine 0 1) = false) ∧
    (∃ (s : State), ∃ (ch : Fin 48), ∃ (slot : Nat), ∃ (j : Job), let c := s.chan ch.val; s.inRun = true ∧ s.jobOf ch.val = some slot ∧ s.jobAt slot = some j ∧ j.state = .running ∧ j.passWait = false ∧ s.shutdownLatched ch.val = false ∧ c.shutAtSlot = 0 ∧ c.dueEarly = 0 ∧ j.beyond c.nextLine = false ∧ c.gone.contains c.nextLine = false ∧ s.shot 20 = false ∧ s.shot 21 = false ∧ s.reaches j ch.val (s.slotPos j ch.val c.nextLine 0 1) = true ∧ c.prepared = none ∧ c.packed.isSome = true ∧ c.firing = none) ∧
    (∃ (s : State), ∃ (ch : Fin 48), ∃ (slot : Nat), ∃ (j : Job), ∃ p, let c := s.chan ch.val; s.inRun = true ∧ s.jobOf ch.val = some slot ∧ s.jobAt slot = some j ∧ j.state = .running ∧ j.passWait = false ∧ s.shutdownLatched ch.val = false ∧ c.shutAtSlot = 0 ∧ c.dueEarly = 0 ∧ j.beyond c.nextLine = false ∧ c.gone.contains c.nextLine = false ∧ s.shot 20 = false ∧ s.shot 21 = false ∧ s.reaches j ch.val (s.slotPos j ch.val c.nextLine 0 1) = true ∧ c.prepared = some p ∧ p.due = 0 ∧ c.firing = none) ∧
    (∃ (s : State), ∃ (ch : Fin 48), ∃ (slot : Nat), ∃ (j : Job), ∃ p, ∃ f, let c := s.chan ch.val; s.inRun = true ∧ s.jobOf ch.val = some slot ∧ s.jobAt slot = some j ∧ j.state = .running ∧ j.passWait = false ∧ s.shutdownLatched ch.val = false ∧ c.shutAtSlot = 0 ∧ c.dueEarly = 0 ∧ j.beyond c.nextLine = false ∧ c.gone.contains c.nextLine = false ∧ s.shot 20 = false ∧ s.shot 21 = false ∧ s.reaches j ch.val (s.slotPos j ch.val c.nextLine 0 1) = true ∧ c.prepared = some p ∧ p.due = 0 ∧ c.firing = some f ∧ f.period.cosy = false ∧ f.ended = false ∧ f.slot + 1 = f.period.plan.length ∧ c.stitchBack c.nextLine = false) ∧
    (∃ (s : State), ∃ (ch : Fin 48), ∃ (slot : Nat), ∃ (j : Job), ∃ p, ∃ f, let c := s.chan ch.val; s.inRun = true ∧ s.jobOf ch.val = some slot ∧ s.jobAt slot = some j ∧ j.state = .running ∧ j.passWait = false ∧ s.shutdownLatched ch.val = false ∧ c.shutAtSlot = 0 ∧ c.dueEarly = 0 ∧ j.beyond c.nextLine = false ∧ c.gone.contains c.nextLine = false ∧ s.shot 20 = false ∧ s.shot 21 = false ∧ s.reaches j ch.val (s.slotPos j ch.val c.nextLine 0 1) = true ∧ c.prepared = some p ∧ p.due = 0 ∧ c.firing = some f ∧ f.period.cosy = false ∧ f.slot + 1 < f.period.plan.length) ∧
    (∃ (s : State), ∃ (ch : Fin 48), ∃ (slot : Nat), ∃ (j : Job), ∃ p, let c := s.chan ch.val; let next := c.following (c.nextLine + 1); s.inRun = true ∧ s.jobOf ch.val = some slot ∧ s.jobAt slot = some j ∧ j.state = .running ∧ j.passWait = false ∧ s.shutdownLatched ch.val = false ∧ c.shutAtSlot = 0 ∧ c.prepared = some p ∧ p.due ≠ 0 ∧ (j.beyond next = true ∨ s.reaches j ch.val (s.slotPos j ch.val next 0 1) = false)) ∧
    (∃ (s : State), ∃ (ch : Fin 48), ∃ (slot : Nat), ∃ (j : Job), ∃ p, let c := s.chan ch.val; let next := c.following (c.nextLine + 1); s.inRun = true ∧ s.jobOf ch.val = some slot ∧ s.jobAt slot = some j ∧ j.state = .running ∧ j.passWait = false ∧ s.shutdownLatched ch.val = false ∧ c.shutAtSlot = 0 ∧ c.prepared = some p ∧ p.due ≠ 0 ∧ j.beyond next = false ∧ s.reaches j ch.val (s.slotPos j ch.val next 0 1) = true) :=
    ⟨⟨(withJob ({ rst with mem.cfg := some { rate := 0, channels := 1, ranks := 1, density := 0 } }) ({ jb with state := .running })), 0, 0, { jb with state := .running }, 0, [(3, 127)], by decide +kernel⟩,
    ⟨(withJob rst ({ jb with state := .running })), 0, 0, { jb with state := .running }, 0, by decide +kernel⟩,
    ⟨(withJob rst ({ jb with state := .running, start := 100 })), 0, 0, { jb with state := .running, start := 100 }, 0, by decide +kernel⟩,
    ⟨(withJob rst ({ jb with state := .running, start := 100 })), 0, 0, { jb with state := .running, start := 100 }, by dsimp only; exact ⟨(by decide +kernel), (by decide +kernel), (by decide +kernel), (by decide +kernel), (by decide +kernel), (by decide +kernel), (by decide +kernel), (by decide +kernel), optAll (by decide +kernel), (by decide +kernel)⟩⟩,
    ⟨(withJob (((State.modEncoder rst 0 (fun e => { e with hist := [(0, true)] })).modChan 0 (fun c => { c with packed := some ({ line := 0, codes := [] }, []) }))) ({ jb with state := .running })), 0, 0, { jb with state := .running }, by dsimp only; decide +kernel⟩,
    ⟨(withJob (((State.modEncoder rst 0 (fun e => { e with hist := [(0, true)] })).modChan 0 (fun c => { c with prepared := some pe }))) ({ jb with state := .running })), 0, 0, { jb with state := .running }, pe, by dsimp only; decide +kernel⟩,
    ⟨(withJob (((State.modEncoder rst 0 (fun e => { e with hist := [(0, true)] })).modChan 0 (fun c => { c with prepared := some pe, firing := some fi }))) ({ jb with state := .running })), 0, 0, { jb with state := .running }, pe, fi, by dsimp only; decide +kernel⟩,
    ⟨(withJob (((State.modEncoder rst 0 (fun e => { e with hist := [(0, true)] })).modChan 0 (fun c => { c with prepared := some pe, firing := some { fi with period := { pe with plan := [sp, sp] } } }))) ({ jb with state := .running })), 0, 0, { jb with state := .running }, pe, { fi with period := { pe with plan := [sp, sp] } }, by dsimp only; decide +kernel⟩,
    ⟨(withJob ((rst.modChan 0 (fun c => { c with prepared := some { pe with due := 1 } }))) ({ jb with state := .running })), 0, 0, { jb with state := .running }, { pe with due := 1 }, by dsimp only; decide +kernel⟩,
    ⟨(withJob (((State.modEncoder rst 0 (fun e => { e with hist := [(0, true)] })).modChan 0 (fun c => { c with prepared := some { pe with due := 1 } }))) ({ jb with state := .running, start := -100 })), 0, 0, { jb with state := .running, start := -100 }, { pe with due := 1 }, by dsimp only; decide +kernel⟩⟩

/-- A state and operands for each clause of Obligations.PeriodsAndSlots. -/
theorem witness_PeriodsAndSlots :
    (∃ (s : State), ∃ (ch : Fin 48), ∃ (slot : Nat), ∃ (j : Job), ∃ f, ∃ codes, ∃ f2, ∃ rest, let c := s.chan ch.val; s.inRun = true ∧ s.jobOf ch.val = some slot ∧ s.jobAt slot = some j ∧ s.shutdownLatched ch.val = false ∧ (s.chan ch.val).shutAtSlot = 0 ∧ s.pwr.blockHeld.getLsbD (ch.val / 4) = false ∧ j.state = .running ∧ c.mayPrepare = true ∧ c.packed = some (f, codes) ∧ c.fifo = f2 :: rest ∧ f2.line = f.line + 1 ∧ s.shot 22 = false ∧ j.beyond (f.line + 1) = false ∧ c.gone.contains (f.line + 1) = false) ∧
    (∃ (s : State), ∃ (ch : Fin 48), ∃ (slot : Nat), ∃ (j : Job), ∃ p, ∃ x, ∃ r, let c := s.chan ch.val; s.inRun = true ∧ s.jobOf ch.val = some slot ∧ s.jobAt slot = some j ∧ s.shutdownLatched ch.val = false ∧ (s.chan ch.val).shutAtSlot = 0 ∧ s.pwr.blockHeld.getLsbD (ch.val / 4) = false ∧ j.state = .running ∧ ((∀ f, c.firing = some f → f.ended = true ∧ f.period.plan.length ≤ f.slot + 1 ∧ f.period.cosy = false)) ∧ c.prepared = some p ∧ p.due ≠ 0 ∧ p.since < s.clock ∧ p.plan = x :: r ∧ c.lateUntil ≤ s.clock ∧ c.gone.contains (p.line + 1) = false) ∧
    (∃ (s : State), ∃ (ch : Fin 48), ∃ (slot : Nat), ∃ (j : Job), ∃ f, ∃ x, ∃ y, let c := s.chan ch.val; s.inRun = true ∧ s.jobOf ch.val = some slot ∧ s.jobAt slot = some j ∧ s.shutdownLatched ch.val = false ∧ (s.chan ch.val).shutAtSlot = 0 ∧ s.pwr.blockHeld.getLsbD (ch.val / 4) = false ∧ c.firing = some f ∧ f.period.cosy = false ∧ f.period.plan[f.slot]? = some x ∧ f.period.plan[f.slot + 1]? = some y ∧ f.start + x.len ≤ s.clock ∧ j.reached (s.chanPosition ch.val) (s.slotPos j ch.val f.period.line (f.slot + 1) f.period.plan.length) = true) ∧
    (∃ (s : State), ∃ (ch : Fin 48), ∃ (slot : Nat), ∃ (j : Job), ∃ f, let c := s.chan ch.val; s.inRun = true ∧ s.jobOf ch.val = some slot ∧ s.jobAt slot = some j ∧ s.shutdownLatched ch.val = false ∧ (s.chan ch.val).shutAtSlot = 0 ∧ s.pwr.blockHeld.getLsbD (ch.val / 4) = false ∧ c.firing = some f ∧ f.period.cosy = false ∧ f.ended = false ∧ f.start + c.slotLength f ≤ s.clock ∧ f.slot + 1 < f.period.plan.length) ∧
    (∃ (s : State), ∃ (ch : Fin 48), ∃ (slot : Nat), ∃ (j : Job), ∃ f, let c := s.chan ch.val; s.inRun = true ∧ s.jobOf ch.val = some slot ∧ s.jobAt slot = some j ∧ s.shutdownLatched ch.val = false ∧ (s.chan ch.val).shutAtSlot = 0 ∧ s.pwr.blockHeld.getLsbD (ch.val / 4) = false ∧ c.firing = some f ∧ f.period.cosy = false ∧ f.ended = false ∧ f.start + c.slotLength f ≤ s.clock ∧ f.period.plan.length ≤ f.slot + 1 ∧ f.period.held = false ∧ j.channels = BitVec.ofNat 64 (2 ^ ch.val) ∧ j.lastPass = true ∧ j.mark f.period.line = {}) :=
    ⟨⟨(withJob ((rst.modChan 0 (fun c => { c with packed := some ({ line := 0, codes := [] }, []), fifo := [{ line := 1, codes := [] }] }))) ({ jb with state := .running })), 0, 0, { jb with state := .running }, { line := 0, codes := [] }, [], { line := 1, codes := [] }, [], by dsimp only; decide +kernel⟩,
    ⟨(withJob ((({ rst with clock := 1 } : State).modChan 0 (fun c => { c with prepared := some { pe with due := 1 } }))) ({ jb with state := .running })), 0, 0, { jb with state := .running }, { pe with due := 1 }, sp, [], by dsimp only; exact ⟨(by decide +kernel), (by decide +kernel), (by decide +kernel), (by decide +kernel), (by decide +kernel), (by decide +kernel), (by decide +kernel), optAll (by decide +kernel), (by decide +kernel), (by decide +kernel), (by decide +kernel), (by decide +kernel), (by decide +kernel), (by decide +kernel)⟩⟩,
    ⟨(withJob ((({ rst with clock := 500 } : State).modChan 0 (fun c => { c with firing := some { fi with period := { pe with plan := [sp, sp] } } }))) ({ jb with state := .running })), 0, 0, { jb with state := .running }, { fi with period := { pe with plan := [sp, sp] } }, sp, sp, by dsimp only; decide +kernel⟩,
    ⟨(withJob ((({ rst with clock := 500 } : State).modChan 0 (fun c => { c with firing := some { fi with period := { pe with plan := [sp, sp] } } }))) ({ jb with state := .running })), 0, 0, { jb with state := .running }, { fi with period := { pe with plan := [sp, sp] } }, by dsimp only; decide +kernel⟩,
    ⟨(withJob ((({ rst with clock := 500 } : State).modChan 0 (fun c => { c with firing := some fi }))) ({ jb with state := .running })), 0, 0, { jb with state := .running }, fi, by dsimp only; decide +kernel⟩⟩

/-- A state and operands for each clause of Obligations.ArmingAndLateLegs. -/
theorem witness_ArmingAndLateLegs :
    (∃ (s : State), ∃ (k : Fin 4), ∃ (j : Job), let ahead : Prop := s.shot 22 = false ∧ j.chans ≠ [] ∧ ∀ n, n ∈ j.chans → (s.chan n).packed = none ∧ (s.chan n).gone = [] ∧ j.beyond (s.chan n).nextLine = false ∧ ∃ f r, (s.chan n).fifo = f :: r ∧ f.line = (s.chan n).nextLine ∧ ∀ x, x ∈ r → f.line ≤ x.line; s.inRun = true ∧ s.jobAt k.val = some j ∧ ahead ∧ j.state = .arming ∧ s.fifosFull j = true ∧ s.cosyMet j = true ∧ j.passWait = false ∧ s.pe.stalled = false ∧ ((s.isMaster = true ∨ s.link.id = none ∨ s.link.stepped = true)) ∧ ((∀ n, n ∈ j.chans → j.passed (s.chanPosition n) (s.slotPos j n (s.chan n).nextLine 0 1) = false)) ∧ j.resumeMove = false) ∧
    (∃ (s : State), ∃ (k : Fin 4), ∃ (j : Job), let ahead : Prop := s.shot 22 = false ∧ j.chans ≠ [] ∧ ∀ n, n ∈ j.chans → (s.chan n).packed = none ∧ (s.chan n).gone = [] ∧ j.beyond (s.chan n).nextLine = false ∧ ∃ f r, (s.chan n).fifo = f :: r ∧ f.line = (s.chan n).nextLine ∧ ∀ x, x ∈ r → f.line ≤ x.line; s.inRun = true ∧ s.jobAt k.val = some j ∧ ahead ∧ j.state = .arming ∧ s.fifosFull j = true ∧ s.cosyMet j = true ∧ j.passWait = false ∧ s.pe.stalled = false ∧ ((s.isMaster = true ∨ s.link.id = none ∨ s.link.stepped = true)) ∧ ((∀ n, n ∈ j.chans → j.passed (s.chanPosition n) (s.slotPos j n (s.chan n).nextLine 0 1) = false)) ∧ j.resumeMove = true ∧ j.feed < 8 ∧ (s.axis j.feed).leg = .backup ∧ (s.axis j.feed).segs = [] ∧ (s.axis j.feed).speed = 0) ∧
    (∃ (s : State), ∃ (k : Fin 4), ∃ (j : Job), s.inRun = true ∧ s.jobAt k.val = some j ∧ s.isMaster = false ∧ s.link.id.isSome = true ∧ s.link.stepped = false) ∧
    (∃ (s : State), ∃ (k : Fin 4), ∃ (j : Job), let ahead : Prop := s.shot 22 = false ∧ j.chans ≠ [] ∧ ∀ n, n ∈ j.chans → (s.chan n).packed = none ∧ (s.chan n).gone = [] ∧ j.beyond (s.chan n).nextLine = false ∧ ∃ f r, (s.chan n).fifo = f :: r ∧ f.line = (s.chan n).nextLine ∧ ∀ x, x ∈ r → f.line ≤ x.line; s.inRun = true ∧ s.jobAt k.val = some j ∧ j.state = .running ∧ j.passWait = true ∧ ahead ∧ j.late = .none ∧ ((∀ n, n ∈ j.chans → if j.reverse then s.slotPos j n 0 0 1 < s.chanPosition n else s.chanPosition n < s.slotPos j n 0 0 1))) ∧
    (∃ (s : State), ∃ (k : Fin 4), ∃ (j : Job), s.inRun = true ∧ s.jobAt k.val = some j ∧ j.state = .running ∧ j.passWait = true ∧ ((∃ n, n ∈ j.chans ∧ if j.reverse then s.chanPosition n ≤ s.slotPos j n 0 0 1 else s.slotPos j n 0 0 1 ≤ s.chanPosition n))) ∧
    (∃ (s : State), ∃ (k : Fin 4), ∃ (j : Job), s.inRun = true ∧ s.jobAt k.val = some j ∧ j.state = .late ∧ j.feed < 8 ∧ j.late = .stopping ∧ (s.axis j.feed).leg = .stopWeb ∧ (s.axis j.feed).segs = [] ∧ (s.axis j.feed).speed = 0) ∧
    (∃ (s : State), ∃ (k : Fin 4), ∃ (j : Job), s.inRun = true ∧ s.jobAt k.val = some j ∧ j.state = .late ∧ j.feed < 8 ∧ j.late = .backing ∧ (s.axis j.feed).leg = .backup ∧ (s.axis j.feed).segs = [] ∧ (s.axis j.feed).speed = 0) ∧
    (∃ (s : State), ∃ (k : Fin 4), ∃ (j : Job), let ahead : Prop := s.shot 22 = false ∧ j.chans ≠ [] ∧ ∀ n, n ∈ j.chans → (s.chan n).packed = none ∧ (s.chan n).gone = [] ∧ j.beyond (s.chan n).nextLine = false ∧ ∃ f r, (s.chan n).fifo = f :: r ∧ f.line = (s.chan n).nextLine ∧ ∀ x, x ∈ r → f.line ≤ x.line; s.inRun = true ∧ s.jobAt k.val = some j ∧ j.state = .late ∧ j.feed < 8 ∧ ahead ∧ j.late = .waiting ∧ s.fifosFull j = true ∧ ((s.link.id = some 0 → j.ringDevs &&& ~~~ j.fullFrom = 0)) ∧ j.passWait = false ∧ ((s.isMaster = true ∨ s.link.id = none ∨ s.link.stepped = true))) ∧
    (∃ (s : State), ∃ (k : Fin 4), ∃ (j : Job), s.inRun = true ∧ s.jobAt k.val = some j ∧ j.state = .late ∧ 8 ≤ j.feed ∧ s.fifosFull j = true ∧ j.fullSent = false) :=
    ⟨⟨(withJob ((rst.modChan 0 (fun c => { c with fifo := fifo8 }))) ({ jb with state := .arming, start := 100 })), 0, { jb with state := .arming, start := 100 }, by dsimp only; exact ⟨(by decide +kernel), (by decide +kernel), ⟨(by decide +kernel), (by decide +kernel), only0 (by decide +kernel) ⟨(by decide +kernel), (by decide +kernel), (by decide +kernel), _, _, rfl, (by decide +kernel), (by decide +kernel)⟩⟩, (by decide +kernel), (by decide +kernel), (by decide +kernel), (by decide +kernel), (by decide +kernel), (by decide +kernel), only0 (by decide +kernel) (by decide +kernel), (by decide +kernel)⟩⟩,
    ⟨(withJob ((((State.modAxis (rst) 7 (fun a => { a with leg := .backup })) : State).modChan 0 (fun c => { c with fifo := fifo8 }))) ({ jb with state := .arming, start := 100, feed := 7, resumeMove := true })), 0, { jb with state := .arming, start := 100, feed := 7, resumeMove := true }, by dsimp only; exact ⟨(by decide +kernel), (by decide +kernel), ⟨(by decide +kernel), (by decide +kernel), only0 (by decide +kernel) ⟨(by decide +kernel), (by decide +kernel), (by decide +kernel), _, _, rfl, (by decide +kernel), (by decide +kernel)⟩⟩, (by decide +kernel), (by decide +kernel), (by decide +kernel), (by decide +kernel), (by decide +kernel), (by decide +kernel), only0 (by decide +kernel) (by decide +kernel), (by decide +kernel), (by decide +kernel), (by decide +kernel), (by decide +kernel), (by decide +kernel)⟩⟩,
    ⟨(withJob ({ rst with link.id := some 3 }) ({ jb with state := .arming, start := 100 })), 0, { jb with state := .arming, start := 100 }, by decide +kernel⟩,
    ⟨(withJob ((rst.modChan 0 (fun c => { c with fifo := fifo8 }))) ({ jb with state := .running, start := 100, passWait := true })), 0, { jb with state := .running, start := 100, passWait := true }, by dsimp only; exact ⟨(by decide +kernel), (by decide +kernel), (by decide +kernel), (by decide +kernel), ⟨(by decide +kernel), (by decide +kernel), only0 (by decide +kernel) ⟨(by decide +kernel), (by decide +kernel), (by decide +kernel), _, _, rfl, (by decide +kernel), (by decide +kernel)⟩⟩, (by decide +kernel), only0 (by decide +kernel) (by decide +kernel)⟩⟩,
    ⟨(withJob rst ({ jb with state := .running, passWait := true })), 0, { jb with state := .running, passWait := true }, by decide +kernel⟩,
    ⟨(withJob ((State.modAxis (rst) 0 (fun a => { a with leg := .stopWeb }))) ({ jb with state := .late, feed := 0, late := .stopping })), 0, { jb with state := .late, feed := 0, late := .stopping }, by decide +kernel⟩,
    ⟨(withJob ((State.modAxis (rst) 0 (fun a => { a with leg := .backup }))) ({ jb with state := .late, feed := 0, late := .backing })), 0, { jb with state := .late, feed := 0, late := .backing }, by decide +kernel⟩,
    ⟨(withJob ((rst.modChan 0 (fun c => { c with fifo := fifo8 }))) ({ jb with state := .late, feed := 0, late := .waiting })), 0, { jb with state := .late, feed := 0, late := .waiting }, by dsimp only; exact ⟨(by decide +kernel), (by decide +kernel), (by decide +kernel), (by decide +kernel), ⟨(by decide +kernel), (by decide +kernel), only0 (by decide +kernel) ⟨(by decide +kernel), (by decide +kernel), (by decide +kernel), _, _, rfl, (by decide +kernel), (by decide +kernel)⟩⟩, (by decide +kernel), (by decide +kernel), (by decide +kernel), (by decide +kernel), (by decide +kernel)⟩⟩,
    ⟨(withJob ((rst.modChan 0 (fun c => { c with fifo := fifo8 }))) ({ jb with state := .late })), 0, { jb with state := .late }, by decide +kernel⟩⟩

/-- A state and operands for each clause of Obligations.EncodersCount. -/
theorem witness_EncodersCount :
    (∃ (s : State), ∃ (e : Fin 8), ∃ (a b up : Bool), let x := s.encoder e.val; s.inRunIdle = true ∧ s.shot 17 = false ∧ (((a ≠ x.a ∧ b = x.b ∧ up = (a != b)) ∨ (a = x.a ∧ b ≠ x.b ∧ up = (a == b))))) ∧
    (∃ (s : State), ∃ (e : Fin 8), ∃ (a b : Bool), let x := s.encoder e.val; s.inRunIdle = true ∧ s.shot 17 = false ∧ a ≠ x.a ∧ b ≠ x.b) ∧
    (∃ (s : State), ∃ (e : Fin 8), ∃ t0, ∃ u, ∃ r, let x := s.encoder e.val; s.inRunIdle = true ∧ x.hist = (t0, u) :: r ∧ 2097152 ≤ s.now - t0) ∧
    (∃ (s : State), ∃ (e : Fin 8), ∃ t0, ∃ u, ∃ r, let x := s.encoder e.val; s.inRunIdle = true ∧ x.hist = (t0, u) :: r ∧ s.now - t0 < 2097152) :=
    ⟨⟨rst, 7, true, false, true, by dsimp only; decide +kernel⟩,
    ⟨rst, 7, true, true, by dsimp only; decide +kernel⟩,
    ⟨(State.modEncoder { rst with timebase := 2097152 } 7 (fun e => { e with hist := [(0, true)] })), 7, 0, true, [], by dsimp only; decide +kernel⟩,
    ⟨(State.modEncoder { rst with timebase := 2097151 } 7 (fun e => { e with hist := [(0, true)] })), 7, 0, true, [], by dsimp only; decide +kernel⟩⟩

/-- A state and operands for each clause of Obligations.ThermalCommands. -/
theorem witness_ThermalCommands :
    (∃ (c : Cmd), ∃ (s : State), let xs := selectSensors (le c.params 0 1) (le c.params 1 1); let head : Prop := le c.params 0 1 = 0; let w := s.otp.wires; s.KettleTakes 0x0700 c ∧ xs ≠ [] ∧ ((∀ x, x ∈ xs → s.configBlocked x (leS c.params 2 2) (leS c.params 6 2) (leS c.params 8 2) = false)) ∧ leS c.params 2 2 ≤ (if head then w.headWarn else w.dieWarn) ∧ leS c.params 4 2 ≤ (if head then w.headThrottle else w.dieThrottle) ∧ leS c.params 6 2 ≤ (if head then w.headShutdown else w.dieShutdown) ∧ (if head then 250 else 400) ≤ leS c.params 2 2 ∧ leS c.params 2 2 < leS c.params 4 2 ∧ leS c.params 4 2 < leS c.params 6 2 ∧ 10 ≤ leS c.params 8 2 ∧ leS c.params 8 2 ≤ 100 ∧ zeros c.params 10 2 = true) ∧
    (∃ (c : Cmd), ∃ (s : State), s.KettleTakes 0x0701 c) ∧
    (∃ (c : Cmd), ∃ (s : State), ∃ n, s.KettleTakes 0x0702 c ∧ n < 48 ∧ bit (le c.params 0 8) n = true ∧ ((s.headSensor n).warn : Rat) < (s.headSensor n).value) ∧
    (∃ (c : Cmd), ∃ (s : State), s.KettleTakes 0x0702 c ∧ ((∀ n, n < 48 → bit (le c.params 0 8) n = true → (s.headSensor n).value ≤ ((s.headSensor n).warn : Rat))) ∧ ((∀ i, i < 6 → (s.dieSensor i).value < ((s.dieSensor i).warn : Rat))) ∧ s.otp.wires.compat = false) ∧
    (∃ (c : Cmd), ∃ (s : State), s.KettleTakes 0x0702 c ∧ ((∀ n, n < 48 → bit (le c.params 0 8) n = true → (s.headSensor n).value ≤ ((s.headSensor n).warn : Rat))) ∧ ((∀ i, i < 6 → (s.dieSensor i).value < ((s.dieSensor i).warn : Rat))) ∧ s.otp.wires.compat = true ∧ channelsOk (le c.params 0 8) = true ∧ ((∀ x, x ∈ s.therm.logWait → if x.1 < 48 then bit (le c.params 0 8) x.1 = false ∨ (s.headSensor x.1).latched = false else (s.dieSensor (x.1 - 48)).latched = false))) :=
    ⟨⟨(cm 12 [(0, 1, 0), (1, 1, 47), (2, 2, 250), (4, 2, 251), (6, 2, 750), (8, 2, 100)]), rst, by dsimp only; unfold State.KettleTakes State.Addressed; decide +kernel⟩,
    ⟨(cm 0 []), rst, by unfold State.KettleTakes State.Addressed; decide +kernel⟩,
    ⟨(cm 8 [(0, 8, 2 ^ 47)]), (rst.modHead 47 (fun x => { x with value := 601 })), 47, by unfold State.KettleTakes State.Addressed; decide +kernel⟩,
    ⟨(cm 8 [(0, 8, 2 ^ 47)]), rst, by unfold State.KettleTakes State.Addressed; decide +kernel⟩,
    ⟨(cm 8 [(0, 8, 1)]), { rst with otp.wires.compat := true, therm.logWait := [(3, 5)] }, by unfold State.KettleTakes State.Addressed; decide +kernel⟩⟩

/-- A state and operands for each clause of Obligations.Measurements. -/
theorem witness_Measurements :
    (∃ (s : State), ∃ (raw : Int), ∃ (i : Fin 6), s.inRunIdle = true ∧ (s.dieSensor i.val).suspect = false) ∧
    (∃ (s : State), ∃ (raw : Int), ∃ (n : Fin 48), s.inRunIdle = true ∧ (s.chan n.val).attached = false) ∧
    (∃ (s : State), ∃ (raw : Int), ∃ (n : Fin 48), ∃ (q : Rat), s.inRunIdle = true ∧ (s.chan n.val).attached = true ∧ s.shot 64 = false ∧ s.shot 66 = false ∧ (s.headSensor n.val).suspect = false ∧ headTemp raw (s.headEntry n.val) = some q) ∧
    (∃ (s : State), ∃ (raw : Int), ∃ (n : Fin 48), s.inRunIdle = true ∧ (s.chan n.val).attached = true ∧ s.shot 64 = false ∧ s.shot 66 = false ∧ (s.headSensor n.val).suspect = false ∧ headTemp raw (s.headEntry n.val) = none) :=
    ⟨⟨rst, 5, 5, by decide +kernel⟩,
    ⟨rst, 5, 47, by decide +kernel⟩,
    ⟨wordsState, 8192, 47, 250, ⟨by decide +kernel, by decide +kernel, by decide +kernel, by decide +kernel, by decide +kernel, by rw [show wordsState.headEntry ((47 : Fin 48) : Nat) = _ from headEntry_words]; decide +kernel⟩⟩,
    ⟨(rst.modChan 47 (fun c => { c with attached := true })), 0, 47, by decide +kernel⟩⟩

/-- A state and operands for each clause of Obligations.ThermalTimersAndCosy. -/
theorem witness_ThermalTimersAndCosy :
    (∃ (s : State), ∃ (x : Sensor), ∃ t0, s.inRunIdle = true ∧ (s.sensor x).upFrom = some t0 ∧ t0 + 10 * 400000 ≤ s.clock ∧ ((s.sensor x).throttle : Rat) ≤ (s.sensor x).value) ∧
    (∃ (s : State), ∃ (x : Sensor), ∃ t0, s.inRunIdle = true ∧ (s.sensor x).upFrom = some t0 ∧ t0 + 10 * 400000 ≤ s.clock ∧ (s.sensor x).value < ((s.sensor x).throttle : Rat)) ∧
    (∃ (s : State), ∃ (x : Sensor), ∃ t0, s.inRunIdle = true ∧ (s.sensor x).downFrom = some t0 ∧ t0 + 50 * 400000 ≤ s.clock) ∧
    (∃ (s : State), ∃ (k : Fin 4), ∃ (j : Job), s.inRunIdle = true ∧ s.jobAt k.val = some j ∧ j.feed < 8 ∧ ((∀ q, s.capacity j = some q → rabs (s.axis j.feed).speed ≤ q * j.pitch / 65536)) ∧ ((∃ n, n ∈ j.chans ∧ (s.chan n).riseSince.isSome = true))) ∧
    (∃ (s : State), ∃ (ch : Fin 48), ∃ t0, s.inRunIdle = true ∧ (s.chan ch.val).riseSince = some t0 ∧ t0 + 200 * 400000 ≤ s.clock) ∧
    (∃ (s : State), ∃ (x : Sensor), ∃ t0, s.inRunIdle = true ∧ (s.sensor x).disagree = some t0 ∧ t0 + 100 * 400000 ≤ s.clock) ∧
    (∃ (s : State), ∃ (ch : Fin 48), let c := s.chan ch.val; s.inRunIdle = true ∧ s.cosyAllowed ch.val = true ∧ c.inPeriod = none ∧ c.firing.any (fun f => f.period.cosy) = false ∧ ((∀ t0, c.cosyAt = some t0 → t0 + 25000 ≤ s.clock)) ∧ (s.headSensor ch.val).value < (c.cosyTarget : Rat) - 5 ∧ rotationOk (c.rotation c.live.rot) = true) ∧
    (∃ (s : State), ∃ (ch : Fin 48), let c := s.chan ch.val; s.inRunIdle = true ∧ s.cosyAllowed ch.val = true ∧ c.inPeriod = none ∧ c.firing.any (fun f => f.period.cosy) = false ∧ ((∀ t0, c.cosyAt = some t0 → t0 + 25000 ≤ s.clock)) ∧ (c.cosyTarget : Rat) + 5 ≤ (s.headSensor ch.val).value) ∧
    (∃ (s : State), ∃ (ch : Fin 48), ∃ t0, let c := s.chan ch.val; s.inRunIdle = true ∧ s.cosyAllowed ch.val = true ∧ c.inPeriod = none ∧ c.firing.any (fun f => f.period.cosy) = false ∧ c.cosyAt = some t0 ∧ s.clock < t0 + 25000) ∧
    (∃ (s : State), ∃ (ch : Fin 48), ∃ f, ∃ x, let c := s.chan ch.val; s.inRunIdle = true ∧ c.firing = some f ∧ f.period.cosy = true ∧ f.period.plan[f.slot]? = some x ∧ f.start + x.len ≤ s.clock ∧ s.inRun = true ∧ s.cosyAllowed ch.val = true ∧ f.slot + 1 < f.period.plan.length) ∧
    (∃ (s : State), ∃ (ch : Fin 48), ∃ f, ∃ x, let c := s.chan ch.val; s.inRunIdle = true ∧ c.firing = some f ∧ f.period.cosy = true ∧ f.period.plan[f.slot]? = some x ∧ f.start + x.len ≤ s.clock ∧ s.inRun = true ∧ f.ended = false ∧ ((s.cosyAllowed ch.val = false ∨ f.period.plan.length ≤ f.slot + 1))) :=
    ⟨⟨(State.modHead ({ rst with clock := 4000000 }) 47 (fun x => { x with upFrom := some 0, value := 650 })), (.head 47), 0, by decide +kernel⟩,
    ⟨(State.modHead ({ rst with clock := 4000000 }) 47 (fun x => { x with upFrom := some 0, value := 649 })), (.head 47), 0, by decide +kernel⟩,
    ⟨(State.modHead ({ rst with clock := 20000000 }) 47 (fun x => { x with downFrom := some 0 })), (.head 47), 0, by decide +kernel⟩,
    ⟨{ (State.modHead ((withJob ((rst.modChan 0 (fun c => { c with riseSince := some 0 }))) ({ jb with state := .running, feed := 0 }))) 0 (fun x => { x with latched := true })) with clock := 0 }, 0, { jb with state := .running, feed := 0 }, by dsimp only; exact ⟨(by decide +kernel), (by decide +kernel), (by decide +kernel), optAll (by decide +kernel), (by decide +kernel)⟩⟩,
    ⟨(({ rst with clock := 80000000 } : State).modChan 47 (fun c => { c with riseSince := some 0 })), 47, 0, by decide +kernel⟩,
    ⟨(State.modHead ({ rst with clock := 40000000 }) 47 (fun x => { x with disagree := some 0 })), (.head 47), 0, by decide +kernel⟩,
    ⟨(({ rst with ilk.trips := 0 } : State).modChan 47 (fun c => { c with cosy := true })), 47, by dsimp only; exact ⟨(by decide +kernel), (by decide +kernel), (by decide +kernel), (by decide +kernel), optAll (by decide +kernel), (by decide +kernel), (by decide +kernel)⟩⟩,
    ⟨(State.modHead ((({ rst with ilk.trips := 0 } : State).modChan 47 (fun c => { c with cosy := true }))) 47 (fun x => { x with value := 455 })), 47, by dsimp only; exact ⟨(by decide +kernel), (by decide +kernel), (by decide +kernel), (by decide +kernel), optAll (by decide +kernel), (by decide +kernel)⟩⟩,
    ⟨(({ rst with ilk.trips := 0, clock := 24999 } : State).modChan 47 (fun c => { c with cosy := true, cosyAt := some 0 })), 47, 0, by dsimp only; decide +kernel⟩,
    ⟨(({ rst with ilk.trips := 0, clock := 500 } : State).modChan 47 (fun c => { c with cosy := true, firing := some { fi with period := { pe with cosy := true, plan := [sp, sp] } } })), 47, { fi with period := { pe with cosy := true, plan := [sp, sp] } }, sp, by dsimp only; decide +kernel⟩,
    ⟨(({ rst with clock := 500 } : State).modChan 47 (fun c => { c with firing := some { fi with period := { pe with cosy := true, plan := [sp, sp] } } })), 47, { fi with period := { pe with cosy := true, plan := [sp, sp] } }, sp, by dsimp only; decide +kernel⟩⟩

/-- A state and operands for each clause of Obligations.AxisCommands. -/
theorem witness_AxisCommands :
    (∃ (c : Cmd), ∃ (s : State), s.tripped = true ∧ s.KettleTakes 0x0401 c) ∧
    (∃ (c : Cmd), ∃ (s : State), s.tripped = true ∧ s.KettleTakes 0x0402 c) ∧
    (∃ (c : Cmd), ∃ (s : State), s.tripped = true ∧ s.KettleTakes 0x0404 c) ∧
    (∃ (c : Cmd), ∃ (s : State), s.tripped = true ∧ s.KettleTakes 0x0405 c) ∧
    (∃ (c : Cmd), ∃ (s : State), let n := le c.params 0 1; let a := s.axis n; s.KettleTakes 0x0400 c ∧ n < 8 ∧ s.lateFeed n = false ∧ s.axisInJob n = false ∧ a.standing = true ∧ le c.params 1 1 ≤ 2 ∧ le c.params 2 2 ≤ 7 ∧ 0 < le c.params 8 4 ∧ le c.params 8 4 ≤ 2147483647 ∧ ((le c.params 1 1 ≠ 2 → le c.params 8 4 ≤ 256000000)) ∧ 0 < le c.params 12 4 ∧ 0 < le c.params 16 4) ∧
    (∃ (c : Cmd), ∃ (s : State), let n := le c.params 0 1; let a := s.axis n; s.KettleTakes 0x0401 c ∧ s.tripped = false ∧ n < 8 ∧ a.configured = true ∧ a.mode ≠ 2 ∧ a.standing = true ∧ a.towardsLimit (leS c.params 4 8 * 65536 - a.commanded) = false ∧ le c.params 1 1 ≤ 1 ∧ zeros c.params 2 2 = true ∧ 0 < le c.params 12 4 ∧ le c.params 12 4 ≤ a.vMax ∧ 0 < le c.params 16 4 ∧ le c.params 16 4 ≤ a.aMax ∧ leS c.params 4 8 * 65536 ≠ a.commanded) ∧
    (∃ (c : Cmd), ∃ (s : State), let n := le c.params 0 1; let a := s.axis n; s.KettleTakes 0x0401 c ∧ s.tripped = false ∧ n < 8 ∧ a.configured = true ∧ a.mode ≠ 2 ∧ a.standing = true ∧ a.towardsLimit (leS c.params 4 8 * 65536 - a.commanded) = false ∧ le c.params 1 1 ≤ 1 ∧ zeros c.params 2 2 = true ∧ 0 < le c.params 12 4 ∧ le c.params 12 4 ≤ a.vMax ∧ 0 < le c.params 16 4 ∧ le c.params 16 4 ≤ a.aMax ∧ leS c.params 4 8 * 65536 = a.commanded) ∧
    (∃ (c : Cmd), ∃ (s : State), let n := le c.params 0 1; let a := s.axis n; s.KettleTakes 0x0402 c ∧ s.tripped = false ∧ n < 8 ∧ a.configured = true ∧ a.mode ≠ 2 ∧ a.standing = true ∧ a.towardsLimit (leS c.params 4 4) = false ∧ le c.params 1 1 ≤ 1 ∧ zeros c.params 2 2 = true ∧ (leS c.params 4 4).natAbs ≤ a.vMax ∧ 0 < le c.params 8 4 ∧ le c.params 8 4 ≤ a.aMax) ∧
    (∃ (c : Cmd), ∃ (s : State), s.KettleTakes 0x0403 c ∧ le c.params 1 1 ≤ 1 ∧ zeros c.params 2 2 = true) ∧
    (∃ (c : Cmd), ∃ (s : State), let n := le c.params 0 1; s.KettleTakes 0x0404 c ∧ s.tripped = false ∧ zeros c.params 1 3 = true ∧ ((∀ k, k < 8 → bit n k = true → s.lateFeed k = false ∧ (s.axis k).configured = true ∧ (s.axis k).mode ≠ 2 ∧ (s.axis k).resumable = true ∧ (s.axis k).towardsLimit (s.axis k).remainingDir = false))) ∧
    (∃ (c : Cmd), ∃ (s : State), let n := le c.params 0 1; let a := s.axis n; s.KettleTakes 0x0405 c ∧ s.tripped = false ∧ n < 8 ∧ s.lateFeed n = false ∧ a.configured = true ∧ a.mode ≠ 2 ∧ s.axisInJob n = false ∧ a.standing = true ∧ le c.params 1 1 ≤ 1 ∧ 0 < le c.params 2 1 ∧ 0 < le c.params 3 1 ∧ 0 < le c.params 4 4 ∧ 0 < le c.params 8 4 ∧ le c.params 8 4 ≤ a.vMax ∧ 0 < le c.params 12 4 ∧ le c.params 12 4 ≤ a.vMax ∧ 0 < leS c.params 16 8) ∧
    (∃ (c : Cmd), ∃ (s : State), let n := le c.params 0 1; let a := s.axis n; s.KettleTakes 0x0406 c ∧ n < 8 ∧ s.lateFeed n = false ∧ a.configured = true ∧ a.mode ≠ 2 ∧ a.state = .idle) ∧
    (∃ (c : Cmd), ∃ (s : State), ∃ (m : Move), let n := le c.params 0 1; let a := s.axis n; let v := le c.params 4 4; let acc := le c.params 8 4; let jerk := le c.params 12 4; s.KettleTakes 0x0406 c ∧ n < 8 ∧ s.lateFeed n = false ∧ a.configured = true ∧ a.mode ≠ 2 ∧ a.leg = .none ∧ a.saved = none ∧ a.move = some m ∧ v ≤ a.vMax ∧ acc ≤ a.aMax ∧ jerk ≤ a.jMax ∧ zeros c.params 1 3 = true ∧ (a.state = .stopped ∨ (a.state = .fault ∧ a.fault = 1))) ∧
    (∃ (c : Cmd), ∃ (s : State), ∃ (m : Move), ∃ q, let n := le c.params 0 1; let a := s.axis n; let v := le c.params 4 4; let acc := le c.params 8 4; let jerk := le c.params 12 4; s.KettleTakes 0x0406 c ∧ n < 8 ∧ s.lateFeed n = false ∧ a.configured = true ∧ a.mode ≠ 2 ∧ a.leg = .none ∧ a.saved = none ∧ a.move = some m ∧ v ≤ a.vMax ∧ acc ≤ a.aMax ∧ jerk ≤ a.jMax ∧ zeros c.params 1 3 = true ∧ a.state = .moving ∧ m.goal = .vel q) ∧
    (∃ (c : Cmd), ∃ (s : State), ∃ (m : Move), ∃ g, let n := le c.params 0 1; let a := s.axis n; let v := le c.params 4 4; let acc := le c.params 8 4; let jerk := le c.params 12 4; let goal : Goal := match m.goal with | .vel q => if v = 0 then .vel q else .vel (if q < 0 then -(v : Rat) else v) | g => g; let mv : Move := { goal := goal, prof := m.prof, v := (if v = 0 then m.v else v), a := (if acc = 0 then m.a else acc), j := (if jerk = 0 then m.j else jerk) }; let need := changeDistance (rabs a.speed) 0 (changeUpdates m.prof (rabs a.speed) mv.a mv.j); let left := rabs (((g * 65536 - a.commanded : Int) : Rat) / 65536); s.KettleTakes 0x0406 c ∧ n < 8 ∧ s.lateFeed n = false ∧ a.configured = true ∧ a.mode ≠ 2 ∧ a.leg = .none ∧ a.saved = none ∧ a.move = some m ∧ v ≤ a.vMax ∧ acc ≤ a.aMax ∧ jerk ≤ a.jMax ∧ zeros c.params 1 3 = true ∧ a.state = .moving ∧ m.goal = .abs g ∧ need ≤ left) ∧
    (∃ (c : Cmd), ∃ (s : State), ∃ (m : Move), ∃ g, let n := le c.params 0 1; let a := s.axis n; let v := le c.params 4 4; let acc := le c.params 8 4; let jerk := le c.params 12 4; let goal : Goal := match m.goal with | .vel q => if v = 0 then .vel q else .vel (if q < 0 then -(v : Rat) else v) | g => g; let mv : Move := { goal := goal, prof := m.prof, v := (if v = 0 then m.v else v), a := (if acc = 0 then m.a else acc), j := (if jerk = 0 then m.j else jerk) }; let need := changeDistance (rabs a.speed) 0 (changeUpdates m.prof (rabs a.speed) mv.a mv.j); let left := rabs (((g * 65536 - a.commanded : Int) : Rat) / 65536); s.KettleTakes 0x0406 c ∧ n < 8 ∧ s.lateFeed n = false ∧ a.configured = true ∧ a.mode ≠ 2 ∧ a.leg = .none ∧ a.saved = none ∧ a.move = some m ∧ v ≤ a.vMax ∧ acc ≤ a.aMax ∧ jerk ≤ a.jMax ∧ zeros c.params 1 3 = true ∧ a.state = .moving ∧ m.goal = .abs g ∧ left < need ∧ acc ≠ 0) ∧
    (∃ (c : Cmd), ∃ (s : State), let n := le c.params 0 1; s.KettleTakes 0x0407 c ∧ n < 8 ∧ zeros c.params 1 3 = true) :=
    ⟨⟨(cm 20 []), rst, by unfold State.KettleTakes State.Addressed; decide +kernel⟩,
    ⟨(cm 12 []), rst, by unfold State.KettleTakes State.Addressed; decide +kernel⟩,
    ⟨(cm 4 []), rst, by unfold State.KettleTakes State.Addressed; decide +kernel⟩,
    ⟨(cm 24 []), rst, by unfold State.KettleTakes State.Addressed; decide +kernel⟩,
    ⟨(cm 20 [(0, 1, 7), (1, 1, 2), (2, 2, 7), (4, 4, 0), (8, 4, 2147483647), (12, 4, 1), (16, 4, 1)]), rst, by dsimp only; unfold State.KettleTakes State.Addressed; decide +kernel⟩,
    ⟨(cm 20 [(0, 1, 7), (4, 8, 100), (12, 4, 1000), (16, 4, 1000)]), (State.modAxis ({ rst with ilk.trips := 0 }) 7 (fun a => { a with configured := true, mode := 1, vMax := 1000, aMax := 1000, jMax := 1000 })), by dsimp only; unfold State.KettleTakes State.Addressed; decide +kernel⟩,
    ⟨(cm 20 [(0, 1, 7), (12, 4, 1000), (16, 4, 1000)]), (State.modAxis ({ rst with ilk.trips := 0 }) 7 (fun a => { a with configured := true, mode := 1, vMax := 1000, aMax := 1000, jMax := 1000 })), by dsimp only; unfold State.KettleTakes State.Addressed; decide +kernel⟩,
    ⟨(cm 12 [(0, 1, 7), (4, 4, 2 ^ 32 - 1000), (8, 4, 1000)]), (State.modAxis ({ rst with ilk.trips := 0 }) 7 (fun a => { a with configured := true, mode := 1, vMax := 1000, aMax := 1000, jMax := 1000 })), by dsimp only; unfold State.KettleTakes State.Addressed; decide +kernel⟩,
    ⟨(cm 4 [(0, 1, 255), (1, 1, 1)]), rst, by unfold State.KettleTakes State.Addressed; decide +kernel⟩,
    ⟨(cm 4 [(0, 1, 128)]), (State.modAxis ({ rst with ilk.trips := 0 }) 7 (fun a => { a with configured := true, mode := 1, vMax := 1000, aMax := 1000, jMax := 1000, state := .stopped, move := some { goal := .abs 5, prof := 0, v := 100, a := 100, j := 100 } })), by dsimp only; unfold State.KettleTakes State.Addressed; decide +kernel⟩,
    ⟨(cm 24 [(0, 1, 7), (2, 1, 1), (3, 1, 1), (4, 4, 1), (8, 4, 1000), (12, 4, 1000), (16, 8, 1)]), (State.modAxis ({ rst with ilk.trips := 0 }) 7 (fun a => { a with configured := true, mode := 1, vMax := 1000, aMax := 1000, jMax := 1000 })), by dsimp only; unfold State.KettleTakes State.Addressed; decide +kernel⟩,
    ⟨(cm 16 [(0, 1, 7)]), (State.modAxis (rst) 7 (fun a => { a with configured := true, mode := 1, vMax := 1000, aMax := 1000, jMax := 1000 })), by dsimp only; unfold State.KettleTakes State.Addressed; decide +kernel⟩,
    ⟨(cm 16 [(0, 1, 7), (4, 4, 1000), (8, 4, 1000), (12, 4, 1000)]), (State.modAxis (rst) 7 (fun a => { a with configured := true, mode := 1, vMax := 1000, aMax := 1000, jMax := 1000, state := .stopped, move := some { goal := .abs 5, prof := 0, v := 100, a := 100, j := 100 } })), { goal := .abs 5, prof := 0, v := 100, a := 100, j := 100 }, by dsimp only; unfold State.KettleTakes State.Addressed; decide +kernel⟩,
    ⟨(cm 16 [(0, 1, 7), (4, 4, 1000), (8, 4, 1000), (12, 4, 1000)]), (State.modAxis (rst) 7 (fun a => { a with configured := true, mode := 1, vMax := 1000, aMax := 1000, jMax := 1000, state := .moving, move := some { goal := .vel 5, prof := 0, v := 100, a := 100, j := 100 } })), { goal := .vel 5, prof := 0, v := 100, a := 100, j := 100 }, 5, by dsimp only; unfold State.KettleTakes State.Addressed; decide +kernel⟩,
    ⟨(cm 16 [(0, 1, 7), (4, 4, 1000), (8, 4, 1000), (12, 4, 1000)]), (State.modAxis (rst) 7 (fun a => { a with configured := true, mode := 1, vMax := 1000, aMax := 1000, jMax := 1000, state := .moving, move := some { goal := .abs 5, prof := 0, v := 100, a := 100, j := 100 } })), { goal := .abs 5, prof := 0, v := 100, a := 100, j := 100 }, 5, by dsimp only; unfold State.KettleTakes State.Addressed; decide +kernel⟩,
    ⟨(cm 16 [(0, 1, 7), (4, 4, 1000), (8, 4, 1000), (12, 4, 1000)]), (State.modAxis (rst) 7 (fun a => { a with configured := true, mode := 1, vMax := 1000, aMax := 1000, jMax := 1000, state := .moving, speed := 50, commanded := 5 * 65536, move := some { goal := .abs 5, prof := 0, v := 100, a := 100, j := 100 } })), { goal := .abs 5, prof := 0, v := 100, a := 100, j := 100 }, 5, by dsimp only; unfold State.KettleTakes State.Addressed; decide +kernel⟩,
    ⟨(cm 4 [(0, 1, 7)]), rst, by dsimp only; unfold State.KettleTakes State.Addressed; decide +kernel⟩⟩

/-- A state and operands for each clause of Obligations.AxisEvents. -/
theorem witness_AxisEvents :
    (∃ (s : State), ∃ (ax : Fin 8), ∃ (me : Fin 2), ∃ m, ∃ v, let n := ax.val; let a := s.axis n; s.inRun = true ∧ s.pwr.blockHeld.getLsbD (12 + me.val) = false ∧ n / 4 = me.val ∧ ((∀ k, k < 8 → k ≠ n → (s.axis k).configured = false)) ∧ a.configured = true ∧ a.homing = none ∧ a.leg = .none ∧ a.segs = [] ∧ a.vLim = s.feedLimit n ∧ s.shot 36 = false ∧ a.mode = 0 ∧ a.state = .moving ∧ a.move = some m ∧ m.goal = .vel v) ∧
    (∃ (s : State), ∃ (ax : Fin 8), ∃ (me : Fin 2), let n := ax.val; let a := s.axis n; let counted (k : Nat) : Int := 64 * (s.encoder k).count - (s.encoder k).base; s.inRun = true ∧ s.pwr.blockHeld.getLsbD (12 + me.val) = false ∧ n / 4 = me.val ∧ ((∀ k, k < 8 → k ≠ n → (s.axis k).configured = false)) ∧ a.configured = true ∧ a.homing = none ∧ a.leg = .none ∧ a.segs = [] ∧ a.vLim = s.feedLimit n ∧ s.shot 36 = false ∧ a.mode = 1 ∧ a.window ≠ 0 ∧ a.state = .idle ∧ a.speed = 0 ∧ a.window * 65536 < (a.commanded - counted n * 65536).natAbs) ∧
    (∃ (s : State), ∃ (ax : Fin 8), ∃ m, ∃ g, let n := ax.val; let a := s.axis n; s.inRun = true ∧ a.state = .moving ∧ a.leg = .none ∧ a.move = some m ∧ a.segs = [] ∧ m.goal = .abs g ∧ a.speed = 0 ∧ a.commanded = g * 65536) ∧
    (∃ (s : State), ∃ (ax : Fin 8), ∃ m, ∃ v, let n := ax.val; let a := s.axis n; s.inRun = true ∧ a.state = .moving ∧ a.leg = .none ∧ a.move = some m ∧ a.segs = [] ∧ m.goal = .vel v ∧ a.moved = false) ∧
    (∃ (s : State), ∃ (ax : Fin 8), let n := ax.val; let a := s.axis n; s.inRun = true ∧ a.segs = [] ∧ a.speed = 0 ∧ a.state = .stopping) ∧
    (∃ (s : State), ∃ (ax : Fin 8), ∃ h, let n := ax.val; let a := s.axis n; s.inRun = true ∧ a.segs = [] ∧ a.speed = 0 ∧ a.state = .homing ∧ a.homing = some h ∧ h.phase = 5 ∧ h.result = 0) ∧
    (∃ (s : State), ∃ (ax : Fin 8), let n := ax.val; let a := s.axis n; s.inRun = true ∧ a.configured = true ∧ a.homing = none ∧ a.state = .moving ∧ a.heading = 1) ∧
    (∃ (s : State), ∃ (ax : Fin 8), let n := ax.val; let a := s.axis n; s.inRun = true ∧ a.configured = true ∧ a.homing = none ∧ a.state = .moving ∧ a.heading = -1) ∧
    (∃ (s : State), ∃ (ax : Fin 8), let n := ax.val; let a := s.axis n; s.inRun = true ∧ a.configured = true ∧ a.homing = none ∧ a.heading ≠ 1) ∧
    (∃ (s : State), ∃ (ax : Fin 8), let n := ax.val; let a := s.axis n; s.inRun = true ∧ a.configured = true ∧ a.homing = none ∧ a.heading ≠ -1) ∧
    (∃ (s : State), ∃ (ax : Fin 8), ∃ h, let n := ax.val; let a := s.axis n; s.inRun = true ∧ a.configured = true ∧ a.homing = some h ∧ h.failed = false ∧ h.dir = 0) ∧
    (∃ (s : State), ∃ (ax : Fin 8), ∃ h, let n := ax.val; let a := s.axis n; s.inRun = true ∧ a.configured = true ∧ a.homing = some h ∧ h.failed = false ∧ h.dir = 1) ∧
    (∃ (s : State), ∃ (ax : Fin 8), ∃ h, let n := ax.val; let a := s.axis n; s.inRun = true ∧ a.homing = some h ∧ h.phase = 1 ∧ s.shot 37 = false) ∧
    (∃ (s : State), ∃ (ax : Fin 8), ∃ h, let n := ax.val; let a := s.axis n; s.inRun = true ∧ a.homing = some h ∧ h.phase = 2) ∧
    (∃ (s : State), ∃ (ax : Fin 8), ∃ h, let n := ax.val; let a := s.axis n; s.inRun = true ∧ a.homing = some h ∧ h.phase = 3 ∧ a.mode ≠ 0) ∧
    (∃ (s : State), ∃ (ax : Fin 8), ∃ h, let n := ax.val; let a := s.axis n; s.inRun = true ∧ a.homing = some h ∧ h.phase = 3 ∧ a.mode = 0) ∧
    (∃ (s : State), ∃ (ax : Fin 8), ∃ h, let n := ax.val; let a := s.axis n; s.inRun = true ∧ a.homing = some h ∧ h.phase = 4) ∧
    (∃ (s : State), ∃ (ax : Fin 8), ∃ h, let n := ax.val; let a := s.axis n; s.inRun = true ∧ a.homing = some h ∧ h.failed = false) :=
    ⟨⟨(State.modAxis (rst) 7 (fun a => { a with configured := true, mode := 0, state := .moving, move := some { goal := .vel 5, prof := 0, v := 100, a := 100, j := 100 } })), 7, 1, { goal := .vel 5, prof := 0, v := 100, a := 100, j := 100 }, 5, by dsimp only; decide +kernel⟩,
    ⟨(State.modAxis (rst) 7 (fun a => { a with configured := true, mode := 1, window := 10, commanded := 1000000 })), 7, 1, by dsimp only; decide +kernel⟩,
    ⟨(State.modAxis (rst) 7 (fun a => { a with state := .moving, commanded := 5 * 65536, move := some { goal := .abs 5, prof := 0, v := 100, a := 100, j := 100 } })), 7, { goal := .abs 5, prof := 0, v := 100, a := 100, j := 100 }, 5, by dsimp only; decide +kernel⟩,
    ⟨(State.modAxis (rst) 7 (fun a => { a with state := .moving, move := some { goal := .vel 5, prof := 0, v := 100, a := 100, j := 100 } })), 7, { goal := .vel 5, prof := 0, v := 100, a := 100, j := 100 }, 5, by dsimp only; decide +kernel⟩,
    ⟨(State.modAxis (rst) 7 (fun a => { a with state := .stopping })), 7, by dsimp only; decide +kernel⟩,
    ⟨(State.modAxis (rst) 7 (fun a => { a with state := .homing, homing := some { dir := 0, qual := 1, chatter := 1, windowUs := 1, vFast := 1, vSlow := 1, backoff := 1, phase := 5, mark := 0, index := 0, result := 0 } })), 7, { dir := 0, qual := 1, chatter := 1, windowUs := 1, vFast := 1, vSlow := 1, backoff := 1, phase := 5, mark := 0, index := 0, result := 0 }, by dsimp only; decide +kernel⟩,
    ⟨(State.modAxis (rst) 7 (fun a => { a with configured := true, state := .moving, speed := 5 })), 7, by dsimp only; decide +kernel⟩,
    ⟨(State.modAxis (rst) 7 (fun a => { a with configured := true, state := .moving, speed := -5 })), 7, by dsimp only; decide +kernel⟩,
    ⟨(State.modAxis (rst) 7 (fun a => { a with configured := true })), 7, by dsimp only; decide +kernel⟩,
    ⟨(State.modAxis (rst) 7 (fun a => { a with configured := true })), 7, by dsimp only; decide +kernel⟩,
    ⟨(State.modAxis (rst) 7 (fun a => { a with configured := true, homing := some { dir := 0, qual := 1, chatter := 1, windowUs := 1, vFast := 1, vSlow := 1, backoff := 1, phase := 1, mark := 0, index := 0, result := 0 } })), 7, { dir := 0, qual := 1, chatter := 1, windowUs := 1, vFast := 1, vSlow := 1, backoff := 1, phase := 1, mark := 0, index := 0, result := 0 }, by dsimp only; decide +kernel⟩,
    ⟨(State.modAxis (rst) 7 (fun a => { a with configured := true, homing := some { dir := 1, qual := 1, chatter := 1, windowUs := 1, vFast := 1, vSlow := 1, backoff := 1, phase := 1, mark := 0, index := 0, result := 0 } })), 7, { dir := 1, qual := 1, chatter := 1, windowUs := 1, vFast := 1, vSlow := 1, backoff := 1, phase := 1, mark := 0, index := 0, result := 0 }, by dsimp only; decide +kernel⟩,
    ⟨(State.modAxis (rst) 7 (fun a => { a with homing := some { dir := 0, qual := 1, chatter := 1, windowUs := 1, vFast := 1, vSlow := 1, backoff := 1, phase := 1, mark := 0, index := 0, result := 0 } })), 7, { dir := 0, qual := 1, chatter := 1, windowUs := 1, vFast := 1, vSlow := 1, backoff := 1, phase := 1, mark := 0, index := 0, result := 0 }, by dsimp only; decide +kernel⟩,
    ⟨(State.modAxis (rst) 7 (fun a => { a with homing := some { dir := 0, qual := 1, chatter := 1, windowUs := 1, vFast := 1, vSlow := 1, backoff := 1, phase := 2, mark := 0, index := 0, result := 0 } })), 7, { dir := 0, qual := 1, chatter := 1, windowUs := 1, vFast := 1, vSlow := 1, backoff := 1, phase := 2, mark := 0, index := 0, result := 0 }, by dsimp only; decide +kernel⟩,
    ⟨(State.modAxis (rst) 7 (fun a => { a with mode := 1, homing := some { dir := 0, qual := 1, chatter := 1, windowUs := 1, vFast := 1, vSlow := 1, backoff := 1, phase := 3, mark := 0, index := 0, result := 0 } })), 7, { dir := 0, qual := 1, chatter := 1, windowUs := 1, vFast := 1, vSlow := 1, backoff := 1, phase := 3, mark := 0, index := 0, result := 0 }, by dsimp only; decide +kernel⟩,
    ⟨(State.modAxis (rst) 7 (fun a => { a with homing := some { dir := 0, qual := 1, chatter := 1, windowUs := 1, vFast := 1, vSlow := 1, backoff := 1, phase := 3, mark := 0, index := 0, result := 0 } })), 7, { dir := 0, qual := 1, chatter := 1, windowUs := 1, vFast := 1, vSlow := 1, backoff := 1, phase := 3, mark := 0, index := 0, result := 0 }, by dsimp only; decide +kernel⟩,
    ⟨(State.modAxis (rst) 7 (fun a => { a with homing := some { dir := 0, qual := 1, chatter := 1, windowUs := 1, vFast := 1, vSlow := 1, backoff := 1, phase := 4, mark := 0, index := 0, result := 0 } })), 7, { dir := 0, qual := 1, chatter := 1, windowUs := 1, vFast := 1, vSlow := 1, backoff := 1, phase := 4, mark := 0, index := 0, result := 0 }, by dsimp only; decide +kernel⟩,
    ⟨(State.modAxis (rst) 7 (fun a => { a with homing := some { dir := 0, qual := 1, chatter := 1, windowUs := 1, vFast := 1, vSlow := 1, backoff := 1, phase := 1, mark := 0, index := 0, result := 0 } })), 7, { dir := 0, qual := 1, chatter := 1, windowUs := 1, vFast := 1, vSlow := 1, backoff := 1, phase := 1, mark := 0, index := 0, result := 0 }, by dsimp only; decide +kernel⟩⟩

/-- A state and operands for each clause of Obligations.CameraCommands. -/
theorem witness_CameraCommands :
    (∃ (c : Cmd), ∃ (s : State), let p := le c.params 0 1; s.KettleTakes 0x0500 c ∧ p ≤ 1 ∧ (s.port p).on = true ∧ bit (le c.params 4 2) 0 = true) ∧
    (∃ (c : Cmd), ∃ (s : State), let p := le c.params 0 1; s.KettleTakes 0x0500 c ∧ p ≤ 1 ∧ camSetupOk c.params = true ∧ bit (le c.params 4 2) 0 = false) ∧
    (∃ (c : Cmd), ∃ (s : State), let p := le c.params 0 1; s.KettleTakes 0x0500 c ∧ p ≤ 1 ∧ (s.port p).on = false ∧ camSetupOk c.params = true ∧ bit (le c.params 4 2) 0 = true ∧ (s.port p).exp.short ≠ 0 ∧ le c.params 10 2 % 2 = 1) ∧
    (∃ (c : Cmd), ∃ (s : State), let p := le c.params 0 1; s.KettleTakes 0x0500 c ∧ p ≤ 1 ∧ (s.port p).on = false ∧ camSetupOk c.params = true ∧ bit (le c.params 4 2) 0 = true ∧ ((s.port p).exp.short = 0 ∨ le c.params 10 2 % 2 = 0)) ∧
    (∃ (c : Cmd), ∃ (s : State), let p := le c.params 0 1; s.KettleTakes 0x0501 c ∧ p ≤ 1 ∧ zeros c.params 1 3 = true ∧ 0 < le c.params 4 4 ∧ 0 < le c.params 12 8 ∧ le c.params 12 8 < 2 ^ 48 ∧ ((le c.params 8 4 = 0 ∨ (le c.params 8 4 ≤ le c.params 4 4 ∧ le c.params 4 4 ≤ 16 * le c.params 8 4 ∧ ((s.port p).on = true → ∀ v, (s.port p).setup = some v → v.frameLines % 2 = 0))))) ∧
    (∃ (c : Cmd), ∃ (s : State), let p := le c.params 0 1; let held := if le c.params 4 4 = 0xFFFFFFFF then (s.port p).stats.head? else (s.port p).stats.find? (fun x => x.frame = le c.params 4 4); s.KettleTakes 0x0502 c ∧ p ≤ 1 ∧ held = none) ∧
    (∃ (c : Cmd), ∃ (s : State), ∃ x, ∃ y, ∃ (e : BankErrors), let p := le c.params 0 1; let held := if le c.params 4 4 = 0xFFFFFFFF then (s.port p).stats.head? else (s.port p).stats.find? (fun x => x.frame = le c.params 4 4); s.KettleTakes 0x0502 c ∧ p ≤ 1 ∧ held = some x ∧ x.planes.find? (fun (y : Nat × List (List Nat) × List Nat) => y.1 = le c.params 1 1) = some y ∧ le c.params 2 1 ≤ 4 ∧ zeros c.params 3 1 = true ∧ e.bad ≠ []) ∧
    (∃ (c : Cmd), ∃ (s : State), let p := le c.params 0 1; s.KettleTakes 0x0503 c ∧ p ≤ 2 ∧ zeros c.params 1 3 = true ∧ le c.params 4 1 ≤ (if p = 1 then 0 else 1) ∧ ((if p = 0 then 1 ≤ le c.params 5 1 ∧ le c.params 5 1 ≤ 3 else le c.params 5 1 = 0)) ∧ le c.params 6 1 ≤ 3 ∧ le c.params 7 1 ≤ (if p = 2 then 3 else 0) ∧ le c.params 8 2 ≤ (if p = 2 then 255 else 0) ∧ zeros (c.params.drop 4) 6 2 = true ∧ zeros (c.params.drop 4) 22 2 = true ∧ zeros (c.params.drop 4) 38 2 = true ∧ ((∀ n, n < 2 → outPortOk p (le c.params 5 1) (c.params.drop 4) n (if (s.port n).on then ((s.port n).setup.map (fun v => v.linePixels)).getD 0 else 0) = true))) ∧
    (∃ (c : Cmd), ∃ (s : State), let p := le c.params 0 1; s.KettleTakes 0x0504 c ∧ p ≤ 1 ∧ zeros c.params 1 3 = true ∧ contextOk (c.params.drop 4) = true) ∧
    (∃ (c : Cmd), ∃ (s : State), let p := le c.params 0 1; s.KettleTakes 0x0504 c ∧ p ≤ 1 ∧ zeros c.params 1 3 = true ∧ contextOk (c.params.drop 4) = false) :=
    ⟨⟨(cm 48 [(0, 1, 1), (4, 2, 1)]), (State.modPort (rst) 1 (fun p => { p with on := true })), by dsimp only; unfold State.KettleTakes State.Addressed; decide +kernel⟩,
    ⟨(cm 48 [(0, 1, 1), (8, 2, 64), (10, 2, 1), (14, 2, 8), (20, 4, 1), (24, 4, 1), (44, 1, 4)]), rst, by dsimp only; unfold State.KettleTakes State.Addressed; decide +kernel⟩,
    ⟨(cm 48 [(0, 1, 1), (4, 2, 1), (10, 2, 1), (8, 2, 64), (14, 2, 8), (20, 4, 1), (24, 4, 1), (44, 1, 4)]), (State.modPort (rst) 1 (fun p => { p with exp := { gen := 0, long := 10, short := 1, pitch := 65536 } })), by dsimp only; unfold State.KettleTakes State.Addressed; decide +kernel⟩,
    ⟨(cm 48 [(0, 1, 1), (4, 2, 1), (10, 2, 1), (8, 2, 64), (14, 2, 8), (20, 4, 1), (24, 4, 1), (44, 1, 4)]), rst, by dsimp only; unfold State.KettleTakes State.Addressed; decide +kernel⟩,
    ⟨(cm 20 [(0, 1, 1), (4, 4, 16), (8, 4, 1), (12, 8, 2 ^ 48 - 1)]), rst, by dsimp only; unfold State.KettleTakes State.Addressed; decide +kernel⟩,
    ⟨(cm 8 [(0, 1, 1), (4, 4, 2 ^ 32 - 1)]), rst, by dsimp only; unfold State.KettleTakes State.Addressed; decide +kernel⟩,
    ⟨(cm 8 [(0, 1, 1), (1, 1, 4), (2, 1, 4), (4, 4, 2 ^ 32 - 1)]), (State.modPort (rst) 1 (fun p => { p with stats := [{ frame := 0, gen := 0, ctxSeq := 0, marks := 0, planes := [(4, [], [])] }] })), { frame := 0, gen := 0, ctxSeq := 0, marks := 0, planes := [(4, [], [])] }, (4, [], []), ⟨[], [5]⟩, by dsimp only; unfold State.KettleTakes State.Addressed; decide +kernel⟩,
    ⟨(cm 44 [(0, 1, 2), (4, 1, 1), (6, 1, 0), (7, 1, 3), (8, 2, 255), (24, 2, 1), (40, 2, 64)]), rst, by dsimp only; unfold State.KettleTakes State.Addressed; decide +kernel⟩,
    ⟨{ flags := 1, target := 0, tag := 7, params := [1, 0, 0, 0] ++ (plain ++ pad 1111) }, rst, by unfold State.KettleTakes State.Addressed; decide +kernel, by decide +kernel, by decide +kernel, plain_ok⟩,
    ⟨{ flags := 1, target := 0, tag := 7, params := [1, 0, 0, 0, 4] ++ pad 1119 }, rst, by dsimp only; unfold State.KettleTakes State.Addressed; decide +kernel⟩⟩

/-- A state and operands for each clause of Obligations.CameraEvents. -/
theorem witness_CameraEvents :
    (∃ (s : State), ∃ (p : Fin 2), ∃ u, ∃ e, ∃ x, let q := s.port p.val; let now := s.timebase.toNat; let due : Prop := s.movesOn u.posSrc false = true ∧ x / 65536 ≤ s.sourcePosition u.posSrc; s.inRun = true ∧ q.setup = some u ∧ q.nextTrigger now = some (e, x) ∧ s.shot 50 = false ∧ (¬ due)) ∧
    (∃ (s : State), ∃ (p : Fin 2), ∃ u, ∃ e, ∃ x, let q := s.port p.val; let now := s.timebase.toNat; let due : Prop := s.movesOn u.posSrc false = true ∧ x / 65536 ≤ s.sourcePosition u.posSrc; s.inRun = true ∧ q.setup = some u ∧ q.nextTrigger now = some (e, x) ∧ s.shot 50 = false ∧ due ∧ s.unarmed p.val = false ∧ q.trigFree ≤ now ∧ q.openFrame = none ∧ s.camFrame p.val q.nextKey = none) ∧
    (∃ (s : State), ∃ (p : Fin 2), ∃ u, ∃ e, ∃ x, ∃ f, let q := s.port p.val; let now := s.timebase.toNat; let due : Prop := s.movesOn u.posSrc false = true ∧ x / 65536 ≤ s.sourcePosition u.posSrc; s.inRun = true ∧ q.setup = some u ∧ q.nextTrigger now = some (e, x) ∧ s.shot 50 = false ∧ due ∧ s.unarmed p.val = false ∧ q.trigFree ≤ now ∧ q.openFrame = some f ∧ s.camFrame p.val f.key = some f) ∧
    (∃ (s : State), ∃ (p : Fin 2), ∃ u, ∃ e, ∃ x, let q := s.port p.val; let now := s.timebase.toNat; let due : Prop := s.movesOn u.posSrc false = true ∧ x / 65536 ≤ s.sourcePosition u.posSrc; s.inRun = true ∧ q.setup = some u ∧ q.nextTrigger now = some (e, x) ∧ s.shot 50 = false ∧ due ∧ s.unarmed p.val = false ∧ now < q.trigFree) ∧
    (∃ (s : State), ∃ (p : Fin 2), ∃ o, ∃ r, let q := s.port p.val; s.inRun = true ∧ s.listening p.val false = true ∧ q.recv = none ∧ q.junk = false ∧ q.owed = o :: r) ∧
    (∃ (s : State), ∃ (p : Fin 2), let q := s.port p.val; s.inRun = true ∧ s.listening p.val false = true ∧ q.recv = none ∧ q.junk = false ∧ q.owed = []) ∧
    (∃ (s : State), ∃ (p : Fin 2), let q := s.port p.val; s.inRun = true ∧ s.listening p.val false = true ∧ q.recv = none ∧ q.junk = true) ∧
    (∃ (s : State), ∃ (p : Fin 2), let q := s.port p.val; s.inRun = true ∧ s.listening p.val false = true ∧ q.recv = none ∧ q.junk = false ∧ s.shot 48 = false) ∧
    (∃ (s : State), ∃ (p : Fin 2), let q := s.port p.val; s.inRun = true ∧ q.recv = none) ∧
    (∃ (s : State), ∃ (p : Fin 2), ∃ k, ∃ f, ∃ o, ∃ r, ∃ px, ∃ (tr : LineTail), ∃ line, let q := s.port p.val; s.inRun = true ∧ q.recv = some k ∧ s.camFrame p.val k = some f ∧ s.listening p.val false = true ∧ q.junk = false ∧ q.owed = o :: r ∧ o.key = k ∧ receiveLine f.setup px tr.trailer = (line, false) ∧ f.overs.contains (f.lines / f.setup.stripeLines) = false ∧ f.lines + 1 < f.inLines ∧ s.bufferUsed p.val + line.length ≤ q.capacity ∧ s.inj.released = none) ∧
    (∃ (s : State), ∃ (p : Fin 2), let q := s.port p.val; s.inRun = true ∧ s.listening p.val true = true ∧ q.owed = [] ∧ s.shot 48 = false) ∧
    (∃ (s : State), ∃ (p : Fin 2), ∃ o, ∃ r, ∃ f, ∃ px, ∃ (tr : LineTail), ∃ line, let q := s.port p.val; s.inRun = true ∧ s.listening p.val true = true ∧ q.owed = o :: r ∧ s.camFrame p.val o.key = some f ∧ receiveLine f.setup px tr.trailer = (line, false) ∧ f.overs.contains (o.line / f.setup.stripeLines) = false ∧ s.bufferUsed p.val + line.length ≤ q.capacity ∧ s.inj.released = none) ∧
    (∃ (s : State), ∃ (p : Fin 2), ∃ o, ∃ r, ∃ f, let q := s.port p.val; let now := s.timebase.toNat; s.inRun = true ∧ q.owed = o :: r ∧ s.camFrame p.val o.key = some f ∧ o.tb + 400 * f.setup.timeoutUs ≤ now) ∧
    (∃ (s : State), ∃ (p : Fin 2), ∃ o, ∃ r, ∃ f, let q := s.port p.val; let now := s.timebase.toNat; s.inRun = true ∧ q.owed = o :: r ∧ s.camFrame p.val o.key = some f ∧ now < o.tb + 400 * f.setup.timeoutUs ∧ ((∀ x g, x ∈ q.owed → s.camFrame p.val x.key = some g → now < x.tb + 400 * g.setup.timeoutUs)) ∧ ((∀ g, g ∈ q.frames → g.stopped = true → g.closed = true ∨ now < g.trigLast + 400 * g.setup.timeoutUs))) ∧
    (∃ (s : State), ∃ (p : Fin 2), ∃ f, let q := s.port p.val; let now := s.timebase.toNat; s.inRun = true ∧ f ∈ q.frames ∧ f.stopped = true ∧ f.closed = false ∧ f.trigLast + 400 * f.setup.timeoutUs ≤ now ∧ ((∀ x g, x ∈ q.owed → s.camFrame p.val x.key = some g → now < x.tb + 400 * g.setup.timeoutUs))) ∧
    (∃ (s : State), ∃ (p : Fin 2), ∃ x, s.inRun = true ∧ s.cam.current = none ∧ s.pwr.blockHeld.getLsbD 14 = false ∧ s.nextPort = some p.val ∧ s.readyStripe p.val = some x ∧ s.shot 81 = false ∧ x.errors = {}) ∧
    (∃ (s : State), ∃ (p : Fin 2), ∃ x, s.inRun = true ∧ s.cam.current = none ∧ s.pwr.blockHeld.getLsbD 14 = false ∧ s.nextPort = some p.val ∧ s.readyStripe p.val = some x ∧ s.shot 81 = false ∧ x.errors.bad ≠ []) ∧
    (∃ (s : State), ∃ (p : Fin 2), ∃ x, let now := s.timebase.toNat; s.inRun = true ∧ s.cam.current = some (p.val, x) ∧ s.cam.currentAt ≤ now ∧ 2 * pixelsOf x.lines ≤ 3 * (now - s.cam.currentAt)) ∧
    (∃ (s : State), ∃ (p : Fin 2), ∃ x, let now := s.timebase.toNat; s.inRun = true ∧ s.cam.current = some (p.val, x) ∧ s.cam.currentAt ≤ now ∧ 3 * (now - s.cam.currentAt) < 2 * pixelsOf x.lines) :=
    ⟨⟨(State.modPort (rst) 1 (fun p => { p with setup := some us, on := true, exp := { gen := 0, long := 10, short := 0, pitch := 65536 }, prevExp := { gen := 0, long := 10, short := 0, pitch := 65536 } })), 1, us, { gen := 0, long := 10, short := 0, pitch := 65536 }, 65536, by dsimp only; decide +kernel⟩,
    ⟨(State.modPort ((State.modEncoder (rst) 0 (fun e => { e with hist := [(0, true)] }))) 1 (fun p => { p with setup := some us, on := true, exp := { gen := 0, long := 10, short := 0, pitch := 65536 }, prevExp := { gen := 0, long := 10, short := 0, pitch := 65536 }, trigAfter := -65536 })), 1, us, { gen := 0, long := 10, short := 0, pitch := 65536 }, 0, by dsimp only; decide +kernel⟩,
    ⟨(State.modPort ((State.modEncoder (rst) 0 (fun e => { e with hist := [(0, true)] }))) 1 (fun p => { p with setup := some { us with flags := 3 }, on := true, exp := { gen := 0, long := 10, short := 0, pitch := 65536 }, prevExp := { gen := 0, long := 10, short := 0, pitch := 65536 }, trigAfter := -65536, frames := [{ cf with setup := { us with flags := 3 }, exp := { gen := 0, long := 10, short := 0, pitch := 65536 } }] })), 1, { us with flags := 3 }, { gen := 0, long := 10, short := 0, pitch := 65536 }, 0, { cf with setup := { us with flags := 3 }, exp := { gen := 0, long := 10, short := 0, pitch := 65536 } }, by dsimp only; decide +kernel⟩,
    ⟨(State.modPort ((State.modEncoder (rst) 0 (fun e => { e with hist := [(0, true)] }))) 1 (fun p => { p with setup := some us, on := true, exp := { gen := 0, long := 10, short := 0, pitch := 65536 }, prevExp := { gen := 0, long := 10, short := 0, pitch := 65536 }, trigAfter := -65536, trigFree := 1 })), 1, us, { gen := 0, long := 10, short := 0, pitch := 65536 }, 0, by dsimp only; decide +kernel⟩,
    ⟨(State.modPort (rst) 1 (fun p => { p with setup := some us, on := true, exp := { gen := 0, long := 10, short := 0, pitch := 65536 }, prevExp := { gen := 0, long := 10, short := 0, pitch := 65536 }, owed := [{ key := 0, line := 0, pos := 0, tb := 0 }] })), 1, { key := 0, line := 0, pos := 0, tb := 0 }, [], by dsimp only; decide +kernel⟩,
    ⟨(State.modPort (rst) 1 (fun p => { p with setup := some us, on := true, exp := { gen := 0, long := 10, short := 0, pitch := 65536 }, prevExp := { gen := 0, long := 10, short := 0, pitch := 65536 } })), 1, by dsimp only; decide +kernel⟩,
    ⟨(State.modPort (rst) 1 (fun p => { p with setup := some us, on := true, exp := { gen := 0, long := 10, short := 0, pitch := 65536 }, prevExp := { gen := 0, long := 10, short := 0, pitch := 65536 }, junk := true })), 1, by dsimp only; decide +kernel⟩,
    ⟨(State.modPort (rst) 1 (fun p => { p with setup := some us, on := true, exp := { gen := 0, long := 10, short := 0, pitch := 65536 }, prevExp := { gen := 0, long := 10, short := 0, pitch := 65536 } })), 1, by dsimp only; decide +kernel⟩,
    ⟨rst, 1, by dsimp only; decide +kernel⟩,
    ⟨(State.modPort (rst) 1 (fun p => { p with setup := some us, on := true, exp := { gen := 0, long := 10, short := 0, pitch := 65536 }, prevExp := { gen := 0, long := 10, short := 0, pitch := 65536 }, recv := some 0, owed := [{ key := 0, line := 0, pos := 0, tb := 0 }], frames := [cf] })), 1, 0, cf, { key := 0, line := 0, pos := 0, tb := 0 }, [], (List.replicate 64 0), { trailer := 0 }, (List.replicate 64 0), by dsimp only; decide +kernel⟩,
    ⟨(State.modPort (rst) 1 (fun p => { p with setup := some { us with flags := 3 }, on := true })), 1, by dsimp only; decide +kernel⟩,
    ⟨(State.modPort (rst) 1 (fun p => { p with setup := some { us with flags := 3 }, on := true, owed := [{ key := 0, line := 0, pos := 0, tb := 0 }], frames := [{ cf with setup := { us with flags := 3 } }] })), 1, { key := 0, line := 0, pos := 0, tb := 0 }, [], { cf with setup := { us with flags := 3 } }, (List.replicate 64 0), { trailer := 0 }, (List.replicate 64 0), by dsimp only; decide +kernel⟩,
    ⟨(State.modPort ({ rst with timebase := 400 }) 1 (fun p => { p with owed := [{ key := 0, line := 0, pos := 0, tb := 0 }], frames := [cf] })), 1, { key := 0, line := 0, pos := 0, tb := 0 }, [], cf, by dsimp only; decide +kernel⟩,
    ⟨(State.modPort ({ rst with timebase := 399 }) 1 (fun p => { p with owed := [{ key := 0, line := 0, pos := 0, tb := 0 }], frames := [cf] })), 1, { key := 0, line := 0, pos := 0, tb := 0 }, [], cf, by dsimp only; exact ⟨(by decide +kernel), (by decide +kernel), (by decide +kernel), (by decide +kernel), listOpt (by decide +kernel), (by decide +kernel)⟩⟩,
    ⟨(State.modPort ({ rst with timebase := 400 }) 1 (fun p => { p with frames := [{ cf with stopped := true }] })), 1, { cf with stopped := true }, by dsimp only; exact ⟨(by decide +kernel), (by decide +kernel), (by decide +kernel), (by decide +kernel), (by decide +kernel), listOpt (by decide +kernel)⟩⟩,
    ⟨(State.modPort (rst) 1 (fun p => { p with stripes := [{ key := 0, index := 0, lines := [[1, 2]], poss := [0], ready := some 0 }] })), 1, { key := 0, index := 0, lines := [[1, 2]], poss := [0], ready := some 0 }, by decide +kernel⟩,
    ⟨(State.modPort (rst) 1 (fun p => { p with stripes := [{ key := 0, index := 0, lines := [[1, 2]], poss := [0], ready := some 0, errors := ⟨[], [5]⟩ }] })), 1, { key := 0, index := 0, lines := [[1, 2]], poss := [0], ready := some 0, errors := ⟨[], [5]⟩ }, by decide +kernel⟩,
    ⟨{ rst with timebase := 2, cam.current := some (1, { key := 0, index := 0, lines := [[1, 2]], poss := [0], ready := some 0 }) }, 1, { key := 0, index := 0, lines := [[1, 2]], poss := [0], ready := some 0 }, by dsimp only; decide +kernel⟩,
    ⟨{ rst with timebase := 1, cam.current := some (1, { key := 0, index := 0, lines := [[1, 2]], poss := [0], ready := some 0 }) }, 1, { key := 0, index := 0, lines := [[1, 2]], poss := [0], ready := some 0 }, by dsimp only; decide +kernel⟩⟩

/-- A state and operands for each clause of Obligations.SurveysRun. -/
theorem witness_SurveysRun :
    (∃ (s : State), ∃ (c : Cmd), ∃ u, let m : ChMask := BitVec.ofNat 64 (le c.params 0 8); s.KettleTakes 0x0600 c ∧ s.health.setup = some u ∧ s.health.run = none ∧ channelsOk (le c.params 0 8) = true ∧ ((∀ n, n < 48 → bit (le c.params 0 8) n = true → (s.chan n).ready = true ∧ (s.chan n).sizes ≠ [] ∧ (u.chan n).cam ≠ 255 ∧ (u.chan n).station ≤ 15 ∧ 150 ≤ (s.headSensor n).value ∧ ∀ k j, s.jobOf n = some k → s.jobAt k = some j → j.active = false)) ∧ s.surveyEstimate u m ≤ 95000000 ∧ s.tripped = true) ∧
    (∃ (s : State), ∃ (c : Cmd), ∃ u, let m : ChMask := BitVec.ofNat 64 (le c.params 0 8); let goal := u.stationPos.getD ((u.stations m).headD 0) 0; s.KettleTakes 0x0600 c ∧ s.health.setup = some u ∧ s.health.run = none ∧ channelsOk (le c.params 0 8) = true ∧ ((∀ n, n < 48 → bit (le c.params 0 8) n = true → (s.chan n).ready = true ∧ (s.chan n).sizes ≠ [] ∧ (u.chan n).cam ≠ 255 ∧ (u.chan n).station ≤ 15 ∧ 150 ≤ (s.headSensor n).value ∧ ∀ k j, s.jobOf n = some k → s.jobAt k = some j → j.active = false)) ∧ s.surveyEstimate u m ≤ 95000000 ∧ s.tripped = false ∧ ((u.axis ≠ 255 → (s.axis u.axis).configured = true ∧ (s.axis u.axis).mode ≠ 2 ∧ (s.axis u.axis).standing = true ∧ (s.axis u.axis).towardsLimit (goal * 65536 - (s.axis u.axis).commanded) = false)) ∧ ((u.axis < 8 ∨ u.axis = 255))) ∧
    (∃ (s : State), ∃ r, ∃ u, s.inRun = true ∧ s.health.run = some r ∧ s.health.setup = some u ∧ r.moving = true ∧ (s.axis u.axis).state = .idle ∧ (s.axis u.axis).commanded = u.stationPos.getD (r.stations.headD 0) 0 * 65536) ∧
    (∃ (s : State), ∃ r, ∃ u, s.inRun = true ∧ s.health.run = some r ∧ s.health.setup = some u ∧ r.moving = false ∧ ((∀ t0, r.roundAt = some t0 → t0 + u.frameUs * 400 ≤ s.clock)) ∧ r.awaited = none ∧ r.work.filterMap List.head? ≠ [] ∧ ((∀ k, k ∈ r.work.filterMap List.head? → 150 ≤ (s.headSensor k.ch).value))) ∧
    (∃ (s : State), ∃ r, ∃ u, ∃ (cam : Fin 4), ∃ (f : DropFrame), s.inRun = true ∧ s.health.run = some r ∧ s.health.setup = some u ∧ s.shot 32 = false ∧ s.shot 33 = false ∧ r.awaited = none) ∧
    (∃ (s : State), ∃ r, ∃ u, ∃ (cam : Fin 4), ∃ (f : DropFrame), ∃ cams, s.inRun = true ∧ s.health.run = some r ∧ s.health.setup = some u ∧ s.shot 32 = false ∧ s.shot 33 = false ∧ r.awaited = some cams ∧ cam.val ∉ cams) ∧
    (∃ (s : State), ∃ r, ∃ u, ∃ (cam : Fin 4), ∃ (f : DropFrame), ∃ cams, s.inRun = true ∧ s.health.run = some r ∧ s.health.setup = some u ∧ s.shot 32 = false ∧ s.shot 33 = false ∧ r.awaited = some cams ∧ cam.val ∈ cams ∧ cams.filter (fun k => k ≠ cam.val) ≠ []) ∧
    (∃ (s : State), ∃ r, ∃ u, ∃ (cam : Fin 4), ∃ (f : DropFrame), let bad := dropBad f || r.roundAt.any (fun t => decide (t + u.frameUs * 400 < s.clock)); s.inRun = true ∧ s.health.run = some r ∧ s.health.setup = some u ∧ s.shot 32 = false ∧ s.shot 33 = false ∧ r.awaited = some [cam.val] ∧ bad = true ∧ r.repeated = false) ∧
    (∃ (s : State), ∃ r, ∃ u, ∃ (cam : Fin 4), ∃ (f : DropFrame), let bad := dropBad f || r.roundAt.any (fun t => decide (t + u.frameUs * 400 < s.clock)); s.inRun = true ∧ s.health.run = some r ∧ s.health.setup = some u ∧ s.shot 32 = false ∧ s.shot 33 = false ∧ r.awaited = some [cam.val] ∧ bad = false ∧ r.roundBad = false ∧ ((∃ l, l ∈ r.work ∧ 2 ≤ l.length))) ∧
    (∃ (s : State), ∃ r, ∃ u, s.inRun = true ∧ s.health.run = some r ∧ s.health.setup = some u ∧ r.since + 95000 * 400000 ≤ s.clock) ∧
    (∃ (s : State), ∃ r, ∃ u, s.inRun = true ∧ s.health.run = some r ∧ s.health.setup = some u ∧ s.clock < r.since + 95000 * 400000) :=
    ⟨⟨(svSt 15), (cm 8 [(0, 8, 1)]), ss, by dsimp only; unfold State.KettleTakes State.Addressed; exact ⟨(by decide +kernel), (by decide +kernel), (by decide +kernel), (by decide +kernel), sv_ready 15, (by decide +kernel), (by decide +kernel)⟩⟩,
    ⟨(svSt 0), (cm 8 [(0, 8, 1)]), ss, by dsimp only; unfold State.KettleTakes State.Addressed; exact ⟨(by decide +kernel), (by decide +kernel), (by decide +kernel), (by decide +kernel), sv_ready 0, (by decide +kernel), (by decide +kernel), (by decide +kernel), (by decide +kernel)⟩⟩,
    ⟨{ rst with health.setup := some { ss with axis := 7 }, health.run := some { sr with moving := true } }, { sr with moving := true }, { ss with axis := 7 }, by decide +kernel⟩,
    ⟨(State.modHead ({ rst with health.setup := some ss, health.run := some { sr with work := [[{ ch := 0, group := 0, drop := 1 }]] } }) 0 (fun x => { x with value := 150 })), { sr with work := [[{ ch := 0, group := 0, drop := 1 }]] }, ss, by dsimp only; exact ⟨(by decide +kernel), (by decide +kernel), (by decide +kernel), (by decide +kernel), optAll (by decide +kernel), (by decide +kernel), (by decide +kernel), (by decide +kernel)⟩⟩,
    ⟨{ rst with health.setup := some ss, health.run := some sr }, sr, ss, 3, { dataType := 0x2A, width := 2048, height := 1024, ended := true, errors := [], blobs := [] }, by decide +kernel⟩,
    ⟨{ rst with health.setup := some ss, health.run := some { sr with awaited := some [0, 1, 2] } }, { sr with awaited := some [0, 1, 2] }, ss, 3, { dataType := 0x2A, width := 2048, height := 1024, ended := true, errors := [], blobs := [] }, [0, 1, 2], by decide +kernel⟩,
    ⟨{ rst with health.setup := some ss, health.run := some { sr with awaited := some [0, 1, 3] } }, { sr with awaited := some [0, 1, 3] }, ss, 3, { dataType := 0x2A, width := 2048, height := 1024, ended := true, errors := [], blobs := [] }, [0, 1, 3], by decide +kernel⟩,
    ⟨{ rst with health.setup := some ss, health.run := some { sr with awaited := some [3] } }, { sr with awaited := some [3] }, ss, 3, { dataType := 0x2A, width := 2048, height := 1024, ended := true, errors := [.crc], blobs := [] }, by dsimp only; decide +kernel⟩,
    ⟨{ rst with health.setup := some ss, health.run := some { sr with work := [[{ ch := 0, group := 0, drop := 1 }, { ch := 0, group := 0, drop := 1 }]], awaited := some [3] } }, { sr with work := [[{ ch := 0, group := 0, drop := 1 }, { ch := 0, group := 0, drop := 1 }]], awaited := some [3] }, ss, 3, { dataType := 0x2A, width := 2048, height := 1024, ended := true, errors := [], blobs := [] }, by dsimp only; decide +kernel⟩,
    ⟨{ rst with health.setup := some ss, health.run := some sr, clock := 95000 * 400000 }, sr, ss, by decide +kernel⟩,
    ⟨{ rst with health.setup := some ss, health.run := some sr, clock := 95000 * 400000 - 1 }, sr, ss, by decide +kernel⟩⟩

/-- A state and operands for each clause of Obligations.MapsAndStrainer. -/
theorem witness_MapsAndStrainer :
    (∃ (s : State), ∃ (c : Cmd), let n := le c.params 0 1; let first := le c.params 2 2; let count := le c.params 4 2; n ≤ 47 ∧ first % 8 = 0 ∧ 8 ≤ count ∧ count % 8 = 0 ∧ first + count ≤ 2048 ∧ le c.params 1 1 = 0 ∧ le c.params 6 2 = 0 ∧ s.KettleTakes 0x0601 c) ∧
    (∃ (s : State), ∃ (c : Cmd), let n := le c.params 0 1; let first := le c.params 2 2; let count := le c.params 4 2; n ≤ 47 ∧ first % 8 = 0 ∧ 8 ≤ count ∧ count % 8 = 0 ∧ first + count ≤ 2048 ∧ le c.params 1 1 = 0 ∧ le c.params 6 2 = 0 ∧ s.KettleTakes 0x0602 c ∧ s.underSurvey n = false ∧ s.packing n = true) ∧
    (∃ (s : State), ∃ (c : Cmd), let n := le c.params 0 1; let first := le c.params 2 2; let count := le c.params 4 2; n ≤ 47 ∧ first % 8 = 0 ∧ 8 ≤ count ∧ count % 8 = 0 ∧ first + count ≤ 2048 ∧ le c.params 1 1 = 0 ∧ le c.params 6 2 = 0 ∧ s.KettleTakes 0x0602 c ∧ s.underSurvey n = false ∧ s.packing n = false ∧ swf 0 (s.chan n).map = true) ∧
    (∃ (s : State), ∃ (ch : Fin 48), ∃ o, ∃ first, ∃ es, s.inRun = true ∧ swf 0 (s.chan ch.val).map = true ∧ o.kind = .mapWrite ch.val first es ∧ s.pe.ops.find? (fun (q : PendOp) => match q.kind with | .mapWrite c _ _ => c = ch.val | _ => false) = some o) ∧
    (∃ (s : State), ∃ (c : Cmd), s.KettleTakes 0x0603 c ∧ le c.params 0 1 = 0 ∧ s.health.run = none ∧ setupOk c.params = true) ∧
    (∃ (s : State), ∃ (c : Cmd), ∃ slot, ∃ j, s.KettleTakes 0x0603 c ∧ le c.params 0 1 = 1 ∧ s.jobSlot (BitVec.ofNat 16 (le c.params 4 2)) = some slot ∧ s.jobAt slot = some j ∧ ((j.state = .opened ∨ j.state = .stopped)) ∧ j.geometry ≠ 2 ∧ checkBarOk c.params = true) ∧
    (∃ (s : State), ∃ (ch : Fin 48), ∃ (bar slot : Nat), ∃ (j : Job), ∃ (b : CheckBar), let n := ch.val; let c := s.chan n; let first := b.slotLine bar (b.ch.getD n (255, 0, 0)).1; let since := (j.barFrom n first).getD 0; s.inRun = true ∧ s.jobOf n = some slot ∧ s.jobAt slot = some j ∧ j.bar = some b ∧ b.enable = true ∧ (b.ch.getD n (255, 0, 0)).1 ≠ 255 ∧ first + b.steps * b.stepLines ≤ c.nextLine ∧ s.underSurvey n = false ∧ s.shot 34 = false ∧ s.shot 35 = false ∧ (n, bar) ∉ j.barsSeen ∧ (j.barFrom n first = none ∨ s.barCaptured j b first since = false)) ∧
    (∃ (s : State), ∃ (ch : Fin 48), ∃ (bar slot : Nat), ∃ (j : Job), ∃ (b : CheckBar), let n := ch.val; let c := s.chan n; let first := b.slotLine bar (b.ch.getD n (255, 0, 0)).1; let since := (j.barFrom n first).getD 0; let good : Prop := (∀ i, i < b.steps * b.stepLines → (n, first + i) ∉ j.barBad) ∧ (∀ x, x ∈ s.barWindow j b first since → x.marked = false) ∧ s.barLost j b first since = false; s.inRun = true ∧ s.jobOf n = some slot ∧ s.jobAt slot = some j ∧ j.bar = some b ∧ b.enable = true ∧ (b.ch.getD n (255, 0, 0)).1 ≠ 255 ∧ first + b.steps * b.stepLines ≤ c.nextLine ∧ s.underSurvey n = false ∧ s.shot 34 = false ∧ s.shot 35 = false ∧ (n, bar) ∉ j.barsSeen ∧ (j.barFrom n first).isSome = true ∧ s.barCaptured j b first since = true ∧ (¬ good)) ∧
    (∃ (s : State), ∃ (ch : Fin 48), ∃ (bar slot : Nat), ∃ (j : Job), ∃ (b : CheckBar), let n := ch.val; let c := s.chan n; let first := b.slotLine bar (b.ch.getD n (255, 0, 0)).1; let since := (j.barFrom n first).getD 0; let obs := b.observation j (s.barWindow j b first since) n first; let good : Prop := (∀ i, i < b.steps * b.stepLines → (n, first + i) ∉ j.barBad) ∧ (∀ x, x ∈ s.barWindow j b first since → x.marked = false) ∧ s.barLost j b first since = false; let absent := ((List.range c.nozzles).filter (fun k => obs k = 2)).length; s.inRun = true ∧ s.jobOf n = some slot ∧ s.jobAt slot = some j ∧ j.bar = some b ∧ b.enable = true ∧ (b.ch.getD n (255, 0, 0)).1 ≠ 255 ∧ first + b.steps * b.stepLines ≤ c.nextLine ∧ s.underSurvey n = false ∧ s.shot 34 = false ∧ s.shot 35 = false ∧ (n, bar) ∉ j.barsSeen ∧ (j.barFrom n first).isSome = true ∧ s.barCaptured j b first since = true ∧ good ∧ 100 * absent ≤ b.invalidPct * c.nozzles ∧ swf 0 c.map = true ∧ swf (0, 0, 0) c.runs = true) ∧
    (∃ (s : State), ∃ (ch : Fin 48), ∃ (bar slot : Nat), ∃ (j : Job), ∃ (b : CheckBar), let n := ch.val; let c := s.chan n; let first := b.slotLine bar (b.ch.getD n (255, 0, 0)).1; let since := (j.barFrom n first).getD 0; let obs := b.observation j (s.barWindow j b first since) n first; let good : Prop := (∀ i, i < b.steps * b.stepLines → (n, first + i) ∉ j.barBad) ∧ (∀ x, x ∈ s.barWindow j b first since → x.marked = false) ∧ s.barLost j b first since = false; let absent := ((List.range c.nozzles).filter (fun k => obs k = 2)).length; s.inRun = true ∧ s.jobOf n = some slot ∧ s.jobAt slot = some j ∧ j.bar = some b ∧ b.enable = true ∧ (b.ch.getD n (255, 0, 0)).1 ≠ 255 ∧ first + b.steps * b.stepLines ≤ c.nextLine ∧ s.underSurvey n = false ∧ s.shot 34 = false ∧ s.shot 35 = false ∧ (n, bar) ∉ j.barsSeen ∧ (j.barFrom n first).isSome = true ∧ s.barCaptured j b first since = true ∧ good ∧ b.invalidPct * c.nozzles < 100 * absent) :=
    ⟨⟨rst, (cm 8 [(0, 1, 47), (2, 2, 2040), (4, 2, 8)]), by dsimp only; unfold State.KettleTakes State.Addressed; decide +kernel⟩,
    ⟨(withJob rst ({ jb with state := .running, channels := 2 ^ 47 })), (cm 12 [(0, 1, 47), (2, 2, 2040), (4, 2, 8)]), by dsimp only; unfold State.KettleTakes State.Addressed; decide +kernel⟩,
    ⟨rst, (cm 12 [(0, 1, 47), (2, 2, 2040), (4, 2, 8)]), by dsimp only; unfold State.KettleTakes State.Addressed; decide +kernel⟩,
    ⟨{ rst with pe.ops := [{ kind := .mapWrite 47 2040 [1], pkt := pk 0x602 12, src := .ring, seq := 0 }] }, 47, { kind := .mapWrite 47 2040 [1], pkt := pk 0x602 12, src := .ring, seq := 0 }, 2040, [1], by decide +kernel⟩,
    ⟨rst, (cm 588 [(4, 1, 255), (5, 1, 1), (8, 4, 1000), (12, 4, 100), (20, 4, 1), (24, 4, 2), (28, 2, 1), (30, 1, 1), (43, 1, 101)]), by unfold State.KettleTakes State.Addressed; decide +kernel⟩,
    ⟨(withJob rst (jb)), (cm 420 [(0, 1, 1), (4, 2, 1), (7, 1, 1), (8, 4, 100), (16, 1, 8), (17, 1, 1), (18, 1, 1), (19, 1, 1), (20, 1, 1), (21, 1, 2), (22, 1, 1), (23, 1, 1), (26, 1, 1)]), 0, jb, by unfold State.KettleTakes State.Addressed; decide +kernel⟩,
    ⟨(withJob ((rst.modChan 0 (fun c => { c with nextLine := 8 }))) ({ jb with state := .running, bar := some barS })), 0, 0, 0, { jb with state := .running, bar := some barS }, barS, by dsimp only; decide +kernel⟩,
    ⟨(withJob ((({ rst with health.ring := [{ port := 0, key := 0, pos := 80, bits := [], marked := false, at_ := 1 }, { port := 0, key := 0, pos := 0, bits := [], marked := true, at_ := 1 }] } : State).modChan 0 (fun c => { c with nextLine := 8 }))) ({ jb with state := .running, bar := some barS, barAt := [((0, 0), 0)] })), 0, 0, 0, { jb with state := .running, bar := some barS, barAt := [((0, 0), 0)] }, barS, by dsimp only; decide +kernel⟩,
    ⟨(withJob ((({ rst with health.ring := [{ port := 0, key := 0, pos := 80, bits := [], marked := false, at_ := 1 }, { port := 0, key := 0, pos := 0, bits := [], marked := false, at_ := 1 }] } : State).modChan 0 (fun c => { c with nextLine := 8 }))) ({ jb with state := .running, bar := some barS, barAt := [((0, 0), 0)] })), 0, 0, 0, { jb with state := .running, bar := some barS, barAt := [((0, 0), 0)] }, barS, by dsimp only; decide +kernel⟩,
    ⟨(withJob ((({ rst with health.ring := [{ port := 0, key := 0, pos := 80, bits := [], marked := false, at_ := 1 }, { port := 0, key := 0, pos := 0, bits := [], marked := false, at_ := 1 }] } : State).modChan 0 (fun c => { c with nextLine := 8 }))) ({ jb with state := .running, bar := some { barS with invalidPct := 1, minPix := 1, weakPix := 1 }, barAt := [((0, 0), 0)] })), 0, 0, 0, { jb with state := .running, bar := some { barS with invalidPct := 1, minPix := 1, weakPix := 1 }, barAt := [((0, 0), 0)] }, { barS with invalidPct := 1, minPix := 1, weakPix := 1 }, by dsimp only; decide +kernel⟩⟩

/-- A state and operands for each clause of Obligations.BanksAndStore. -/
theorem witness_BanksAndStore :
    (∃ (s : State), ∃ (b : Fin 17), let k := s.bank b.val; let k' := (k.takeWindow b.val).2; s.inRunIdle = true ∧ k.retest = []) ∧
    (∃ (s : State), ∃ (b : Fin 17), ∃ x, ∃ r, let k := s.bank b.val; let k' := (k.takeWindow b.val).2; s.inRunIdle = true ∧ k.retest = x :: r) ∧
    (∃ (s : State), ∃ (b : Fin 17), let k := s.bank b.val; let k' := (k.takeWindow b.val).2; s.inRunIdle = true ∧ k.test = false) ∧
    (∃ (s : State), ∃ (b : Fin 17), let k := s.bank b.val; let k' := (k.takeWindow b.val).2; s.inRunIdle = true ∧ k.test = true ∧ s.shot 80 = false ∧ k.rows.length < 16 ∧ b.val < 12) ∧
    (∃ (s : State), ∃ (b : Fin 17), let k := s.bank b.val; let k' := (k.takeWindow b.val).2; s.inRunIdle = true ∧ k.test = true ∧ s.shot 80 = false ∧ 16 ≤ k.rows.length ∧ ((b.val < 15 ∧ k.retired.length < 8) ∨ b.val = 16)) ∧
    (∃ (s : State), ∃ (b : Fin 17), let k := s.bank b.val; let k' := (k.takeWindow b.val).2; s.inRunIdle = true ∧ k.test = true ∧ s.shot 80 = false ∧ 16 ≤ k.rows.length ∧ b.val = 15) ∧
    (∃ (s : State), s.inRun = true ∧ s.storeBytes ≠ 0) ∧
    (∃ (s : State), ∃ (c : Cmd), s.KettleTakes 0x0800 c ∧ le c.params 0 4 < 2 ^ 17) ∧
    (∃ (s : State), ∃ (c : Cmd), s.KettleTakes 0x0801 c ∧ ((∀ k, k < 4 → s.jobAt k = none)) ∧ ((∀ p, p < 2 → (s.port p).on = false)) ∧ ((∀ k, k < 16 → ∀ r, (s.dma k).run = some r → r.usesStore = false)) ∧ s.mem.training = none ∧ ((∀ x : Tile, x ∈ s.tiles → x.source ≠ 1 ∨ x.done = true)) ∧ le c.params 0 1 ≤ 3 ∧ le c.params 1 1 ∈ [1, 3, 15] ∧ le c.params 2 1 ∈ [1, 2] ∧ le c.params 3 1 ≤ 4 ∧ zeros c.params 4 4 = true) ∧
    (∃ (s : State), ∃ u, s.inRun = true ∧ s.mem.training = some u) :=
    ⟨⟨rst, 16, by dsimp only; decide +kernel⟩,
    ⟨(rst.modBank 16 (fun b => { b with retest := [7] })), 16, 7, [], by dsimp only; decide +kernel⟩,
    ⟨(rst.modBank 16 (fun b => { b with test := false })), 16, by dsimp only; decide +kernel⟩,
    ⟨rst, 11, by dsimp only; decide +kernel⟩,
    ⟨(rst.modBank 11 (fun b => { b with rows := List.range 16, retired := List.range 7 })), 11, by dsimp only; decide +kernel⟩,
    ⟨(rst.modBank 15 (fun b => { b with rows := List.range 16 })), 15, by dsimp only; decide +kernel⟩,
    ⟨{ rst with mem.cfg := some { rate := 0, channels := 1, ranks := 1, density := 0 } }, by decide +kernel⟩,
    ⟨rst, (cm 4 [(0, 4, 2 ^ 17 - 1)]), by unfold State.KettleTakes State.Addressed; decide +kernel⟩,
    ⟨rst, (cm 8 [(0, 1, 3), (1, 1, 15), (2, 1, 2), (3, 1, 4)]), by unfold State.KettleTakes State.Addressed; decide +kernel⟩,
    ⟨{ rst with mem.training := some { rate := 0, channels := 1, ranks := 1, density := 0 } }, { rate := 0, channels := 1, ranks := 1, density := 0 }, by decide +kernel⟩⟩

/-- A state and operands for each clause of Obligations.DmaTransfers. -/
theorem witness_DmaTransfers :
    (∃ (s : State), ∃ (k : Fin 16), ∃ (v : Word), let c := s.dma k.val; s.Awake ∧ s.shot 4 = false ∧ s.shot 8 = false ∧ s.pe.rebooting = false ∧ s.pwr.blockHeld.getLsbD 15 = false ∧ c.run = none ∧ c.count.toNat % 4 = 0 ∧ c.count ≠ 0 ∧ s.dmaRangeOk c.src c.count.toNat false = true ∧ s.dmaRangeOk c.dst c.count.toNat true = true) ∧
    (∃ (s : State), ∃ (k : Fin 16), ∃ (v : Word), let c := s.dma k.val; s.Awake ∧ s.shot 4 = false ∧ s.shot 8 = false ∧ s.pe.rebooting = false ∧ s.pwr.blockHeld.getLsbD 15 = false ∧ c.run = none ∧ (c.count.toNat % 4 ≠ 0 ∨ s.dmaRangeOk c.src c.count.toNat false = false ∨ s.dmaRangeOk c.dst c.count.toNat true = false)) ∧
    (∃ (s : State), ∃ (k : Fin 16), ∃ r, ∃ (e : ReadErrors), let c := s.dma k.val; s.inRun = true ∧ c.run = some r ∧ c.pending = false ∧ s.isPend k.val = false ∧ dmaSpace r.src = 1 ∧ dmaSpace r.dst = 0 ∧ r.start = s.dmaBytes r.src r.count ∧ swf 0 s.host.mem = true) ∧
    (∃ (s : State), ∃ (k : Fin 16), ∃ r, ∃ (b : Bytes), ∃ (e : ReadErrors), let c := s.dma k.val; s.inRun = true ∧ c.run = some r ∧ c.pending = false ∧ s.isPend k.val = false ∧ dmaSpace r.src = 0 ∧ s.shot 9 = false ∧ dmaSpace r.dst = 1 ∧ r.count ≤ b.length ∧ swf 0 s.mem.store = true) ∧
    (∃ (s : State), ∃ (k : Fin 16), ∃ r, ∃ (b : Bytes), ∃ (e : ReadError), let c := s.dma k.val; s.inRun = true ∧ c.run = some r ∧ c.pending = false ∧ s.isPend k.val = false ∧ dmaSpace r.src = 0 ∧ s.shot 9 = false ∧ dmaSpace r.dst = 1 ∧ b.length ≤ r.count ∧ swf 0 s.mem.store = true ∧ ((e = .timeout → s.host.ctl.timeoutOff = false))) ∧
    (∃ (s : State), ∃ (k : Fin 16), ∃ r, let c := s.dma k.val; s.inRun = true ∧ c.run = some r ∧ c.pending = false ∧ s.isPend k.val = false ∧ dmaSpace r.src = 0 ∧ s.shot 9 = false ∧ s.host.ctl.timeoutOff = false) ∧
    (∃ (s : State), ∃ (k : Fin 16), s.inRun = true ∧ s.pe.fetch.isSome = true ∧ s.host.ctl.timeoutOff = false) ∧
    (∃ (s : State), ∃ (k : Fin 16), s.inRun = true ∧ s.pe.fetch.isSome = true ∧ s.host.ctl.timeoutOff = true) ∧
    (∃ (s : State), ∃ (k : Fin 16), s.inRunIdle = true) ∧
    (∃ (s : State), ∃ (k : Fin 16), ∃ (t : Tile), s.inRun = true ∧ s.host.ctl.timeoutOff = false ∧ s.tiles = [t] ∧ t.source = 0 ∧ t.done = false ∧ t.landed = [] ∧ ((∃ slot, s.jobSlot t.job = some slot)) ∧ t.orphan = false) :=
    ⟨⟨(State.modDma ({ rst with mem.cfg := some { rate := 0, channels := 1, ranks := 1, density := 0 } }) 15 (fun d => { d with src := 2 ^ 56, dst := 2 ^ 56 + 64, count := 64 })), 15, 1, by dsimp only; unfold State.Awake; decide +kernel⟩,
    ⟨(State.modDma (rst) 15 (fun d => { d with count := 2 })), 15, 1, by dsimp only; unfold State.Awake; decide +kernel⟩,
    ⟨(State.modDma ({ rst with mem.cfg := some { rate := 0, channels := 1, ranks := 1, density := 0 } }) 15 (fun d => { d with run := some { src := 2 ^ 56, dst := 0, count := 4, rate := 0, fill := false, start := [0, 0, 0, 0] } })), 15, { src := 2 ^ 56, dst := 0, count := 4, rate := 0, fill := false, start := [0, 0, 0, 0] }, {}, by dsimp only; decide +kernel⟩,
    ⟨(State.modDma (rst) 15 (fun d => { d with run := some { src := 0, dst := 2 ^ 56, count := 4, rate := 0, fill := false, start := [1, 2, 3, 4] } })), 15, { src := 0, dst := 2 ^ 56, count := 4, rate := 0, fill := false, start := [1, 2, 3, 4] }, [1, 2, 3, 4], {}, by dsimp only; decide +kernel⟩,
    ⟨(State.modDma (rst) 15 (fun d => { d with run := some { src := 0, dst := 2 ^ 56, count := 4, rate := 0, fill := false, start := [1, 2, 3, 4] } })), 15, { src := 0, dst := 2 ^ 56, count := 4, rate := 0, fill := false, start := [1, 2, 3, 4] }, [1, 2], .abort, by dsimp only; decide +kernel⟩,
    ⟨(State.modDma (rst) 15 (fun d => { d with run := some { src := 0, dst := 2 ^ 56, count := 4, rate := 0, fill := false, start := [1, 2, 3, 4] } })), 15, { src := 0, dst := 2 ^ 56, count := 4, rate := 0, fill := false, start := [1, 2, 3, 4] }, by dsimp only; decide +kernel⟩,
    ⟨{ rst with pe.fetch := some { next := 0, stop := 1, buf := [] } }, 15, by decide +kernel⟩,
    ⟨{ rst with pe.fetch := some { next := 0, stop := 1, buf := [] }, host.ctl.timeoutOff := true }, 15, by decide +kernel⟩,
    ⟨rst, 15, by decide +kernel⟩,
    ⟨{ (withJob rst (jb)) with tiles := [tl] }, 15, tl, ⟨(by decide +kernel), (by decide +kernel), (by decide +kernel), (by decide +kernel), (by decide +kernel), (by decide +kernel), ⟨0, (by decide +kernel)⟩, (by decide +kernel)⟩⟩⟩

/-- A state and operands for each clause of Obligations.OtpCommands. -/
theorem witness_OtpCommands :
    (∃ (s : State), ∃ (d : Word), ∃ i, ∃ j, s.Awake ∧ s.shot 4 = false ∧ i < 39 ∧ j < 39 ∧ j ≠ i) ∧
    (∃ (s : State), s.Awake ∧ s.shot 4 = false ∧ s.otp.keyAt + 400000 ≤ s.clock) ∧
    (∃ (s : State), ∃ (i : Instr), let a := s.otp.addr.toNat; s.Awake ∧ s.shot 4 = false ∧ s.otpBusy = false ∧ s.otpDenied a = true ∧ i ∈ [Instr.otpReadMarginLo, .otpReadMarginHi]) ∧
    (∃ (s : State), ∃ d, ∃ c, let a := s.otp.addr.toNat; s.Awake ∧ s.shot 4 = false ∧ s.otpBusy = false ∧ s.otpDenied a = false ∧ State.otpRead s a = some (d, c) ∧ s.shot 96 = false ∧ s.shot 97 = false) ∧
    (∃ (s : State), let a := s.otp.addr.toNat; s.Awake ∧ s.shot 4 = false ∧ s.otpBusy = false ∧ s.otpDenied a = false ∧ State.otpRead s a = none) ∧
    (∃ (s : State), ∃ i, s.Awake ∧ s.shot 4 = false ∧ s.otpBusy = false ∧ s.otp.key ≠ 2 ∧ i ∈ [Instr.otpProgram, .otpReburnWord, .otpFinaliseRegion]) ∧
    (∃ (s : State), let a := s.otp.addr.toNat; s.Awake ∧ s.shot 4 = false ∧ s.otpBusy = false ∧ s.otp.key = 2 ∧ s.tempOk = true ∧ s.otp.vppOk = true ∧ lifecycleAllows s.otp.wires.lifecycle 4 (a / 256) = true ∧ s.shot 98 = false ∧ (s.otpWord a).lo = 0 ∧ a / 256 ≠ 0 ∧ finalisable (a / 256) = true ∧ s.otpLocked (a / 256) = false ∧ s.otpPending (a / 256) = false ∧ otpReserved (a / 256) (a % 256) = false) ∧
    (∃ (s : State), let a := s.otp.addr.toNat; s.Awake ∧ s.shot 4 = false ∧ s.otpBusy = false ∧ s.otp.key = 2 ∧ s.tempOk = true ∧ s.otp.vppOk = true ∧ lifecycleAllows s.otp.wires.lifecycle 5 (a / 256) = true ∧ s.shot 98 = false ∧ s.reburnOk a (otpCode s.otp.wdata) = true) ∧
    (∃ (s : State), let a := s.otp.addr.toNat; s.Awake ∧ s.shot 4 = false ∧ s.otpBusy = false ∧ s.otp.key = 2 ∧ s.tempOk = true ∧ s.otp.vppOk = true ∧ lifecycleAllows s.otp.wires.lifecycle 6 (a / 256) = true ∧ a / 256 ≠ 0 ∧ finalisable (a / 256) = true ∧ s.otpLocked (a / 256) = false ∧ s.kettleDown = true) ∧
    (∃ (s : State), let a := s.otp.addr.toNat; s.Awake ∧ s.shot 4 = false ∧ s.otpBusy = false ∧ s.otp.key = 2 ∧ s.tempOk = true ∧ s.otp.vppOk = true ∧ lifecycleAllows s.otp.wires.lifecycle 6 (a / 256) = true ∧ a / 256 ≠ 0 ∧ finalisable (a / 256) = true ∧ s.otpLocked (a / 256) = false ∧ s.kettleDown = false ∧ ((∀ i, i < 246 → (State.otpRead s (otpAddr (a / 256) i)).isSome = true))) ∧
    (∃ (s : State), let a := s.otp.addr.toNat; s.Awake ∧ s.shot 4 = false ∧ s.otpBusy = false ∧ s.otp.key = 2 ∧ s.tempOk = true ∧ s.otp.vppOk = true ∧ lifecycleAllows s.otp.wires.lifecycle 6 (a / 256) = true ∧ a / 256 ≠ 0 ∧ finalisable (a / 256) = true ∧ s.otpLocked (a / 256) = false ∧ s.kettleDown = false ∧ ((∃ i, i < 246 ∧ State.otpRead s (otpAddr (a / 256) i) = none))) ∧
    (∃ (s : State), ∃ r, ∃ x, ∃ w, ∃ rest, ∃ (lo nom hi : BitVec 39), s.Awake ∧ s.shot 4 = false ∧ s.otp.run = some r ∧ r.todo = (x, w) :: rest ∧ s.kettleDown = false ∧ s.tempOk = true ∧ s.otp.vppOk = true ∧ ((r.kind < 6 ∨ 0 < r.attempts ∨ (s.otpWord x).lo = 0 ∨ s.reburnOk x w = true)) ∧ swf {} s.otp.words = true) :=
    ⟨⟨rst, 5, 38, 0, by unfold State.Awake; decide +kernel⟩,
    ⟨{ rst with clock := 400000 }, by unfold State.Awake; decide +kernel⟩,
    ⟨{ rst with otp.addr := 256 + 16 }, .otpReadMarginLo, by dsimp only; unfold State.Awake; decide +kernel⟩,
    ⟨{ rst with otp.addr := 768 }, 0, false, by dsimp only; unfold State.Awake; decide +kernel⟩,
    ⟨wrongState, by dsimp only; unfold State.Awake; exact ⟨(by decide +kernel), (by decide +kernel), (by decide +kernel), (by decide +kernel), two_wrong⟩⟩,
    ⟨rst, .otpProgram, by unfold State.Awake; decide +kernel⟩,
    ⟨{ warm with otp.key := 2, otp.addr := 1024 }, by dsimp only; unfold State.Awake; decide +kernel⟩,
    ⟨{ warm with otp.key := 2, otp.addr := 1024 }, by dsimp only; unfold State.Awake; decide +kernel⟩,
    ⟨{ warm with otp.key := 2, otp.addr := 1024, pe.stalled := true }, by dsimp only; unfold State.Awake; decide +kernel⟩,
    ⟨{ warm with otp.key := 2, otp.addr := 1024 }, by dsimp only; unfold State.Awake; decide +kernel⟩,
    ⟨{ wrongState with otp.key := 2, therm.dies := warm.therm.dies }, by dsimp only; unfold State.Awake; exact ⟨(by decide +kernel), (by decide +kernel), (by decide +kernel), (by decide +kernel), (by decide +kernel), (by decide +kernel), (by decide +kernel), (by decide +kernel), (by decide +kernel), (by decide +kernel), (by decide +kernel), 0, (by decide +kernel), two_wrong⟩⟩,
    ⟨{ warm with otp.run := some { kind := 4, todo := [(1024, 5)], attempts := 0 } }, { kind := 4, todo := [(1024, 5)], attempts := 0 }, 1024, 5, [], 0, 0, 0, by unfold State.Awake; decide +kernel⟩⟩

/-- A state and operands for each clause of Obligations.LifecycleAndTamper. -/
theorem witness_LifecycleAndTamper :
    (∃ (s : State), ∃ (c : Cmd), let tgt := le c.params 0 1; s.KettleTakes 0x0B00 c ∧ tgt ≤ 4 ∧ s.advanceAllowed tgt = false) ∧
    (∃ (s : State), ∃ (c : Cmd), let tgt := le c.params 0 1; s.KettleTakes 0x0B00 c ∧ s.advanceAllowed tgt = true ∧ s.tempOk = false) ∧
    (∃ (s : State), ∃ (c : Cmd), let tgt := le c.params 0 1; let first := if tgt = 2 then [1, 3, 4, 5].filter (fun r => !s.otpLocked r) else []; s.KettleTakes 0x0B00 c ∧ 1 ≤ tgt ∧ tgt ≤ 4 ∧ s.advanceAllowed tgt = true ∧ s.tempOk = true ∧ ((∀ k, k < 4 → s.jobAt k = none)) ∧ s.otpBusy = false ∧ le c.params 4 4 = 0x4C435943 ∧ zeros c.params 1 3 = true ∧ first = []) ∧
    (∃ (s : State), ∃ (c : Cmd), ∃ g, ∃ gs, let tgt := le c.params 0 1; let first := if tgt = 2 then [1, 3, 4, 5].filter (fun r => !s.otpLocked r) else []; s.KettleTakes 0x0B00 c ∧ 1 ≤ tgt ∧ tgt ≤ 4 ∧ s.advanceAllowed tgt = true ∧ s.tempOk = true ∧ ((∀ k, k < 4 → s.jobAt k = none)) ∧ s.otpBusy = false ∧ le c.params 4 4 = 0x4C435943 ∧ zeros c.params 1 3 = true ∧ first = g :: gs ∧ ((∀ i, i < 246 → (State.otpRead s (otpAddr g i)).isSome = true))) ∧
    (∃ (s : State), ∃ (c : Cmd), ∃ g, ∃ gs, let tgt := le c.params 0 1; let first := if tgt = 2 then [1, 3, 4, 5].filter (fun r => !s.otpLocked r) else []; s.KettleTakes 0x0B00 c ∧ 1 ≤ tgt ∧ tgt ≤ 4 ∧ s.advanceAllowed tgt = true ∧ s.tempOk = true ∧ ((∀ k, k < 4 → s.jobAt k = none)) ∧ s.otpBusy = false ∧ le c.params 4 4 = 0x4C435943 ∧ zeros c.params 1 3 = true ∧ first = g :: gs ∧ ((∃ i, i < 246 ∧ State.otpRead s (otpAddr g i) = none))) ∧
    (∃ (s : State), ∃ tgt, s.inRun = true ∧ s.kettleDown = false ∧ s.otp.advance = some tgt ∧ s.otp.run = none) ∧
    (∃ (s : State), ∃ x, ∃ d, ∃ rest, ∃ (lo nom hi : BitVec 39), ∃ a, s.inRun = true ∧ s.kettleDown = false ∧ s.therm.logWait = (x, d) :: rest ∧ s.otpBusy = false ∧ s.tempOk = true ∧ s.otp.vppOk = true ∧ swf {} s.otp.words = true ∧ s.logAddr = some a) ∧
    (∃ (s : State), ∃ x, ∃ d, ∃ rest, ∃ (lo nom hi : BitVec 39), s.inRun = true ∧ s.kettleDown = false ∧ s.therm.logWait = (x, d) :: rest ∧ s.otpBusy = false ∧ s.tempOk = true ∧ s.otp.vppOk = true ∧ swf {} s.otp.words = true ∧ s.logAddr = none) ∧
    (∃ (s : State), ∃ (c : Cmd), let removes : Prop := s.otp.tamperEn &&& ~~~ BitVec.ofNat 4 (le c.params 0 1) ≠ 0 ∧ 1 < s.otp.wires.lifecycle; s.KettleTakes 0x0B01 c ∧ removes) ∧
    (∃ (s : State), ∃ (c : Cmd), let removes : Prop := s.otp.tamperEn &&& ~~~ BitVec.ofNat 4 (le c.params 0 1) ≠ 0 ∧ 1 < s.otp.wires.lifecycle; s.KettleTakes 0x0B01 c ∧ le c.params 0 1 ≤ 15 ∧ le c.params 1 1 = 0 ∧ 0 < le c.params 2 2 ∧ (¬ removes)) ∧
    (∃ (s : State), ∃ (d : TamperDetector), s.pwr.supply = true ∧ s.otp.tamperEn.getLsbD (tamperIndex d) = true) ∧
    (∃ (s : State), ∃ (d : TamperDetector), s.pwr.supply = true ∧ s.otp.tamperEn.getLsbD (tamperIndex d) = false) :=
    ⟨⟨rst, (cm 8 []), by dsimp only; unfold State.KettleTakes State.Addressed; decide +kernel⟩,
    ⟨(State.modSensor rst (.die 0) (fun x => { x with value := 851 })), (cm 8 [(0, 1, 4)]), by dsimp only; unfold State.KettleTakes State.Addressed; decide +kernel⟩,
    ⟨warm, (cm 8 [(0, 1, 1), (4, 4, 0x4C435943)]), by dsimp only; unfold State.KettleTakes State.Addressed; decide +kernel⟩,
    ⟨warm, (cm 8 [(0, 1, 2), (4, 4, 0x4C435943)]), 1, [3, 4, 5], by dsimp only; unfold State.KettleTakes State.Addressed; decide +kernel⟩,
    ⟨{ warm with otp.words := [(256, { nom := 3 * 2 ^ 32 })] }, (cm 8 [(0, 1, 2), (4, 4, 0x4C435943)]), 1, [3, 4, 5], by dsimp only; unfold State.KettleTakes State.Addressed; exact ⟨(by decide +kernel), (by decide +kernel), (by decide +kernel), (by decide +kernel), (by decide +kernel), (by decide +kernel), (by decide +kernel), (by decide +kernel), (by decide +kernel), (by decide +kernel), 0, (by decide +kernel), two_wrong⟩⟩,
    ⟨{ rst with otp.advance := some 1 }, 1, by decide +kernel⟩,
    ⟨{ warm with therm.logWait := [(3, 5)] }, 3, 5, [], 0, 0, 0, 1536, by decide +kernel⟩,
    ⟨{ warm with therm.logWait := [(3, 5)], otp.words := (List.range 64).map (fun i => (1536 + i, { lo := 1 })) }, 3, 5, [], 0, 0, 0, by decide +kernel⟩,
    ⟨{ rst with otp.wires.lifecycle := 2 }, (cm 4 [(0, 1, 7), (2, 2, 1)]), by dsimp only; unfold State.KettleTakes State.Addressed; decide +kernel⟩,
    ⟨rst, (cm 4 [(0, 1, 15), (2, 2, 1)]), by dsimp only; unfold State.KettleTakes State.Addressed; decide +kernel⟩,
    ⟨rst, .clockGlitch, by decide +kernel⟩,
    ⟨{ rst with otp.tamperEn := 7 }, .clockGlitch, by decide +kernel⟩⟩

/-- A state and operands for each clause of Obligations.RingPorts. -/
theorem witness_RingPorts :
    (∃ (s : State), ∃ (p : Side), let q := s.wport p; s.inRunIdle = true ∧ s.link.en = true ∧ s.pwr.blockHeld.getLsbD 16 = false ∧ ((q.state = .down ∨ q.state = .parked))) ∧
    (∃ (s : State), ∃ (p : Side), let q := s.wport p; (q.state = .training ∨ q.state = .up)) ∧
    (∃ (s : State), ∃ (p : Side), let q := s.wport p; s.inRunIdle = true ∧ q.state = .training) ∧
    (∃ (s : State), ∃ (p : Side), let q := s.wport p; q.state ≠ .up) ∧
    (∃ (s : State), ∃ (p : Side), let q := s.wport p; s.Awake ∧ s.shot 4 = false ∧ s.pwr.blockHeld.getLsbD 16 = false ∧ s.link.en = true ∧ s.link.posEnc < 8 ∧ q.state = .up ∧ p = .east) ∧
    (∃ (s : State), ∃ (p : Side), let q := s.wport p; s.Awake ∧ s.shot 4 = false ∧ s.pwr.blockHeld.getLsbD 16 = false ∧ s.link.en = true ∧ s.link.posEnc < 8 ∧ q.state = .up ∧ p = .west) ∧
    (∃ (s : State), ∃ (p : Side), s.Awake ∧ s.shot 4 = false ∧ s.pwr.blockHeld.getLsbD 16 = false ∧ s.link.en = true ∧ s.link.posEnc < 8 ∧ s.isMaster = false) ∧
    (∃ (s : State), ∃ (p : Side), s.Awake ∧ s.shot 4 = false ∧ s.pwr.blockHeld.getLsbD 16 = false ∧ s.link.en = true ∧ s.link.posEnc < 8 ∧ s.isMaster = true) ∧
    (∃ (s : State), ∃ (p : Side), s.linkOn p = true ∧ s.isMaster = true) ∧
    (∃ (s : State), ∃ (p : Side), s.linkOn p = true ∧ s.isMaster = false) ∧
    (∃ (s : State), ∃ (p : Side), ∃ (c : Cmd), s.KettleTakes 0x0A00 c) :=
    ⟨⟨rst, .west, by dsimp only; decide +kernel⟩,
    ⟨(State.modWport (rst) .west (fun q => { q with state := .up })), .west, by dsimp only; decide +kernel⟩,
    ⟨(State.modWport (rst) .west (fun q => { q with state := .training })), .west, by dsimp only; decide +kernel⟩,
    ⟨rst, .west, by dsimp only; decide +kernel⟩,
    ⟨(State.modWport ({ rst with link.posEnc := 7 }) .east (fun q => { q with state := .up })), .east, by dsimp only; unfold State.Awake; decide +kernel⟩,
    ⟨(State.modWport (rst) .west (fun q => { q with state := .up })), .west, by dsimp only; unfold State.Awake; decide +kernel⟩,
    ⟨(State.modWport (rst) .west (fun q => { q with state := .up })), .west, by unfold State.Awake; decide +kernel⟩,
    ⟨(State.modWport ({ rst with otp.wires.master := true }) .west (fun q => { q with state := .up })), .west, by unfold State.Awake; decide +kernel⟩,
    ⟨(State.modWport ({ rst with otp.wires.master := true }) .west (fun q => { q with state := .up })), .west, by decide +kernel⟩,
    ⟨(State.modWport (rst) .west (fun q => { q with state := .up })), .west, by decide +kernel⟩,
    ⟨rst, .west, (cm 0 []), by unfold State.KettleTakes State.Addressed; decide +kernel⟩⟩

/-- A state and operands for each clause of Obligations.RingNumbering. -/
theorem witness_RingNumbering :
    (∃ (s : State), ∃ (p : Side), ∃ (closed : Bool), ∃ (east west : List (Option (Fin 8))), (s.isMaster = false ∨ s.link.conflict = true)) ∧
    (∃ (s : State), ∃ (p : Side), s.inRunIdle = true ∧ s.isMaster = true ∧ s.link.conflict = false ∧ s.portUp p = true ∧ s.link.present = 0 ∧ s.clock < s.link.heldFrom + 400000) ∧
    (∃ (s : State), ∃ (p : Side), ∃ (closed : Bool), ∃ (e w : Nat), let west := if closed then 0 else w; s.inRunIdle = true ∧ s.isMaster = true ∧ s.link.conflict = false ∧ s.portUp p = true ∧ (s.link.present ≠ 0 ∨ s.link.heldFrom + 400000 ≤ s.clock) ∧ ((closed = false → s.link.known &&& ~~~ 1 = 0)) ∧ e + west ≤ 7) ∧
    (∃ (s : State), ∃ (p : Side), ∃ (t : Topo), ∃ (i : Instr), s.linkOn p = true ∧ s.shot 112 = false ∧ t.seq ≠ (s.wport p).rxSeq ∧ i ∈ [Instr.topoEnumeration p t, .topoBreakNotice p t]) ∧
    (∃ (s : State), ∃ (p : Side), ∃ (t : Topo), s.linkOn p = true ∧ s.shot 112 = false ∧ (s.wport p).unackedRx < 15 ∧ t.seq = (s.wport p).rxSeq ∧ t.hopsEast.length = 8 ∧ t.hopsWest.length = 8 ∧ t.present.length = 8) ∧
    (∃ (s : State), ∃ (p : Side), ∃ seq, s.linkOn p = true ∧ s.shot 112 = false ∧ (s.wport p).unackedRx < 15 ∧ seq = (s.wport p).rxSeq) ∧
    (∃ (s : State), ∃ (p : Side), ∃ (f : Frame), f.typ = tWAKE ∧ s.Delivers p f ∧ s.pwr.state = .idle ∧ s.pwr.waking = false ∧ s.pwr.wakeEn.getLsbD 2 = true) ∧
    (∃ (s : State), ∃ (p : Side), ∃ (f : Frame), f.typ = tWAKE ∧ s.Delivers p f ∧ s.pwr.state = .run ∧ s.pwr.entering = none) ∧
    (∃ (s : State), ∃ (p : Side), ∃ (f : Frame), f.typ = tWAKE ∧ s.linkOn p = true ∧ s.shot 112 = false ∧ (s.wport (other p)).state = .parked ∧ f.seq = (s.wport p).rxSeq ∧ f.dest = 0xFF) ∧
    (∃ (s : State), ∃ (p : Side), ∃ (f : Frame), f.typ = tWAKE ∧ s.linkOn p = true ∧ s.shot 112 = false ∧ (s.wport (other p)).state = .parked ∧ f.seq = (s.wport p).rxSeq ∧ s.takes f = false ∧ 1 < frameHops f ∧ (s.wport (other p)).hopsLast.getD f.dest.toNat none = some 1) ∧
    (∃ (s : State), ∃ (p : Side), ∃ (f : Frame), f.typ = tWAKE ∧ s.linkOn p = true ∧ s.shot 112 = false ∧ (s.wport (other p)).state = .parked ∧ f.seq = (s.wport p).rxSeq ∧ s.takes f = false ∧ frameHops f ≤ 1) ∧
    (∃ (s : State), ∃ (p : Side), ∃ (f : Frame), f.typ = tWAKE ∧ s.linkOn p = true ∧ s.shot 112 = false ∧ (s.wport (other p)).state = .parked ∧ f.seq ≠ (s.wport p).rxSeq) ∧
    (∃ (s : State), ∃ (p : Side), (s.wport p).state ≠ .parked) ∧
    (∃ (s : State), ∃ (p : Side), (s.wport p).state = .parked ∧ s.pwr.supply = true ∧ s.pwr.pinHeld = false ∧ s.pwr.waking = false ∧ s.pwr.state = .sleep ∧ s.pwr.wakeEn.getLsbD 2 = true) ∧
    (∃ (s : State), ∃ (p : Side), (s.wport p).state = .parked ∧ s.pwr.supply = true ∧ ((s.pwr.state = .run ∨ s.pwr.state = .idle)) ∧ s.pwr.entering = none) ∧
    (∃ (s : State), ∃ (p : Side), ∃ (c : Cmd), s.KettleTakes 0x0A01 c) :=
    ⟨⟨rst, .east, false, [], [], by decide +kernel⟩,
    ⟨(State.modWport ({ rst with otp.wires.master := true, link.present := 0, clock := 399999 }) .west (fun q => { q with state := .up })), .west, by decide +kernel⟩,
    ⟨(State.modWport ({ rst with otp.wires.master := true, link.present := 0, clock := 400000 }) .west (fun q => { q with state := .up })), .west, false, 4, 3, by dsimp only; decide +kernel⟩,
    ⟨(State.modWport ({ rst with link.id := some 3 }) .west (fun q => { q with state := .up })), .west, { seq := 1, hops := 7, masters := .one, origin := 0, offer := some 3, hopsEast := List.replicate 8 none, hopsWest := List.replicate 8 none, present := List.replicate 8 false, closed := false, sideEast := 2, sideWest := 3 }, (.topoEnumeration .west { seq := 1, hops := 7, masters := .one, origin := 0, offer := some 3, hopsEast := List.replicate 8 none, hopsWest := List.replicate 8 none, present := List.replicate 8 false, closed := false, sideEast := 2, sideWest := 3 }), by decide +kernel⟩,
    ⟨(State.modWport ({ rst with link.id := some 3 }) .west (fun q => { q with state := .up })), .west, { seq := 0, hops := 7, masters := .one, origin := 0, offer := some 3, hopsEast := List.replicate 8 none, hopsWest := List.replicate 8 none, present := List.replicate 8 false, closed := false, sideEast := 2, sideWest := 3 }, by decide +kernel⟩,
    ⟨(State.modWport ({ rst with link.id := some 3 }) .west (fun q => { q with state := .up })), .west, 0, by decide +kernel⟩,
    ⟨(State.modWport ({ rst with link.id := some 3, pwr.state := .idle }) .west (fun q => { q with state := .up })), .west, { typ := tWAKE, dest := 3, seq := 0, payload := [] }, by unfold State.Delivers; decide +kernel⟩,
    ⟨(State.modWport ({ rst with link.id := some 3 }) .west (fun q => { q with state := .up })), .west, { typ := tWAKE, dest := 3, seq := 0, payload := [] }, by unfold State.Delivers; decide +kernel⟩,
    ⟨(State.modWport (State.modWport ({ rst with link.id := some 3 }) .west (fun q => { q with state := .up })) .east (fun q => { q with state := .parked, hopsLast := List.replicate 8 (some 1) })), .west, { typ := tWAKE, dest := 0xFF, seq := 0, payload := routeWord 0 2 }, by decide +kernel⟩,
    ⟨(State.modWport (State.modWport ({ rst with link.id := some 3 }) .west (fun q => { q with state := .up })) .east (fun q => { q with state := .parked, hopsLast := List.replicate 8 (some 1) })), .west, { typ := tWAKE, dest := 5, seq := 0, payload := routeWord 0 2 }, by decide +kernel⟩,
    ⟨(State.modWport (State.modWport ({ rst with link.id := some 3 }) .west (fun q => { q with state := .up })) .east (fun q => { q with state := .parked, hopsLast := List.replicate 8 (some 1) })), .west, { typ := tWAKE, dest := 5, seq := 0, payload := routeWord 0 1 }, by decide +kernel⟩,
    ⟨(State.modWport (State.modWport ({ rst with link.id := some 3 }) .west (fun q => { q with state := .up })) .east (fun q => { q with state := .parked, hopsLast := List.replicate 8 (some 1) })), .west, { typ := tWAKE, dest := 5, seq := 1, payload := routeWord 0 2 }, by decide +kernel⟩,
    ⟨rst, .west, by decide +kernel⟩,
    ⟨(State.modWport ({ rst with pwr.state := .sleep }) .west (fun q => { q with state := .parked })), .west, by decide +kernel⟩,
    ⟨(State.modWport (rst) .west (fun q => { q with state := .parked })), .west, by decide +kernel⟩,
    ⟨rst, .west, (cm 0 []), by unfold State.KettleTakes State.Addressed; decide +kernel⟩⟩

/-- A state and operands for each clause of Obligations.RingPositionAndTime. -/
theorem witness_RingPositionAndTime :
    (∃ (s : State), ∃ (p : Side), ∃ (f : Frame), let n := (BitVec.ofNat 16 (le f.payload 4 2) : BitVec 16); f.typ = tPOS ∧ s.linkOn p = true ∧ s.shot 112 = false ∧ s.takes f = true ∧ s.isMaster = false ∧ f.payload.length = 28 ∧ ((∀ x, x ∈ s.link.posTaken → x.1 = n → x.2 + 20000 ≤ s.clock))) ∧
    (∃ (s : State), ∃ (p : Side), ∃ (f : Frame), ∃ x, let n := (BitVec.ofNat 16 (le f.payload 4 2) : BitVec 16); f.typ = tPOS ∧ s.linkOn p = true ∧ s.shot 112 = false ∧ s.takes f = true ∧ s.isMaster = false ∧ f.payload.length = 28 ∧ x ∈ s.link.posTaken ∧ x.1 = n ∧ s.clock < x.2 + 20000) ∧
    (∃ (s : State), ∃ (p : Side), s.inRunIdle = true ∧ s.isMaster = true ∧ s.link.posEn = true ∧ s.link.conflict = false ∧ s.link.en = true) ∧
    (∃ (s : State), ∃ (p : Side), (s.link.posEn = false ∨ s.isMaster = false)) ∧
    (∃ (s : State), ∃ (p : Side), ∃ v, s.inRunIdle = true ∧ s.link.posOk = true ∧ s.link.posValidAt = some v ∧ s.clock < v + 20000) ∧
    (∃ (s : State), ∃ (p : Side), ∃ v, s.inRunIdle = true ∧ s.link.posOk = true ∧ s.link.posValidAt = some v ∧ v + 20000 ≤ s.clock ∧ (s.ringJobs = false ∨ s.isMaster = true)) ∧
    (∃ (s : State), ∃ (p : Side), ∃ v, s.inRunIdle = true ∧ s.link.posOk = true ∧ s.link.posValidAt = some v ∧ v + 20000 ≤ s.clock ∧ s.ringJobs = true ∧ s.isMaster = false) ∧
    (∃ (s : State), ∃ (p : Side), s.inRunIdle = true ∧ s.link.posOk = true ∧ s.link.poslost = true ∧ s.link.posOkFrom + 4000000 ≤ s.clock) ∧
    (∃ (s : State), ∃ (p : Side), s.inRunIdle = true ∧ s.link.posOk = true ∧ s.link.poslost = true ∧ s.clock < s.link.posOkFrom + 4000000) ∧
    (∃ (s : State), ∃ (p : Side), ∃ (f : Frame), f.typ = tSYNC ∧ f.dest = 0xFE ∧ f.payload.length = 28 ∧ s.linkOn p = true ∧ s.shot 112 = false ∧ le f.payload 0 1 = 0) ∧
    (∃ (s : State), ∃ (p : Side), ∃ (f : Frame), f.typ = tSYNC ∧ f.dest = 0xFE ∧ f.payload.length = 28 ∧ s.linkOn p = true ∧ s.shot 112 = false ∧ le f.payload 0 1 ≠ 0 ∧ ((∀ h, s.routeTo 0 ≠ some (p, h)))) ∧
    (∃ (s : State), ∃ (p : Side), ∃ (f : Frame), ∃ h, let t1 := match p with | .east => s.link.syncT1E | .west => s.link.syncT1W; f.typ = tSYNC ∧ f.dest = 0xFE ∧ f.payload.length = 28 ∧ s.linkOn p = true ∧ s.shot 112 = false ∧ le f.payload 0 1 ≠ 0 ∧ s.isMaster = false ∧ s.link.id.isSome = true ∧ s.routeTo 0 = some (p, h) ∧ le f.payload 12 8 = t1 ∧ s.link.offsets.length < 15) ∧
    (∃ (s : State), ∃ (p : Side), ∃ (f : Frame), ∃ h, let t1 := match p with | .east => s.link.syncT1E | .west => s.link.syncT1W; f.typ = tSYNC ∧ f.dest = 0xFE ∧ f.payload.length = 28 ∧ s.linkOn p = true ∧ s.shot 112 = false ∧ le f.payload 0 1 ≠ 0 ∧ s.isMaster = false ∧ s.link.id.isSome = true ∧ s.routeTo 0 = some (p, h) ∧ le f.payload 12 8 = t1 ∧ 15 ≤ s.link.offsets.length ∧ s.link.stepped = false ∧ s.ringRuns = false) ∧
    (∃ (s : State), ∃ (p : Side), ∃ at_, s.link.outFrom = some at_ ∧ s.inRunIdle = true ∧ s.isMaster = false ∧ s.link.aligned = true ∧ at_ + 40000 ≤ s.clock) ∧
    (∃ (s : State), ∃ (p : Side), ∃ at_, s.link.outFrom = some at_ ∧ s.inRunIdle = true ∧ s.isMaster = false ∧ s.link.aligned = true ∧ s.clock < at_ + 40000) :=
    ⟨⟨(State.modWport ({ rst with link.id := some 3, link.posTaken := [(32767, 0), (5, 19999)], clock := 20000 }) .west (fun q => { q with state := .up })), .west, { typ := tPOS, dest := 0xFE, seq := 0, payload := (pad 4 ++ toLe 2 32767 ++ pad 22) }, by dsimp only; decide +kernel⟩,
    ⟨(State.modWport ({ rst with link.id := some 3, link.posTaken := [(32768, 0)], clock := 19999 }) .west (fun q => { q with state := .up })), .west, { typ := tPOS, dest := 0xFE, seq := 0, payload := (pad 4 ++ toLe 2 32768 ++ pad 22) }, (32768, 0), by dsimp only; decide +kernel⟩,
    ⟨{ rst with otp.wires.master := true, link.posEn := true, link.en := true }, .west, by decide +kernel⟩,
    ⟨rst, .west, by decide +kernel⟩,
    ⟨{ rst with link.posOk := true, link.posValidAt := some 0, clock := 19999 }, .west, 0, by decide +kernel⟩,
    ⟨{ rst with link.posOk := true, link.posValidAt := some 0, clock := 20000 }, .west, 0, by decide +kernel⟩,
    ⟨{ (withJob ((rst.modChan 0 (fun c => { c with posSrc := 8 }))) ({ jb with state := .running })) with link.posOk := true, link.posValidAt := some 0, clock := 20000 }, .west, 0, by decide +kernel⟩,
    ⟨{ rst with link.posOk := true, link.poslost := true, clock := 4000000 }, .west, by decide +kernel⟩,
    ⟨{ rst with link.posOk := true, link.poslost := true, clock := 3999999 }, .west, by decide +kernel⟩,
    ⟨(State.modWport ({ rst with link.id := some 3 }) .west (fun q => { q with state := .up })), .west, { typ := tSYNC, dest := 0xFE, seq := 0, payload := (pad 28) }, by decide +kernel⟩,
    ⟨(State.modWport ({ rst with link.id := some 3 }) .west (fun q => { q with state := .up })), .west, { typ := tSYNC, dest := 0xFE, seq := 0, payload := (1 :: pad 27) }, by exact ⟨(by decide +kernel), (by decide +kernel), (by decide +kernel), (by decide +kernel), (by decide +kernel), (by decide +kernel), noRoute (by decide +kernel)⟩⟩,
    ⟨{ (State.modWport ({ rst with link.id := some 3 }) .west (fun q => { q with state := .up, hops := some 1 :: List.replicate 7 none })) with link.syncT1W := 0 }, .west, { typ := tSYNC, dest := 0xFE, seq := 0, payload := (1 :: pad 27) }, 1, by dsimp only; decide +kernel⟩,
    ⟨{ (State.modWport ({ rst with link.id := some 3 }) .west (fun q => { q with state := .up, hops := some 1 :: List.replicate 7 none })) with link.syncT1W := 0, link.offsets := List.replicate 15 0 }, .west, { typ := tSYNC, dest := 0xFE, seq := 0, payload := (1 :: pad 27) }, 1, by dsimp only; decide +kernel⟩,
    ⟨{ rst with link.outFrom := some 0, link.aligned := true, clock := 40000 }, .west, 0, by decide +kernel⟩,
    ⟨{ rst with link.outFrom := some 0, link.aligned := true, clock := 39999 }, .west, 0, by decide +kernel⟩⟩

/-- A state and operands for each clause of Obligations.RingFaultsAndReplay. -/
theorem witness_RingFaultsAndReplay :
    (∃ (s : State), ∃ (p : Side), ∃ (a b c : Byte), a ≠ b ∧ a ≠ c ∧ b ≠ c) ∧
    (∃ (s : State), ∃ (p : Side), ∃ (a b : Byte), ∃ (i : Fin 8), ∃ (x : Instr), s.link.id = some i ∧ i.val < 7 ∧ a.toNat / 16 % 8 = i.val ∧ x ∈ [Instr.faultColumn p a a b, .faultColumn p a b a, .faultColumn p b a a]) ∧
    (∃ (s : State), ∃ (p : Side), ∃ (a b : Byte), ∃ (t0 : Nat), s.linkOn p = true ∧ bit a.toNat 7 = false ∧ a.toNat / 16 % 8 ≠ s.deviceId % 8 ∧ (a, t0) ∈ s.link.forwarded ∧ s.clock < t0 + 800) ∧
    (∃ (s : State), ∃ (p : Side), s.localReport = s.link.localSent) ∧
    (∃ (s : State), ∃ (p : Side), let q := s.wport p; let sent := s.localReport &&& ~~~ s.link.localSent; s.localReport ≠ s.link.localSent ∧ q.state = .up ∧ sent ≠ 0) ∧
    (∃ (s : State), ∃ (p : Side), let q := s.wport p; s.localReport ≠ s.link.localSent ∧ q.state = .up ∧ s.broadcastHops p ≠ 0 ∧ q.unacked.length < 64 ∧ s.shot 113 = false) ∧
    (∃ (s : State), ∃ (p : Side), ∃ (i : Fin 13), s.pwr.supply = true ∧ s.link.localSent = s.localReport ∧ s.localReport.getLsbD (i.val / 4) = false) ∧
    (∃ (s : State), ∃ (p : Side), ∃ (f : Frame), let q := s.wport p; f.typ = tFLT ∧ s.linkOn p = true ∧ s.shot 112 = false ∧ f.seq = q.rxSeq ∧ f.dest = 0xFF ∧ frameHops f ≤ 1 ∧ q.unackedRx = 15 ∧ BitVec.ofNat 4 (le f.payload 4 1) &&& ~~~ s.link.ringTrips = 0) ∧
    (∃ (s : State), ∃ (p : Side), ∃ (f : Frame), let q := s.wport p; f.typ = tFLT ∧ s.linkOn p = true ∧ s.shot 112 = false ∧ f.seq = q.rxSeq ∧ f.dest = 0xFF ∧ frameHops f ≤ 1 ∧ q.unackedRx < 15 ∧ frameOrigin f = 0xFF) ∧
    (∃ (s : State), ∃ (p : Side), ∃ (a b : Byte), s.linkOn p = true ∧ bit a.toNat 7 = false ∧ a.toNat / 16 % 8 ≠ s.deviceId % 8 ∧ s.link.forwarded = []) ∧
    (∃ (s : State), ∃ (p : Side), ∃ (f : Frame), let q := s.wport p; f.typ = tFLT ∧ s.linkOn p = true ∧ s.shot 112 = false ∧ f.seq = q.rxSeq ∧ q.unackedRx < 15 ∧ f.dest = 0xFF ∧ frameHops f ≤ 1 ∧ frameOrigin f < 8 ∧ frameOrigin f ≠ s.deviceId) ∧
    (∃ (s : State), ∃ (p : Side), s.inRunIdle = true) ∧
    (∃ (s : State), ∃ (p : Side), ∃ seq, ∃ i, let q := s.wport p; s.linkOn p = true ∧ q.waiting = [] ∧ s.shot 112 = false ∧ q.unacked.findIdx? (fun f => f.seq = seq) = some i) ∧
    (∃ (s : State), ∃ (p : Side), ∃ (seq : BitVec 12), let q := s.wport p; s.linkOn p = true ∧ q.waiting = [] ∧ s.shot 112 = false ∧ q.unacked.findIdx? (fun f => f.seq = seq) = none) ∧
    (∃ (s : State), ∃ (p : Side), ∃ (seq : BitVec 12), ∃ i, let q := s.wport p; s.linkOn p = true ∧ q.waiting = [] ∧ s.shot 112 = false ∧ q.unacked.findIdx? (fun f => f.seq = seq - 1) = some i ∧ q.unacked.drop (i + 1) ≠ []) ∧
    (∃ (s : State), ∃ (p : Side), ∃ (seq : BitVec 12), let q := s.wport p; s.linkOn p = true ∧ q.waiting = [] ∧ s.shot 112 = false ∧ q.unacked ≠ [] ∧ q.unacked.findIdx? (fun f => f.seq = seq - 1) = none ∧ q.repeats < 4) ∧
    (∃ (s : State), ∃ (p : Side), ∃ (seq : BitVec 12), let q := s.wport p; s.linkOn p = true ∧ q.waiting = [] ∧ s.shot 112 = false ∧ q.unacked ≠ [] ∧ q.unacked.findIdx? (fun f => f.seq = seq - 1) = none ∧ 4 ≤ q.repeats) ∧
    (∃ (s : State), ∃ (p : Side), let q := s.wport p; s.linkOn p = true ∧ q.unacked ≠ [] ∧ q.sentAt + 4000 ≤ s.clock ∧ q.repeats < 4) ∧
    (∃ (s : State), ∃ (p : Side), let q := s.wport p; s.linkOn p = true ∧ q.unacked ≠ [] ∧ q.sentAt + 4000 ≤ s.clock ∧ 4 ≤ q.repeats) ∧
    (∃ (s : State), ∃ (p : Side), let q := s.wport p; s.linkOn p = true ∧ (q.unacked = [] ∨ s.clock < q.sentAt + 4000)) ∧
    (∃ (s : State), ∃ (p : Side), let q := s.wport p; s.linkOn p = true ∧ q.unackedRx ≠ 0 ∧ q.rxFrom + 400 ≤ s.clock) ∧
    (∃ (s : State), ∃ (p : Side), let q := s.wport p; s.linkOn p = true ∧ (q.unackedRx = 0 ∨ s.clock < q.rxFrom + 400)) ∧
    (∃ (s : State), ∃ (p : Side), let q := s.wport p; s.linkOn p = true ∧ s.shot 112 = false ∧ q.nakked = true) ∧
    (∃ (s : State), ∃ (p : Side), let q := s.wport p; s.linkOn p = true ∧ s.shot 112 = false ∧ q.nakked = false) :=
    ⟨⟨rst, .west, 1, 2, 3, by decide +kernel⟩,
    ⟨(State.modWport ({ rst with link.id := some 3 }) .west (fun q => { q with state := .up })), .west, 0x31, 0, 3, (.faultColumn .west 0x31 0x31 0), by decide +kernel⟩,
    ⟨{ (State.modWport (rst) .west (fun q => { q with state := .up })) with link.forwarded := [(0x11, 0)], clock := 799 }, .west, 0x11, 0, 0, by decide +kernel⟩,
    ⟨{ rst with ilk.trips := 0, link.localSent := 0 }, .west, by decide +kernel⟩,
    ⟨(State.modWport ({ rst with ilk.trips := 1, link.localSent := 0 }) .west (fun q => { q with state := .up })), .west, by dsimp only; decide +kernel⟩,
    ⟨(State.modWport ({ rst with ilk.trips := 1, link.localSent := 0 }) .west (fun q => { q with state := .up, others := 1 })), .west, by dsimp only; decide +kernel⟩,
    ⟨{ rst with ilk.trips := 0, link.localSent := 0 }, .west, 12, by decide +kernel⟩,
    ⟨(State.modWport (rst) .west (fun q => { q with state := .up, unackedRx := 15 })), .west, { typ := tFLT, dest := 0xFF, seq := 0, payload := [0, 1, 0, 0, 0] }, by dsimp only; decide +kernel⟩,
    ⟨(State.modWport (rst) .west (fun q => { q with state := .up })), .west, { typ := tFLT, dest := 0xFF, seq := 0, payload := [0xFF, 1, 0, 0, 1] }, by dsimp only; decide +kernel⟩,
    ⟨{ (State.modWport (rst) .west (fun q => { q with state := .up })) with link.east.state := .up }, .west, 0x11, 1, by decide +kernel⟩,
    ⟨(State.modWport (rst) .west (fun q => { q with state := .up })), .west, { typ := tFLT, dest := 0xFF, seq := 0, payload := (toLe 1 7 ++ [1] ++ pad 2) }, by dsimp only; decide +kernel⟩,
    ⟨rst, .west, by decide +kernel⟩,
    ⟨(State.modWport (rst) .west (fun q => { q with state := .up, unacked := [{ typ := tPKT, dest := 3, seq := 5, payload := [] }] })), .west, 5, 0, by dsimp only; decide +kernel⟩,
    ⟨(State.modWport (rst) .west (fun q => { q with state := .up, unacked := [{ typ := tPKT, dest := 3, seq := 5, payload := [] }] })), .west, 6, by dsimp only; decide +kernel⟩,
    ⟨(State.modWport (rst) .west (fun q => { q with state := .up, unacked := [{ typ := tPKT, dest := 3, seq := 5, payload := [] }, { typ := tPKT, dest := 3, seq := 6, payload := [] }] })), .west, 6, 0, by dsimp only; decide +kernel⟩,
    ⟨(State.modWport (rst) .west (fun q => { q with state := .up, unacked := [{ typ := tPKT, dest := 3, seq := 5, payload := [] }] })), .west, 7, by dsimp only; decide +kernel⟩,
    ⟨(State.modWport (rst) .west (fun q => { q with state := .up, unacked := [{ typ := tPKT, dest := 3, seq := 5, payload := [] }], repeats := 4 })), .west, 7, by dsimp only; decide +kernel⟩,
    ⟨(State.modWport ({ rst with clock := 4000 }) .west (fun q => { q with state := .up, unacked := [{ typ := tPKT, dest := 3, seq := 5, payload := [] }] })), .west, by dsimp only; decide +kernel⟩,
    ⟨(State.modWport ({ rst with clock := 4000 }) .west (fun q => { q with state := .up, unacked := [{ typ := tPKT, dest := 3, seq := 5, payload := [] }], repeats := 4 })), .west, by dsimp only; decide +kernel⟩,
    ⟨(State.modWport ({ rst with clock := 3999 }) .west (fun q => { q with state := .up, unacked := [{ typ := tPKT, dest := 3, seq := 5, payload := [] }] })), .west, by dsimp only; decide +kernel⟩,
    ⟨(State.modWport ({ rst with clock := 400 }) .west (fun q => { q with state := .up, unackedRx := 1 })), .west, by dsimp only; decide +kernel⟩,
    ⟨(State.modWport ({ rst with clock := 399 }) .west (fun q => { q with state := .up, unackedRx := 1 })), .west, by dsimp only; decide +kernel⟩,
    ⟨(State.modWport (rst) .west (fun q => { q with state := .up, nakked := true })), .west, by dsimp only; decide +kernel⟩,
    ⟨(State.modWport (rst) .west (fun q => { q with state := .up })), .west, by dsimp only; decide +kernel⟩⟩

/-- A state and operands for each clause of Obligations.RingRelay. -/
theorem witness_RingRelay :
    (∃ (s : State), ∃ (p : Side), ∃ (f : Frame), ∃ b, s.Delivers p f ∧ f.typ = tPKT ∧ 8 ≤ f.payload.length ∧ pktKind f ∈ [0, 1, 3] ∧ pktLast f = false ∧ s.assembled f = some b) ∧
    (∃ (s : State), ∃ (p : Side), ∃ (f : Frame), ∃ b, let again := s.link.taken.contains (pktOrigin f, pktIdOf f); s.DeliversPkt p f 0 ∧ s.assembled f = some b ∧ again = true) ∧
    (∃ (s : State), ∃ (p : Side), ∃ (f : Frame), ∃ b, let again := s.link.taken.contains (pktOrigin f, pktIdOf f); s.DeliversPkt p f 0 ∧ s.assembled f = some b ∧ again = false) ∧
    (∃ (s : State), ∃ (p : Side), ∃ (f : Frame), ∃ b, let again := s.link.taken.contains (pktOrigin f, pktIdOf f); s.DeliversPkt p f 1 ∧ s.assembled f = some b ∧ again = true) ∧
    (∃ (s : State), ∃ (p : Side), ∃ (f : Frame), ∃ b, let again := s.link.taken.contains (pktOrigin f, pktIdOf f); s.DeliversPkt p f 1 ∧ s.assembled f = some b ∧ again = false ∧ le b 8 2 = 1) ∧
    (∃ (s : State), ∃ (p : Side), ∃ (f : Frame), ∃ b, let again := s.link.taken.contains (pktOrigin f, pktIdOf f); s.DeliversPkt p f 1 ∧ s.assembled f = some b ∧ again = false ∧ le b 8 2 ≠ 1) ∧
    (∃ (s : State), ∃ (p : Side), ∃ (f : Frame), s.DeliversPkt p f 2) ∧
    (∃ (s : State), ∃ (p : Side), ∃ (f : Frame), ∃ k, ∃ r, s.link.relayed.find? (fun x => x.pktId = k) = some r ∧ s.inRunIdle = true ∧ s.clock < r.since + 400000) ∧
    (∃ (s : State), ∃ (p : Side), ∃ (f : Frame), ∃ k, ∃ r, s.link.relayed.find? (fun x => x.pktId = k) = some r ∧ s.inRunIdle = true ∧ r.since + 400000 ≤ s.clock) ∧
    (∃ (s : State), ∃ (p : Side), ∃ (f : Frame), let mine := s.tiles.find? (fun t => t.source = 2 && !t.done && t.src = .relay (pktOrigin f) (BitVec.ofNat 16 (le f.payload 4 2))); let waits := s.pe.queue.any (fun q => q.pkt.opcode = 0x0310 && q.src = .relay (pktOrigin f) (BitVec.ofNat 16 (le f.payload 4 2))); s.Delivers p f ∧ f.typ = tDATA ∧ 12 ≤ f.payload.length ∧ mine = none ∧ waits = false) ∧
    (∃ (s : State), ∃ (p : Side), ∃ (f : Frame), let mine := s.tiles.find? (fun t => t.source = 2 && !t.done && t.src = .relay (pktOrigin f) (BitVec.ofNat 16 (le f.payload 4 2))); let waits := s.pe.queue.any (fun q => q.pkt.opcode = 0x0310 && q.src = .relay (pktOrigin f) (BitVec.ofNat 16 (le f.payload 4 2))); s.Delivers p f ∧ f.typ = tDATA ∧ 12 ≤ f.payload.length ∧ mine = none ∧ waits = true) ∧
    (∃ (s : State), ∃ (p : Side), ∃ (f : Frame), ∃ t, let mine := s.tiles.find? (fun t => t.source = 2 && !t.done && t.src = .relay (pktOrigin f) (BitVec.ofNat 16 (le f.payload 4 2))); s.Delivers p f ∧ f.typ = tDATA ∧ 12 ≤ f.payload.length ∧ mine = some t) ∧
    (∃ (s : State), ∃ (p : Side), ∃ (f : Frame), ∃ b, let again := s.link.taken.contains (pktOrigin f, pktIdOf f); s.DeliversPkt p f 3 ∧ s.assembled f = some b ∧ again = true ∧ le (pktBody f) 0 1 < 4) ∧
    (∃ (s : State), ∃ (p : Side), ∃ (f : Frame), ∃ b, ∃ slot, ∃ j, let again := s.link.taken.contains (pktOrigin f, pktIdOf f); s.DeliversPkt p f 3 ∧ s.assembled f = some b ∧ again = false ∧ le (pktBody f) 0 1 = le b 0 1 ∧ s.jobSlot (BitVec.ofNat 16 (le b 2 2)) = some slot ∧ s.jobAt slot = some j ∧ le b 0 1 = 0 ∧ (s.isMaster = false ∨ (j.state ≠ .running ∧ j.state ≠ .late) ∨ 8 ≤ j.feed)) ∧
    (∃ (s : State), ∃ (p : Side), ∃ (f : Frame), ∃ b, ∃ slot, ∃ j, let again := s.link.taken.contains (pktOrigin f, pktIdOf f); s.DeliversPkt p f 3 ∧ s.assembled f = some b ∧ again = false ∧ le (pktBody f) 0 1 = le b 0 1 ∧ s.jobSlot (BitVec.ofNat 16 (le b 2 2)) = some slot ∧ s.jobAt slot = some j ∧ le b 0 1 = 0 ∧ s.isMaster = true ∧ j.state = .late ∧ j.feed < 8) ∧
    (∃ (s : State), ∃ (p : Side), ∃ (f : Frame), ∃ b, ∃ slot, ∃ j, let again := s.link.taken.contains (pktOrigin f, pktIdOf f); s.DeliversPkt p f 3 ∧ s.assembled f = some b ∧ again = false ∧ le (pktBody f) 0 1 = le b 0 1 ∧ s.jobSlot (BitVec.ofNat 16 (le b 2 2)) = some slot ∧ s.jobAt slot = some j ∧ le b 0 1 = 0 ∧ s.isMaster = true ∧ j.state = .running ∧ j.feed < 8) ∧
    (∃ (s : State), ∃ (p : Side), ∃ (f : Frame), ∃ b, ∃ slot, ∃ j, let again := s.link.taken.contains (pktOrigin f, pktIdOf f); s.DeliversPkt p f 3 ∧ s.assembled f = some b ∧ again = false ∧ le (pktBody f) 0 1 = le b 0 1 ∧ s.jobSlot (BitVec.ofNat 16 (le b 2 2)) = some slot ∧ s.jobAt slot = some j ∧ le b 0 1 = 1 ∧ (s.isMaster = true ∨ j.state ≠ .running ∨ s.ringForm j = false)) ∧
    (∃ (s : State), ∃ (p : Side), ∃ (f : Frame), ∃ b, ∃ slot, ∃ j, let again := s.link.taken.contains (pktOrigin f, pktIdOf f); s.DeliversPkt p f 3 ∧ s.assembled f = some b ∧ again = false ∧ le (pktBody f) 0 1 = le b 0 1 ∧ s.jobSlot (BitVec.ofNat 16 (le b 2 2)) = some slot ∧ s.jobAt slot = some j ∧ le b 0 1 = 1 ∧ s.isMaster = false ∧ j.state = .running ∧ s.ringForm j = true) ∧
    (∃ (s : State), ∃ (p : Side), ∃ (f : Frame), ∃ b, ∃ slot, ∃ j, let again := s.link.taken.contains (pktOrigin f, pktIdOf f); s.DeliversPkt p f 3 ∧ s.assembled f = some b ∧ again = false ∧ le (pktBody f) 0 1 = le b 0 1 ∧ s.jobSlot (BitVec.ofNat 16 (le b 2 2)) = some slot ∧ s.jobAt slot = some j ∧ le b 0 1 = 2 ∧ s.isMaster = false) ∧
    (∃ (s : State), ∃ (p : Side), ∃ (f : Frame), ∃ b, ∃ slot, ∃ j, let again := s.link.taken.contains (pktOrigin f, pktIdOf f); s.DeliversPkt p f 3 ∧ s.assembled f = some b ∧ again = false ∧ le (pktBody f) 0 1 = le b 0 1 ∧ s.jobSlot (BitVec.ofNat 16 (le b 2 2)) = some slot ∧ s.jobAt slot = some j ∧ le b 0 1 = 2 ∧ s.isMaster = true) ∧
    (∃ (s : State), ∃ (p : Side), ∃ (f : Frame), ∃ b, ∃ slot, ∃ j, let again := s.link.taken.contains (pktOrigin f, pktIdOf f); s.DeliversPkt p f 3 ∧ s.assembled f = some b ∧ again = false ∧ le (pktBody f) 0 1 = le b 0 1 ∧ s.jobSlot (BitVec.ofNat 16 (le b 2 2)) = some slot ∧ s.jobAt slot = some j ∧ le b 0 1 = 3 ∧ (s.isMaster = true ∨ j.state ≠ .late)) ∧
    (∃ (s : State), ∃ (p : Side), ∃ (f : Frame), ∃ b, ∃ slot, ∃ j, let again := s.link.taken.contains (pktOrigin f, pktIdOf f); s.DeliversPkt p f 3 ∧ s.assembled f = some b ∧ again = false ∧ le (pktBody f) 0 1 = le b 0 1 ∧ s.jobSlot (BitVec.ofNat 16 (le b 2 2)) = some slot ∧ s.jobAt slot = some j ∧ le b 0 1 = 3 ∧ s.isMaster = false ∧ j.state = .late) ∧
    (∃ (s : State), ∃ (p : Side), ∃ (f : Frame), ∃ (c : Packet), ∃ (q : Side), ∃ h, s.packetCheck c .ring = none ∧ s.link.id.isSome = true ∧ s.portUp q = true ∧ (s.wport q).unacked.length < 64 ∧ s.shot 113 = false ∧ (packetBytes c).length ≤ 248 ∧ ((c.opcode = 0x0310 → s.host.bme = true)) ∧ c.target ≠ 0xFF ∧ c.target.toNat ≠ s.deviceId ∧ s.routeTo c.target.toNat = some (q, h) ∧ c.opcode ≠ 0x0310) ∧
    (∃ (s : State), ∃ (p : Side), ∃ (f : Frame), ∃ (c : Packet), ∃ (q : Side), ∃ h, s.packetCheck c .ring = none ∧ s.link.id.isSome = true ∧ s.portUp q = true ∧ (s.wport q).unacked.length < 64 ∧ s.shot 113 = false ∧ (packetBytes c).length ≤ 248 ∧ ((c.opcode = 0x0310 → s.host.bme = true)) ∧ c.target ≠ 0xFF ∧ c.target.toNat ≠ s.deviceId ∧ s.routeTo c.target.toNat = some (q, h) ∧ c.opcode = 0x0310 ∧ le c.params 3 1 = 0 ∧ 4 ≤ le c.params 24 2 ∧ 0 < le c.params 26 2) ∧
    (∃ (s : State), ∃ (p : Side), ∃ (f : Frame), ∃ (c : Packet), ∃ (q : Side), s.packetCheck c .ring = none ∧ s.link.id.isSome = true ∧ s.portUp q = true ∧ (s.wport q).unacked.length < 64 ∧ s.shot 113 = false ∧ (packetBytes c).length ≤ 248 ∧ ((c.opcode = 0x0310 → s.host.bme = true)) ∧ c.target = 0xFF ∧ c.hardware = false ∧ s.pe.stalled = false ∧ s.pe.romFail = false ∧ s.pe.queue.length < 64 ∧ s.broadcastHops q ≠ 0) :=
    ⟨⟨(State.modWport ({ rst with link.id := some 3 }) .west (fun q => { q with state := .up })), .west, { typ := tPKT, dest := 3, seq := 0, payload := ([0, 1, 0, 0, 3, 0, 5, 0] ++ pad 16) }, (pad 16), by unfold State.Delivers; decide +kernel⟩,
    ⟨{ (State.modWport ({ rst with link.id := some 3 }) .west (fun q => { q with state := .up })) with link.taken := [(0, 5)] }, .west, { typ := tPKT, dest := 3, seq := 0, payload := ([0, 1, 0, 0, 0, 128, 5, 0] ++ pad 16) }, (pad 16), by dsimp only; unfold State.DeliversPkt State.Delivers; decide +kernel⟩,
    ⟨(State.modWport ({ rst with link.id := some 3 }) .west (fun q => { q with state := .up })), .west, { typ := tPKT, dest := 3, seq := 0, payload := ([0, 1, 0, 0, 0, 128, 5, 0] ++ pad 16) }, (pad 16), by dsimp only; unfold State.DeliversPkt State.Delivers; decide +kernel⟩,
    ⟨{ (State.modWport ({ rst with link.id := some 3 }) .west (fun q => { q with state := .up })) with link.taken := [(0, 5)] }, .west, { typ := tPKT, dest := 3, seq := 0, payload := ([0, 1, 0, 0, 1, 128, 5, 0] ++ (pad 8 ++ [1, 0] ++ pad 6)) }, (pad 8 ++ [1, 0] ++ pad 6), by dsimp only; unfold State.DeliversPkt State.Delivers; decide +kernel⟩,
    ⟨(State.modWport ({ rst with link.id := some 3 }) .west (fun q => { q with state := .up })), .west, { typ := tPKT, dest := 3, seq := 0, payload := ([0, 1, 0, 0, 1, 128, 5, 0] ++ (pad 8 ++ [1, 0] ++ pad 6)) }, (pad 8 ++ [1, 0] ++ pad 6), by dsimp only; unfold State.DeliversPkt State.Delivers; decide +kernel⟩,
    ⟨(State.modWport ({ rst with link.id := some 3 }) .west (fun q => { q with state := .up })), .west, { typ := tPKT, dest := 3, seq := 0, payload := ([0, 1, 0, 0, 1, 128, 5, 0] ++ pad 16) }, (pad 16), by dsimp only; unfold State.DeliversPkt State.Delivers; decide +kernel⟩,
    ⟨(State.modWport ({ rst with link.id := some 3 }) .west (fun q => { q with state := .up })), .west, { typ := tPKT, dest := 3, seq := 0, payload := ([0, 1, 0, 0, 2, 128, 5, 0] ++ pad 16) }, by unfold State.DeliversPkt State.Delivers; decide +kernel⟩,
    ⟨{ rst with link.relayed := [{ pktId := 5, pkt := pk 0x100 4, src := .ring, seq := 0, since := 0 }], clock := 399999 }, .west, { typ := tPKT, dest := 3, seq := 0, payload := ([0, 1, 0, 0, 2, 128, 5, 0] ++ pad 16) }, 5, { pktId := 5, pkt := pk 0x100 4, src := .ring, seq := 0, since := 0 }, by decide +kernel⟩,
    ⟨{ rst with link.relayed := [{ pktId := 5, pkt := pk 0x100 4, src := .ring, seq := 0, since := 0 }], clock := 400000 }, .west, { typ := tPKT, dest := 3, seq := 0, payload := ([0, 1, 0, 0, 2, 128, 5, 0] ++ pad 16) }, 5, { pktId := 5, pkt := pk 0x100 4, src := .ring, seq := 0, since := 0 }, by decide +kernel⟩,
    ⟨(State.modWport ({ rst with link.id := some 3 }) .west (fun q => { q with state := .up })), .west, { typ := tDATA, dest := 3, seq := 0, payload := ([0, 1, 0, 0, 5, 0] ++ pad 6) }, by dsimp only; unfold State.Delivers; decide +kernel⟩,
    ⟨{ (State.modWport ({ rst with link.id := some 3 }) .west (fun q => { q with state := .up })) with pe.queue := [{ pkt := pk 0x310 28, src := .relay 0 5, seq := 0 }] }, .west, { typ := tDATA, dest := 3, seq := 0, payload := ([0, 1, 0, 0, 5, 0] ++ pad 6) }, by dsimp only; unfold State.Delivers; decide +kernel⟩,
    ⟨{ (State.modWport ({ rst with link.id := some 3 }) .west (fun q => { q with state := .up })) with tiles := [{ tl with source := 2, src := .relay 0 5 }] }, .west, { typ := tDATA, dest := 3, seq := 0, payload := ([0, 1, 0, 0, 5, 0] ++ pad 6) }, { tl with source := 2, src := .relay 0 5 }, by dsimp only; unfold State.Delivers; decide +kernel⟩,
    ⟨{ (State.modWport ({ rst with link.id := some 3 }) .west (fun q => { q with state := .up })) with link.taken := [(0, 5)] }, .west, { typ := tPKT, dest := 3, seq := 0, payload := ([0, 1, 0, 0, 3, 128, 5, 0] ++ toLe 1 0 ++ [0] ++ toLe 2 1 ++ pad 4) }, (toLe 1 0 ++ [0] ++ toLe 2 1 ++ pad 4), by dsimp only; unfold State.DeliversPkt State.Delivers; decide +kernel⟩,
    ⟨(withJob ((State.modWport ({ rst with link.id := some 3 }) .west (fun q => { q with state := .up }))) (jb)), .west, { typ := tPKT, dest := 3, seq := 0, payload := ([0, 1, 0, 0, 3, 128, 5, 0] ++ toLe 1 0 ++ [0] ++ toLe 2 1 ++ pad 4) }, (toLe 1 0 ++ [0] ++ toLe 2 1 ++ pad 4), 0, jb, by dsimp only; unfold State.DeliversPkt State.Delivers; decide +kernel⟩,
    ⟨(withJob ((State.modWport ({ rst with otp.wires.master := true, link.id := some 3 }) .west (fun q => { q with state := .up }))) ({ jb with state := .late, feed := 0 })), .west, { typ := tPKT, dest := 3, seq := 0, payload := ([0, 1, 0, 0, 3, 128, 5, 0] ++ toLe 1 0 ++ [0] ++ toLe 2 1 ++ pad 4) }, (toLe 1 0 ++ [0] ++ toLe 2 1 ++ pad 4), 0, { jb with state := .late, feed := 0 }, by dsimp only; unfold State.DeliversPkt State.Delivers; decide +kernel⟩,
    ⟨(withJob ((State.modWport ({ rst with otp.wires.master := true, link.id := some 3 }) .west (fun q => { q with state := .up }))) ({ jb with state := .running, feed := 0 })), .west, { typ := tPKT, dest := 3, seq := 0, payload := ([0, 1, 0, 0, 3, 128, 5, 0] ++ toLe 1 0 ++ [0] ++ toLe 2 1 ++ pad 4) }, (toLe 1 0 ++ [0] ++ toLe 2 1 ++ pad 4), 0, { jb with state := .running, feed := 0 }, by dsimp only; unfold State.DeliversPkt State.Delivers; decide +kernel⟩,
    ⟨(withJob ((State.modWport ({ rst with otp.wires.master := true, link.id := some 3 }) .west (fun q => { q with state := .up }))) (jb)), .west, { typ := tPKT, dest := 3, seq := 0, payload := ([0, 1, 0, 0, 3, 128, 5, 0] ++ toLe 1 1 ++ [0] ++ toLe 2 1 ++ pad 4) }, (toLe 1 1 ++ [0] ++ toLe 2 1 ++ pad 4), 0, jb, by dsimp only; unfold State.DeliversPkt State.Delivers; decide +kernel⟩,
    ⟨(withJob ((((State.modWport ({ rst with link.id := some 3 }) .west (fun q => { q with state := .up })) : State).modChan 0 (fun c => { c with posSrc := 8 }))) ({ jb with state := .running })), .west, { typ := tPKT, dest := 3, seq := 0, payload := ([0, 1, 0, 0, 3, 128, 5, 0] ++ toLe 1 1 ++ [0] ++ toLe 2 1 ++ pad 4) }, (toLe 1 1 ++ [0] ++ toLe 2 1 ++ pad 4), 0, { jb with state := .running }, by dsimp only; unfold State.DeliversPkt State.Delivers; decide +kernel⟩,
    ⟨(withJob ((State.modWport ({ rst with link.id := some 3 }) .west (fun q => { q with state := .up }))) (jb)), .west, { typ := tPKT, dest := 3, seq := 0, payload := ([0, 1, 0, 0, 3, 128, 5, 0] ++ toLe 1 2 ++ [0] ++ toLe 2 1 ++ pad 4) }, (toLe 1 2 ++ [0] ++ toLe 2 1 ++ pad 4), 0, jb, by dsimp only; unfold State.DeliversPkt State.Delivers; decide +kernel⟩,
    ⟨(withJob ((State.modWport ({ rst with otp.wires.master := true, link.id := some 3 }) .west (fun q => { q with state := .up }))) (jb)), .west, { typ := tPKT, dest := 3, seq := 0, payload := ([0, 1, 0, 0, 3, 128, 5, 0] ++ toLe 1 2 ++ [0] ++ toLe 2 1 ++ pad 4) }, (toLe 1 2 ++ [0] ++ toLe 2 1 ++ pad 4), 0, jb, by dsimp only; unfold State.DeliversPkt State.Delivers; decide +kernel⟩,
    ⟨(withJob ((State.modWport ({ rst with otp.wires.master := true, link.id := some 3 }) .west (fun q => { q with state := .up }))) (jb)), .west, { typ := tPKT, dest := 3, seq := 0, payload := ([0, 1, 0, 0, 3, 128, 5, 0] ++ toLe 1 3 ++ [0] ++ toLe 2 1 ++ pad 4) }, (toLe 1 3 ++ [0] ++ toLe 2 1 ++ pad 4), 0, jb, by dsimp only; unfold State.DeliversPkt State.Delivers; decide +kernel⟩,
    ⟨(withJob ((State.modWport ({ rst with link.id := some 3 }) .west (fun q => { q with state := .up }))) ({ jb with state := .late })), .west, { typ := tPKT, dest := 3, seq := 0, payload := ([0, 1, 0, 0, 3, 128, 5, 0] ++ toLe 1 3 ++ [0] ++ toLe 2 1 ++ pad 4) }, (toLe 1 3 ++ [0] ++ toLe 2 1 ++ pad 4), 0, { jb with state := .late }, by dsimp only; unfold State.DeliversPkt State.Delivers; decide +kernel⟩,
    ⟨(State.modWport ({ rst with link.id := some 3 }) .east (fun q => { q with state := .up, hops := List.replicate 8 (some 1), others := 1 })), .west, { typ := tPKT, dest := 3, seq := 0, payload := ([0, 1, 0, 0, 0, 128, 5, 0] ++ pad 16) }, { pk 0x100 4 with target := 5 }, .east, 1, by decide +kernel⟩,
    ⟨(State.modWport ({ rst with link.id := some 3, host.bme := true }) .east (fun q => { q with state := .up, hops := List.replicate 8 (some 1), others := 1 })), .west, { typ := tPKT, dest := 3, seq := 0, payload := ([0, 1, 0, 0, 0, 128, 5, 0] ++ pad 16) }, { pk 0x310 28 with target := 5, params := body 28 [(24, 2, 4), (26, 2, 1)] }, .east, 1, by decide +kernel⟩,
    ⟨(State.modWport ({ rst with link.id := some 3 }) .east (fun q => { q with state := .up, hops := List.replicate 8 (some 1), others := 1 })), .west, { typ := tPKT, dest := 3, seq := 0, payload := ([0, 1, 0, 0, 0, 128, 5, 0] ++ pad 16) }, { pk 0x100 4 with target := 0xFF, flags := 4 }, .east, by decide +kernel⟩⟩

/-- A state and operands for each clause of Obligations.StepKeepsInvariant. -/
theorem witness_StepKeepsInvariant :
    ∃ (s : State), s.Inv :=
    ⟨rst, ⟨by decide, by decide, by decide, by decide, by decide, by decide, by decide⟩⟩


end Sys2Proof.Tests
end

section
/-! SUPPORT. The idle tick (log entry 1). -/
namespace Sys2Proof.Machine

/-- The state after reset with a fabric stop due on axis 0, which moves although it was never configured. -/
def unconfiguredAxisMoves : State :=
  ({ State.reset with axes := vset State.reset.axes 0 { state := .moving }, fab.due := [(0x18, 1)] } : State).setPend 0x18 true

/-- A fabric stop acts on an axis that moves, whether or not it is configured (07 R247). -/
theorem tick_stops_unconfiguredAxisMoves : ((tick unconfiguredAxisMoves).axis 0).state = .stopping := by
  decide +kernel

/-- Refutes O2: its last clause takes an axis that is not configured to stand, and so to be left alone by a fabric stop.  CONFIGURED and STATE are
fields of their own, and nothing in the premises ties them: the stop makes an axis that moves unconfigured a stopping one. -/
theorem not_idleTickCounts : ¬ Obligations.IdleTickCounts := by
  intro h
  obtain ⟨-, -, hstop⟩ := h unconfiguredAxisMoves rfl
  have hdue := (hstop (by decide +kernel) rfl rfl rfl rfl rfl (by decide +kernel) 0 1 (by decide) rfl (by decide +kernel) rfl).1
  obtain ⟨t, hstep, -, -, -, haxes⟩ := hdue (by decide +kernel)
  obtain rfl : tick unconfiguredAxisMoves = t := Host.Outcome.next.inj hstep
  have hstate := tick_stops_unconfiguredAxisMoves
  rw [State.axis, haxes] at hstate
  exact absurd hstate (by decide +kernel)

end Sys2Proof.Machine
end

section
/-! SUPPORT. Register words and their numbers (00 R8, R10). -/
namespace Sys2Proof.Machine
variable (v : Word)

@[simp] theorem w32_toNat : w32 v.toNat = v := by simp [w32]

@[simp] theorem bit_toNat {w : Nat} (v : BitVec w) (i : Nat) : bit v.toNat i = v.getLsbD i := by
  rw [bit, BitVec.getLsbD, Nat.testBit_eq_decide_div_mod_eq]

/-- A BASE_LO word with its page offset off (02 R52). -/
theorem w32_page : w32 (v.toNat / 4096 * 4096) = v &&& 0xFFFFF000 := by
  have hshift : w32 (v.toNat / 4096 * 4096) = v >>> 12 <<< 12 := by
    apply BitVec.eq_of_toNat_eq
    simp [w32, BitVec.toNat_shiftLeft, Nat.shiftLeft_eq, Nat.shiftRight_eq_div_pow]
  rw [hshift]
  ext i hi
  interval_cases i <;> simp

/-- The LOCK_LOSS bits of a written word (13 R421). -/
theorem ofNat_bits_11_8 : BitVec.ofNat 4 (bits v.toNat 11 8) = (v >>> 8).setWidth 4 := by
  apply BitVec.eq_of_toNat_eq
  simp [bits, BitVec.toNat_setWidth, BitVec.toNat_ushiftRight, Nat.shiftRight_eq_div_pow]

/-- A word that stands for bits 63 to 32 (01 R38). -/
theorem ofNat_high_word : BitVec.ofNat 64 (v.toNat * 2 ^ 32) = v.setWidth 64 <<< 32 := by
  apply BitVec.eq_of_toNat_eq
  simp [BitVec.toNat_setWidth, BitVec.toNat_shiftLeft, Nat.shiftLeft_eq]

theorem w32_low (x : BitVec 64) : w32 (x.toNat % 2 ^ 32) = loWord x := by
  apply BitVec.eq_of_toNat_eq
  simp [w32, loWord]

end Sys2Proof.Machine
end

section
/-! SUPPORT. The address map of BAR2 (14 R429): which block a register belongs to. -/
namespace Sys2Proof.Machine
variable (s : State) (off : Nat) (v : Word)

theorem State.writeBar2_id (hhi : off < 0x100) : s.writeBar2 off v = s.writeId off v.toNat := by
  grind [State.writeBar2, State.underReset]

theorem State.writeBar2_pwr (hlo : 0x100 ≤ off) (hhi : off < 0x1000) : s.writeBar2 off v = s.writePwr off v.toNat := by
  grind [State.writeBar2, State.underReset]

theorem State.writeBar2_dma (hlo : 0x1000 ≤ off) (hhi : off < 0x1400) :
    s.writeBar2 off v = if s.pe.rebooting || s.pwr.blockHeld.getLsbD 15 then s
      else s.writeDma ((off - 0x1000) / 0x40) (off % 0x40) v.toNat := by
  grind [State.writeBar2, State.underReset]

theorem State.writeBar2_otp (hlo : 0x2000 ≤ off) (hhi : off < 0x2100) : s.writeBar2 off v = s.writeOtp (off - 0x2000) v.toNat := by
  grind [State.writeBar2, State.underReset]

theorem State.writeBar2_tc (hlo : 0x3000 ≤ off) (hhi : off < 0x4000) : s.writeBar2 off v = s.writeTc (off - 0x3000) v.toNat := by
  grind [State.writeBar2, State.underReset]

theorem State.writeBar2_chan (hlo : 0x4000 ≤ off) (hhi : off < 0x7000) :
    s.writeBar2 off v = if s.pe.rebooting || s.pwr.blockHeld.getLsbD ((off - 0x4000) / 0x400) then s
      else s.writeChan ((off - 0x4000) / 0x100) (off % 0x100) v.toNat := by
  grind [State.writeBar2, State.underReset]

theorem State.writeBar2_fabric (hlo : 0x9000 ≤ off) (hhi : off < 0xA000) : s.writeBar2 off v = s.writeFabric (off - 0x9000) v.toNat := by
  grind [State.writeBar2, State.underReset]

theorem State.writeBar2_wlCtl (h : s.pwr.blockHeld.getLsbD 16 = false) : s.writeBar2 0xA000 v = s.writeWlCtl v.toNat := by
  have hup : s.underReset 0xA000 = false := h
  rw [State.writeBar2, hup]
  rfl

/-- A register of a channel, as BAR2 finds it (04 R139). -/
theorem chanOff_block (n : Fin 48) (r : Nat) (hr : r < 0x100) :
    0x4000 ≤ chanOff n r ∧ chanOff n r < 0x7000 ∧ (chanOff n r - 0x4000) / 0x100 = n.val ∧ chanOff n r % 0x100 = r ∧
      (chanOff n r - 0x4000) / 0x400 = n.val / 4 := by
  have := n.isLt
  unfold chanOff
  omega

theorem State.readBar2_chan (n : Fin 48) (r : Nat) (hr : r < 0x100) : s.readBar2 (chanOff n r) = s.readChan n.val r := by
  obtain ⟨hlo, hhi, hn, hreg, -⟩ := chanOff_block n r hr
  grind [State.readBar2]

theorem State.readBar2_tc (k : Nat) (hk : k < 64) :
    s.readBar2 (0x3000 + 4 * k) = (s.counter (2 * k)).toNat + (s.counter (2 * k + 1)).toNat * 65536 := by
  have hread : s.readBar2 (0x3000 + 4 * k) = s.readTc (4 * k) := by grind [State.readBar2]
  have hlow : 4 * k / 2 = 2 * k := by omega
  rw [hread, State.readTc, if_pos (by omega), hlow]
  rfl

/-! ### What no rule names is read-only -/

theorem State.writeBar0_of_not_writable (h : writable .bar0 off = false) : s.writeBar0 off v = s := by
  simp only [writable, Bool.or_eq_false_iff, Bool.and_eq_false_iff, decide_eq_false_iff_not, List.contains_eq_mem] at h
  obtain ⟨⟨hnamed, hslot⟩, htable⟩ := h
  have hnoSlot : ¬ (decide (0x100 ≤ off) && decide (off < 0x140)) = true := by
    rw [Bool.and_eq_true, decide_eq_true_iff, decide_eq_true_iff]; omega
  have hnoTable : ¬ (decide (0x2000 ≤ off) && decide (off < 0x2200)) = true := by
    rw [Bool.and_eq_true, decide_eq_true_iff, decide_eq_true_iff]; omega
  unfold State.writeBar0
  split
  case h_16 => rw [if_neg hnoSlot, if_neg hnoTable]
  all_goals simp at hnamed hslot

theorem State.writeId_unnamed (v : Nat) (h : off ∉ [0x48, 0x80]) : s.writeId off v = s := by
  unfold State.writeId
  split <;> simp_all

theorem State.writePwr_unnamed (v : Nat) (h : off ∉ [0x100, 0x104, 0x108, 0x10C, 0x110, 0x120, 0x130, 0x134]) : s.writePwr off v = s := by
  unfold State.writePwr
  split <;> simp_all

theorem State.writeDma_unnamed (k v : Nat) (h : off ∉ [0x00, 0x04, 0x08, 0x0C, 0x10, 0x18]) : s.writeDma k off v = s := by
  unfold State.writeDma
  split <;> simp_all

theorem State.writeOtp_unnamed (v : Nat) (h : off ∉ [0x00, 0x04, 0x08, 0x14, 0x20]) : s.writeOtp off v = s := by
  unfold State.writeOtp
  split <;> simp_all

theorem State.writeTc_unnamed (v : Nat) (hclear : ¬ (0x210 ≤ off ∧ off < 0x220)) (h : off ∉ [0x300, 0x304]) : s.writeTc off v = s := by
  simp only [List.mem_cons, List.not_mem_nil, or_false, not_or] at h
  obtain ⟨hstat, hgo⟩ := h
  rw [State.writeTc, if_neg (by simpa using hclear), if_neg hstat, if_neg hgo]

theorem State.writeFabric_unnamed (v : Nat) (hsrc : ¬ off < 0x200) (hdst : ¬ (0x400 ≤ off ∧ off < 0x600)) (h : off ∉ [0x800, 0x804, 0x810]) :
    s.writeFabric off v = s := by
  simp only [List.mem_cons, List.not_mem_nil, or_false, not_or] at h
  obtain ⟨hlow, hhigh, hsoft⟩ := h
  rw [State.writeFabric, if_neg hsrc, if_neg (by simpa using hdst), if_neg hlow, if_neg hhigh, if_neg hsoft]

theorem State.writeChan_unnamed (n v : Nat) (h : off ∉ [0x00, 0x04, 0x08, 0x0C, 0x1C, 0x20, 0x24, 0x28, 0x2C]) : s.writeChan n off v = s := by
  unfold State.writeChan
  split <;> simp_all

theorem State.writeBar2_of_not_writable (h : writable .bar2 off = false) : s.writeBar2 off v = s := by
  simp only [writable, Bool.or_eq_false_iff, Bool.and_eq_false_iff, decide_eq_false_iff_not, List.contains_eq_mem] at h
  obtain ⟨⟨⟨⟨⟨hnamed, hdma⟩, htc⟩, hchan⟩, hsrc⟩, hdst⟩ := h
  simp only [List.mem_cons, List.not_mem_nil, or_false, not_or] at hnamed hdma hchan
  unfold State.writeBar2
  split_ifs
  · rfl
  · exact s.writeId_unnamed off _ (by simp; omega)
  · exact s.writePwr_unnamed off _ (by simp; omega)
  · exact s.writeDma_unnamed _ _ _ (by simp; omega)
  · exact s.writeOtp_unnamed _ _ (by simp_all; omega)
  · exact s.writeTc_unnamed _ _ (by simp_all; omega) (by simp_all; omega)
  · exact s.writeChan_unnamed _ _ _ (by simp_all; omega)
  · exact s.writeFabric_unnamed _ _ (by simp_all; omega) (by simp_all; omega) (by simp_all; omega)
  · omega
  · rfl

end Sys2Proof.Machine
end

section
/-! SUPPORT. Accesses of the host in RUN (14 R425, 04 R140). -/
namespace Sys2Proof.Machine
variable {s t : State} {off : Nat} {v : Word}

theorem State.Awake.exec_partialWrite (ha : s.Awake) (h4 : s.shot 4 = false) (bar : Bar) {be : BitVec 4} (hbe : be ≠ 0xF) :
    exec (.registerWrite bar off v be) s = .next ((s.setHpErr 5).count 4) := by
  change Host.Outcome.next (s.hostAccess (.write bar off v be)) = _
  rw [s.hostAccess_awake _ ha, State.perform]
  simp only [State.writeAccess]
  rw [s.detect_eq 4 _ h4]
  exact congrArg Host.Outcome.next (if_pos (decide_eq_true hbe))

theorem State.Awake.exec_write0 (ha : s.Awake) (h4 : s.shot 4 = false) (hal : off % 4 = 0) (ht : s.writeBar0 off v = t) :
    exec (.registerWrite .bar0 off v 0xF) s = .next t := by
  change Host.Outcome.next (s.hostAccess (.write .bar0 off v 0xF)) = _
  have hdword : off / 4 * 4 = off := by omega
  rw [s.hostAccess_awake _ ha, State.perform, State.writeAccess, s.detect_eq 4 _ h4, hdword, ← ht]
  rfl

theorem State.Awake.exec_write2 (ha : s.Awake) (h4 : s.shot 4 = false) (hal : off % 4 = 0) (ht : s.writeBar2 off v = t) :
    exec (.registerWrite .bar2 off v 0xF) s = .next t := by
  change Host.Outcome.next (s.hostAccess (.write .bar2 off v 0xF)) = _
  have hdword : off / 4 * 4 = off := by omega
  rw [s.hostAccess_awake _ ha, State.perform, State.writeAccess, s.detect_eq 4 _ h4, hdword, ← ht]
  rfl

theorem State.Awake.exec_read (ha : s.Awake) (bar : Bar) : exec (.loRegisterRead bar off) s = .next (s.readAccess bar off) :=
  congrArg Host.Outcome.next (s.hostAccess_awake _ ha)

/-- The state after a read: the value that it returns, and the high words that stay held (04 R140). -/
def State.readOut (s : State) (w : Word) (held : List (Nat × Word)) : State := { s with host := { s.host with readData := w, hiLatch := held } }

/-- The high word that is held for a register (04 R140). -/
def State.heldFor (s : State) (off : Nat) : Option (Nat × Word) := s.host.hiLatch.find? (fun x => x.1 = off)

theorem hiOf_eq (off : Nat) : hiOf off = if lowWord off then some (off + 4) else none := by
  grind [hiOf, lowWord]

theorem State.readAccess_bar0 : s.readAccess .bar0 off = s.readOut (w32 (s.readBar0 (off / 4 * 4))) s.host.hiLatch := rfl

theorem State.readAccess_held {x : Nat × Word} (h : s.heldFor (off / 4 * 4) = some x) :
    s.readAccess .bar2 off = s.readOut x.2 (s.host.hiLatch.filter (fun y => y.1 ≠ off / 4 * 4)) := by
  unfold State.heldFor at h
  simp only [State.readAccess, h, w32_toNat]
  rfl

theorem State.readAccess_plain (h : s.heldFor (off / 4 * 4) = none) (hlow : lowWord (off / 4 * 4) = false) :
    s.readAccess .bar2 off = s.readOut (w32 (s.readBar2 (off / 4 * 4))) s.host.hiLatch := by
  unfold State.heldFor at h
  simp only [State.readAccess, h, hiOf_eq, hlow]
  rfl

theorem State.readAccess_low (h : s.heldFor (off / 4 * 4) = none) (hlow : lowWord (off / 4 * 4) = true) :
    s.readAccess .bar2 off = s.readOut (w32 (s.readBar2 (off / 4 * 4)))
      ((off / 4 * 4 + 4, w32 (s.readBar2 (off / 4 * 4 + 4))) :: s.host.hiLatch.filter (fun y => y.1 ≠ off / 4 * 4 + 4)) := by
  unfold State.heldFor at h
  simp only [State.readAccess, h, hiOf_eq, hlow]
  rfl

/-- A read changes the data returned and the high words held, the latter at a register of its own only (04 R140). -/
theorem State.readAccess_frame (bar : Bar) : ∃ w held, s.readAccess bar off = s.readOut w held ∧
    (bar = .bar0 ∨ (lowWord (off / 4 * 4) = false ∧ s.heldFor (off / 4 * 4) = none) → held = s.host.hiLatch) := by
  cases bar with
  | bar0 => exact ⟨_, _, State.readAccess_bar0, fun _ => rfl⟩
  | bar2 =>
    cases hheld : s.heldFor (off / 4 * 4) with
    | some x => exact ⟨_, _, State.readAccess_held hheld, by simp⟩
    | none =>
      cases hlow : lowWord (off / 4 * 4) with
      | true => exact ⟨_, _, State.readAccess_low hheld hlow, by simp⟩
      | false => exact ⟨_, _, State.readAccess_plain hheld hlow, fun _ => rfl⟩

/-- A read of BAR2 that neither takes nor keeps a high word returns the register. -/
theorem State.Awake.exec_read2 (ha : s.Awake) (hheld : s.host.hiLatch = []) (hal : off % 4 = 0) (hlow : lowWord off = false)
    (hv : w32 (s.readBar2 off) = v) : exec (.loRegisterRead .bar2 off) s = .next { s with host := { s.host with readData := v } } := by
  have hdword : off / 4 * 4 = off := by omega
  rw [ha.exec_read, State.readAccess_plain (by rw [State.heldFor, hheld]; rfl) (by rw [hdword, hlow]), hdword, hv]
  rfl

theorem State.Awake.exec_read0 (ha : s.Awake) (hal : off % 4 = 0) (hv : w32 (s.readBar0 off) = v) :
    exec (.loRegisterRead .bar0 off) s = .next { s with host := { s.host with readData := v } } := by
  have hdword : off / 4 * 4 = off := by omega
  rw [ha.exec_read, State.readAccess_bar0, hdword, hv]
  rfl

end Sys2Proof.Machine
end

section
/-! SUPPORT. HEAD_OFFSET and the values that registers return (04 R140). -/
namespace Sys2Proof.Machine
variable {s : State}

theorem chanOff_dword (n : Fin 48) (r : Nat) (hr : r % 4 = 0) : chanOff n r / 4 * 4 = chanOff n r := by
  unfold chanOff
  omega

/-- A channel register keeps a high word where its offset in the block is that of HEAD_OFFSET_LO or LAST_TRIG_LO. -/
theorem lowWord_chan (n : Fin 48) (r : Nat) (hr : r < 0x100) : lowWord (chanOff n r) = decide (r = 0x28 ∨ r = 0x38) := by
  obtain ⟨hlo, hhi, -, hreg, -⟩ := chanOff_block n r hr
  grind [lowWord]

theorem State.read_headOffsetLo (n : Fin 48) (h : s.heldFor (chanOff n 0x28) = none) : ∃ held,
    s.readAccess .bar2 (chanOff n 0x28) = s.readOut (loWord (i64 (s.chan n.val).headOffset)) held ∧
      held.find? (fun x => x.1 = chanOff n 0x2C) = some (chanOff n 0x2C, hiWord (i64 (s.chan n.val).headOffset)) := by
  have hdword := chanOff_dword n 0x28 (by decide)
  have hlow : lowWord (chanOff n 0x28) = true := by rw [lowWord_chan n 0x28 (by decide)]; rfl
  have hnext : chanOff n 0x28 + 4 = chanOff n 0x2C := rfl
  have hlo : w32 (s.readBar2 (chanOff n 0x28)) = loWord (i64 (s.chan n.val).headOffset) := by
    rw [s.readBar2_chan n 0x28 (by decide)]
    exact w32_low _
  have hhi : w32 (s.readBar2 (chanOff n 0x2C)) = hiWord (i64 (s.chan n.val).headOffset) := by
    rw [s.readBar2_chan n 0x2C (by decide)]
    rfl
  have hread := State.readAccess_low (s := s) (off := chanOff n 0x28) (by rw [hdword, h]) (by rw [hdword, hlow])
  rw [hdword, hnext, hlo, hhi] at hread
  exact ⟨_, hread, by simp⟩

theorem State.read_headOffsetHi (n : Fin 48) (w : Word) (h : s.heldFor (chanOff n 0x2C) = some (chanOff n 0x2C, w)) : ∃ held,
    s.readAccess .bar2 (chanOff n 0x2C) = s.readOut w held ∧ held.find? (fun x => x.1 = chanOff n 0x2C) = none := by
  have hdword := chanOff_dword n 0x2C (by decide)
  have hread := State.readAccess_held (s := s) (off := chanOff n 0x2C) (by rw [hdword, h])
  rw [hdword] at hread
  exact ⟨_, hread, by simp⟩

/-- The registers of BAR2 named in 14 R431, 13 R421, 04 R139 and 12 R398 whose value is a field of the state. -/
theorem State.readBar2_values (n : Fin 48) (x : Nat × Word) (hx : x ∈ [(0x00, 0x4816), (0x04, 0xB1), (0x44, s.host.recov),
      (0x48, s.host.err.setWidth 32), (0x80, s.host.bar4Win.setWidth 32), (0x108, s.pwr.wakeEn), (0x10C, s.pwr.wakeCause),
      (0x134, s.pwr.rstCause.setWidth 32), (chanOff n 0x20, BitVec.ofNat 32 (s.chan n.val).rateMax),
      (chanOff n 0x24, BitVec.ofInt 32 (s.chan n.val).rowOffset), (chanOff n 0x34, BitVec.ofNat 32 (s.chan n.val).lastLine),
      (0xA018, s.link.breaks), (0xA01C, s.link.replays), (0xB000, 0), (0xFFFC, 0)]) :
    x.1 % 4 = 0 ∧ lowWord x.1 = false ∧ w32 (s.readBar2 x.1) = x.2 := by
  have hchan (r : Nat) (w : Word) (hr : r < 0x100) (hlow : ¬ (r = 0x28 ∨ r = 0x38)) (hal : r % 4 = 0) (hw : w32 (s.readChan n.val r) = w) :
      chanOff n r % 4 = 0 ∧ lowWord (chanOff n r) = false ∧ w32 (s.readBar2 (chanOff n r)) = w :=
    ⟨by unfold chanOff; omega, by rw [lowWord_chan n r hr, decide_eq_false hlow], by rw [s.readBar2_chan n r hr, hw]⟩
  revert x
  simp only [List.forall_mem_cons]
  refine ⟨⟨trivial, rfl, rfl⟩, ⟨trivial, rfl, rfl⟩, ⟨trivial, rfl, w32_toNat _⟩, ⟨trivial, rfl, BitVec.ofNat_toNat _ _⟩, ⟨trivial, rfl, BitVec.ofNat_toNat _ _⟩,
    ⟨trivial, rfl, w32_toNat _⟩, ⟨trivial, rfl, w32_toNat _⟩, ⟨trivial, rfl, BitVec.ofNat_toNat _ _⟩, ?_, ?_, ?_, ⟨trivial, rfl, w32_toNat _⟩,
    ⟨trivial, rfl, w32_toNat _⟩, ⟨trivial, rfl, rfl⟩, ⟨trivial, rfl, rfl⟩, by simp⟩
  · exact hchan 0x20 _ (by decide) (by decide) rfl rfl
  · exact hchan 0x24 _ (by decide) (by decide) rfl (w32_toNat _)
  · exact hchan 0x34 _ (by decide) (by decide) rfl rfl

/-- The indices of the rings and the PBA (02 R52, 14 R427). -/
theorem State.readBar0_values (x : Nat × Nat) (hx : x ∈ [(0x0C, s.pe.cmd.tail), (0x10, s.pe.cmd.head), (0x2C, s.pe.rpl.tail),
      (0x30, s.pe.rpl.head), (0x4C, s.pe.evt.tail), (0x50, s.pe.evt.head), (0x3000, s.host.pba.toNat), (0x3004, 0)]) :
    x.1 % 4 = 0 ∧ s.readBar0 x.1 = x.2 := by
  revert x
  simp only [List.forall_mem_cons]
  exact ⟨⟨trivial, rfl⟩, ⟨trivial, rfl⟩, ⟨trivial, rfl⟩, ⟨trivial, rfl⟩, ⟨trivial, rfl⟩, ⟨trivial, rfl⟩, ⟨trivial, rfl⟩, ⟨trivial, rfl⟩, by simp⟩

end Sys2Proof.Machine
end

section
/-! SUPPORT. What a register write may touch beside its register: vectors, event records, the ports of WizerLink. -/
namespace Sys2Proof.Machine
variable (s : State)

theorem State.setCfgErr_eq : s.setCfgErr = { s with pe := { s.pe with cfgErr := true }, host := s.setCfgErr.host } := by
  unfold State.setCfgErr
  split
  · next h => rw [← h]
  · have hsame := State.raiseVector_same { s with pe := { s.pe with cfgErr := true } } 2
    rwa [State.SameButReplies, State.raiseVector_pe] at hsame

theorem State.setImmLost_eq : s.setImmLost = { s with pe := { s.pe with immLost := true }, host := s.setImmLost.host } := by
  unfold State.setImmLost
  split
  · next h => rw [← h]
  · have hsame := State.raiseVector_same { s with pe := { s.pe with immLost := true } } 2
    rwa [State.SameButReplies, State.raiseVector_pe] at hsame

theorem State.flushVectors_of_none_pending (h : s.host.pba = 0) : s.flushVectors = s :=
  List.foldl_fixed' (fun v => by simp [h]) _

/-- Nothing differs but what an event record can touch: the packet engine, the host port, the counters, a shot that makes it meet a full ring. -/
def State.SameButEvents (s t : State) : Prop := t = { s with pe := t.pe, host := t.host, tc := t.tc, inj := t.inj }

theorem State.SameButEvents.trans {s t u : State} (h : s.SameButEvents t) (g : t.SameButEvents u) : s.SameButEvents u := by
  unfold State.SameButEvents at *
  rw [g, h]

theorem State.SameButReplies.sameButEvents {s t : State} (h : s.SameButReplies t) : s.SameButEvents t := by
  unfold State.SameButReplies at h
  rw [h]
  rfl

theorem State.detect_same (k : Nat) (real : Bool) : s.SameButEvents (s.detect k real).2 := by
  unfold State.detect
  split <;> rfl

theorem State.writeEvent_same (fabric : Bool) (tb : BitVec 64) (code data : Nat) : s.SameButReplies (s.writeEvent fabric tb code data) := by
  unfold State.writeEvent
  extract_lets r recorded engine advanced
  have hrecord : s.SameButReplies advanced := rfl
  split
  · exact hrecord.trans (State.raiseVector_same _ _)
  · exact hrecord

theorem State.setEvtLost_same : s.SameButReplies s.setEvtLost := by
  unfold State.setEvtLost
  split
  · rfl
  · exact State.raiseVector_same _ _

theorem State.dropEvent_same : s.SameButEvents s.dropEvent :=
  have hcounted : s.SameButEvents (({ s with pe := { s.pe with evtDropped := s.pe.evtDropped + 1 } } : State).count 2) := rfl
  hcounted.trans (State.setEvtLost_same _).sameButEvents

theorem State.eventsLost_same : s.SameButReplies s.eventsLost := by
  unfold State.eventsLost
  split
  · exact State.writeEvent_same _ _ _ _ _
  · rfl

theorem State.event_same (fabric : Bool) (tb : BitVec 64) (code data : Nat) : s.SameButEvents (s.event fabric tb code data) := by
  have hfound := s.eventsLost_same.sameButEvents.trans (State.detect_same _ 2 (!s.eventsLost.eventFits))
  unfold State.event
  dsimp only
  split
  · exact hfound.trans (State.dropEvent_same _)
  · exact hfound.trans (State.writeEvent_same _ _ _ _ _).sameButEvents

@[simp] theorem State.deviceEvent_link (code data : Nat) : (s.deviceEvent code data).link = s.link := by
  rw [State.deviceEvent, s.event_same]

@[simp] theorem State.deviceEvent_jobs (code data : Nat) : (s.deviceEvent code data).jobs = s.jobs := by
  rw [State.deviceEvent, s.event_same]

@[simp] theorem State.deviceEvent_chans (code data : Nat) : (s.deviceEvent code data).chans = s.chans := by
  rw [State.deviceEvent, s.event_same]

/-- What a port that goes down leaves as it was, in the link's setup, the jobs, the channels and the other port (12 R394). -/
structure State.LinkKept (s t : State) (p : Side) : Prop where
  en : t.link.en = s.link.en
  id : t.link.id = s.link.id
  port : t.wport (other p) = s.wport (other p)
  jobs : t.jobs = s.jobs
  chans : t.chans = s.chans

theorem State.checkPath_wport (p : Side) : s.checkPath.wport p = s.wport p := by
  unfold State.checkPath
  split <;> cases p <;> rfl

theorem State.checkPath_kept (p : Side) : s.LinkKept s.checkPath p := by
  refine ⟨?_, ?_, s.checkPath_wport _, ?_, ?_⟩ <;> unfold State.checkPath <;> split <;> rfl

theorem State.modWport_kept (p : Side) (f : Port → Port) : s.LinkKept (s.modWport p f) p := by
  cases p <;> exact ⟨rfl, rfl, rfl, rfl, rfl⟩

theorem State.portsMoved_kept (p : Side) : s.LinkKept s.portsMoved p := by
  cases p <;> exact ⟨rfl, rfl, rfl, rfl, rfl⟩

theorem State.LinkKept.trans {s t u : State} {p : Side} (h : s.LinkKept t p) (g : t.LinkKept u p) : s.LinkKept u p :=
  ⟨g.en.trans h.en, g.id.trans h.id, g.port.trans h.port, g.jobs.trans h.jobs, g.chans.trans h.chans⟩

/-- A ring break is counted and told, which moves no port (12 R394). -/
theorem State.told_wport (p : Side) (data : Nat) : (((s.count 114).deviceEvent 0x40 data).raise 0x60).wport p = s.wport p := by
  cases p <;> simp [State.wport]

theorem State.told_kept (p : Side) (data : Nat) : s.LinkKept (((s.count 114).deviceEvent 0x40 data).raise 0x60) p :=
  ⟨by simp, by simp, s.told_wport _ data, by simp, by simp⟩

theorem State.portLost_down (p : Side) : ((s.portLost p).wport p).state = .down ∧ s.LinkKept (s.portLost p) p := by
  unfold State.portLost
  extract_lets q up cleared lost link broken
  have hdown : (lost.wport p).state = .down := by
    rw [State.checkPath_wport]
    cases p <;> rfl
  have hkept : s.LinkKept lost p := (s.modWport_kept p _).trans ((State.portsMoved_kept _ p).trans (State.checkPath_kept _ p))
  split
  · exact ⟨hdown, hkept⟩
  · have hbroken : lost.LinkKept broken p := ⟨rfl, rfl, by cases p <;> rfl, rfl, rfl⟩
    refine ⟨?_, hkept.trans (hbroken.trans (broken.told_kept p _))⟩
    rw [State.told_wport]
    cases p <;> exact hdown

/-- Both ports go down (12 R398 EN). -/
theorem State.portsDown_down : s.portsDown.link.east.state = .down ∧ s.portsDown.link.west.state = .down ∧ s.portsDown.link.en = s.link.en ∧
    s.portsDown.link.id = s.link.id ∧ s.portsDown.jobs = s.jobs ∧ s.portsDown.chans = s.chans := by
  obtain ⟨heast, hfirst⟩ := s.portLost_down .east
  obtain ⟨hwest, hsecond⟩ := (s.portLost .east).portLost_down .west
  have hport := hsecond.port
  simp only [other, State.wport] at heast hwest hport
  rw [← hport] at heast
  exact ⟨heast, hwest, hsecond.en.trans hfirst.en, hsecond.id.trans hfirst.id, hsecond.jobs.trans hfirst.jobs, hsecond.chans.trans hfirst.chans⟩

end Sys2Proof.Machine
end

section
/-! SUPPORT. What a whole-dword write of each register does. -/
namespace Sys2Proof.Machine
variable (s : State) (v : Word)

/-! ### The rings and the immediate slot (02 R52, R53) -/

/-- The rings with the offset of their registers in BAR0, and the packet engine with each replaced (02 R52). -/
def State.rings : List (Nat × Ring × (Ring → PacketEngine)) :=
  [(0x00, s.pe.cmd, fun r => { s.pe with cmd := r }), (0x20, s.pe.rpl, fun r => { s.pe with rpl := r }),
    (0x40, s.pe.evt, fun r => { s.pe with evt := r })]

/-- BASE_LO, BASE_HI and SIZE of a ring. -/
theorem State.writeBar0_ring (x : Nat × Ring × (Ring → PacketEngine)) (hx : x ∈ s.rings) :
    x.1 % 4 = 0 ∧ ∀ off, off ∈ [0, 4, 8] →
      s.writeBar0 (x.1 + off) v = s.writeRingReg x.2.1 (fun r => { s with pe := x.2.2 r }) off v.toNat := by
  simp only [State.rings, List.mem_cons, List.not_mem_nil, or_false] at hx
  rcases hx with rfl | rfl | rfl <;>
    exact ⟨by simp, by simp only [List.forall_mem_cons]; exact ⟨rfl, rfl, rfl, by simp⟩⟩

variable (r : Ring) (set : Ring → State)

theorem State.writeRingReg_enabled (off n : Nat) (h : r.en = true) : s.writeRingReg r set off n = s.setCfgErr := by
  unfold State.writeRingReg
  exact if_pos h

theorem State.writeRingReg_baseLo (h : r.en = false) :
    s.writeRingReg r set 0 v.toNat = set { r with base := join64 (v &&& 0xFFFFF000) (hiWord r.base) } := by
  simp [State.writeRingReg, h, w32_page]

theorem State.writeRingReg_baseHi (h : r.en = false) :
    s.writeRingReg r set 4 v.toNat = set { r with base := join64 (loWord r.base) v } := by
  simp [State.writeRingReg, h]

theorem State.writeRingReg_size (n : Nat) (h : r.en = false) (hlo : 8 ≤ n % 16) (hhi : n % 16 ≤ 12) :
    s.writeRingReg r set 8 n = set { r with log2 := n % 16 } := by
  simp [State.writeRingReg, h, hlo, hhi]

theorem State.writeRingReg_badSize (n : Nat) (h : r.en = false) (hn : n % 16 < 8 ∨ 12 < n % 16) :
    s.writeRingReg r set 8 n = s.setCfgErr := by
  simp [State.writeRingReg, h]
  omega

theorem State.writeBar0_immSlot (i : Nat) (hi : i < 16) : s.writeBar0 (0x100 + 4 * i) v = s.writeImmSlot i v := by
  interval_cases i <;> rfl

theorem State.writeImmSlot_free (i : Nat) (h : s.pe.immBusy = false) :
    s.writeImmSlot i v = { s with pe := { s.pe with immSlot := vset s.pe.immSlot i v } } := by
  simp [State.writeImmSlot, h]

theorem State.writeImmSlot_busy (i : Nat) (h : s.pe.immBusy = true) : s.writeImmSlot i v = s.setImmLost := by
  simp [State.writeImmSlot, h]

theorem State.writeBar0_ringStat : s.writeBar0 0x64 v = { s with pe := { s.pe with
    immLost := s.pe.immLost && !v.getLsbD 4, evtLost := s.pe.evtLost && !v.getLsbD 3, rplLost := s.pe.rplLost && !v.getLsbD 2
    idxErr := s.pe.idxErr && !v.getLsbD 1, cfgErr := s.pe.cfgErr && !v.getLsbD 0 } } := by
  change s.writeRingStat v.toNat = _
  simp only [State.writeRingStat, bit_toNat]

/-! ### The MSI-X table (14 R427) -/

/-- An entry of the MSI-X table with the dword at an offset in it written. -/
def MsixEntry.put (m : MsixEntry) (off : Nat) (v : Word) : MsixEntry :=
  match off with
  | 0 => { m with addrLo := v &&& 0xFFFFFFFC }
  | 4 => { m with addrHi := v }
  | 8 => { m with data := v }
  | _ => { m with ctrl := v &&& 1 }

theorem State.writeBar0_msixTable (off : Nat) (hlo : 0x2000 ≤ off) (hhi : off < 0x2200) : s.writeBar0 off v = s.writeMsix off v := by
  have hnoSlot : ¬ (decide (0x100 ≤ off) && decide (off < 0x140)) = true := by simp; omega
  have htable : (decide (0x2000 ≤ off) && decide (off < 0x2200)) = true := by simp [hlo, hhi]
  unfold State.writeBar0
  split
  case h_16 => rw [if_neg hnoSlot, if_pos htable]
  all_goals simp at hlo

theorem State.writeBar0_msixEntry (k off : Nat) (hk : k < 32) (hoff : off < 16) (hpba : s.host.pba = 0) :
    s.writeBar0 (0x2000 + off + 16 * k) v = { s with host := { s.host with msix := vset s.host.msix k ((s.msixEntry k).put off v) } } := by
  have hindex : (0x2000 + off + 16 * k - 0x2000) / 16 = k := by omega
  have hdword : (0x2000 + off + 16 * k) % 16 = off := by omega
  rw [s.writeBar0_msixTable v _ (by omega) (by omega)]
  simp only [State.writeMsix, hindex, hdword]
  exact State.flushVectors_of_none_pending _ hpba

/-! ### The event fabric (01 R38) -/

theorem State.writeBar2_srcRoute (k : Nat) (hk : k < 128) : s.writeBar2 (0x9000 + 4 * k) v =
    { s with fab := { s.fab with src := vset s.fab.src k { en := v.getLsbD 31, line := v.setWidth 6 } } } := by
  have hindex : (0x9000 + 4 * k - 0x9000) / 4 = k := by omega
  rw [s.writeBar2_fabric _ v (by omega) (by omega), State.writeFabric, if_pos (by omega), hindex, routeOf, bit_toNat, BitVec.ofNat_toNat]

theorem State.writeBar2_dstRoute (k : Nat) (hk : k < 128) : s.writeBar2 (0x9400 + 4 * k) v =
    { s with fab := { s.fab with dst := vset s.fab.dst k { en := v.getLsbD 31, line := v.setWidth 6 } } } := by
  have hindex : (0x9400 + 4 * k - 0x9000 - 0x400) / 4 = k := by omega
  rw [s.writeBar2_fabric _ v (by omega) (by omega), State.writeFabric, if_neg (by omega), if_pos (by simp; omega), hindex, routeOf, bit_toNat,
    BitVec.ofNat_toNat]

theorem State.writeBar2_latchLow : s.writeBar2 0x9800 v = { s with fab := { s.fab with latch := s.fab.latch &&& ~~~ v.setWidth 64 } } := by
  rw [← BitVec.ofNat_toNat]
  rfl

theorem State.writeBar2_latchHigh :
    s.writeBar2 0x9804 v = { s with fab := { s.fab with latch := s.fab.latch &&& ~~~ (v.setWidth 64 <<< 32) } } := by
  rw [← ofNat_high_word]
  rfl

/-! ### Channels, DMA, WizerLink (04 R139, 10 R336, 12 R398) -/

theorem State.writeBar2_shLine (n : Fin 48) (hboot : s.pe.rebooting = false) (hheld : s.pwr.blockHeld.getLsbD (n.val / 4) = false) :
    s.writeBar2 (chanOff n 0x08) v = s.modChan n.val (fun c => { c with shLine := v.toNat }) := by
  obtain ⟨hlo, hhi, hn, hreg, hblock⟩ := chanOff_block n 0x08 (by decide)
  rw [s.writeBar2_chan _ v hlo hhi, hn, hreg, hblock, hboot, hheld]
  rfl

theorem State.writeBar2_dmaReg (k : Fin 16) (off : Nat) (hoff : off < 0x40) (hboot : s.pe.rebooting = false)
    (hheld : s.pwr.blockHeld.getLsbD 15 = false) : s.writeBar2 (0x1000 + 0x40 * k.val + off) v = s.writeDma k.val off v.toNat := by
  have hindex : (0x1000 + 0x40 * k.val + off - 0x1000) / 0x40 = k.val := by omega
  have hreg : (0x1000 + 0x40 * k.val + off) % 0x40 = off := by omega
  rw [s.writeBar2_dma _ v (by omega) (by omega), hindex, hreg, hboot, hheld]
  rfl

/-- SRC, DST and COUNT of a DMA channel; a low word waits for its high word. -/
theorem State.writeDma_operands (k : Nat) :
    s.writeDma k 0x00 v.toNat = s.modDma k (fun c => { c with srcLo := some v }) ∧
    s.writeDma k 0x04 v.toNat = s.modDma k (fun c => { c with src := join64 (c.srcLo.getD (loWord c.src)) v, srcLo := none }) ∧
    s.writeDma k 0x08 v.toNat = s.modDma k (fun c => { c with dstLo := some v }) ∧
    s.writeDma k 0x0C v.toNat = s.modDma k (fun c => { c with dst := join64 (c.dstLo.getD (loWord c.dst)) v, dstLo := none }) ∧
    s.writeDma k 0x10 v.toNat = s.modDma k (fun c => { c with count := v }) := by
  simp only [State.writeDma, w32_toNat, and_self]

/-- The link with EN, POS_EN and POS_ENC as a word of WL_CTL gives them. -/
def State.wlCtlSet : State := { s with link := { s.link with en := v.getLsbD 0, posEn := v.getLsbD 1, posEnc := v.toNat / 16 % 8 } }

/-- WL_CTL without a ring reset or a retrain: the ports go down where EN is cleared. -/
theorem State.writeWlCtl_eq (h8 : v.getLsbD 8 = false) (h9 : v.getLsbD 9 = false) (h10 : v.getLsbD 10 = false) :
    s.writeWlCtl v.toNat = if s.link.en && !v.getLsbD 0 then (s.wlCtlSet v).portsDown else s.wlCtlSet v := by
  simp only [State.writeWlCtl, bit_toNat, h8, h9, h10, Bool.false_eq_true, if_false]
  rfl

/-! ### Power and resets, OTP operands, INJ_STAT (13 R421, 11 R353, 15 R451) -/

theorem State.writePwr_registers :
    s.writePwr 0x104 v.toNat = { s with pwr := { s.pwr with refused := s.pwr.refused && !v.getLsbD 8 } } ∧
    s.writePwr 0x108 v.toNat = { s with pwr := { s.pwr with wakeEn := (v &&& 0xFFFF001C) ||| 3 } } ∧
    s.writePwr 0x10C v.toNat = { s with pwr := { s.pwr with wakeCause := s.pwr.wakeCause &&& ~~~ v } } ∧
    s.writePwr 0x110 v.toNat = { s with pwr := { s.pwr with aonTimer := v, aonTimerAt := s.clock } } ∧
    s.writePwr 0x120 v.toNat = { s with pwr := { s.pwr with lockLoss := s.pwr.lockLoss &&& ~~~ ((v >>> 8).setWidth 4) } } ∧
    s.writePwr 0x134 v.toNat = { s with pwr := { s.pwr with rstCause := s.pwr.rstCause &&& ~~~ v.setWidth 9 } } := by
  simp only [State.writePwr, State.setAonTimer, bit_toNat, w32_toNat, ofNat_bits_11_8, BitVec.ofNat_toNat, and_self]

theorem State.writeOtp_registers :
    s.writeOtp 0x04 v.toNat = { s with otp := { s.otp with addr := v.setWidth 11 } } ∧
    s.writeOtp 0x08 v.toNat = { s with otp := { s.otp with wdata := v } } ∧
    s.writeOtp 0x20 v.toNat = { s with otp := { s.otp with tamperSeen := s.otp.tamperSeen &&& ~~~ v.setWidth 4 } } := by
  simp only [State.writeOtp, w32_toNat, BitVec.ofNat_toNat, and_self]

theorem State.writeTc_injStat : s.writeTc 0x300 v.toNat = { s with inj := { s.inj with refused := s.inj.refused && !v.getLsbD 29 } } := by
  simp [State.writeTc]

/-! ### HP_ERR and BAR4_WIN (14 R431) -/

theorem State.writeBar2_bar4Win : s.writeBar2 0x80 v = { s with host := { s.host with bar4Win := v.setWidth 6 } } := by
  rw [s.writeBar2_id 0x80 v (by decide), State.writeId, BitVec.ofNat_toNat]

theorem State.writeBar2_hpErr : s.writeBar2 0x48 v = { s with host := { s.host with err := s.host.err &&& ~~~ (v.setWidth 6) } } := by
  rw [s.writeBar2_id 0x48 v (by decide), State.writeId, BitVec.ofNat_toNat]

end Sys2Proof.Machine
end

section
/-! SUPPORT. RegisterAccess, clause by clause. -/
namespace Sys2Proof.Machine
variable {s : State} {v : Word}

theorem State.Awake.write_readOnly (ha : s.Awake) (h4 : s.shot 4 = false) (bar : Bar) (off : Nat) (hal : off % 4 = 0)
    (hro : writable bar off = false) : exec (.registerWrite bar off v 0xF) s = .next s := by
  cases bar with
  | bar0 => exact ha.exec_write0 h4 hal (s.writeBar0_of_not_writable off v hro)
  | bar2 => exact ha.exec_write2 h4 hal (s.writeBar2_of_not_writable off v hro)

/-- A register of a ring written with the outcome `t` of Ring.writeRingReg. -/
theorem State.Awake.write_ring (ha : s.Awake) (h4 : s.shot 4 = false) {x : Nat × Ring × (Ring → PacketEngine)} (hx : x ∈ s.rings) {off : Nat}
    (hoff : off ∈ [0, 4, 8]) {t : State} (ht : s.writeRingReg x.2.1 (fun r => { s with pe := x.2.2 r }) off v.toNat = t) :
    exec (.registerWrite .bar0 (x.1 + off) v 0xF) s = .next t := by
  obtain ⟨hal, hring⟩ := s.writeBar0_ring v x hx
  refine ha.exec_write0 h4 ?_ ((hring off hoff).trans ht)
  simp only [List.mem_cons, List.not_mem_nil, or_false] at hoff
  omega

/-- A register of an enabled ring is not written, and CFG_ERR says so (02 R53). -/
theorem State.Awake.write_enabledRing (ha : s.Awake) (h4 : s.shot 4 = false) {x : Nat × Ring × (Ring → PacketEngine)} (hx : x ∈ s.rings)
    (hen : x.2.1.en = true) {off : Nat} (hoff : off ∈ [0, 4, 8]) : ∃ t, exec (.registerWrite .bar0 (x.1 + off) v 0xF) s = .next t ∧
      t = { s with pe := { s.pe with cfgErr := true }, host := t.host } :=
  ⟨_, ha.write_ring h4 hx hoff (s.writeRingReg_enabled _ _ _ _ hen), s.setCfgErr_eq⟩

theorem State.Awake.write_pwr (ha : s.Awake) (h4 : s.shot 4 = false) {off : Nat} (hlo : 0x100 ≤ off) (hhi : off < 0x1000) (hal : off % 4 = 0)
    {t : State} (ht : s.writePwr off v.toNat = t) : exec (.registerWrite .bar2 off v 0xF) s = .next t :=
  ha.exec_write2 h4 hal ((s.writeBar2_pwr off v hlo hhi).trans ht)

theorem State.Awake.write_otp (ha : s.Awake) (h4 : s.shot 4 = false) {off : Nat} (hlo : 0x2000 ≤ off) (hhi : off < 0x2100) (hal : off % 4 = 0)
    {t : State} (ht : s.writeOtp (off - 0x2000) v.toNat = t) : exec (.registerWrite .bar2 off v 0xF) s = .next t :=
  ha.exec_write2 h4 hal ((s.writeBar2_otp off v hlo hhi).trans ht)

theorem State.Awake.write_wlCtl (ha : s.Awake) (h4 : s.shot 4 = false) (hheld : s.pwr.blockHeld.getLsbD 16 = false) (h8 : v.getLsbD 8 = false)
    (h9 : v.getLsbD 9 = false) (h10 : v.getLsbD 10 = false) :
    (s.link.en = false ∨ v.getLsbD 0 = true → exec (.registerWrite .bar2 0xA000 v 0xF) s = .next (s.wlCtlSet v)) ∧
    (s.link.en = true → v.getLsbD 0 = false → exec (.registerWrite .bar2 0xA000 v 0xF) s = .next (s.wlCtlSet v).portsDown) := by
  have hwrite := (s.writeBar2_wlCtl v hheld).trans (s.writeWlCtl_eq v h8 h9 h10)
  refine ⟨fun hstays => ha.exec_write2 h4 rfl (hwrite.trans (if_neg (Bool.eq_false_iff.1 ?_))),
    fun hon hoff => ha.exec_write2 h4 rfl (hwrite.trans (if_pos ?_))⟩
  · rcases hstays with h | h <;> simp only [h, Bool.false_and, Bool.not_true, Bool.and_false]
  · rw [hon, hoff]
    rfl

/-- Settles O15: a write decodes to the law of its register and one of no register leaves the state, a read to its value and the high word that it
takes or keeps; a block that a write stops, the link's ports, is followed through the ring break that each port tells. -/
theorem registerAccess : Obligations.RegisterAccess := by
  unfold Obligations.RegisterAccess
  refine ⟨fun bar off v s ha h4 => ?_, fun bar off s ha => ?_, fun s n ha => ?_, fun s v ha h4 => ?_⟩
  · exact ⟨fun be => ha.exec_partialWrite h4 bar, ha.exec_write2 h4 rfl (s.writeBar2_bar4Win v), ha.exec_write2 h4 rfl (s.writeBar2_hpErr v),
      ha.write_readOnly h4 bar off⟩
  · obtain ⟨w, held, hread, hkeeps⟩ := State.readAccess_frame (s := s) (off := off) bar
    exact ⟨s.readOut w held, by rw [ha.exec_read, hread], rfl, hkeeps⟩
  · refine ⟨fun h => ?_, fun w h => ?_, fun hnone x hx => ?_, fun k hk hnone => ?_, fun x hx => ?_⟩
    · obtain ⟨held, hread, hheld⟩ := State.read_headOffsetLo n h
      exact ⟨_, by rw [ha.exec_read, hread], rfl, hheld, rfl⟩
    · obtain ⟨held, hread, hheld⟩ := State.read_headOffsetHi n w h
      exact ⟨_, by rw [ha.exec_read, hread], rfl, hheld, rfl⟩
    · obtain ⟨hal, hlow, hvalue⟩ := State.readBar2_values n x hx
      exact ha.exec_read2 hnone hal hlow hvalue
    · exact ha.exec_read2 hnone (by omega) (by grind [lowWord]) (by rw [s.readBar2_tc k hk]; rfl)
    · obtain ⟨hal, hvalue⟩ := State.readBar0_values x hx
      exact ha.exec_read0 hal (by rw [hvalue]; rfl)
  · refine ⟨fun x hx => ⟨fun hen => ?_, fun hdis => ?_⟩, ha.exec_write0 h4 rfl (s.writeBar0_ringStat v),
      fun i hi => ⟨fun hfree => ?_, fun hbusy => ?_⟩, fun k hk hpba => ?_, fun k hk => ?_, ha.exec_write2 h4 rfl (s.writeBar2_latchLow v),
      ha.exec_write2 h4 rfl (s.writeBar2_latchHigh v), ?_, fun n hboot hheld => ?_, fun k hboot hheld => ?_, ?_, fun hheld h8 h9 h10 => ?_, ?_⟩
    · exact ⟨ha.write_enabledRing h4 hx hen (off := 0) (by simp), ha.write_enabledRing h4 hx hen (off := 4) (by simp),
        ha.write_enabledRing h4 hx hen (off := 8) (by simp)⟩
    · exact ⟨ha.write_ring h4 hx (off := 0) (by simp) (s.writeRingReg_baseLo v _ _ hdis),
        ha.write_ring h4 hx (off := 4) (by simp) (s.writeRingReg_baseHi v _ _ hdis),
        fun hlo hhi => ha.write_ring h4 hx (off := 8) (by simp) (s.writeRingReg_size _ _ _ hdis hlo hhi),
        fun hbad => ⟨_, ha.write_ring h4 hx (off := 8) (by simp) (s.writeRingReg_badSize _ _ _ hdis hbad), s.setCfgErr_eq⟩⟩
    · exact ha.exec_write0 h4 (by omega) ((s.writeBar0_immSlot v i hi).trans (s.writeImmSlot_free v i hfree))
    · exact ⟨_, ha.exec_write0 h4 (by omega) ((s.writeBar0_immSlot v i hi).trans (s.writeImmSlot_busy v i hbusy)), s.setImmLost_eq⟩
    · have hentry (off : Nat) (hoff : off < 16) := s.writeBar0_msixEntry v k off hk hoff hpba
      exact ⟨ha.exec_write0 h4 (by omega) (hentry 0 (by decide)), ha.exec_write0 h4 (by omega) (hentry 4 (by decide)),
        ha.exec_write0 h4 (by omega) (hentry 8 (by decide)), ha.exec_write0 h4 (by omega) (hentry 12 (by decide))⟩
    · exact ⟨ha.exec_write2 h4 (by omega) (s.writeBar2_srcRoute v k hk), ha.exec_write2 h4 (by omega) (s.writeBar2_dstRoute v k hk)⟩
    · rintro pwr rfl
      obtain ⟨hrefused, hwakeEn, hwakeCause, htimer, hlock, hcause⟩ := s.writePwr_registers v
      exact ⟨ha.write_pwr h4 (by decide) (by decide) rfl hrefused, ha.write_pwr h4 (by decide) (by decide) rfl hwakeEn,
        ha.write_pwr h4 (by decide) (by decide) rfl hwakeCause, ha.write_pwr h4 (by decide) (by decide) rfl htimer,
        ha.write_pwr h4 (by decide) (by decide) rfl hlock, ha.write_pwr h4 (by decide) (by decide) rfl hcause⟩
    · exact ha.exec_write2 h4 (by unfold chanOff; omega) (s.writeBar2_shLine v n hboot hheld)
    · have hreg (off : Nat) (hoff : off < 0x40) := s.writeBar2_dmaReg v k off hoff hboot hheld
      obtain ⟨hsrcLo, hsrcHi, hdstLo, hdstHi, hcount⟩ := s.writeDma_operands v k.val
      exact ⟨ha.exec_write2 h4 (by omega) ((hreg 0 (by decide)).trans hsrcLo), ha.exec_write2 h4 (by omega) ((hreg 4 (by decide)).trans hsrcHi),
        ha.exec_write2 h4 (by omega) ((hreg 8 (by decide)).trans hdstLo), ha.exec_write2 h4 (by omega) ((hreg 12 (by decide)).trans hdstHi),
        ha.exec_write2 h4 (by omega) ((hreg 16 (by decide)).trans hcount)⟩
    · obtain ⟨haddr, hdata, htamper⟩ := s.writeOtp_registers v
      exact ⟨ha.write_otp h4 (by decide) (by decide) rfl haddr, ha.write_otp h4 (by decide) (by decide) rfl hdata,
        ha.write_otp h4 (by decide) (by decide) rfl htamper⟩
    · obtain ⟨hstays, hcut⟩ := ha.write_wlCtl h4 hheld h8 h9 h10
      obtain ⟨heast, hwest, hen, hid, hjobs, hchans⟩ := (s.wlCtlSet v).portsDown_down
      exact ⟨hstays, fun hon hoff => ⟨_, hcut hon hoff, hen.trans hoff, heast, hwest, hid, hjobs, hchans⟩⟩
    · exact ha.exec_write2 h4 rfl ((s.writeBar2_tc 0x3300 v (by decide) (by decide)).trans (s.writeTc_injStat v))

end Sys2Proof.Machine
end

section
/-! SUPPORT. Flags in bit vectors, and a count of nothing. -/
namespace Sys2Proof.Machine

theorem getLsbD_setBit {w : Nat} (v : BitVec w) (i j : Nat) (b : Bool) (hj : j < w) :
    (setBit v i b).getLsbD j = if i = j then b else v.getLsbD j := by
  cases b with
  | true =>
    rw [setBit, if_pos rfl, BitVec.getLsbD_or, BitVec.getLsbD_ofNat, Nat.testBit_two_pow]
    by_cases hij : i = j <;> simp [hij, hj]
  | false =>
    rw [setBit, if_neg Bool.false_ne_true, BitVec.getLsbD_and, BitVec.getLsbD_not, BitVec.getLsbD_ofNat, Nat.testBit_two_pow]
    by_cases hij : i = j <;> simp [hij, hj]

/-- A bit set to the value that it has. -/
theorem setBit_getLsbD {w : Nat} (v : BitVec w) (i : Nat) : setBit v i (v.getLsbD i) = v := by
  apply BitVec.eq_of_getLsbD_eq
  intro j hj
  rw [getLsbD_setBit v i j _ hj]
  split
  · next hij => rw [hij]
  · rfl

theorem vset_vget {α : Type} {n : Nat} (v : Vector α n) (i : Nat) (d : α) : vset v i (vget v i d) = v := by
  ext j hj
  by_cases hij : i = j
  · simp [vset, vget, hij, hj]
  · simp [vset, hij]

theorem bump_zero (v : BitVec 16) (sat : Bool) : bump v sat 0 = (v, sat) := by
  have hmax : v.toNat ≤ 0xFFFF := by omega
  simp [bump, Nat.min_eq_right hmax]
  omega

/-- No detection leaves the counters (15 R447). -/
theorem State.countN_zero (s : State) (k : Nat) : s.countN k 0 = s := by
  simp only [State.countN, bump_zero, vset_vget, setBit_getLsbD]

theorem State.isPend_setPend (s : State) (c : Nat) (b : Bool) (hc : c < 128) : (s.setPend c b).isPend c = b :=
  (getLsbD_setBit _ _ _ _ hc).trans (if_pos rfl)

theorem State.Awake.inRunIdle {s : State} (h : s.Awake) : s.inRunIdle = true := by
  obtain ⟨hrun, -⟩ := h
  simp_all [State.inRun, State.inRunIdle]

end Sys2Proof.Machine
end

section
/-! SUPPORT. Source pulses and the lines that they drive (01 R31-R34, R38). -/
namespace Sys2Proof.Machine
variable {s : State}

/-- EV_SOFT puts the pulse of its line on its way (01 R38). -/
theorem State.Awake.exec_evSoft (ha : s.Awake) (h4 : s.shot 4 = false) (l : BitVec 6) :
    exec (.evSoft l) s = .next { s with fab := { s.fab with raised := s.fab.raised ++ [0x80 + l.toNat] } } := by
  have hline : l.toNat % 2 ^ 32 % 64 = l.toNat := by omega
  have hwrite : s.hostWriteReg .bar2 0x9810 l.toNat = s.raise (softSource (l.toNat % 2 ^ 32)) := by
    rw [s.hostWriteReg_awake _ _ _ ha h4]
    exact s.writeBar2_fabric 0x9810 _ (by decide) (by decide)
  have hcore : coreSource (0x80 + l.toNat) = true := by simp [coreSource]
  change Host.Outcome.next (s.hostWriteReg .bar2 0x9810 l.toNat) = _
  rw [hwrite, softSource, hline, s.raise_awake _ ha.inRunIdle (.inr hcore)]

/-- Pulses of which none is on its way already. -/
theorem State.takeRaised_of_none {ks : List Nat} (h : ∀ k, k ∈ ks → k ∉ s.fab.raised) : s.takeRaised ks = s := by
  have herase : ks.foldl List.erase s.fab.raised = s.fab.raised := by
    induction ks with
    | nil => rfl
    | cons k ks ih =>
      rw [List.foldl_cons, List.erase_of_not_mem (h k List.mem_cons_self)]
      exact ih fun x hx => h x (List.mem_cons_of_mem _ hx)
  have haged : (s.fab.raised.take s.fab.aged).filter ks.contains = [] := by
    rw [List.filter_eq_nil_iff]
    intro x hx hk
    exact h x (by simpa using hk) (List.mem_of_mem_take hx)
  rw [State.takeRaised, herase, haged]
  rfl

/-- Sources that pulse in one CORE clock, none of them on its way already (01 R31). -/
theorem State.exec_eventPulse {ks : List Nat} (hrun : s.inRunIdle = true) (hk : ∀ k, k ∈ ks → sourceId k = true ∧ k ∉ s.fab.raised) :
    exec (.eventPulse ks) s = .next (s.pulse ks) := by
  have hsources : ks.filter sourceId = ks := List.filter_eq_self.2 fun k hmem => (hk k hmem).1
  change execEventPulse ks s = _
  rw [execEventPulse, hsources, if_pos hrun, State.takeRaised_of_none fun k hmem => (hk k hmem).2]

theorem State.lineOf_routed {a : Nat} {l : BitVec 6} (ha : a < 0x80) (hid : sourceId a = true) (hsrc : vget s.fab.src a {} = { en := true, line := l }) :
    s.lineOf a = some l := by
  rw [State.lineOf, if_neg (Nat.not_le.2 ha), hsrc, hid]
  rfl

theorem State.lineOf_disabled {a : Nat} (ha : a < 0x80) (hdis : (vget s.fab.src a {}).en = false) : s.lineOf a = none := by
  rw [State.lineOf, if_neg (Nat.not_le.2 ha)]
  simp only [hdis, Bool.false_and, Bool.false_eq_true, if_false]

/-- A pulse of a source without a line is discarded (01 R34). -/
theorem State.pulse_discarded {a : Nat} (h : s.lineOf a = none) : s.pulse [a] = s := by
  simp [State.pulse, h, State.countN_zero]

theorem State.pulse_one {a : Nat} {l : BitVec 6} (h : s.lineOf a = some l) : s.pulse [a] = s.pulseLine l := by
  simp [State.pulse, h, List.eraseDups_cons, State.countN_zero]

/-- Two pulses that meet on one line are one, and one merge counts (01 R32). -/
theorem State.pulse_merged {a b : Nat} {l : BitVec 6} (ha : s.lineOf a = some l) (hb : s.lineOf b = some l) :
    s.pulse [a, b] = (s.count 3).pulseLine l := by
  simp [State.pulse, ha, hb, List.eraseDups_cons, State.count]

/-- A line that no consumer listens to: its latch bit alone (01 R33, R38). -/
theorem State.pulseLine_unheard {l : BitVec 6} (h : ∀ k, k < 128 → (vget s.fab.dst k {}).en = true → (vget s.fab.dst k {}).line ≠ l) :
    s.pulseLine l = s.latchLine l := by
  have hnone : (List.range 128).filter (fun c => (vget s.fab.dst c {}).en && (vget s.fab.dst c {}).line = l) = [] := by
    rw [List.filter_eq_nil_iff]
    intro c hc
    simpa using h c (List.mem_range.1 hc)
  simp only [State.pulseLine, hnone, List.foldl_nil]

/-- A line with one listener: its latch bit, then that consumer (01 R33, R38). -/
theorem State.pulseLine_heard {l : BitVec 6} {c : Nat} (hc : c < 128)
    (honly : ∀ k, k < 128 → (vget s.fab.dst k {}).en = true → (vget s.fab.dst k {}).line = l → k = c)
    (hdst : vget s.fab.dst c {} = { en := true, line := l }) : s.pulseLine l = (s.latchLine l).consume c := by
  have hlistens (k : Nat) (hk : k ∈ List.range 128) :
      ((vget s.fab.dst k {}).en && decide ((vget s.fab.dst k {}).line = l)) = (k == c) := by
    rw [Bool.eq_iff_iff, Bool.and_eq_true, decide_eq_true_iff, beq_iff_eq]
    exact ⟨fun ⟨hen, hline⟩ => honly k (List.mem_range.1 hk) hen hline, fun heq => by rw [heq, hdst]; exact ⟨rfl, rfl⟩⟩
  have hone : (List.range 128).filter (fun k => (vget s.fab.dst k {}).en && decide ((vget s.fab.dst k {}).line = l)) = [c] := by
    rw [List.filter_congr hlistens, List.filter_beq, List.count_eq_one_of_mem List.nodup_range (List.mem_range.2 hc)]
    rfl
  simp only [State.pulseLine, hone, List.foldl_cons, List.foldl_nil]

end Sys2Proof.Machine
end

section
/-! SUPPORT. The strobe consumers: the pending flag, and the flash that the pulse arms (01 R31, R37). -/
namespace Sys2Proof.Machine
variable {s : State}

/-- A consumer of the cameras is in reset with Kettle alone (13 R416). -/
theorem State.consumerReset_camera {c : Nat} (hc : c < 0x18) : s.consumerReset c = s.pe.rebooting := by
  have hlow : c < 0x20 := by omega
  simp [State.consumerReset, hlow, Nat.not_le.2 hc, show ¬ 0x1C ≤ c by omega]

/-- A pulse that finds the pending flag of a camera's consumer set merges with the one that it holds (01 R31). -/
theorem State.consume_pending {c : Nat} (hlo : 0x10 ≤ c) (hhi : c < 0x18) (hboot : s.pe.rebooting = false) (hpend : s.isPend c = true) :
    s.consume c = s.count 3 := by
  rw [State.consume, if_neg (by omega), if_neg (by omega), State.consumerReset_camera hhi, hboot, if_neg Bool.false_ne_true, if_pos hpend]

@[simp] theorem State.latchLine_due (l : BitVec 6) : (s.latchLine l).fab.due = s.fab.due := rfl

/-- The state in which consumer c holds a pulse until the model clock reaches a moment, the free value drawn (01 R31; log entry 6). -/
def State.holding (s : State) (c moment : Nat) : State :=
  { s.draw.2.setPend c true with fab := { (s.draw.2.setPend c true).fab with due := s.fab.due.filter (fun x => x.1 ≠ c) ++ [(c, moment)] } }

/-- A pulse that finds the flag clear is held for 2 or 3 clocks of FIRE (01 R18, R43). -/
theorem State.consume_held {c : Nat} (hlo : 0x10 ≤ c) (hhi : c < 0x18) (hboot : s.pe.rebooting = false) (hpend : s.isPend c = false) :
    s.consume c = s.holding c (s.clock + consumerDelay c s.draw.1) := by
  rw [State.consume, if_neg (by omega), if_neg (by omega), State.consumerReset_camera hhi, hboot, if_neg Bool.false_ne_true, hpend,
    if_neg Bool.false_ne_true]
  rfl

theorem consumerDelay_camera {c : Nat} (hc : c < 0x18) (d : Nat) : 2 ≤ consumerDelay c d ∧ consumerDelay c d ≤ 3 := by
  rw [consumerDelay, if_pos hc]
  omega

theorem State.isPend_holding {c : Nat} (hc : c < 128) (moment : Nat) : (s.holding c moment).isPend c = true :=
  s.draw.2.isPend_setPend c true hc

/-- A pulse at an unarmed strobe arms the flash, unless a survey runs (06 R213). -/
theorem State.armFlash_unarmed {p : Nat} (hp : p < 2) (harmed : (s.port p).flashArmed = false) :
    ((s.armFlash p).port p).flashArmed = decide (s.health.run = none) := by
  unfold State.armFlash
  cases hrun : s.health.run with
  | some run => simpa using harmed
  | none => simp [harmed, hp]

theorem State.armFlash_same {p : Nat} (harmed : (s.port p).flashArmed = false) : s.armFlash p = { s with cam := (s.armFlash p).cam } := by
  unfold State.armFlash
  split
  · rfl
  · rw [harmed, if_neg Bool.false_ne_true]
    rfl

theorem State.act_strobe (p : Fin 2) : s.act (0x10 + p.val) = s.armFlash p.val := by
  have hstrobe : (0x10 + p.val = 0x10 || 0x10 + p.val = 0x11) = true := by
    fin_cases p <;> rfl
  rw [State.act, if_pos hstrobe, Nat.add_sub_cancel_left]

/-- The only consumer that holds a pulse acts once its time has come, its flag cleared (01 R31). -/
theorem State.consumersAct_one {c moment : Nat} (hdue : s.fab.due = [(c, moment)]) (hpend : s.isPend c = true) (htime : moment ≤ s.clock)
    (hruns : s.consumerRuns c = true) :
    s.consumersAct = (({ s with fab := { s.fab with due := [] } } : State).setPend c false).act c := by
  have hset : State.isPend { s with fab := { s.fab with due := [] } } c = true := hpend
  have hclocked : State.consumerRuns { s with fab := { s.fab with due := [] } } c = true := hruns
  rw [State.consumersAct, hdue, List.foldl_cons, List.foldl_nil, State.consumerActs, hset, hclocked, if_neg (by decide), if_pos (by simp [htime])]

end Sys2Proof.Machine
end

section
/-! SUPPORT. What the hand-overs of a tick leave (04 R143, R147; log entry 1). -/
namespace Sys2Proof.Machine
variable {s : State}

/-- Nothing differs but channels, counters, pulses on their way and latch bits: what a hand-over can touch. -/
def State.SameButHandOvers (s t : State) : Prop :=
  t = { s with chans := t.chans, tc := t.tc, fab := { s.fab with raised := t.fab.raised, latch := t.fab.latch } }

theorem State.SameButHandOvers.trans {s t u : State} (h : s.SameButHandOvers t) (g : t.SameButHandOvers u) : s.SameButHandOvers u := by
  unfold State.SameButHandOvers at *
  rw [g, h]

theorem State.SameButHandOvers.isPend {s t : State} (h : s.SameButHandOvers t) (c : Nat) : t.isPend c = s.isPend c := by
  rw [h]
  rfl

theorem State.SameButHandOvers.port {s t : State} (h : s.SameButHandOvers t) (p : Nat) : t.port p = s.port p := by
  rw [h]
  rfl

theorem State.raise_sameButHandOvers (k : Nat) : s.SameButHandOvers (s.raise k) := by
  unfold State.raise
  split
  · split
    · split <;> rfl
    · rfl
  · split <;> rfl

theorem State.handOver_same (n : Nat) : s.SameButHandOvers (s.handOver n) := by
  have hgo (t : State) (f : Chan → Chan) : t.SameButHandOvers ((t.modChan n f).raise 0x1D) :=
    State.SameButHandOvers.trans (t := t.modChan n f) rfl (State.raise_sameButHandOvers _)
  unfold State.handOver
  extract_lets live
  have hlive : s.SameButHandOvers live := by
    simp only [live]
    split
    · exact hgo s _
    · rfl
  split
  · exact hlive.trans (hgo live _)
  · exact hlive

theorem State.handOvers_same : s.SameButHandOvers s.handOvers := by
  unfold State.handOvers
  refine List.foldlRecOn _ _ (motive := fun t => s.SameButHandOvers t) rfl fun t ht n _ => ht.trans ?_
  exact t.handOver_same n

/-- A tick in RUN or IDLE with no pulse on its way, no released shot and nothing queued for Kettle: consumers act, then hand-overs. -/
theorem tick_quiet (hrun : s.inRunIdle = true) (hraised : s.fab.raised = []) {t : State}
    (hact : ({ s with clock := s.clock + 1 } : State).advanceTime.consumersAct = t) (hshot : t.inj.released = none) (hqueue : t.pe.queue = []) :
    tick s = t.handOvers := by
  have hpulse : ({ s with clock := s.clock + 1 } : State).advanceTime.pulseRaised = ({ s with clock := s.clock + 1 } : State).advanceTime :=
    if_pos hraised
  have hno : t.handOvers.inj.released = none := by rw [t.handOvers_same]; exact hshot
  have hnone : t.handOvers.pe.queue = [] := by rw [t.handOvers_same]; exact hqueue
  have hidle : State.inRunIdle { s with clock := s.clock + 1 } = true := hrun
  simp only [tick, hidle, if_true, hpulse, hact]
  rw [State.actNow, hno]
  dsimp only
  rw [State.waitUpkeep, hnone]

/-- A held strobe pulse whose time has come at the next tick: the flag clears and the pulse arms the flash, unless a survey runs (01 R31, R37, 06 R213). -/
theorem tick_strobe (p : Fin 2) {moment : Nat} (hrun : s.inRunIdle = true) (hraised : s.fab.raised = []) (hshot : s.inj.released = none)
    (hqueue : s.pe.queue = []) (hdue : s.fab.due = [(0x10 + p.val, moment)]) (hpend : s.isPend (0x10 + p.val) = true) (htime : moment ≤ s.clock + 1)
    (harmed : (s.port p.val).flashArmed = false) :
    (tick s).isPend (0x10 + p.val) = false ∧ ((tick s).port p.val).flashArmed = decide (s.health.run = none) := by
  let now : State := ({ s with clock := s.clock + 1 } : State).advanceTime
  let cleared : State := ({ now with fab := { now.fab with due := [] } } : State).setPend (0x10 + p.val) false
  have hp := p.isLt
  have hruns : now.consumerRuns (0x10 + p.val) = true := by
    simp [State.consumerRuns, show ¬ 0x18 ≤ 0x10 + p.val by omega]
  have hact : now.consumersAct = cleared.armFlash p.val :=
    (State.consumersAct_one (s := now) hdue hpend htime hruns).trans (State.act_strobe p)
  have hunarmed : (cleared.port p.val).flashArmed = false := harmed
  have hsame := State.armFlash_same hunarmed
  have htick : tick s = (cleared.armFlash p.val).handOvers :=
    tick_quiet hrun hraised hact (by rw [hsame]; exact hshot) (by rw [hsame]; exact hqueue)
  have hkept := (cleared.armFlash p.val).handOvers_same
  rw [htick, hkept.isPend, hkept.port, State.armFlash_unarmed hp hunarmed]
  refine ⟨?_, rfl⟩
  rw [hsame]
  exact State.isPend_setPend _ _ false (by omega)

end Sys2Proof.Machine
end

section
/-! SUPPORT. The event ring (02 R60-R62, 14 R427). -/
namespace Sys2Proof.Machine
variable {s : State}

@[simp] theorem length_toLe (n k : Nat) : (toLe n k).length = n := by
  induction n generalizing k with
  | zero => rfl
  | succ n ih => rw [toLe, List.length_cons, ih]

/-- A header of 12 bytes, the CRC and the parameters fill whole slots (02 R45-R47). -/
theorem length_withCrc {head params : Bytes} (h : head.length = 12) : (withCrc head params).length = 64 * slotsOf params.length := by
  have hfits : 16 + params.length ≤ 64 * slotsOf params.length := by
    unfold slotsOf ceilDiv
    omega
  simp only [withCrc, List.length_append, length_toLe, pad, List.length_replicate, h]
  omega

/-- An event record fills one slot (02 R60). -/
theorem State.eventBytes_length (opcode : Nat) (tb : BitVec 64) (code data : Nat) : (s.eventBytes opcode tb code data).length = 64 := by
  rw [State.eventBytes, length_withCrc (by simp [headerBytes])]
  simp [slotsOf, ceilDiv]

/-- A record shows the device's ID and the depth of Kettle's queue, nothing else of the state (02 R45). -/
theorem State.eventBytes_congr {t : State} (hlink : t.link = s.link) (hqueue : t.pe.queue = s.pe.queue) : t.eventBytes = s.eventBytes := by
  funext opcode tb code data
  rw [State.eventBytes, State.eventBytes, State.deviceId, State.deviceId, hlink, hqueue]

theorem State.raiseVector_closed {v : Nat} (h : s.vectorOpen v = false) :
    s.raiseVector v = { s with host := { s.host with pba := setBit s.host.pba v true } } := by
  rw [State.raiseVector, h]
  rfl

/-- The event ring is enabled, its TAIL inside it, host memory reached, and every vector waits in the PBA (02 R49, 14 R428). -/
structure State.EventsUsable (s : State) : Prop where
  en : s.pe.evt.en = true
  bme : s.host.bme = true
  tail : s.pe.evt.tail < s.pe.evt.slots
  mem : swf 0 s.host.mem = true
  closed : ∀ v, v < 32 → s.vectorOpen v = false

/-- The record b lies at the EVT_TAIL of s, and the rest of host memory is as it was (02 R60). -/
def State.Records (s t : State) (b : Bytes) : Prop :=
  (∀ i, i < 64 → mget t.host.mem (s.pe.evt.base.toNat + 64 * s.pe.evt.tail + i) = b.getD i 0) ∧
    ∀ a, a < s.pe.evt.base.toNat + 64 * s.pe.evt.tail ∨ s.pe.evt.base.toNat + 64 * (s.pe.evt.tail + 1) ≤ a → mget t.host.mem a = mget s.host.mem a

theorem State.EventsUsable.records (h : s.EventsUsable) {t : State} {b : Bytes} (hb : b.length = 64)
    (hmem : t.host.mem = mwrite s.host.mem (s.pe.evt.addr s.pe.evt.tail) b) : s.Records t b := by
  have haddr : s.pe.evt.addr s.pe.evt.tail = s.pe.evt.base.toNat + 64 * s.pe.evt.tail := by rw [Ring.addr, Nat.mod_eq_of_lt h.tail]
  rw [haddr] at hmem
  refine ⟨fun i hi => ?_, fun a ha => ?_⟩
  · rw [hmem, mget_mwrite _ _ _ _ h.mem (by omega)]
  · rw [hmem, mget_mwrite_outside _ _ _ _ h.mem (by omega)]

/-- The state with the record b in the event ring and, where a vector goes with it, that vector waiting (02 R60, 14 R427, R428). -/
def State.recorded (s : State) (b : Bytes) (v : Option Nat) : State :=
  { s with
    pe := { s.pe with evt := { s.pe.evt with tail := (s.pe.evt.tail + 1) % s.pe.evt.slots } }
    host := { s.host with
      mem := mwrite s.host.mem (s.pe.evt.addr s.pe.evt.tail) b
      pba := v.elim s.host.pba (fun v => setBit s.host.pba v true) } }

theorem eventVector_lt {fabric : Bool} {code v : Nat} (h : eventVector fabric code = some v) : v < 32 := by
  cases fabric with
  | true => by_cases hcode : code ≤ 28 <;> simp [eventVector, hcode] at h <;> omega
  | false => by_cases hcode : code = 0x40 <;> simp [eventVector, hcode] at h; omega

theorem State.recorded_pba (b : Bytes) (fabric : Bool) (code : Nat) : (s.recorded b (eventVector fabric code)).host.pba =
    if fabric = false ∧ code = 0x40 then s.host.pba else setBit s.host.pba (if fabric = true ∧ code ≤ 28 then code + 3 else 1) true := by
  cases fabric with
  | true => by_cases hcode : code ≤ 28 <;> simp [State.recorded, eventVector, hcode]
  | false => by_cases hcode : code = 0x40 <;> simp [State.recorded, eventVector, hcode]

/-- The vector of a record that has been stored waits, since a record leaves the masks as they were. -/
theorem State.EventsUsable.raiseVector_stored (h : s.EventsUsable) (b : Bytes) {v : Nat} (hv : v < 32) :
    ({ s.hostWrite (s.pe.evt.addr s.pe.evt.tail) b with
      pe := { s.pe with evt := { s.pe.evt with tail := (s.pe.evt.tail + 1) % s.pe.evt.slots } } } : State).raiseVector v = s.recorded b (some v) :=
  State.raiseVector_closed (h.closed v hv)

theorem State.EventsUsable.writeEvent_eq (h : s.EventsUsable) (fabric : Bool) (tb : BitVec 64) (code data : Nat) :
    s.writeEvent fabric tb code data =
      s.recorded (s.eventBytes (if fabric then 0xE000 else 0xE100) tb code data) (eventVector fabric code) := by
  unfold State.writeEvent
  extract_lets r stored engine advanced
  cases hv : eventVector fabric code with
  | none => rfl
  | some v => exact h.raiseVector_stored _ (eventVector_lt hv)

theorem State.EventsUsable.records_recorded (h : s.EventsUsable) {b : Bytes} (hb : b.length = 64) (v : Option Nat) : s.Records (s.recorded b v) b :=
  h.records hb rfl

theorem State.EventsUsable.fits (h : s.EventsUsable) (hfree : 0 < s.pe.evt.free) : s.eventFits = true := by
  simp [State.eventFits, h.en, h.bme, hfree]

/-- With a free slot and none dropped before, an event is a record more. -/
theorem State.EventsUsable.event_eq (h : s.EventsUsable) (hfree : 0 < s.pe.evt.free) (hdropped : s.pe.evtDropped = 0) (hshot : s.shot 2 = false)
    (fabric : Bool) (tb : BitVec 64) (code data : Nat) :
    s.event fabric tb code data = s.recorded (s.eventBytes (if fabric then 0xE000 else 0xE100) tb code data) (eventVector fabric code) := by
  have hlost : s.eventsLost = s := by simp [State.eventsLost, hdropped]
  rw [State.event, hlost, s.detect_eq 2 _ hshot, h.fits hfree]
  exact h.writeEvent_eq _ _ _ _

/-- An event that finds no slot is dropped (02 R62). -/
theorem State.event_dropped (hfull : s.eventFits = false) (hshot : s.shot 2 = false) (fabric : Bool) (tb : BitVec 64) (code data : Nat) :
    s.event fabric tb code data = s.dropEvent := by
  have hlost : s.eventsLost = s := by simp [State.eventsLost, hfull]
  rw [State.event, hlost, s.detect_eq 2 _ hshot, hfull]
  rfl

theorem State.eventFits_eq_false (h : s.pe.evt.en = false ∨ s.host.bme = false ∨ s.pe.evt.free = 0) : s.eventFits = false := by
  rcases h with h | h | h <;> simp [State.eventFits, h]

theorem State.setEvtLost_eq : s.setEvtLost = { s with pe := { s.pe with evtLost := true }, host := s.setEvtLost.host } := by
  unfold State.setEvtLost
  split
  · next h => rw [← h]
  · have hsame := State.raiseVector_same { s with pe := { s.pe with evtLost := true } } 2
    rwa [State.SameButReplies, State.raiseVector_pe] at hsame

/-- A dropped record is counted, and EVT_LOST set (02 R62). -/
theorem State.dropEvent_eq : s.dropEvent =
    { s with pe := { s.pe with evtDropped := s.pe.evtDropped + 1, evtLost := true }, host := s.dropEvent.host, tc := (s.count 2).tc } := by
  unfold State.dropEvent
  rw [State.setEvtLost_eq]
  rfl

/-- A ring is full only with HEAD one slot past TAIL (02 R50). -/
theorem Ring.free_pos {r : Ring} (htail : r.tail < r.slots) (hhead : r.head < r.slots) (h : r.head ≠ (r.tail + 1) % r.slots) : 0 < r.free := by
  unfold Ring.free Ring.used
  by_cases hle : r.head ≤ r.tail
  · have hnotLast : ¬ (r.tail + 1 = r.slots ∧ r.head = 0) := fun ⟨hwrap, hzero⟩ => h (by rw [hwrap, Nat.mod_self, hzero])
    have hused : (r.tail + r.slots - r.head) % r.slots = r.tail - r.head := by
      rw [show r.tail + r.slots - r.head = r.tail - r.head + r.slots by omega, Nat.add_mod_right, Nat.mod_eq_of_lt (by omega)]
    omega
  · rw [Nat.mod_eq_of_lt (show r.tail + 1 < r.slots by omega)] at h
    rw [Nat.mod_eq_of_lt (show r.tail + r.slots - r.head < r.slots by omega)]
    omega

/-- EVT_HEAD moved to a slot (02 R50, R52). -/
def State.withEvtHead (s : State) (i : Nat) : State := { s with pe := { s.pe with evt := { s.pe.evt with head := i } } }

/-- Every dropped record has been told (02 R62). -/
def State.noneDropped (s : State) : State := { s with pe := { s.pe with evtDropped := 0 } }

theorem State.EventsUsable.withEvtHead (h : s.EventsUsable) (i : Nat) : (s.withEvtHead i).EventsUsable := ⟨h.en, h.bme, h.tail, h.mem, h.closed⟩
theorem State.EventsUsable.noneDropped (h : s.EventsUsable) : s.noneDropped.EventsUsable := ⟨h.en, h.bme, h.tail, h.mem, h.closed⟩
theorem State.EventsUsable.latchLine (h : s.EventsUsable) (l : BitVec 6) : (s.latchLine l).EventsUsable := ⟨h.en, h.bme, h.tail, h.mem, h.closed⟩
theorem State.EventsUsable.draw (h : s.EventsUsable) : s.draw.2.EventsUsable := ⟨h.en, h.bme, h.tail, h.mem, h.closed⟩

@[simp] theorem State.eventBytes_withEvtHead (i : Nat) : (s.withEvtHead i).eventBytes = s.eventBytes := State.eventBytes_congr rfl rfl
@[simp] theorem State.eventBytes_noneDropped : s.noneDropped.eventBytes = s.eventBytes := State.eventBytes_congr rfl rfl
@[simp] theorem State.eventBytes_latchLine (l : BitVec 6) : (s.latchLine l).eventBytes = s.eventBytes := State.eventBytes_congr rfl rfl
@[simp] theorem State.eventBytes_draw : s.draw.2.eventBytes = s.eventBytes := State.eventBytes_congr rfl rfl

/-- A free slot after dropped records takes the one that tells how many they were (02 R62). -/
theorem State.EventsUsable.eventsLost_eq (h : s.EventsUsable) (hfree : 0 < s.pe.evt.free) (hdropped : s.pe.evtDropped ≠ 0) :
    s.eventsLost = s.noneDropped.recorded (s.eventBytes 0xE100 s.timebase 3 s.pe.evtDropped) (some 1) := by
  have hwritten := h.noneDropped.writeEvent_eq false s.timebase 3 s.pe.evtDropped
  rw [State.eventBytes_noneDropped] at hwritten
  rw [State.eventsLost, h.fits hfree, if_pos (by simpa using hdropped)]
  exact hwritten

/-- EVT_HEAD written inside the ring (02 R50, R52, R62). -/
theorem State.Awake.exec_evtHead (ha : s.Awake) (h4 : s.shot 4 = false) {v : Word} (hv : v.toNat % 4096 < s.pe.evt.slots) :
    exec (.evtHead v) s = .next (s.withEvtHead (v.toNat % 4096)).eventsLost := by
  have hwrite : s.hostWriteReg .bar0 0x50 v.toNat = s.writeEvtHead v.toNat := by
    rw [s.hostWriteReg_awake _ _ _ ha h4, w32_toNat]
    rfl
  change Host.Outcome.next (s.hostWriteReg .bar0 0x50 v.toNat) = _
  rw [hwrite, State.writeEvtHead, if_neg (by omega)]
  rfl

theorem State.act_input {n : Nat} (hn : n < 32) : s.act (0x20 + n) = s.fabricEvent n := by
  rw [State.act, if_neg (by simp; omega), if_neg (by simp; omega), if_neg (by simp), if_pos (by simp; omega), Nat.add_sub_cancel_left]

/-- An event-ring input acts in the clock of its line (01 R37). -/
theorem State.consume_input {n : Nat} (hn : n < 32) : s.consume (0x20 + n) = s.fabricEvent n := by
  rw [State.consume, if_neg (by omega), if_pos (by omega), State.act_input hn]

/-- An event-ring input writes a record of itself, whose DATA is a free value (02 R60; log entry 6). -/
theorem State.EventsUsable.fabricEvent_eq (h : s.EventsUsable) (hfree : 0 < s.pe.evt.free) (hdropped : s.pe.evtDropped = 0) (hshot : s.shot 2 = false)
    (n : Nat) : s.fabricEvent n = s.draw.2.recorded (s.eventBytes 0xE000 s.timebase n s.draw.1) (eventVector true n) := by
  have hevent := h.draw.event_eq hfree hdropped hshot true s.timebase n s.draw.1
  rw [State.eventBytes_draw] at hevent
  exact hevent

end Sys2Proof.Machine
end

section
/-! SUPPORT. EventFabric, clause by clause. -/
namespace Sys2Proof.Machine
variable {s : State}

/-- One source that pulses on an enabled route, not on its way already: a pulse of its line. -/
theorem State.exec_eventPulse_routed {a : Nat} {l : BitVec 6} (hrun : s.inRunIdle = true) (hid : sourceId a = true) (ha : a < 0x80)
    (hsrc : vget s.fab.src a {} = { en := true, line := l }) (hnew : a ∉ s.fab.raised) : exec (.eventPulse [a]) s = .next (s.pulseLine l) := by
  rw [State.exec_eventPulse hrun (by simp [hid, hnew]), State.pulse_one (State.lineOf_routed ha hid hsrc)]

/-- Settles O20: a pulse of one source, or of two that meet, is a pulse of their line; the line's one listener holds it, merges it or records it; a
held strobe pulse acts in the tick of its time; a usable event ring takes a record at TAIL, any other drops it. -/
theorem eventFabric : Obligations.EventFabric := by
  unfold Obligations.EventFabric
  intro s unheard
  refine ⟨fun l ha h4 => ha.exec_evSoft h4 l, fun a b l hrun hida hidb hab ha hb hsrc hnew => ⟨fun hno => ?_, fun hsrcb hnewb hno => ?_, ?_⟩, ?_, ?_, ?_⟩
  · rw [State.exec_eventPulse_routed hrun hida ha hsrc hnew, State.pulseLine_unheard hno]
  · rw [State.exec_eventPulse hrun (by simp [hida, hidb, hnew, hnewb]),
      State.pulse_merged (State.lineOf_routed ha hida hsrc) (State.lineOf_routed hb hidb hsrcb)]
    exact congrArg _ (State.pulseLine_unheard (s := s.count 3) hno)
  · intro p hboot honly hdst
    have hp := p.isLt
    rw [State.exec_eventPulse_routed hrun hida ha hsrc hnew, State.pulseLine_heard (by omega) honly hdst]
    refine ⟨fun hpend => ?_, fun hpend hdue => ?_⟩
    · rw [State.consume_pending (s := s.latchLine l) (by omega) (by omega) hboot hpend]
    · rw [State.consume_held (s := s.latchLine l) (by omega) (by omega) hboot hpend]
      obtain ⟨hmin, hmax⟩ := consumerDelay_camera (c := 0x10 + p.val) (by omega) (s.latchLine l).draw.1
      exact ⟨_, _, rfl, State.isPend_holding (by omega) _, by simp [State.holding, hdue], hmin, hmax, rfl, rfl, rfl⟩
  · intro p c hrun hpending hraised hshot hqueue hdue hpend htime harmed
    exact ⟨tick s, by rw [step, hpending], tick_strobe p hrun hraised hshot hqueue hdue hpend htime harmed⟩
  · intro a hrun hid ha hdis hnew
    rw [State.exec_eventPulse hrun (by simp [hid, hnew]), State.pulse_discarded (State.lineOf_disabled ha hdis)]
  · rintro r rfl usable record
    refine ⟨fun fabric tb code data hshot => ⟨?_, fun hfull => ?_⟩, ?_, ?_⟩
    · rintro ⟨hen, hbme, htail, hmem, hclosed⟩ hfree hdropped
      have husable : s.EventsUsable := ⟨hen, hbme, htail, hmem, hclosed⟩
      rw [husable.event_eq hfree hdropped hshot]
      exact ⟨rfl, rfl, husable.records_recorded (s.eventBytes_length _ _ _ _) _, s.recorded_pba _ _ _⟩
    · rw [State.event_dropped (State.eventFits_eq_false hfull) hshot, State.dropEvent_eq]
      exact ⟨rfl, rfl, rfl⟩
    · rintro v ha h4 ⟨hen, hbme, htail, hmem, hclosed⟩ hdropped hhead hfree
      have husable : s.EventsUsable := ⟨hen, hbme, htail, hmem, hclosed⟩
      have hmoved := husable.withEvtHead (v.toNat % 4096)
      have hlost := hmoved.eventsLost_eq (Ring.free_pos htail hhead hfree) hdropped
      rw [State.eventBytes_withEvtHead] at hlost
      have hrecords := hmoved.noneDropped.records_recorded (s.eventBytes_length 0xE100 s.timebase 3 s.pe.evtDropped) (some 1)
      exact ⟨_, (ha.exec_evtHead h4 hhead).trans (congrArg _ hlost), rfl, hrecords, rfl⟩
    · rintro a l n hrun hid ha hsrc hnew honly hdst hshot ⟨hen, hbme, htail, hmem, hclosed⟩ hfree hdropped
      have husable : (s.latchLine l).EventsUsable := State.EventsUsable.latchLine ⟨hen, hbme, htail, hmem, hclosed⟩ l
      have hrecorded := husable.fabricEvent_eq hfree hdropped hshot n.val
      rw [State.eventBytes_latchLine] at hrecorded
      have hrecords := husable.draw.records_recorded (s.eventBytes_length 0xE000 s.timebase n.val s.draw.1) (eventVector true n.val)
      rw [State.exec_eventPulse_routed hrun hid ha hsrc hnew, State.pulseLine_heard (by omega) honly hdst, State.consume_input n.isLt, hrecorded]
      exact ⟨_, _, rfl, hrecords, rfl, rfl, rfl, rfl⟩

end Sys2Proof.Machine
end

section
/-! SUPPORT. The invariant (02 R63, R81, 13 R421) under each operation of the machine, file by file. -/
namespace Sys2Proof.Machine
variable {s t : State}

/-- The parts of a state that the invariant speaks of. -/
def State.kept (s : State) : List Host.Cell × List Host.Cell × List (Nat × BitVec 16) × List (Nat × OtpWord) × List QPacket × List Reply × Word :=
  (s.mem.store, s.host.mem, s.mirror.sram, s.otp.words, s.pe.queue, s.pe.hold, s.pwr.wakeEn)

/-- A state that agrees on those parts has the invariant too. -/
theorem State.Inv.same (h : s.Inv) (e : t.kept = s.kept) : t.Inv := by
  simp only [State.kept, Prod.mk.injEq] at e
  obtain ⟨hstore, hhost, hsram, hotp, hqueue, hhold, hwake⟩ := e
  exact h.congr hstore hhost hqueue hhold hwake hsram hotp

theorem State.Inv.ite {c : Prop} [Decidable c] (hs : s.Inv) (ht : t.Inv) : (if c then s else t).Inv := by
  split
  · exact hs
  · exact ht

/-- An operation that is made in one case only. -/
theorem State.Inv.ite_of {c : Prop} [Decidable c] {f : State → State} (hs : s.Inv) (hf : ∀ {u : State}, u.Inv → (f u).Inv) :
    (if c then f s else s).Inv := .ite (hf hs) hs

theorem State.Inv.ite_snd {α : Type} {c : Prop} [Decidable c] {x y : α × State} (hx : x.2.Inv) (hy : y.2.Inv) : (if c then x else y).2.Inv := by
  split
  · exact hx
  · exact hy

/-- A command completes in a state with the invariant. -/
def Completes (o : Host.Outcome State Fault Refusal) : Prop := ∃ t, o = .next t ∧ t.Inv

theorem Completes.next (h : t.Inv) : Completes (.next t) := ⟨t, rfl, h⟩

theorem Completes.ite {c : Prop} [Decidable c] {x y : Host.Outcome State Fault Refusal} (hx : Completes x) (hy : Completes y) :
    Completes (if c then x else y) := by
  split
  · exact hx
  · exact hy

end Sys2Proof.Machine
end

section
/-! SUPPORT. The invariant under each operation that the commands are made of, callees first. -/
namespace Sys2Proof.Machine
variable {s : State}

theorem State.Inv.waitUpkeep (h : s.Inv) : (s.waitUpkeep).Inv := by
  unfold State.waitUpkeep
  split
  · exact .ite (h.same rfl) h
  · exact h
theorem State.Inv.recovered (h : s.Inv) : (s.recovered).Inv := State.Inv.count (by exact h.same rfl) _
theorem State.Inv.linkLost (h : s.Inv) : (s.linkLost).Inv := h.same rfl
theorem State.Inv.freeBytes (h : s.Inv) (n : Nat) : (s.freeBytes n).2.Inv := h.same rfl
theorem State.Inv.dmaSource (h : s.Inv) (r : DmaRun) : (s.dmaSource r).2.Inv := .ite_snd h h.draw
theorem State.Inv.dmaWrite (h : s.Inv) (a : BitVec 64) (b : Bytes) : (s.dmaWrite a b).Inv := by
  unfold State.dmaWrite
  split
  · exact h.hostWrite _ _
  · exact h.storeWrite _ _
  · exact h.same rfl
theorem State.Inv.dmaPart (h : s.Inv) (r : DmaRun) : (s.dmaPart r).2.Inv :=
  .ite (State.Inv.dmaWrite (.ite_snd (h.draw.freeBytes _) (h.draw.dmaSource _)) _ _)
    (State.Inv.dmaWrite (.ite_snd (h.draw.freeBytes _) (h.draw.dmaSource _)) _ _)
theorem State.Inv.dmaBegin (h : s.Inv) (k : Nat) : (s.dmaBegin k).Inv :=
  .ite (((h.detect _ _).modDma _ _).count _) (.ite (((h.detect _ _).modDma _ _).raise _) ((h.detect _ _).modDma _ _))
theorem State.Inv.dmaNext (h : s.Inv) (k : Nat) : (s.dmaNext k).Inv := .ite (((h.modDma _ _).setPend _ _).dmaBegin _) h
theorem State.Inv.dmaFail (h : s.Inv) (k : Nat) : (s.dmaFail k).Inv := by
  unfold State.dmaFail
  split
  · exact h
  · exact (((h.dmaPart _).modDma _ _).count _).dmaNext _
theorem State.Inv.dmaLoseHost (h : s.Inv) : (s.dmaLoseHost).Inv := by
  unfold State.dmaLoseHost
  exact inv_foldl _ (fun _ _ h => .ite (h.dmaFail _) h) _ _ h
theorem State.Inv.orphanOver (h : s.Inv) (all : Bool) : (s.orphanOver all).2.Inv := .ite_snd h h.draw
theorem State.Inv.modTile (h : s.Inv) (id : Nat) (f : Tile → Tile) : (s.modTile id f).Inv := h.same rfl
theorem State.Inv.takePktId (h : s.Inv) : (s.takePktId).2.Inv := h.same rfl
theorem State.Inv.sendReply (h : s.Inv) (dest : Byte) (r : Reply) : (s.sendReply dest r).Inv := h.sendNewPkt _ _ _
theorem State.Inv.endTile (h : s.Inv) (t : Tile) (st : BitVec 16) : (s.endTile t st).Inv := by
  unfold State.endTile
  refine State.Inv.reply ?_ _ _ _ _ _
  exact h.same rfl
theorem State.Inv.bankWrote (h : s.Inv) (b : Nat) (k : Nat) : (s.bankWrote b k).Inv := h.modBank _ _
theorem State.Inv.markRow (h : s.Inv) (slot : Nat) (t : Tile) (row : Nat) : (s.markRow slot t row).Inv := (h.bankWrote _ _).modJob _ _
theorem State.Inv.lateTile (h : s.Inv) (t : Tile) : (s.lateTile t).Inv := .ite h ((h.count _).modTile _ _)
theorem State.Inv.markOrDrop (h : s.Inv) (slot : Nat) (id : Nat) (row : Nat) : (s.markOrDrop slot id row).Inv := by
  unfold State.markOrDrop
  split
  · exact .ite (h.markRow _ _ _) (h.lateTile _)
  · exact h
theorem State.Inv.failTile (h : s.Inv) (t : Tile) (off : Nat) : (s.failTile t off).Inv := by
  unfold State.failTile
  refine .ite (.ite ((h.orphanOver _).endTile _ _) (h.orphanOver _)) ?_
  split
  · exact h.endTile _ _
  · refine State.Inv.endTile ?_ _ _
    exact inv_foldl _ (fun _ _ h => h.markOrDrop _ _ _) _ _ h
theorem State.Inv.failTileData (h : s.Inv) (t : Tile) : (s.failTileData t).Inv := by
  unfold State.failTileData
  exact State.Inv.reply (by exact h.same rfl) _ _ _ _ _
theorem State.Inv.countTileFail (h : s.Inv) (ts : List Tile) : (s.countTileFail ts).Inv := .ite (h.count _) h
theorem State.Inv.failRead (h : s.Inv) (ts : List Tile) (off : Tile → Nat) : (s.failRead ts off).Inv := by
  unfold State.failRead
  exact inv_foldl _ (fun _ _ h => .ite (h.failTile _ _) (h.failTileData _)) _ _ (h.countTileFail _)
theorem State.Inv.failTiles (h : s.Inv) : (s.failTiles).Inv := by
  unfold State.failTiles
  exact inv_foldl _ (fun _ _ h => h.failRead _ _) _ _ h
theorem State.Inv.clearBme (h : s.Inv) : (s.clearBme).Inv := State.Inv.dmaLoseHost (State.Inv.failTiles (by exact h.same rfl))
theorem State.Inv.ringReset (h : s.Inv) : s.ringReset.Inv := { h with queue := Nat.zero_le _, hold := Nat.zero_le _ }
theorem State.Inv.resetEndpoint (h : s.Inv) : (s.resetEndpoint).Inv := h.same rfl
theorem State.Inv.conventionalReset (h : s.Inv) : (s.conventionalReset).Inv := h.resetEndpoint.ringReset.clearBme
theorem State.Inv.pcieDown (h : s.Inv) : (s.pcieDown).Inv :=
  .ite ((h.conventionalReset.linkLost.reportAer _).count _) (h.conventionalReset.linkLost.reportAer _)
theorem State.Inv.addEntry (h : s.Inv) (j : Nat) (e : Entry) : (s.addEntry j e).Inv := by
  unfold State.addEntry
  split
  · exact h
  · split
    · split
      · exact (h.modJob _ _).storeWrite _ _
      · exact h.modJob _ _
    · refine .ite (.ite ((h.detect _ _).modJob _ _) (((h.detect _ _).modJob _ _).count _)) ?_
      exact ((h.detect _ _).modJob _ _).storeWrite _ _
theorem State.Inv.shotOverflow (h : s.Inv) : (s.shotOverflow).Inv := by
  unfold State.shotOverflow
  split
  · exact h
  · split
    · exact h
    · exact (h.shotTaken.count _).addEntry _ _
theorem State.Inv.setApplied (h : s.Inv) (n : Nat) (l : Nat) : (s.setApplied n l).Inv := .ite ((h.modChan _ _).count _) (h.modChan _ _)
theorem State.Inv.markSuspect (h : s.Inv) (x : Sensor) : (s.markSuspect x).Inv := (h.modSensor _ _).count _
theorem State.Inv.wipeCaddy (h : s.Inv) : (s.wipeCaddy).Inv := h.same rfl
theorem State.Inv.tamperActs (h : s.Inv) : (s.tamperActs).Inv := State.Inv.raise (State.Inv.count (by exact h.wipeCaddy.same rfl) _) _
theorem State.Inv.freeJobs (h : s.Inv) : (s.freeJobs).Inv := h.same rfl
theorem State.Inv.settleRises (h : s.Inv) (ns : List Nat) : (s.settleRises ns).Inv := by
  unfold State.settleRises
  refine .ite ?_ ?_
  · refine State.Inv.raise ?_ _
    exact inv_foldl _ (fun _ _ h => h.setApplied _ _) _ _ h
  · exact inv_foldl _ (fun _ _ h => h.setApplied _ _) _ _ h
theorem State.Inv.otpAbort (h : s.Inv) : s.otpAbort.Inv := by
  unfold State.otpAbort
  split
  · exact h.same rfl
  · split
    · exact h.same rfl
    · split
      · exact h.same rfl
      · next a t _ _ _ => exact (h.draw.draw.draw.otpPut a _).same rfl
theorem State.Inv.dmaReset (h : s.Inv) : s.dmaReset.Inv := by
  unfold State.dmaReset
  extract_lets written
  have hwritten : written.Inv := by
    refine inv_foldl _ (fun s x h => ?_) _ _ h
    split
    · exact h.dmaPart _
    · exact h
  clear_value written
  exact hwritten.same rfl
theorem State.Inv.loseLines (h : s.Inv) (p : Nat) (f : CamFrame) (poss : List Int) : (s.loseLines p f poss).Inv := h.same rfl
theorem State.Inv.modFrame (h : s.Inv) (p : Nat) (key : Nat) (g : CamFrame → CamFrame) : (s.modFrame p key g).Inv := h.modPort _ _
theorem State.Inv.markFrame (h : s.Inv) (p : Nat) (key : Nat) (bitNo : Nat) : (s.markFrame p key bitNo).Inv := by
  unfold State.markFrame
  refine .ite ?_ (h.modFrame _ _ _)
  exact h.same rfl
theorem State.Inv.storePut (h : s.Inv) (a : Nat) (b : Bytes) : (s.storePut a b).Inv := h.storeWrite _ _
theorem State.Inv.finishFrame (h : s.Inv) (p : Nat) (key : Nat) : (s.finishFrame p key).Inv := by
  unfold State.finishFrame
  split
  · exact h
  · exact .ite h (.ite (h.modPort _ _) ((((((h.modPort _ _).modPort _ _).raise _).storePut _ _).storePut _ _).raise _))
theorem State.Inv.dropStripe (h : s.Inv) (p : Nat) (key : Nat) (idx : Nat) : (s.dropStripe p key idx).Inv := by
  unfold State.dropStripe
  split
  · exact h
  · refine .ite h ?_
    exact ((((((h.loseLines _ _ _).modPort _ _).modFrame _ _ _).markFrame _ _ _).raise _).count _).finishFrame _ _
theorem State.Inv.closeFrame (h : s.Inv) (p : Nat) (key : Nat) : (s.closeFrame p key).Inv := by
  unfold State.closeFrame
  split
  · exact h
  · refine State.Inv.finishFrame ?_ _ _
    exact inv_foldl _ (fun _ _ h => h.dropStripe _ _ _) _ _ ((((h.loseLines _ _ _).markFrame _ _ _).modPort _ _).modFrame _ _ _)
theorem State.Inv.disablePorts (h : s.Inv) : (s.disablePorts).Inv := by
  unfold State.disablePorts
  refine inv_foldl _ (fun s x h => ?_) _ _ h
  refine State.Inv.modPort ?_ _ _
  exact inv_foldl _ (fun _ _ h => h.closeFrame _ _) _ _ h
theorem State.Inv.resetPipeline (h : s.Inv) : (s.resetPipeline).Inv := by
  unfold State.resetPipeline
  refine inv_foldl _ (fun s x h => ?_) _ _ ?_
  · exact inv_foldl _ (fun _ _ h => h.dropStripe _ _ _) _ _ h
  · split
    · exact State.Inv.dropStripe (by exact h.same rfl) _ _ _
    · exact h.same rfl
theorem State.Inv.warmReset (h : s.Inv) (cause : Nat) : (s.warmReset cause).Inv := by
  unfold State.warmReset
  extract_lets q _ emptied answered _ _ freed settled stopped
  have hemptied : emptied.Inv := { h with queue := Nat.zero_le _ }
  have hanswered : answered.Inv := inv_foldl _ (fun _ _ h => h.reply _ _ _ _ _) _ _ hemptied
  clear_value answered
  have hfreed : freed.Inv := hanswered.freeJobs.congr rfl rfl rfl rfl rfl rfl rfl
  have hstopped : stopped.Inv := (hfreed.settleRises _).resetPipeline.disablePorts.dmaReset.otpAbort.wipeCaddy
  clear_value stopped
  exact hstopped.same rfl
theorem State.Inv.checkPath (h : s.Inv) : (s.checkPath).Inv := .ite (h.same rfl) h
theorem State.Inv.portsMoved (h : s.Inv) : (s.portsMoved).Inv := h.same rfl
theorem State.Inv.portLost (h : s.Inv) (p : Side) : (s.portLost p).Inv :=
  .ite (((h.modWport _ _).portsMoved).checkPath) (State.Inv.raise (State.Inv.deviceEvent
    (State.Inv.count (by exact (((h.modWport _ _).portsMoved).checkPath).same rfl) _) _ _) _)
theorem State.Inv.portsDown (h : s.Inv) : (s.portsDown).Inv := (h.portLost _).portLost _
theorem State.Inv.pllLost (h : s.Inv) (pll : Pll) : (s.pllLost pll).Inv := by
  unfold State.pllLost
  split
  · exact State.Inv.warmReset (State.Inv.count (by exact h.same rfl) _) _
  · exact State.Inv.warmReset (State.Inv.count (by exact h.same rfl) _) _
  · exact .ite (State.Inv.pcieDown (State.Inv.count (by exact h.same rfl) _)) (State.Inv.count (by exact h.same rfl) _)
  · exact State.Inv.portsDown (State.Inv.count (by exact h.same rfl) _)
theorem State.Inv.reroute (h : s.Inv) (p : Side) (f : Frame) : (s.reroute p f).Inv := by
  unfold State.reroute
  split
  · exact .ite h (h.sendFrame _ _)
  · exact h
theorem State.Inv.portDown (h : s.Inv) (p : Side) : (s.portDown p).Inv := by
  unfold State.portDown
  refine .ite (h.portLost _) ?_
  exact inv_foldl _ (fun _ _ h => h.reroute _ _) _ _ (((h.portLost _).sendFrame _ _).countReplays _)
theorem State.Inv.shotAlign (h : s.Inv) : (s.shotAlign).Inv := .ite (h.shotTaken.count _)
  (.ite (State.Inv.count (by exact h.shotTaken.same rfl) _) h)
theorem State.Inv.actNow (h : s.Inv) : (s.actNow).Inv := by
  unfold State.actNow
  split
  · exact h
  · refine .ite h ?_
    split
    · exact h.shotTaken.count _
    · exact .ite h.shotTaken.recovered h
    · exact .ite h.shotTaken.pcieDown h
    · exact h.shotOverflow
    · split
      · exact ((h.shotTaken.setApplied _ _).raise _).count _
      · exact h
    · split
      · exact h.shotTaken.markSuspect _
      · exact h
    · split
      · exact h.shotTaken.markSuspect _
      · exact h
    · exact h.shotTaken.count _
    · exact h.shotTaken.count _
    · exact h.shotTaken.tamperActs
    · exact h.shotTaken.pllLost _
    · exact h.shotTaken.count _
    · split
      · exact h.shotTaken.portDown _
      · exact h
    · exact h.shotTaken.count _
    · exact h.shotAlign
    · exact h
theorem State.Inv.handOver (h : s.Inv) (n : Nat) : (s.handOver n).Inv :=
  .ite (State.Inv.raise (State.Inv.modChan (.ite ((h.modChan _ _).raise _) h) _ _) _) (.ite ((h.modChan _ _).raise _) h)
theorem State.Inv.handOvers (h : s.Inv) : (s.handOvers).Inv := by
  unfold State.handOvers
  exact inv_foldl _ (fun _ _ h => h.handOver _) _ _ h
theorem State.Inv.armFlash (h : s.Inv) (p : Nat) : (s.armFlash p).Inv := .ite h (.ite (h.count _) (h.modPort _ _))
theorem State.Inv.armTrigger (h : s.Inv) (p : Nat) : (s.armTrigger p).Inv := .ite (h.count _) (h.modPort _ _)
theorem State.Inv.putBack (h : s.Inv) (j : Job) (ns : List Nat) (f : Chan → Chan) : (s.putBack j ns f).Inv := by
  unfold State.putBack
  refine inv_foldl _ (fun s x h => ?_) _ _ ?_
  · exact h.modChan _ _
  · exact inv_foldl _ (fun _ _ h => h.modChan _ _) _ _ h
theorem State.Inv.writeHeader (h : s.Inv) (j : Nat) : (s.writeHeader j).Inv := by
  unfold State.writeHeader
  split
  · exact h.storeWrite _ _
  · exact h
theorem State.Inv.setJobState (h : s.Inv) (j : Nat) (st : JobState) : (s.setJobState j st).Inv := by
  unfold State.setJobState
  dsimp only
  split
  · exact .ite ((h.modJob _ _).writeHeader _) (((h.modJob _ _).writeHeader _).settleRises _)
  · exact (h.modJob _ _).writeHeader _
theorem State.Inv.finishOps (h : s.Inv) (sel : PendOp → Bool) (ans : PendOp → BitVec 16 × Bytes) : (s.finishOps sel ans).Inv := by
  unfold State.finishOps
  exact inv_foldl _ (fun _ _ h => h.reply _ _ _ _ _) _ _ (h.same rfl)
theorem State.Inv.answerStops (h : s.Inv) (slot : Nat) : (s.answerStops slot).Inv := by
  unfold State.answerStops
  split
  · exact .ite (h.finishOps _ _) h
  · exact h
theorem State.Inv.answerStarts (h : s.Inv) (id : BitVec 16) : (s.answerStarts id).Inv := h.finishOps _ _
theorem State.Inv.enterStopped (h : s.Inv) (slot : Nat) : (s.enterStopped slot).Inv := by
  unfold State.enterStopped
  split
  · exact h
  · exact ((((h.putBack _ _ _).modJob _ _).setJobState _ _).answerStarts _).answerStops _
theorem State.Inv.failLate (h : s.Inv) (slot : Nat) : (s.failLate slot).Inv := by
  unfold State.failLate
  split
  · exact h
  · exact (h.addEntry _ _).enterStopped _
theorem State.Inv.endSurvey (h : s.Inv) (result : Nat) : (s.endSurvey result).Inv := by
  unfold State.endSurvey
  split
  · exact h
  · exact State.Inv.finishOps (by exact h.same rfl) _ _
theorem State.Inv.endSurveyIf (h : s.Inv) (p : SurveyRun → Bool) (result : Nat) : (s.endSurveyIf p result).Inv := by
  unfold State.endSurveyIf
  split
  · exact .ite (h.endSurvey _) h
  · exact h
theorem State.Inv.endSurveyOn (h : s.Inv) (ax : Nat) : (s.endSurveyOn ax).Inv := h.endSurveyIf _ _
theorem State.Inv.axisInterrupted (h : s.Inv) (ax : Nat) (rereg : Bool) : (s.axisInterrupted ax rereg).Inv := by
  unfold State.axisInterrupted
  refine State.Inv.endSurveyOn ?_ _
  split
  · exact h.failLate _
  · exact h
theorem State.Inv.stopRequest (h : s.Inv) (n : Nat) (acc : Nat) (jerk : Nat) (fault : Nat) : (s.stopRequest n acc jerk fault).Inv :=
  .ite (h.modAxis _ _) ((h.modAxis _ _).axisInterrupted _ _)
theorem State.Inv.stopByFabric (h : s.Inv) (n : Nat) : (s.stopByFabric n).Inv := by
  unfold State.stopByFabric
  split
  · exact h.stopRequest _ _ _ _
  · exact h.stopRequest _ _ _ _
theorem State.Inv.fabricEvent (h : s.Inv) (input : Nat) : (s.fabricEvent input).Inv := h.draw.event _ _ _ _
theorem State.Inv.act (h : s.Inv) (c : Nat) : (s.act c).Inv :=
  .ite (h.armFlash _) (.ite (h.armTrigger _) (.ite (h.stopByFabric _) (.ite (h.fabricEvent _) h)))
theorem State.Inv.consumerActs (h : s.Inv) (x : Nat × Nat) : (s.consumerActs x).Inv := .ite h (.ite ((h.setPend _ _).act _) (h.same rfl))
theorem State.Inv.consumersAct (h : s.Inv) : (s.consumersAct).Inv := by
  unfold State.consumersAct
  exact inv_foldl _ (fun _ _ h => h.consumerActs _) _ _ (h.same rfl)
theorem State.Inv.dmaRequest (h : s.Inv) (k : Nat) (fabric : Bool) : (s.dmaRequest k fabric).Inv :=
  .ite (.ite (h.count _) (.ite (h.setPend _ _) (h.modDma _ _))) (h.dmaBegin _)
theorem State.Inv.wokenBy (h : s.Inv) (bitNo : Nat) : (s.wokenBy bitNo).Inv := .ite (h.same rfl) h
theorem State.Inv.findWeak (h : s.Inv) (a : Nat) : (s.findWeak a).Inv := .ite h (State.Inv.count (by exact h.same rfl) _)
theorem State.Inv.otpInspect (h : s.Inv) (a : Nat) : (s.otpInspect a).Inv := by
  unfold State.otpInspect
  refine .ite ?_ ?_
  · refine State.Inv.findWeak ?_ _
    split
    · exact h.count _
    · exact h
  · split
    · exact h.count _
    · exact h
theorem State.Inv.inspectRegions (h : s.Inv) (rs : List Nat) : (s.inspectRegions rs).Inv := by
  unfold State.inspectRegions
  exact inv_foldl _ (fun _ _ h => h.otpInspect _) _ _ h
theorem State.Inv.readRegions (h : s.Inv) (rs : List Nat) : (s.readRegions rs).Inv := by
  unfold State.readRegions
  extract_lets listed inspected checked aon temps
  have hchecked : checked.Inv := by
    refine inv_foldl _ (fun s r h => ?_) _ _ (h.inspectRegions _)
    extract_lets f d counted
    have hd : d.2.Inv := .ite_snd (h.detect _ _) h
    have hcounted : counted.Inv := .ite (hd.count _) hd
    clear_value counted
    exact hcounted.same rfl
  clear_value checked
  exact hchecked.same rfl
theorem State.Inv.clampThresholds (h : s.Inv) : (s.clampThresholds).Inv := h.same rfl
theorem State.Inv.loadRepairs (h : s.Inv) : s.loadRepairs.Inv := .ite h (.ite h (h.congr rfl rfl rfl rfl rfl rfl rfl))
theorem State.Inv.sense (h : s.Inv) : s.sense.Inv := by
  unfold State.sense
  extract_lets _ read
  have hread : read.Inv := State.Inv.readRegions (by exact h.same rfl) _
  clear_value read
  exact (State.Inv.loadRepairs (by exact hread.same rfl)).clampThresholds
theorem State.Inv.senseOnce (h : s.Inv) : (s.senseOnce).Inv := .ite h (State.Inv.sense (by exact h.same rfl))
theorem State.Inv.coldReset (h : s.Inv) (first wake : Bool) : (s.coldReset first wake).Inv := by
  have ha := h.otpAbort
  unfold State.coldReset
  extract_lets a d m
  refine { store := ?_, hostMem := ha.hostMem, sram := ?_, otpWords := ha.otpWords, queue := Nat.zero_le _, hold := Nat.zero_le _, wakeEn := ?_ }
  · cases first
    · exact ha.store
    · rfl
  · cases first
    · exact ha.sram
    · rfl
  · cases first
    · exact ha.wakeEn
    · change (0x1F : Word) &&& 0xFFE3 = 3
      decide
theorem State.Inv.wakeBy (h : s.Inv) (bitNo : Nat) : (s.wakeBy bitNo).Inv := by
  have hcaused : ∀ {u : State}, u.Inv → (State.wokenBy { u with pwr := { u.pwr with wakeCause := setBit u.pwr.wakeCause bitNo true } } bitNo).Inv :=
    fun hu => State.Inv.wokenBy (by exact hu.same rfl) _
  unfold State.wakeBy
  refine .ite h ?_
  split
  · exact .ite (hcaused (by exact h.same rfl)) h
  · extract_lets caused off _
    have hoff : off.Inv := hcaused h
    clear_value off
    exact (State.Inv.coldReset (by exact hoff.same rfl) _ _).senseOnce.wokenBy _
  · exact hcaused (by exact h.same rfl)
theorem State.Inv.pulseDma (h : s.Inv) (k : Nat) : (s.pulseDma k).Inv := by
  have hmarked : (if s.isPend k then s.count 3 else s.setPend k true).Inv := .ite (h.count _) (h.setPend _ _)
  exact .ite h (.ite (h.dmaRequest _ _) (.ite (hmarked.wakeBy _) hmarked))
theorem State.Inv.consume (h : s.Inv) (c : Nat) : (s.consume c).Inv := by
  unfold State.consume
  refine .ite (h.pulseDma _) ?_
  refine .ite (h.act _) ?_
  refine .ite h ?_
  refine .ite (h.count _) ?_
  exact h.draw.same rfl
theorem State.Inv.pulseLine (h : s.Inv) (l : BitVec 6) : (s.pulseLine l).Inv := by
  unfold State.pulseLine
  exact inv_foldl _ (fun _ _ h => h.consume _) _ _ (h.latchLine _)
theorem State.Inv.pulse (h : s.Inv) (ks : List Nat) : (s.pulse ks).Inv := by
  unfold State.pulse
  exact inv_foldl _ (fun _ _ h => h.pulseLine _) _ _ (h.countN _ _)
theorem State.Inv.pulseRaised (h : s.Inv) : (s.pulseRaised).Inv := by
  unfold State.pulseRaised
  refine .ite h ?_
  dsimp only
  split
  · exact h.same rfl
  · exact State.Inv.pulse (by exact h.same rfl) _
  · exact inv_foldl _ (fun _ _ h => h.pulse _) _ _ (State.Inv.draw (by exact h.same rfl))
theorem State.Inv.advanceTime (h : s.Inv) : (s.advanceTime).Inv := h.same rfl
theorem State.Inv.tick (h : s.Inv) : (Machine.tick s).Inv := by
  have hclock : ({ s with clock := s.clock + 1 } : State).Inv := h.same rfl
  exact .ite hclock.advanceTime.pulseRaised.consumersAct.handOvers.actNow.waitUpkeep hclock
theorem State.Inv.originTile (h : s.Inv) (p : Packet) (k : BitVec 16) (seq : Nat) : (s.originTile p k seq).Inv :=
  .ite h (.ite (h.same rfl) (h.failRead _ _))
theorem State.Inv.relayOut (h : s.Inv) (p : Packet) (src : Source) (seq : Nat) : (s.relayOut p src seq).Inv := by
  unfold State.relayOut
  extract_lets k sent _ noted
  have hsent : sent.Inv := h.takePktId.sendPkt _ _ _ _
  clear_value sent
  have hnoted : noted.Inv := .ite hsent (hsent.same rfl)
  exact hnoted.originTile _ _ _
theorem State.Inv.setHolds (h : s.Inv) (m : ChMask) (on : Bool) : (s.setHolds m on).Inv := by
  unfold State.setHolds
  exact inv_foldl _ (fun _ _ h => h.modChan _ _) _ _ h
theorem State.Inv.opFireHold (h : s.Inv) (p : Packet) (src : Source) (_seq : Nat) : (s.opFireHold p src _seq).Inv :=
  .ite (h.reply _ _ _ _ _) (((h.setHolds _ _).endSurveyIf _ _).reply _ _ _ _ _)
theorem State.Inv.injMoment (h : s.Inv) : (s.injMoment).Inv := .ite (h.same rfl) h
theorem State.Inv.opFireRelease (h : s.Inv) (p : Packet) (src : Source) (_seq : Nat) : (s.opFireRelease p src _seq).Inv :=
  .ite (h.reply _ _ _ _ _) (((h.setHolds _ _).injMoment).reply _ _ _ _ _)
theorem State.Inv.sendFlt (h : s.Inv) : (s.sendFlt).Inv := h.sendAll _ _
theorem State.Inv.sendFault (h : s.Inv) (classes : BitVec 4) : (s.sendFault classes).Inv := by
  unfold State.sendFault
  refine .ite h ?_
  exact inv_foldl _ (fun _ _ h => .ite (h.modWport _ _) h) _ _ (h.same rfl)
theorem State.Inv.reportLocal (h : s.Inv) : (s.reportLocal).Inv := .ite h (State.Inv.sendFlt (State.Inv.sendFault (by exact h.same rfl) _))
theorem State.Inv.lineDone (h : s.Inv) (j : Nat) (n : Nat) (line : Nat) (k : LineEnd) : (s.lineDone j n line k).Inv := by
  unfold State.lineDone
  refine State.Inv.writeHeader ?_ _
  split
  · refine State.Inv.modJob ?_ _ _
    refine State.Inv.modJob ?_ _ _
    split
    · exact h
    · exact h
    · exact h.addEntry _ _
    · exact h.addEntry _ _
  · refine State.Inv.modChan ?_ _ _
    refine State.Inv.modJob ?_ _ _
    refine State.Inv.modJob ?_ _ _
    split
    · exact h
    · exact h
    · exact h.addEntry _ _
    · exact h.addEntry _ _
theorem State.Inv.cutLine (h : s.Inv) (j : Nat) (n : Nat) (cause : Nat) : (s.cutLine j n cause).Inv := by
  unfold State.cutLine
  dsimp only
  split
  · exact ((h.modChan _ _).lineDone _ _ _ _).modChan _ _
  · exact h.modChan _ _
theorem State.Inv.nextPass (h : s.Inv) (slot : Nat) : (s.nextPass slot).Inv := by
  unfold State.nextPass
  split
  · exact h
  · refine State.Inv.writeHeader ?_ _
    exact inv_foldl _ (fun _ _ h => h.modChan _ _) _ _ (h.modJob _ _)
theorem State.Inv.checkEnded (h : s.Inv) (slot : Nat) : (s.checkEnded slot).Inv := by
  unfold State.checkEnded
  split
  · exact h
  · exact .ite (.ite (((h.setJobState _ _).deviceEvent _ _).answerStops _) (h.nextPass _)) h
theorem State.Inv.stopAxisMax (h : s.Inv) (ax : Nat) : (s.stopAxisMax ax).Inv := .ite (h.modAxis _ _) ((h.modAxis _ _).endSurveyOn _)
theorem State.Inv.stopJob (h : s.Inv) (slot : Nat) : (s.stopJob slot).Inv := by
  unfold State.stopJob
  split
  · exact h
  · exact .ite (.ite ((h.enterStopped _).stopAxisMax _) (h.enterStopped _)) h
theorem State.Inv.tripJobs (h : s.Inv) (cause : Nat) : (s.tripJobs cause).Inv := by
  unfold State.tripJobs
  refine inv_foldl _ (fun s x h => ?_) _ _ h
  split
  · refine State.Inv.answerStops ?_ _
    refine State.Inv.checkEnded ?_ _
    refine State.Inv.stopJob ?_ _
    exact inv_foldl _ (fun _ _ h => h.cutLine _ _ _) _ _ h
  · exact h
theorem State.Inv.tripActs (h : s.Inv) (classes : BitVec 4) : (s.tripActs classes).Inv := by
  unfold State.tripActs
  extract_lets stopped cut axes ended pulsed
  have hstopped : stopped.Inv := h.tripJobs 1
  clear_value stopped
  have hcut : cut.Inv := hstopped.same rfl
  have haxes : axes.Inv := .ite (inv_foldl _ (fun _ _ h => h.stopAxisMax _) _ _ hcut) hcut
  have hpulsed : pulsed.Inv := .ite (haxes.endSurvey _) ((haxes.endSurvey _).raise _)
  exact .ite (hpulsed.raise _) hpulsed
theorem State.Inv.trip (h : s.Inv) (classes : BitVec 4) : (s.trip classes).Inv := State.Inv.reportLocal (State.Inv.tripActs (by exact h.same rfl) _)
theorem State.Inv.opEStop (h : s.Inv) (p : Packet) (src : Source) (_seq : Nat) : (s.opEStop p src _seq).Inv := (h.trip _).reply _ _ _ _ _
theorem State.Inv.refresh (h : s.Inv) : (s.refresh).Inv := .ite h (.ite ((h.mirrorWrite _).mirrorWrite _) ((h.mirrorWrite _).mirrorWrite _))
theorem State.Inv.mirrorSnap (h : s.Inv) : (s.mirrorSnap).Inv := h.refresh.mirrorWrite _
theorem State.Inv.opMirrorSnap (h : s.Inv) (p : Packet) (src : Source) (_seq : Nat) :
  (s.opMirrorSnap p src _seq).Inv := h.mirrorSnap.reply _ _ _ _ _
theorem State.Inv.opTilePost (h : s.Inv) (p : Packet) (src : Source) (seq : Nat) : (s.opTilePost p src seq).Inv := by
  unfold State.opTilePost
  split
  · exact h.reply _ _ _ _ _
  · split
    · exact h.reply _ _ _ _ _
    · refine .ite (h.reply _ _ _ _ _) ?_
      split
      · exact h.reply _ _ _ _ _
      · refine .ite (h.reply _ _ _ _ _) ?_
        refine .ite (h.reply _ _ _ _ _) ?_
        refine .ite (h.reply _ _ _ _ _) ?_
        refine .ite ?_ ?_
        · refine State.Inv.endTile ?_ _ _
          refine inv_foldl _ (fun s x h => ?_) _ _ ?_
          · exact h.markOrDrop _ _ _
          · split
            · exact h.same rfl
            · split
              · split
                · split
                  · exact (h.detect _ _).same rfl
                  · exact (h.detect _ _).same rfl
                · split
                  · exact (h.detect _ _).same rfl
                  · exact (h.detect _ _).same rfl
              · split
                · split
                  · exact (h.detect _ _).same rfl
                  · exact (h.detect _ _).same rfl
                · split
                  · exact (h.detect _ _).same rfl
                  · exact (h.detect _ _).same rfl
        · refine .ite ?_ ?_
          · refine State.Inv.failRead ?_ _ _
            split
            · exact h.same rfl
            · split
              · split
                · split
                  · exact (h.detect _ _).same rfl
                  · exact (h.detect _ _).same rfl
                · split
                  · exact (h.detect _ _).same rfl
                  · exact (h.detect _ _).same rfl
              · split
                · split
                  · exact (h.detect _ _).same rfl
                  · exact (h.detect _ _).same rfl
                · split
                  · exact (h.detect _ _).same rfl
                  · exact (h.detect _ _).same rfl
          · split
            · exact h.same rfl
            · split
              · split
                · split
                  · exact (h.detect _ _).same rfl
                  · exact (h.detect _ _).same rfl
                · split
                  · exact (h.detect _ _).same rfl
                  · exact (h.detect _ _).same rfl
              · split
                · split
                  · exact (h.detect _ _).same rfl
                  · exact (h.detect _ _).same rfl
                · split
                  · exact (h.detect _ _).same rfl
                  · exact (h.detect _ _).same rfl
theorem State.Inv.runHardware (h : s.Inv) (p : Packet) (src : Source) (seq : Nat) : (s.runHardware p src seq).Inv := by
  unfold State.runHardware
  split
  · exact h.opFireHold _ _ _
  · exact h.opFireRelease _ _ _
  · exact h.opEStop _ _ _
  · exact h.opMirrorSnap _ _ _
  · exact h.opTilePost _ _ _
theorem State.Inv.dispatch (h : s.Inv) (p : Packet) (src : Source) (seq : Nat) : (s.dispatch p src seq).Inv :=
  .ite (h.runHardware _ _ _) (h.enqueue _ _ _)
theorem State.Inv.route (h : s.Inv) (p : Packet) (src : Source) : (s.route p src).Inv := by
  unfold State.route
  refine .ite ?_ (.ite (State.Inv.relayOut (by exact h.same rfl) _ _ _) (h.same rfl))
  refine State.Inv.dispatch ?_ _ _ _
  exact .ite (State.Inv.relayOut (by exact h.same rfl) _ _ _) (h.same rfl)
theorem State.Inv.handlePacket (h : s.Inv) (p : Packet) (src : Source) : (s.handlePacket p src).Inv := by
  unfold State.handlePacket
  split
  · exact h.reply _ _ _ _ _
  · exact h.route _ _
theorem State.Inv.say (h : s.Inv) (p : Packet) (src : Source) (st : BitVec 16) : (s.say p src st).Inv := h.reply _ _ _ _ _
theorem State.Inv.answer (h : s.Inv) (p : Packet) (src : Source) (st : BitVec 16) (params : Bytes) : (s.answer p src st params).Inv :=
  h.reply _ _ _ _ _
theorem State.Inv.opPing (h : s.Inv) (p : Packet) (src : Source) (_seq : Nat) : (s.opPing p src _seq).Inv := h.answer _ _ _ _
theorem State.Inv.opGetInfo (h : s.Inv) (p : Packet) (src : Source) (_seq : Nat) : (s.opGetInfo p src _seq).Inv := h.answer _ _ _ _
theorem State.Inv.enter (h : s.Inv) (tgt : PowerState) : (s.enter tgt).Inv := h.same rfl
theorem State.Inv.setAonTimer (h : s.Inv) (ms : Nat) : (s.setAonTimer ms).Inv := h.same rfl
theorem State.Inv.opSetPower (h : s.Inv) (p : Packet) (src : Source) (_seq : Nat) : (s.opSetPower p src _seq).Inv := by
  unfold State.opSetPower
  split
  · exact h.say _ _ _
  · split
    · exact h.say _ _ _
    · exact .ite (h.say _ _ _) (((h.say _ _ _).setAonTimer _).enter _)
theorem State.Inv.startOp (h : s.Inv) (pending : Bool) (k : OpKind) (pkt : Packet) (src : Source) (seq : Nat) :
  (s.startOp pending k pkt src seq).Inv := by
  unfold State.startOp
  split
  · exact (h.reply _ _ _ _ _).same rfl
  · exact h.same rfl
theorem State.Inv.cutChan (h : s.Inv) (n : Nat) : (s.cutChan n).Inv := by
  unfold State.cutChan
  split
  · exact h.cutLine _ _ _
  · exact h.modChan _ _
theorem State.Inv.blockStops (h : s.Inv) (hit : Job → Bool) (late : Bool) : (s.blockStops hit late).Inv := by
  unfold State.blockStops
  refine inv_foldl _ (fun s x h => ?_) _ _ h
  split
  · exact .ite h (.ite (h.failLate _) (.ite (h.enterStopped _) (h.answerStops _)))
  · exact h
theorem State.Inv.resetLe (h : s.Inv) (k : Nat) : (s.resetLe k).Inv := by
  unfold State.resetLe
  refine State.Inv.endSurveyIf ?_ _ _
  refine inv_foldl _ (fun s x h => ?_) _ _ ?_
  · exact h.checkEnded _
  · refine inv_foldl _ (fun s x h => ?_) _ _ ?_
    · exact h.modChan _ _
    · refine State.Inv.blockStops ?_ _ _
      exact inv_foldl _ (fun _ _ h => h.cutChan _) _ _ h
theorem State.Inv.answerAxisStops (h : s.Inv) : (s.answerAxisStops).Inv := h.finishOps _ _
theorem State.Inv.axisSettled (h : s.Inv) (n : Nat) : (s.axisSettled n).Inv := State.Inv.finishOps (by exact (h.finishOps _ _).same rfl) _ _
theorem State.Inv.axisStood (h : s.Inv) (n : Nat) : (s.axisStood n).Inv := (h.axisSettled _).answerAxisStops
theorem State.Inv.finishHome (h : s.Inv) (n : Nat) (run : HomeRun) : (s.finishHome n run).Inv := by
  unfold State.finishHome
  extract_lets fault stopped based drawn d pulsed answered
  have hbased : based.Inv := .ite ((h.modAxis _ _).modEncoder _ _) (h.modAxis _ _)
  have hd : d.2.Inv := .ite_snd hbased hbased.draw
  have hpulsed : pulsed.Inv := .ite (hd.raise _) hd
  exact (hpulsed.finishOps _ _).axisStood _
theorem State.Inv.axisLost (h : s.Inv) (n : Nat) : (s.axisLost n).Inv := by
  unfold State.axisLost
  refine State.Inv.axisStood ?_ _
  refine State.Inv.modEncoder ?_ _ _
  refine State.Inv.modAxis ?_ _ _
  split
  · exact h.finishHome _ _
  · exact h
theorem State.Inv.resetMe (h : s.Inv) (m : Nat) : (s.resetMe m).Inv := by
  unfold State.resetMe
  extract_lets axs mine cut stopped forgotten checked keep
  have hcut : cut.Inv := inv_foldl _ (fun _ _ h => h.cutChan _) _ _ h
  have hforgotten : forgotten.Inv := inv_foldl _ (fun _ _ h => h.modJob _ _) _ _ (hcut.blockStops _ _)
  have hchecked : checked.Inv :=
    inv_foldl _ (fun _ _ h => h.checkEnded _) _ _ (inv_foldl _ (fun _ _ h => (h.axisInterrupted _ false).axisLost _) _ _ hforgotten)
  clear_value checked
  exact hchecked.same rfl
theorem State.Inv.losePos (h : s.Inv) : (s.losePos).Inv :=
  .ite h (.ite (State.Inv.reportLocal (State.Inv.tripActs (by exact h.same rfl) _)) (h.same rfl))
theorem State.Inv.resetBlocks (h : s.Inv) (m : BitVec 17) : (s.resetBlocks m).Inv := by
  unfold State.resetBlocks
  refine .ite ?_ ?_
  · refine State.Inv.losePos ?_
    refine State.Inv.portsDown ?_
    refine .ite ?_ ?_
    · refine State.Inv.dmaReset ?_
      refine .ite ?_ ?_
      · refine State.Inv.endSurvey ?_ _
        refine State.Inv.resetPipeline ?_
        refine inv_foldl _ (fun s x h => ?_) _ _ ?_
        · exact h.resetMe _
        · exact inv_foldl _ (fun _ _ h => h.resetLe _) _ _ (h.same rfl)
      · refine inv_foldl _ (fun s x h => ?_) _ _ ?_
        · exact h.resetMe _
        · exact inv_foldl _ (fun _ _ h => h.resetLe _) _ _ (h.same rfl)
    · refine .ite ?_ ?_
      · refine State.Inv.endSurvey ?_ _
        refine State.Inv.resetPipeline ?_
        refine inv_foldl _ (fun s x h => ?_) _ _ ?_
        · exact h.resetMe _
        · exact inv_foldl _ (fun _ _ h => h.resetLe _) _ _ (h.same rfl)
      · refine inv_foldl _ (fun s x h => ?_) _ _ ?_
        · exact h.resetMe _
        · exact inv_foldl _ (fun _ _ h => h.resetLe _) _ _ (h.same rfl)
  · refine .ite ?_ ?_
    · refine State.Inv.dmaReset ?_
      refine .ite ?_ ?_
      · refine State.Inv.endSurvey ?_ _
        refine State.Inv.resetPipeline ?_
        refine inv_foldl _ (fun s x h => ?_) _ _ ?_
        · exact h.resetMe _
        · exact inv_foldl _ (fun _ _ h => h.resetLe _) _ _ (h.same rfl)
      · refine inv_foldl _ (fun s x h => ?_) _ _ ?_
        · exact h.resetMe _
        · exact inv_foldl _ (fun _ _ h => h.resetLe _) _ _ (h.same rfl)
    · refine .ite ?_ ?_
      · refine State.Inv.endSurvey ?_ _
        refine State.Inv.resetPipeline ?_
        refine inv_foldl _ (fun s x h => ?_) _ _ ?_
        · exact h.resetMe _
        · exact inv_foldl _ (fun _ _ h => h.resetLe _) _ _ (h.same rfl)
      · refine inv_foldl _ (fun s x h => ?_) _ _ ?_
        · exact h.resetMe _
        · exact inv_foldl _ (fun _ _ h => h.resetLe _) _ _ (h.same rfl)
theorem State.Inv.opBlockReset (h : s.Inv) (p : Packet) (src : Source) (seq : Nat) : (s.opBlockReset p src seq).Inv :=
  .ite (h.say _ _ _) (.ite (h.say _ _ _) (.ite ((h.startOp _ _ _ _ _).warmReset _) ((h.startOp _ _ _ _ _).resetBlocks _)))
theorem State.Inv.sendId (h : s.Inv) (n : Nat) (i : Ident) (phase : Nat) (code : Nat) (payload : Bytes) :
  (s.sendId n i phase code payload).Inv := by
  unfold State.sendId
  exact h.modChan _ _
theorem State.Inv.sendIdent (h : s.Inv) (n : Nat) (i : Ident) : (s.sendIdent n i).Inv := h.sendId _ _ _ _ _
theorem State.Inv.opHeadAttach (h : s.Inv) (p : Packet) (src : Source) (seq : Nat) : (s.opHeadAttach p src seq).Inv := by
  unfold State.opHeadAttach
  refine .ite (h.say _ _ _) ?_
  refine .ite (h.say _ _ _) ?_
  refine .ite (h.say _ _ _) ?_
  exact inv_foldl _ (fun _ _ h => h.sendIdent _ _) _ _ ((h.startOp _ _ _ _ _).same rfl)
theorem State.Inv.opHeadConfig (h : s.Inv) (p : Packet) (src : Source) (_seq : Nat) : (s.opHeadConfig p src _seq).Inv :=
  .ite (h.say _ _ _) (.ite (h.say _ _ _) (.ite (h.say _ _ _) ((h.modChan _ _).say _ _ _)))
theorem State.Inv.opBrewLoad (h : s.Inv) (p : Packet) (src : Source) (_seq : Nat) : (s.opBrewLoad p src _seq).Inv :=
  .ite (h.say _ _ _) (.ite (h.say _ _ _) (.ite (h.say _ _ _) ((h.modChan _ _).say _ _ _)))
theorem State.Inv.opRotationLoad (h : s.Inv) (p : Packet) (src : Source) (_seq : Nat) : (s.opRotationLoad p src _seq).Inv :=
  .ite (h.say _ _ _) (.ite (h.say _ _ _) (.ite (h.say _ _ _) ((h.modChan _ _).say _ _ _)))
theorem State.Inv.opCosySet (h : s.Inv) (p : Packet) (src : Source) (_seq : Nat) : (s.opCosySet p src _seq).Inv := by
  unfold State.opCosySet
  refine .ite (h.say _ _ _) ?_
  refine .ite (h.say _ _ _) ?_
  refine .ite (h.say _ _ _) ?_
  refine State.Inv.say ?_ _ _ _
  exact inv_foldl _ (fun _ _ h => h.modChan _ _) _ _ h
theorem State.Inv.opJobOpen (h : s.Inv) (p : Packet) (src : Source) (_seq : Nat) : (s.opJobOpen p src _seq).Inv := by
  unfold State.opJobOpen
  dsimp only
  split
  · exact h.say _ _ _
  · refine .ite (h.say _ _ _) ?_
    refine .ite (h.say _ _ _) ?_
    refine State.Inv.say ?_ _ _ _
    refine State.Inv.writeHeader ?_ _
    exact inv_foldl _ (fun _ _ h => (h.modChan _ _).bankWrote _ _) _ _ (h.same rfl)
theorem State.Inv.opLayerDefine (h : s.Inv) (p : Packet) (src : Source) (_seq : Nat) : (s.opLayerDefine p src _seq).Inv := by
  unfold State.opLayerDefine
  split
  · exact h.say _ _ _
  · split
    · exact h.say _ _ _
    · exact .ite (h.say _ _ _) (.ite (h.say _ _ _) ((h.modJob _ _).say _ _ _))
theorem State.Inv.startErrors (h : s.Inv) : (s.startErrors).2.Inv := by
  unfold State.startErrors
  split
  · exact h
  · exact h.draw.draw
theorem State.Inv.opJobStart (h : s.Inv) (p : Packet) (src : Source) (seq : Nat) : (s.opJobStart p src seq).Inv := by
  unfold State.opJobStart
  refine .ite (h.say _ _ _) ?_
  split
  · exact h.say _ _ _
  · split
    · exact h.say _ _ _
    · refine .ite (h.say _ _ _) ?_
      refine .ite (h.say _ _ _) ?_
      refine .ite (h.say _ _ _) ?_
      refine .ite (((h.startErrors.countN _ _).countN _ _).say _ _ _) ?_
      refine .ite (((h.startErrors.countN _ _).countN _ _).say _ _ _) ?_
      refine .ite (((h.startErrors.countN _ _).countN _ _).say _ _ _) ?_
      refine State.Inv.setJobState ?_ _ _
      exact inv_foldl _ (fun _ _ h => h.bankWrote _ _) _ _ ((((h.startErrors.countN _ _).countN _ _).startOp _ _ _ _ _).modJob _ _)
theorem State.Inv.checkStopAt (h : s.Inv) (slot : Nat) : (s.checkStopAt slot).Inv := by
  unfold State.checkStopAt
  split
  · exact h
  · split
    · exact .ite (h.enterStopped _) h
    · exact h
theorem State.Inv.opJobStop (h : s.Inv) (p : Packet) (src : Source) (seq : Nat) : (s.opJobStop p src seq).Inv := by
  unfold State.opJobStop
  split
  · dsimp only
    split
    · exact h.say _ _ _
    · split
      · exact h.say _ _ _
      · exact .ite (h.say _ _ _) (.ite (h.say _ _ _) (h.say _ _ _))
  · dsimp only
    split
    · exact h.say _ _ _
    · split
      · exact h.say _ _ _
      · refine .ite (h.say _ _ _) ?_
        refine .ite (h.say _ _ _) ?_
        refine .ite ((((h.startOp _ _ _ _ _).modJob _ _).putBack _ _ _).checkStopAt _) ?_
        exact .ite ((h.startOp _ _ _ _ _).enterStopped _) ((h.startOp _ _ _ _ _).answerStops _)
theorem State.Inv.modFifo (h : s.Inv) (slot : Nat) (n : Nat) (f : Chan → Chan) : (s.modFifo slot n f).Inv :=
  .ite ((h.modChan _ _).raise _) (h.modChan _ _)
theorem State.Inv.clearCover (h : s.Inv) (slot : Nat) (n : Nat) (line : Nat) : (s.clearCover slot n line).Inv := by
  unfold State.clearCover
  split
  · exact h
  · exact .ite (h.modJob _ _) h
theorem State.Inv.composeFrom (h : s.Inv) (slot : Nat) (n : Nat) (line : Nat) : (s.composeFrom slot n line).Inv := by
  unfold State.composeFrom
  exact inv_foldl _ (fun _ _ h => h.clearCover _ _ _) _ _ (h.modChan _ _)
theorem State.Inv.composeOn (h : s.Inv) (slot : Nat) (n : Nat) : (s.composeOn slot n).Inv := h.composeFrom _ _ _
theorem State.Inv.skipTo (h : s.Inv) (slot : Nat) (n : Nat) (first : Nat) (cause : Nat) : (s.skipTo slot n first cause).Inv := by
  unfold State.skipTo
  refine State.Inv.composeOn ?_ _ _
  refine State.Inv.composeFrom ?_ _ _ _
  refine State.Inv.modFifo ?_ _ _ _
  exact inv_foldl _ (fun _ _ h => .ite h (h.lineDone _ _ _ _)) _ _ h
theorem State.Inv.skipBelow (h : s.Inv) (slot : Nat) (n : Nat) (from_ : Nat) : (s.skipBelow slot n from_).Inv := by
  unfold State.skipBelow
  split
  · exact h
  · exact h.skipTo _ _ _ _
theorem State.Inv.startBackup (h : s.Inv) (slot : Nat) (x : Int) (v : Rat) : (s.startBackup slot x v).Inv := by
  unfold State.startBackup
  split
  · exact h
  · exact h.modAxis _ _
theorem State.Inv.resumeFeed (h : s.Inv) (slot : Nat) : (s.resumeFeed slot).Inv := by
  unfold State.resumeFeed
  split
  · exact h
  · refine .ite h ?_
    split
    · dsimp only
      split
      · exact .ite (h.modAxis _ _) (((h.modAxis _ _).modJob _ _).startBackup _ _ _)
      · exact h
    · dsimp only
      split
      · exact .ite (h.modAxis _ _) (((h.modAxis _ _).modJob _ _).startBackup _ _ _)
      · exact h
theorem State.Inv.opJobResume (h : s.Inv) (p : Packet) (src : Source) (_seq : Nat) : (s.opJobResume p src _seq).Inv := by
  unfold State.opJobResume
  refine .ite (h.say _ _ _) ?_
  split
  · exact h.say _ _ _
  · split
    · exact h.say _ _ _
    · refine .ite (h.say _ _ _) ?_
      refine .ite (h.say _ _ _) ?_
      refine .ite (h.say _ _ _) ?_
      refine .ite (h.say _ _ _) ?_
      refine .ite (h.say _ _ _) ?_
      refine State.Inv.say ?_ _ _ _
      refine State.Inv.resumeFeed ?_ _
      refine State.Inv.setJobState ?_ _ _
      refine State.Inv.modJob ?_ _ _
      exact inv_foldl _ (fun _ _ h => h.skipBelow _ _ _) _ _ h
theorem State.Inv.opJobClose (h : s.Inv) (p : Packet) (src : Source) (_seq : Nat) : (s.opJobClose p src _seq).Inv := by
  unfold State.opJobClose
  split
  · exact h.say _ _ _
  split
  · exact h.say _ _ _
  refine .ite (h.say _ _ _) (.ite (h.say _ _ _) ?_)
  extract_lets j stored finished cleared freed
  have hcleared : cleared.Inv := inv_foldl _ (fun _ _ h => h.modChan _ _) _ _ ((h.storeWrite _ _).finishOps _ _)
  clear_value cleared
  exact State.Inv.answer (by exact hcleared.same rfl) _ _ _ _
theorem State.Inv.writeTile (h : s.Inv) (j : Job) (t : Tile) (off : Nat) (data : Bytes) : (s.writeTile j t off data).Inv := by
  unfold State.writeTile
  split
  · exact h
  · exact inv_foldl _ (fun _ _ h => .ite (h.storeWrite _ _) h) _ _ h
theorem State.Inv.landTile (h : s.Inv) (t : Tile) (off : Nat) (data : Bytes) : (s.landTile t off data).Inv := by
  unfold State.landTile
  refine .ite (.ite ((h.orphanOver _).endTile _ _) ((h.orphanOver _).modTile _ _)) ?_
  split
  · exact h.endTile _ _
  · split
    · exact h
    · refine .ite ?_ ?_
      · refine State.Inv.endTile ?_ _ _
        exact inv_foldl _ (fun _ _ h => h.markOrDrop _ _ _) _ _ ((h.writeTile _ _ _ _).modTile _ _)
      · exact inv_foldl _ (fun _ _ h => h.markOrDrop _ _ _) _ _ ((h.writeTile _ _ _ _).modTile _ _)
theorem State.Inv.takeData (h : s.Inv) (f : Frame) : (s.takeData f).Inv := by
  unfold State.takeData
  dsimp only
  split
  · exact h.landTile _ _ _
  · exact .ite (h.same rfl) h
theorem State.Inv.landHeld (h : s.Inv) : (s.landHeld).Inv := by
  unfold State.landHeld
  exact inv_foldl _ (fun _ _ h => h.takeData _) _ _ (h.same rfl)
theorem State.Inv.opAxisConfig (h : s.Inv) (p : Packet) (src : Source) (_seq : Nat) : (s.opAxisConfig p src _seq).Inv :=
  .ite (h.say _ _ _) (.ite (h.say _ _ _) (.ite (h.say _ _ _) (.ite (h.say _ _ _) (.ite (h.say _ _ _) ((h.modAxis _ _).say _ _ _)))))
theorem State.Inv.opMoveAbs (h : s.Inv) (p : Packet) (src : Source) (seq : Nat) : (s.opMoveAbs p src seq).Inv :=
  .ite (h.say _ _ _) (.ite (h.say _ _ _) (.ite (h.say _ _ _) (.ite (h.say _ _ _) (.ite (h.say _ _ _)
    (.ite ((((h.startOp _ _ _ _ _).modAxis _ _).raise _).axisStood _) ((h.startOp _ _ _ _ _).modAxis _ _))))))
theorem State.Inv.opMoveVel (h : s.Inv) (p : Packet) (src : Source) (seq : Nat) : (s.opMoveVel p src seq).Inv :=
  .ite (h.say _ _ _) (.ite (h.say _ _ _) (.ite (h.say _ _ _) (.ite (h.say _ _ _) (.ite (h.say _ _ _) ((h.startOp _ _ _ _ _).modAxis _ _)))))
theorem State.Inv.opAxisStop (h : s.Inv) (p : Packet) (src : Source) (seq : Nat) : (s.opAxisStop p src seq).Inv := by
  unfold State.opAxisStop
  refine .ite (h.say _ _ _) ?_
  refine State.Inv.answerAxisStops ?_
  exact inv_foldl _ (fun _ _ h => .ite (.ite (h.stopRequest _ _ _ _) (h.stopByFabric _)) h) _ _ (h.startOp _ _ _ _ _)
theorem State.Inv.opAxisResume (h : s.Inv) (p : Packet) (src : Source) (seq : Nat) : (s.opAxisResume p src seq).Inv := by
  unfold State.opAxisResume
  refine .ite (h.say _ _ _) ?_
  refine .ite (h.say _ _ _) ?_
  refine .ite (h.say _ _ _) ?_
  refine .ite (h.say _ _ _) ?_
  refine State.Inv.finishOps ?_ _ _
  exact inv_foldl _ (fun _ _ h => h.modAxis _ _) _ _ (h.startOp _ _ _ _ _)
theorem State.Inv.opHome (h : s.Inv) (p : Packet) (src : Source) (seq : Nat) : (s.opHome p src seq).Inv :=
  .ite (h.say _ _ _) (.ite (h.say _ _ _) (.ite (h.say _ _ _) (.ite (h.say _ _ _) (.ite (h.say _ _ _)
    (.ite (h.say _ _ _) ((h.startOp _ _ _ _ _).modAxis _ _))))))
theorem State.Inv.opKinematicsSet (h : s.Inv) (p : Packet) (src : Source) (_seq : Nat) : (s.opKinematicsSet p src _seq).Inv := by
  unfold State.opKinematicsSet
  refine .ite (h.say _ _ _) ?_
  refine .ite (h.say _ _ _) ?_
  refine .ite (h.say _ _ _) ?_
  split
  · exact h.say _ _ _
  · exact h.say _ _ _
  · exact h.say _ _ _
  · exact h.say _ _ _
  · refine .ite (h.say _ _ _) ?_
    refine .ite (h.say _ _ _) ?_
    split
    · split
      · split
        · split
          · split
            · exact (h.modAxis _ _).say _ _ _
            · exact .ite ((h.modAxis _ _).say _ _ _) ((h.modAxis _ _).say _ _ _)
          · split
            · exact (h.modAxis _ _).say _ _ _
            · exact .ite ((h.modAxis _ _).say _ _ _) ((h.modAxis _ _).say _ _ _)
        · split
          · split
            · exact (h.modAxis _ _).say _ _ _
            · exact .ite ((h.modAxis _ _).say _ _ _) ((h.modAxis _ _).say _ _ _)
          · split
            · exact (h.modAxis _ _).say _ _ _
            · exact .ite ((h.modAxis _ _).say _ _ _) ((h.modAxis _ _).say _ _ _)
      · split
        · split
          · split
            · split
              · exact (h.modAxis _ _).say _ _ _
              · exact .ite ((h.modAxis _ _).say _ _ _) ((h.modAxis _ _).say _ _ _)
            · split
              · exact (h.modAxis _ _).say _ _ _
              · exact .ite ((h.modAxis _ _).say _ _ _) ((h.modAxis _ _).say _ _ _)
          · split
            · split
              · exact (h.modAxis _ _).say _ _ _
              · exact .ite ((h.modAxis _ _).say _ _ _) ((h.modAxis _ _).say _ _ _)
            · split
              · exact (h.modAxis _ _).say _ _ _
              · exact .ite ((h.modAxis _ _).say _ _ _) ((h.modAxis _ _).say _ _ _)
        · split
          · split
            · split
              · exact (h.modAxis _ _).say _ _ _
              · exact .ite ((h.modAxis _ _).say _ _ _) ((h.modAxis _ _).say _ _ _)
            · split
              · exact (h.modAxis _ _).say _ _ _
              · exact .ite ((h.modAxis _ _).say _ _ _) ((h.modAxis _ _).say _ _ _)
          · split
            · split
              · exact (h.modAxis _ _).say _ _ _
              · exact .ite ((h.modAxis _ _).say _ _ _) ((h.modAxis _ _).say _ _ _)
            · split
              · exact (h.modAxis _ _).say _ _ _
              · exact .ite ((h.modAxis _ _).say _ _ _) ((h.modAxis _ _).say _ _ _)
    · split
      · split
        · split
          · split
            · exact (h.modAxis _ _).say _ _ _
            · exact .ite ((h.modAxis _ _).say _ _ _) ((h.modAxis _ _).say _ _ _)
          · split
            · exact (h.modAxis _ _).say _ _ _
            · exact .ite ((h.modAxis _ _).say _ _ _) ((h.modAxis _ _).say _ _ _)
        · split
          · split
            · exact (h.modAxis _ _).say _ _ _
            · exact .ite ((h.modAxis _ _).say _ _ _) ((h.modAxis _ _).say _ _ _)
          · split
            · exact (h.modAxis _ _).say _ _ _
            · exact .ite ((h.modAxis _ _).say _ _ _) ((h.modAxis _ _).say _ _ _)
      · split
        · split
          · split
            · exact (h.modAxis _ _).say _ _ _
            · exact .ite ((h.modAxis _ _).say _ _ _) ((h.modAxis _ _).say _ _ _)
          · split
            · exact (h.modAxis _ _).say _ _ _
            · exact .ite ((h.modAxis _ _).say _ _ _) ((h.modAxis _ _).say _ _ _)
        · split
          · split
            · exact (h.modAxis _ _).say _ _ _
            · exact .ite ((h.modAxis _ _).say _ _ _) ((h.modAxis _ _).say _ _ _)
          · split
            · exact (h.modAxis _ _).say _ _ _
            · exact .ite ((h.modAxis _ _).say _ _ _) ((h.modAxis _ _).say _ _ _)
theorem State.Inv.opAxisStatus (h : s.Inv) (p : Packet) (src : Source) (_seq : Nat) : (s.opAxisStatus p src _seq).Inv :=
  .ite (h.say _ _ _) (h.answer _ _ _ _)
theorem State.Inv.opCamConfig (h : s.Inv) (p : Packet) (src : Source) (_seq : Nat) : (s.opCamConfig p src _seq).Inv :=
  .ite (h.say _ _ _) (.ite (h.say _ _ _) (.ite ((h.modPort _ _).say _ _ _) ((h.modPort _ _).say _ _ _)))
theorem State.Inv.opCamExpose (h : s.Inv) (p : Packet) (src : Source) (_seq : Nat) : (s.opCamExpose p src _seq).Inv :=
  .ite (h.say _ _ _) ((h.modPort _ _).answer _ _ _ _)
theorem State.Inv.statsErrors (h : s.Inv) : (s.statsErrors).2.Inv := by
  unfold State.statsErrors
  split
  · exact h
  · exact h.draw
theorem State.Inv.retireRow (h : s.Inv) (b : Nat) (row : Nat) : (s.retireRow b row).Inv := (h.modBank _ _).count _
theorem State.Inv.repairRow (h : s.Inv) (b : Nat) (row : Nat) (stripe : Option Nat) : (s.repairRow b row stripe).Inv := by
  unfold State.repairRow
  refine .ite ((h.modBank _ _).count _) ?_
  refine .ite ?_ (.ite (h.retireRow _ _) h)
  split
  · exact (h.modPort _ _).retireRow _ _
  · exact h.retireRow _ _
theorem State.Inv.bankCorrected (h : s.Inv) (b : Nat) (w : Nat) : (s.bankCorrected b w).Inv := (h.modBank _ _).count _
theorem State.Inv.opStatsRead (h : s.Inv) (p : Packet) (src : Source) (_seq : Nat) : (s.opStatsRead p src _seq).Inv := by
  unfold State.opStatsRead
  refine .ite (h.say _ _ _) ?_
  split
  · split
    · dsimp only
      split
      · exact h.say _ _ _
      · split
        · exact h.say _ _ _
        · exact h.say _ _ _
    · split
      · dsimp only
        split
        · exact h.say _ _ _
        · split
          · exact h.say _ _ _
          · refine .ite ?_ ?_
            · refine State.Inv.say ?_ _ _ _
              refine State.Inv.modPort ?_ _ _
              refine inv_foldl _ (fun s x h => ?_) _ _ ?_
              · exact (h.count _).repairRow _ _ _
              · exact inv_foldl _ (fun _ _ h => h.bankCorrected _ _) _ _ h.statsErrors
            · refine State.Inv.answer ?_ _ _ _ _
              refine inv_foldl _ (fun s x h => ?_) _ _ ?_
              · exact (h.count _).repairRow _ _ _
              · exact inv_foldl _ (fun _ _ h => h.bankCorrected _ _) _ _ h.statsErrors
      · dsimp only
        split
        · exact h.say _ _ _
        · split
          · exact h.say _ _ _
          · refine .ite ?_ ?_
            · refine State.Inv.say ?_ _ _ _
              refine State.Inv.modPort ?_ _ _
              refine inv_foldl _ (fun s x h => ?_) _ _ ?_
              · exact (h.count _).repairRow _ _ _
              · exact inv_foldl _ (fun _ _ h => h.bankCorrected _ _) _ _ h.statsErrors
            · refine State.Inv.answer ?_ _ _ _ _
              refine inv_foldl _ (fun s x h => ?_) _ _ ?_
              · exact (h.count _).repairRow _ _ _
              · exact inv_foldl _ (fun _ _ h => h.bankCorrected _ _) _ _ h.statsErrors
  · split
    · dsimp only
      split
      · exact h.say _ _ _
      · split
        · exact h.say _ _ _
        · exact h.say _ _ _
    · split
      · dsimp only
        split
        · exact h.say _ _ _
        · split
          · exact h.say _ _ _
          · refine .ite ?_ ?_
            · refine State.Inv.say ?_ _ _ _
              refine State.Inv.modPort ?_ _ _
              refine inv_foldl _ (fun s x h => ?_) _ _ ?_
              · exact (h.count _).repairRow _ _ _
              · exact inv_foldl _ (fun _ _ h => h.bankCorrected _ _) _ _ h.statsErrors
            · refine State.Inv.answer ?_ _ _ _ _
              refine inv_foldl _ (fun s x h => ?_) _ _ ?_
              · exact (h.count _).repairRow _ _ _
              · exact inv_foldl _ (fun _ _ h => h.bankCorrected _ _) _ _ h.statsErrors
      · dsimp only
        split
        · exact h.say _ _ _
        · split
          · exact h.say _ _ _
          · refine .ite ?_ ?_
            · refine State.Inv.say ?_ _ _ _
              refine State.Inv.modPort ?_ _ _
              refine inv_foldl _ (fun s x h => ?_) _ _ ?_
              · exact (h.count _).repairRow _ _ _
              · exact inv_foldl _ (fun _ _ h => h.bankCorrected _ _) _ _ h.statsErrors
            · refine State.Inv.answer ?_ _ _ _ _
              refine inv_foldl _ (fun s x h => ?_) _ _ ?_
              · exact (h.count _).repairRow _ _ _
              · exact inv_foldl _ (fun _ _ h => h.bankCorrected _ _) _ _ h.statsErrors
theorem State.Inv.opOutputConfig (h : s.Inv) (p : Packet) (src : Source) (_seq : Nat) : (s.opOutputConfig p src _seq).Inv :=
  .ite (h.say _ _ _) (State.Inv.say (by exact h.same rfl) _ _ _)
theorem State.Inv.opContextLoad (h : s.Inv) (p : Packet) (src : Source) (_seq : Nat) : (s.opContextLoad p src _seq).Inv :=
  .ite (h.say _ _ _) (State.Inv.say (by exact h.same rfl) _ _ _)
theorem State.Inv.gotoStation (h : s.Inv) : (s.gotoStation).Inv := by
  unfold State.gotoStation
  split
  · split
    · exact h
    · refine .ite (h.same rfl) ?_
      exact .ite (State.Inv.endSurvey (by exact h.same rfl) _) (State.Inv.modAxis (by exact h.same rfl) _ _)
  · exact h
theorem State.Inv.opSurveyStart (h : s.Inv) (p : Packet) (src : Source) (seq : Nat) : (s.opSurveyStart p src seq).Inv := by
  unfold State.opSurveyStart
  refine .ite (h.say _ _ _) ?_
  refine .ite (h.say _ _ _) ?_
  split
  · exact h.say _ _ _
  · refine .ite (h.say _ _ _) ?_
    exact .ite (h.say _ _ _) (.ite (h.say _ _ _) (State.Inv.gotoStation (by exact (h.startOp _ _ _ _ _).same rfl)))
theorem State.Inv.opNozzleMapRead (h : s.Inv) (p : Packet) (src : Source) (_seq : Nat) : (s.opNozzleMapRead p src _seq).Inv :=
  .ite (h.say _ _ _) (h.answer _ _ _ _)
theorem State.Inv.clearRuns (h : s.Inv) (n : Nat) (ks : List Nat) : (s.clearRuns n ks).Inv := h.modChan _ _
theorem State.Inv.substEntries (h : s.Inv) (j : Nat) (n : Nat) (line : Nat) (old : List (Nat × BitVec 4)) (new : List (Nat × BitVec 4)) :
  (s.substEntries j n line old new).Inv := by
  unfold State.substEntries
  exact inv_foldl _ (fun _ _ h => h.addEntry _ _) _ _ h
theorem State.Inv.changeMap (h : s.Inv) (n : Nat) (changes : List (Nat × BitVec 4)) : (s.changeMap n changes).Inv := by
  unfold State.changeMap
  dsimp only
  split
  · refine State.Inv.substEntries ?_ _ _ _ _ _
    exact .ite (((h.modChan _ _).bankWrote _ _).count _) ((h.modChan _ _).bankWrote _ _)
  · exact .ite (((h.modChan _ _).bankWrote _ _).count _) ((h.modChan _ _).bankWrote _ _)
theorem State.Inv.applyMapWrite (h : s.Inv) (n : Nat) (first : Nat) (es : List (BitVec 4)) : (s.applyMapWrite n first es).Inv :=
  (h.changeMap _ _).clearRuns _ _
theorem State.Inv.opNozzleMapWrite (h : s.Inv) (p : Packet) (src : Source) (seq : Nat) : (s.opNozzleMapWrite p src seq).Inv :=
  .ite (h.say _ _ _) (.ite (h.say _ _ _) (.ite (h.startOp _ _ _ _ _) ((h.applyMapWrite _ _ _).say _ _ _)))
theorem State.Inv.opStrainerConfig (h : s.Inv) (p : Packet) (src : Source) (_seq : Nat) : (s.opStrainerConfig p src _seq).Inv := by
  unfold State.opStrainerConfig
  refine .ite (.ite (h.say _ _ _) (.ite (h.say _ _ _) (State.Inv.say (by exact h.same rfl) _ _ _))) ?_
  refine .ite ?_ (h.say _ _ _)
  split
  · exact h.say _ _ _
  · split
    · exact h.say _ _ _
    · exact .ite (h.say _ _ _) (.ite (h.say _ _ _) ((h.modJob _ _).say _ _ _))
theorem State.Inv.opThermalConfig (h : s.Inv) (p : Packet) (src : Source) (_seq : Nat) : (s.opThermalConfig p src _seq).Inv := by
  unfold State.opThermalConfig
  refine .ite (h.say _ _ _) ?_
  refine .ite (h.say _ _ _) ?_
  refine .ite (h.say _ _ _) ?_
  refine State.Inv.say ?_ _ _ _
  exact inv_foldl _ (fun _ _ h => h.modSensor _ _) _ _ h
theorem State.Inv.opThermalStatus (h : s.Inv) (p : Packet) (src : Source) (_seq : Nat) : (s.opThermalStatus p src _seq).Inv := h.answer _ _ _ _
theorem State.Inv.levelPulse (h : s.Inv) (before : State) (ns : List Nat) : (s.levelPulse before ns).Inv := .ite (h.raise _) h
theorem State.Inv.applyTarget (h : s.Inv) (n : Nat) : (s.applyTarget n).Inv :=
  .ite (h.modChan _ _) (.ite (h.modChan _ _) (.ite (h.setApplied _ _) (.ite ((h.shotTaken.setApplied _ _).count _) (h.modChan _ _))))
theorem State.Inv.applyReleased (h : s.Inv) (before : State) : (s.applyReleased before).Inv := by
  unfold State.applyReleased
  refine State.Inv.levelPulse ?_ _ _
  refine inv_foldl _ (fun s x h => ?_) _ _ ?_
  · exact h.applyTarget _
  · exact inv_foldl _ (fun _ _ h => h.setApplied _ _) _ _ h
theorem State.Inv.opShutdownRelease (h : s.Inv) (p : Packet) (src : Source) (_seq : Nat) : (s.opShutdownRelease p src _seq).Inv := by
  unfold State.opShutdownRelease
  extract_lets m ns held before heads _ all
  have hheads : heads.Inv := inv_foldl _ (fun _ _ h => h.modHead _ _) _ _ h
  clear_value heads
  have hall : all.Inv := hheads.same rfl
  exact .ite (h.say _ _ _) (.ite (h.say _ _ _) (.ite (h.say _ _ _) (.ite (h.say _ _ _) ((hall.applyReleased _).say _ _ _))))
theorem State.Inv.opMemtestConfig (h : s.Inv) (p : Packet) (src : Source) (_seq : Nat) : (s.opMemtestConfig p src _seq).Inv := by
  unfold State.opMemtestConfig
  refine .ite (h.say _ _ _) ?_
  refine State.Inv.answer ?_ _ _ _ _
  exact inv_foldl _ (fun _ _ h => h.modBank _ _) _ _ h
theorem State.Inv.opStoreConfig (h : s.Inv) (p : Packet) (src : Source) (seq : Nat) : (s.opStoreConfig p src seq).Inv := by
  have hstarted := h.startOp false .storeConfig p src seq
  exact .ite (h.say _ _ _) (.ite (h.say _ _ _) (.ite (h.say _ _ _) { hstarted with store := rfl }))
theorem State.Inv.opCountersRead (h : s.Inv) (p : Packet) (src : Source) (_seq : Nat) : (s.opCountersRead p src _seq).Inv :=
  .ite (h.say _ _ _) (h.answer _ _ _ _)
theorem State.Inv.clearCounters (h : s.Inv) (m : BitVec 128) : (s.clearCounters m).Inv := h.congr rfl rfl rfl rfl rfl rfl rfl
theorem State.Inv.opCountersClear (h : s.Inv) (p : Packet) (src : Source) (_seq : Nat) : (s.opCountersClear p src _seq).Inv :=
  (h.clearCounters _).say _ _ _
theorem State.Inv.opInjectArm (h : s.Inv) (p : Packet) (src : Source) (_seq : Nat) : (s.opInjectArm p src _seq).Inv :=
  .ite (h.say _ _ _) (.ite (h.say _ _ _) (.ite (h.say _ _ _) (State.Inv.say (by exact h.same rfl) _ _ _)))
theorem State.Inv.releaseShot (h : s.Inv) (k : Nat) : (s.releaseShot k).Inv := h.same rfl
theorem State.Inv.opInject (h : s.Inv) (p : Packet) (src : Source) (_seq : Nat) : (s.opInject p src _seq).Inv :=
  .ite (h.say _ _ _) (.ite (h.say _ _ _) (((h.releaseShot _).say _ _ _).actNow))
theorem State.Inv.opRingStatus (h : s.Inv) (p : Packet) (src : Source) (_seq : Nat) : (s.opRingStatus p src _seq).Inv := h.answer _ _ _ _
theorem State.Inv.opRingMap (h : s.Inv) (p : Packet) (src : Source) (_seq : Nat) : (s.opRingMap p src _seq).Inv := h.draw.answer _ _ _ _
theorem State.Inv.readData (h : s.Inv) (g : Nat) : (s.readData g).Inv := by
  unfold State.readData
  exact inv_foldl _ (fun _ _ h => h.otpInspect _) _ _ h
theorem State.Inv.otpResult (h : s.Inv) (result : Nat) (attempts : Nat) (a : Nat) : (s.otpResult result attempts a).Inv := h.same rfl
theorem State.Inv.loadCaddy (h : s.Inv) : (s.loadCaddy).Inv := h.same rfl
theorem State.Inv.reloadCaddy (h : s.Inv) : (s.reloadCaddy).Inv := State.Inv.loadCaddy (.ite (h.inspectRegions _) h)
theorem State.Inv.enterLifecycle (h : s.Inv) (k : Nat) : (s.enterLifecycle k).Inv :=
  State.Inv.finishOps (State.Inv.injMoment (State.Inv.reloadCaddy (State.Inv.wipeCaddy (by exact h.same rfl)))) _ _
theorem State.Inv.advanceStops (h : s.Inv) : (s.advanceStops).Inv := .ite h (h.enterLifecycle _)
theorem State.Inv.otpStop (h : s.Inv) (result : Nat) (attempts : Nat) (a : Nat) : (s.otpStop result attempts a).Inv :=
  .ite (State.Inv.advanceStops (State.Inv.otpResult (by exact h.same rfl) _ _ _)) (State.Inv.otpResult (by exact h.same rfl) _ _ _)
theorem State.Inv.advanceNext (h : s.Inv) (r : OtpRun) (a : Nat) : (s.advanceNext r a).Inv := by
  unfold State.advanceNext
  split
  · exact .ite ((h.readData _).otpStop _ _ _) ((h.readData _).same rfl)
  · exact .ite (h.otpStop _ _ _) (h.same rfl)
theorem State.Inv.opLifecycleAdvance (h : s.Inv) (p : Packet) (src : Source) (seq : Nat) : (s.opLifecycleAdvance p src seq).Inv :=
  .ite (h.say _ _ _) (.ite (h.say _ _ _) (.ite (h.say _ _ _) (.ite (h.say _ _ _) (.ite (h.say _ _ _)
    (State.Inv.advanceNext (by exact (h.startOp _ _ _ _ _).same rfl) _ _)))))
theorem State.Inv.opTamperConfig (h : s.Inv) (p : Packet) (src : Source) (_seq : Nat) : (s.opTamperConfig p src _seq).Inv :=
  .ite (h.say _ _ _) (.ite (h.say _ _ _) (State.Inv.say (by exact h.same rfl) _ _ _))
theorem State.Inv.runKettle (h : s.Inv) (p : Packet) (src : Source) (seq : Nat) : (s.runKettle p src seq).Inv := by
  unfold State.runKettle
  refine .ite (h.say _ _ _) ?_
  split
  · exact h.opPing _ _ _
  · exact h.opGetInfo _ _ _
  · exact h.opSetPower _ _ _
  · exact h.opBlockReset _ _ _
  · exact h.opHeadAttach _ _ _
  · exact h.opHeadConfig _ _ _
  · exact h.opBrewLoad _ _ _
  · exact h.opRotationLoad _ _ _
  · exact h.opCosySet _ _ _
  · exact h.opJobOpen _ _ _
  · exact h.opLayerDefine _ _ _
  · exact h.opJobStart _ _ _
  · exact h.opJobStop _ _ _
  · exact h.opJobResume _ _ _
  · exact h.opJobClose _ _ _
  · exact (h.opTilePost _ _ _).landHeld
  · exact h.opAxisConfig _ _ _
  · exact h.opMoveAbs _ _ _
  · exact h.opMoveVel _ _ _
  · exact h.opAxisStop _ _ _
  · exact h.opAxisResume _ _ _
  · exact h.opHome _ _ _
  · exact h.opKinematicsSet _ _ _
  · exact h.opAxisStatus _ _ _
  · exact h.opCamConfig _ _ _
  · exact h.opCamExpose _ _ _
  · exact h.opStatsRead _ _ _
  · exact h.opOutputConfig _ _ _
  · exact h.opContextLoad _ _ _
  · exact h.opSurveyStart _ _ _
  · exact h.opNozzleMapRead _ _ _
  · exact h.opNozzleMapWrite _ _ _
  · exact h.opStrainerConfig _ _ _
  · exact h.opThermalConfig _ _ _
  · exact h.opThermalStatus _ _ _
  · exact h.opShutdownRelease _ _ _
  · exact h.opMemtestConfig _ _ _
  · exact h.opStoreConfig _ _ _
  · exact h.opCountersRead _ _ _
  · exact h.opCountersClear _ _ _
  · exact h.opInjectArm _ _ _
  · exact h.opInject _ _ _
  · exact h.opRingStatus _ _ _
  · exact h.opRingMap _ _ _
  · exact h.opLifecycleAdvance _ _ _
  · exact h.opTamperConfig _ _ _
  · exact h.say _ _ _
theorem State.Inv.kettleTake (h : s.Inv) : s.kettleTake.Inv := by
  unfold State.kettleTake
  split
  · exact h
  · next q rest hq =>
    exact .ite h ((h.dequeue q rest hq _).runKettle _ _ _)
theorem State.Inv.packetRow (h : s.Inv) (op : BitVec 16) (c : Cmd) : (s.packetRow op c).Inv :=
  .ite h (.ite (State.Inv.kettleTake (State.Inv.handlePacket (.ite (h.shotTaken.count _) h) _ _))
    (State.Inv.handlePacket (.ite (h.shotTaken.count _) h) _ _))
theorem State.Inv.setCfgErr (h : s.Inv) : (s.setCfgErr).Inv := .ite h (State.Inv.raiseVector (by exact h.same rfl) _)
theorem State.Inv.writeRingReg (h : s.Inv) (r : Ring) {set : Ring → State} (hset : ∀ x, (set x).Inv) (off v : Nat) :
  (s.writeRingReg r set off v).Inv := by
  unfold State.writeRingReg
  refine .ite h.setCfgErr ?_
  split
  · exact hset _
  · exact hset _
  · exact .ite (hset _) h.setCfgErr
theorem State.Inv.setIdxErr (h : s.Inv) : (s.setIdxErr).Inv := .ite h (State.Inv.raiseVector (by exact h.same rfl) _)
theorem State.Inv.startFetch (h : s.Inv) : (s.startFetch).Inv := .ite (h.same rfl) h
theorem State.Inv.writeCmdTail (h : s.Inv) (v : Nat) : (s.writeCmdTail v).Inv := .ite h.setIdxErr (State.Inv.startFetch (by exact h.same rfl))
theorem State.Inv.writeRplHead (h : s.Inv) (v : Nat) : (s.writeRplHead v).Inv := .ite h.setIdxErr (State.Inv.drain (by exact h.same rfl))
theorem State.Inv.writeEvtHead (h : s.Inv) (v : Nat) : (s.writeEvtHead v).Inv := .ite h.setIdxErr (State.Inv.eventsLost (by exact h.same rfl))
theorem State.Inv.writeRingCtl (h : s.Inv) (v : Nat) : (s.writeRingCtl v).Inv := by
  unfold State.writeRingCtl
  refine State.Inv.eventsLost ?_
  refine State.Inv.drain ?_
  split
  · exact h.ringReset.same rfl
  · exact h.same rfl
theorem State.Inv.writeRingStat (h : s.Inv) (v : Nat) : (s.writeRingStat v).Inv := h.same rfl
theorem State.Inv.setImmLost (h : s.Inv) : (s.setImmLost).Inv := .ite h (State.Inv.raiseVector (by exact h.same rfl) _)
theorem State.Inv.writeImmGo (h : s.Inv) : (s.writeImmGo).Inv :=
  .ite h.setImmLost (.ite (h.reply _ _ _ _ _) (.ite (h.handlePacket _ _) (h.reply _ _ _ _ _)))
theorem State.Inv.writeImmDoorbell (h : s.Inv) (v : Nat) : (s.writeImmDoorbell v).Inv := .ite h.writeImmGo (.ite h.setImmLost h)
theorem State.Inv.writeImmSlot (h : s.Inv) (i : Nat) (v : Word) : (s.writeImmSlot i v).Inv := .ite h.setImmLost (h.same rfl)
theorem State.Inv.flushVectors (h : s.Inv) : (s.flushVectors).Inv := by
  unfold State.flushVectors
  exact inv_foldl _ (fun _ _ h => .ite (State.Inv.raiseVector (by exact h.same rfl) _) h) _ _ h
theorem State.Inv.writeMsix (h : s.Inv) (off : Nat) (v : Word) : (s.writeMsix off v).Inv := by
  have hwritten : ∀ msix, ({ s with host := { s.host with msix := msix } } : State).Inv := fun msix => h.same rfl
  exact (hwritten _).flushVectors
theorem State.Inv.writeBar0 (h : s.Inv) (off : Nat) (w : Word) : (s.writeBar0 off w).Inv := by
  have hcmd : ∀ r, ({ s with pe := { s.pe with cmd := r } } : State).Inv := fun r => h.same rfl
  have hrpl : ∀ r, ({ s with pe := { s.pe with rpl := r } } : State).Inv := fun r => h.same rfl
  have hevt : ∀ r, ({ s with pe := { s.pe with evt := r } } : State).Inv := fun r => h.same rfl
  unfold State.writeBar0
  split
  · exact h.writeRingReg _ hcmd _ _
  · exact h.writeRingReg _ hcmd _ _
  · exact h.writeRingReg _ hcmd _ _
  · exact h.writeCmdTail _
  · exact h.writeRingReg _ hrpl _ _
  · exact h.writeRingReg _ hrpl _ _
  · exact h.writeRingReg _ hrpl _ _
  · exact h.writeRplHead _
  · exact h.writeRingReg _ hevt _ _
  · exact h.writeRingReg _ hevt _ _
  · exact h.writeRingReg _ hevt _ _
  · exact h.writeEvtHead _
  · exact h.writeRingCtl _
  · exact h.writeRingStat _
  · exact h.writeImmDoorbell _
  · exact .ite (h.writeImmSlot _ _) (.ite (h.writeMsix _ _) h)
theorem State.Inv.writeId (h : s.Inv) (off : Nat) (v : Nat) : (s.writeId off v).Inv := by
  unfold State.writeId
  split
  · exact h.same rfl
  · exact h.same rfl
  · exact h
theorem State.Inv.powerRequest (h : s.Inv) (tgt : PowerState) : (s.powerRequest tgt).Inv := .ite (h.same rfl) (h.enter _)
theorem State.Inv.writePwrCtl (h : s.Inv) (v : Nat) : (s.writePwrCtl v).Inv := by
  unfold State.writePwrCtl
  split
  · dsimp only
    exact .ite (h.powerRequest _) (State.Inv.powerRequest (by exact h.same rfl) _)
  · dsimp only
    exact .ite (h.powerRequest _) (State.Inv.powerRequest (by exact h.same rfl) _)
  · dsimp only
    exact .ite (h.powerRequest _) (State.Inv.powerRequest (by exact h.same rfl) _)
  · dsimp only
    exact h.same rfl
theorem State.Inv.writePwr (h : s.Inv) (off v : Nat) : (s.writePwr off v).Inv := by
  unfold State.writePwr
  split
  · exact h.writePwrCtl _
  · exact h.same rfl
  · exact { h with wakeEn := wakeEn_written _ }
  · exact h.same rfl
  · exact h.setAonTimer _
  · exact h.same rfl
  · exact .ite (h.warmReset _) h
  · exact h.same rfl
  · exact h
theorem State.Inv.writeDma (h : s.Inv) (k : Nat) (off : Nat) (v : Nat) : (s.writeDma k off v).Inv := by
  unfold State.writeDma
  split
  · exact h.modDma _ _
  · exact h.modDma _ _
  · exact h.modDma _ _
  · exact h.modDma _ _
  · exact h.modDma _ _
  · exact .ite ((h.modDma _ _).dmaRequest _ _) (h.modDma _ _)
  · exact h
theorem State.Inv.otpReadCmd (h : s.Inv) : s.otpReadCmd.Inv := by
  unfold State.otpReadCmd
  extract_lets a setData n _
  have hset : ∀ {u : State} d, u.Inv → (setData u d).Inv := fun d hu => hu.same rfl
  refine .ite ((hset _ h).otpResult _ _ _) ?_
  split
  · exact (hset _ h.draw).otpResult _ _ _
  · refine .ite_of (f := fun u => { u with otp := { u.otp with weakBit := true } }) ?_ (fun hu => hu.same rfl)
    refine State.Inv.otpResult (hset _ (.ite_of (f := fun u => u.count 97) ?_ fun hu => hu.count _)) _ _ _
    refine .ite (State.Inv.findWeak (State.Inv.detect ?_ _ _) _) (State.Inv.detect ?_ _ _)
    · exact .ite ((h.detect _ _).count _) (h.detect _ _)
    · exact .ite ((h.detect _ _).count _) (h.detect _ _)
theorem State.Inv.otpMarginCmd (h : s.Inv) (high : Bool) : (s.otpMarginCmd high).Inv := by
  unfold State.otpMarginCmd
  refine .ite (State.Inv.otpResult (by exact h.same rfl) _ _ _) ?_
  refine State.Inv.otpResult ?_ _ _ _
  exact .ite (State.Inv.findWeak (by exact h.same rfl) _) (h.same rfl)
theorem State.Inv.otpBegin (h : s.Inv) : (s.otpBegin).Inv := by
  unfold State.otpBegin
  split
  · exact h
  · refine .ite h ?_
    refine .ite (h.same rfl) ?_
    exact .ite (State.Inv.otpResult (by exact (h.readData _).same rfl) _ _ _) ((h.readData _).same rfl)
theorem State.Inv.otpProgramCmd (h : s.Inv) (kind : Nat) : (s.otpProgramCmd kind).Inv := by
  unfold State.otpProgramCmd
  extract_lets a adm _ keyed inspected d
  have hkeyed : keyed.Inv := h.same rfl
  have hinspected : inspected.Inv := .ite (hkeyed.otpInspect _) hkeyed
  have hd : d.2.Inv := .ite_snd hinspected (hinspected.detect _ _)
  clear_value adm keyed d
  cases adm with
  | inl e => exact State.Inv.otpResult (.ite (hkeyed.otpInspect _) hkeyed) _ _ _
  | inr todo => exact .ite ((hd.count _).otpResult _ _ _) (State.Inv.otpBegin (by exact hd.same rfl))
theorem State.Inv.otpCmd (h : s.Inv) (c : Nat) : (s.otpCmd c).Inv := by
  unfold State.otpCmd
  refine .ite h ?_
  split
  · exact h.otpReadCmd
  · exact h.otpMarginCmd _
  · exact h.otpMarginCmd _
  · exact h.otpProgramCmd _
  · exact h.otpProgramCmd _
  · exact h.otpProgramCmd _
  · exact h
theorem State.Inv.otpKeyWrite (h : s.Inv) (v : Nat) : (s.otpKeyWrite v).Inv := h.same rfl
theorem State.Inv.writeOtp (h : s.Inv) (off : Nat) (v : Nat) : (s.writeOtp off v).Inv := by
  unfold State.writeOtp
  split
  · exact h.otpCmd _
  · exact h.same rfl
  · exact h.same rfl
  · exact h.otpKeyWrite _
  · exact h.same rfl
  · exact h
theorem State.Inv.injGoWrite (h : s.Inv) (v : Nat) : (s.injGoWrite v).Inv := .ite h (.ite (h.same rfl) ((h.releaseShot _).actNow))
theorem State.Inv.writeTc (h : s.Inv) (off : Nat) (v : Nat) : (s.writeTc off v).Inv :=
  .ite (h.clearCounters _) (.ite (h.same rfl) (.ite (h.injGoWrite _) h))
theorem State.Inv.collides (h : s.Inv) (n : Nat) : (s.collides n).Inv := ((h.modChan _ _).raise _).count _
theorem State.Inv.writeShadow (h : s.Inv) (n : Nat) (set : ShadowSet → ShadowSet) : (s.writeShadow n set).Inv :=
  .ite ((((h.shotTaken.modChan _ _).modChan _ _).raise _).count _) (.ite ((h.modChan _ _).collides _) (h.modChan _ _))
theorem State.Inv.writeShCtl (h : s.Inv) (n : Nat) (v : Nat) : (s.writeShCtl n v).Inv :=
  .ite (.ite ((h.modChan _ _).modChan _ _) ((h.modChan _ _).modChan _ _)) (.ite ((h.modChan _ _).modChan _ _) (h.modChan _ _))
theorem State.Inv.fireConfig (h : s.Inv) (n : Nat) (set : Chan → Chan) : (s.fireConfig n set).Inv :=
  .ite ((h.detect _ _).count _) ((h.detect _ _).modChan _ _)
theorem State.Inv.writeChCfg (h : s.Inv) (n : Nat) (v : Nat) : (s.writeChCfg n v).Inv :=
  State.Inv.injMoment (.ite (h.modChan _ _) ((h.modChan _ _).fireConfig _ _))
theorem State.Inv.writeChan (h : s.Inv) (n : Nat) (off : Nat) (v : Nat) : (s.writeChan n off v).Inv := by
  unfold State.writeChan
  split
  · exact h.writeShadow _ _
  · exact h.writeShadow _ _
  · exact h.modChan _ _
  · exact h.writeShCtl _ _
  · exact h.writeChCfg _ _
  · exact h.fireConfig _ _
  · exact h.fireConfig _ _
  · exact h.modChan _ _
  · exact (h.modChan _ _).fireConfig _ _
  · exact h
theorem State.Inv.writeFabric (h : s.Inv) (off : Nat) (v : Nat) : (s.writeFabric off v).Inv :=
  .ite (h.same rfl) (.ite (h.same rfl) (.ite (h.same rfl) (.ite (h.same rfl) (.ite (h.raise _) h))))
theorem State.Inv.ringResetState (h : s.Inv) : (s.ringResetState).Inv := (((h.losePos.modWport _ _).modWport _ _).portsMoved).same rfl
theorem State.Inv.sendReset (h : s.Inv) (ps : List Side) : (s.sendReset ps).Inv := by
  unfold State.sendReset
  exact inv_foldl _ (fun _ _ h => .ite (h.modWport _ _) h) _ _ h
theorem State.Inv.ringResetWrite (h : s.Inv) : (s.ringResetWrite).Inv := .ite ((h.sendReset _).ringResetState) h
theorem State.Inv.retrain (h : s.Inv) (p : Side) : (s.retrain p).Inv := .ite (h.portDown _) h
theorem State.Inv.writeWlCtl (h : s.Inv) (v : Nat) : (s.writeWlCtl v).Inv := by
  unfold State.writeWlCtl
  refine .ite ?_ ?_
  · refine State.Inv.retrain ?_ _
    refine .ite ?_ (.ite (State.Inv.ringResetWrite (.ite (State.Inv.portsDown (by exact h.same rfl)) (h.same rfl)))
      (.ite (State.Inv.portsDown (by exact h.same rfl)) (h.same rfl)))
    refine State.Inv.retrain ?_ _
    refine .ite (State.Inv.ringResetWrite (.ite (State.Inv.portsDown (by exact h.same rfl)) (h.same rfl))) ?_
    exact .ite (State.Inv.portsDown (by exact h.same rfl)) (h.same rfl)
  · refine .ite ?_ (.ite (State.Inv.ringResetWrite (.ite (State.Inv.portsDown (by exact h.same rfl)) (h.same rfl)))
    (.ite (State.Inv.portsDown (by exact h.same rfl)) (h.same rfl)))
    refine State.Inv.retrain ?_ _
    refine .ite (State.Inv.ringResetWrite (.ite (State.Inv.portsDown (by exact h.same rfl)) (h.same rfl))) ?_
    exact .ite (State.Inv.portsDown (by exact h.same rfl)) (h.same rfl)
theorem State.Inv.writeBar2 (h : s.Inv) (off : Nat) (w : Word) : (s.writeBar2 off w).Inv :=
  .ite h (.ite (h.writeId _ _) (.ite (h.writePwr _ _) (.ite (h.writeDma _ _ _) (.ite (h.writeOtp _ _)
    (.ite (h.writeTc _ _) (.ite (h.writeChan _ _ _) (.ite (h.writeFabric _ _) (.ite (h.writeWlCtl _) h))))))))
theorem State.Inv.writeAccess (h : s.Inv) (bar : Bar) (off : Nat) (v : Word) (be : BitVec 4) : (s.writeAccess bar off v be).Inv := by
  unfold State.writeAccess
  refine .ite (((h.detect _ _).setHpErr _).count _) ?_
  split
  · exact (h.detect _ _).writeBar0 _ _
  · exact (h.detect _ _).writeBar2 _ _
theorem State.Inv.readAccess (h : s.Inv) (bar : Bar) (off : Nat) : (s.readAccess bar off).Inv := by
  unfold State.readAccess
  split
  · exact h.same rfl
  · dsimp only
    split
    · exact h.same rfl
    · split
      · exact h.same rfl
      · exact h.same rfl
theorem State.Inv.putEnabled (h : s.Inv) (a : Nat) (bs : List (Option Byte)) : (s.putEnabled a bs).Inv := by
  induction bs generalizing s a with
  | nil => exact h
  | cons b rest ih =>
    cases b with
    | none => exact ih h _
    | some x => exact ih (h.storePut _ _) _
theorem State.Inv.bar4 (h : s.Inv) (off : Nat) (write : Option (List (Option Byte))) (len : Nat) (e : Bar4Errors) :
  (s.bar4 off write len e).Inv := by
  unfold State.bar4
  extract_lets a out
  have hout : ∀ {u : State} b poison, u.Inv → (out u b poison).Inv := fun b poison hu => hu.same rfl
  have hcounted : ((s.countN 84 e.corrected).countN 85 e.bad).Inv := (h.countN _ _).countN _ _
  refine .ite (h.reportAer _) ?_
  split
  · exact .ite ((h.setHpErr _).reportAer _) (.ite (h.setHpErr _) (hcounted.putEnabled _ _))
  · exact .ite (hout _ _ (h.setHpErr _)) (.ite (hout _ _ hcounted) (hout _ _ ((hcounted.setHpErr _).reportAer _)))
theorem State.Inv.perform (h : s.Inv) (a : HostAccess) : (s.perform a).Inv := by
  unfold State.perform
  split
  · exact h.writeAccess _ _ _ _
  · exact h.readAccess _ _
  · exact h.bar4 _ _ _ _
theorem State.Inv.hostAccess (h : s.Inv) (a : HostAccess) : (s.hostAccess a).Inv :=
  .ite (h.perform _) (.ite h (State.Inv.wakeBy (by exact h.same rfl) _))
theorem State.Inv.hostWriteReg (h : s.Inv) (bar : Bar) (off : Nat) (v : Nat) : (s.hostWriteReg bar off v).Inv := h.hostAccess _
theorem State.Inv.setCmdHead (h : s.Inv) (i : Nat) : (s.setCmdHead i).Inv := h.same rfl
theorem State.Inv.discardRing (h : s.Inv) (b : Bytes) : (s.discardRing b).Inv := by
  unfold State.discardRing
  exact State.Inv.reply (State.Inv.setCmdHead (by exact h.same rfl) _) _ _ _ _ _
theorem State.Inv.takePackets (h : s.Inv) (n : Nat) (b second : Bytes) : (State.takePackets n s b second).2.Inv := by
  induction n generalizing s b second with
  | zero => exact h
  | succ n ih =>
    have hread : (if s.shot 0 then s.shotTaken else s).Inv := .ite h.shotTaken h
    unfold State.takePackets
    refine .ite_snd h (.ite_snd ?_ (.ite_snd ?_ ?_))
    · exact ih ((hread.setCmdHead _).handlePacket _ _) _ _
    · exact ih (((hread.setCmdHead _).count _).handlePacket _ _) _ _
    · exact hread.discardRing _
theorem State.Inv.kettleRecovers (h : s.Inv) : (s.kettleRecovers).Inv :=
  .ite (State.Inv.drain (State.Inv.otpBegin (State.Inv.deviceEvent (by exact h.same rfl) _ _))) h
theorem State.Inv.takeRaised (h : s.Inv) (ks : List Nat) : (s.takeRaised ks).Inv := h.same rfl
theorem State.Inv.lineBankAction (h : s.Inv) (b : Nat) (r : BankRegion) : (s.lineBankAction b r).Inv := by
  unfold State.lineBankAction
  split
  · exact h.modChan _ _
  · exact h.modChan _ _
  · split
    · exact h.modJob _ _
    · exact h
  · exact h.changeMap _ _
  · refine inv_foldl _ (fun s x h => ?_) _ _ h
    split
    · exact .ite (h.modJob _ _) h
    · exact h
  · exact h
theorem State.Inv.spoilStripe (h : s.Inv) (p : Nat) (i : Nat) : (s.spoilStripe p i).Inv := by
  unfold State.spoilStripe
  split
  · exact h.dropStripe _ _ _
  · exact h
theorem State.Inv.spoilRing (h : s.Inv) (p : Nat) (i : Nat) : (s.spoilRing p i).Inv := by
  unfold State.spoilRing
  split
  · exact h
  · exact State.Inv.count (State.Inv.raise (State.Inv.markFrame (State.Inv.modFrame (by exact h.same rfl) _ _ _) _ _ _) _) _
theorem State.Inv.bankAction (h : s.Inv) (b : Nat) (r : BankRegion) : (s.bankAction b r).Inv := by
  unfold State.bankAction
  refine .ite (h.warmReset _) ?_
  refine .ite h.wipeCaddy.reloadCaddy ?_
  split
  · exact h.lineBankAction _ _
  · exact h.lineBankAction _ _
  · exact h.lineBankAction _ _
  · exact h.lineBankAction _ _
  · exact h.lineBankAction _ _
  · exact .ite (h.resetBlocks _) (.ite (h.resetBlocks _) h)
  · exact h.spoilStripe _ _
  · exact h.spoilRing _ _
  · exact h.modPort _ _
  · exact h
theorem State.Inv.dmaErrors (h : s.Inv) (a : BitVec 64) (e : DmaData) (b : Bytes) : (s.dmaErrors a e b).2.Inv := by
  unfold State.dmaErrors
  split
  · exact (h.countN _ _).countN _ _
  · split
    · dsimp only
      refine inv_foldl _ (fun s x h => ?_) _ _ ?_
      · exact ((h.count _).repairRow _ _ _).bankAction _ _
      · exact inv_foldl _ (fun _ _ h => h.bankCorrected _ _) _ _ h
    · dsimp only
      refine inv_foldl _ (fun s x h => ?_) _ _ ?_
      · exact ((h.count _).repairRow _ _ _).bankAction _ _
      · exact inv_foldl _ (fun _ _ h => h.bankCorrected _ _) _ _ h.draw
  · exact h
theorem State.Inv.dmaFinish (h : s.Inv) (k : Nat) (r : DmaRun) (b : Bytes) : (s.dmaFinish k r b).Inv :=
  .ite h ((((h.dmaWrite _ _).modDma _ _).raise _).dmaNext _)
theorem State.Inv.reburnRead (h : s.Inv) (r : OtpRun) (a : Nat) : (s.reburnRead r a).Inv := .ite (h.otpInspect _) h
theorem State.Inv.otpVerified (h : s.Inv) (a : Nat) : (s.otpVerified a).Inv := h.same rfl
theorem State.Inv.otpFailed (h : s.Inv) (a : Nat) : (s.otpFailed a).Inv := .ite ((h.count _).findWeak _) (h.count _)
theorem State.Inv.copyShadows (h : s.Inv) (maps : List (Nat × List (Nat × BitVec 4))) : (s.copyShadows maps).Inv := by
  unfold State.copyShadows
  exact inv_foldl _ (fun _ _ h => (h.changeMap _ _).clearRuns _ _) _ _ h
theorem State.Inv.completeCommit (h : s.Inv) : (s.completeCommit).Inv := .ite h ((h.copyShadows _).same rfl)
theorem State.Inv.reachRun (h : s.Inv) : (s.reachRun).Inv := by
  unfold State.reachRun
  refine inv_foldl _ (fun s x h => ?_) _ _ ?_
  · exact h.dmaNext _
  · refine State.Inv.completeCommit ?_
    split
    · split
      · exact h.same rfl
      · exact h.same rfl
      · exact h.same rfl
    · split
      · exact h.same rfl
      · exact h.same rfl
      · exact h.same rfl
theorem State.Inv.applyPatches (h : s.Inv) : (s.applyPatches).Inv := by
  unfold State.applyPatches
  refine State.Inv.countN ?_ _ _
  split
  · split
    · exact h.same rfl
    · exact (h.detect _ _).same rfl
  · split
    · exact h.same rfl
    · exact (h.detect _ _).same rfl
theorem State.Inv.releaseHeld (h : s.Inv) : (s.releaseHeld).Inv := by
  unfold State.releaseHeld
  refine State.Inv.startFetch ?_
  refine .ite ?_ ?_
  · refine State.Inv.writeImmGo ?_
    split
    · refine State.Inv.writeCmdTail ?_ _
      exact inv_foldl _ (fun _ _ h => h.hostAccess _) _ _ (h.same rfl)
    · exact inv_foldl _ (fun _ _ h => h.hostAccess _) _ _ (h.same rfl)
  · split
    · refine State.Inv.writeCmdTail ?_ _
      exact inv_foldl _ (fun _ _ h => h.hostAccess _) _ _ (h.same rfl)
    · exact inv_foldl _ (fun _ _ h => h.hostAccess _) _ _ (h.same rfl)
theorem State.Inv.park (h : s.Inv) : (s.park).Inv := by
  unfold State.park
  exact inv_foldl _ (fun _ _ h => State.Inv.portsMoved (State.Inv.modWport (.ite (h.sendFrame _ _) h) _ _)) _ _ h
theorem State.Inv.stopFabric (h : s.Inv) : (s.stopFabric).Inv := by
  unfold State.stopFabric
  exact inv_foldl _ (fun _ _ h => h.latchLine _) _ _ (h.same rfl)
theorem State.Inv.loadSubsystem (h : s.Inv) : (s.loadSubsystem).Inv := h.same rfl
theorem State.Inv.kettleReads (h : s.Inv) : (s.kettleReads).Inv := (((h.readRegions _).loadSubsystem).loadCaddy).applyPatches
theorem State.Inv.romFails (h : s.Inv) : (s.romFails).Inv := State.Inv.count (by exact h.same rfl) _
theorem State.Inv.kettleStarts (h : s.Inv) : (s.kettleStarts).Inv := .ite h (.ite h.draw.kettleReads h.draw.romFails)
theorem State.Inv.pinReset (h : s.Inv) : (s.pinReset).Inv := h.coldReset _ _
theorem State.Inv.setBme (h : s.Inv) : (s.setBme).Inv :=
  State.Inv.flushVectors (State.Inv.eventsLost (State.Inv.drain (State.Inv.startFetch (by exact h.same rfl))))
theorem State.Inv.barWrite (h : s.Inv) (i : Fin 6) (v : Word) : (s.barWrite i v).Inv := .ite h (h.same rfl)
theorem State.Inv.configWrite (h : s.Inv) (w : ConfigWrite) : (s.configWrite w).Inv := by
  unfold State.configWrite
  split
  · exact .ite h (.ite h.setBme h.clearBme)
  · exact h.same rfl
  · exact h.same rfl
  · exact h.same rfl
  · exact h.same rfl
  · exact h.same rfl
  · exact .ite (h.same rfl) h
  · exact h.same rfl
  · exact h.same rfl
  · exact h.same rfl
  · exact h.barWrite _ _
theorem State.Inv.readFails (h : s.Inv) (e : ReadError) (a : PendingRead) : (s.readFails e a).Inv := by
  unfold State.readFails
  split
  · exact .ite ((h.hostReadError _).dmaFail _) h
  · exact .ite h ((h.hostReadError _).failRead _ _)
  · exact .ite (State.Inv.hostReadError (by exact h.same rfl) _) h
theorem State.Inv.mirrorDrive (h : s.Inv) (v : BitVec 16) : (s.mirrorDrive v).Inv := h.same rfl
theorem State.Inv.mirrorReadAt (h : s.Inv) (a : Nat) (live : BitVec 16) : (s.mirrorReadAt a live).Inv := by
  unfold State.mirrorReadAt
  split
  · exact h.mirrorDrive _
  · refine .ite (h.same rfl) ?_
    split
    · exact .ite (h.mirrorDrive _) (h.mirrorDrive _)
    · exact h.mirrorDrive _
theorem State.Inv.mirrorRewrite (h : s.Inv) (a : Nat) : (s.mirrorRewrite a).Inv := h.mirrorWrite _
theorem State.Inv.mirrorRelease (h : s.Inv) : (s.mirrorRelease).Inv := h.same rfl
theorem State.Inv.mirrorAccepts (h : s.Inv) {act : State → State} (hact : ∀ {u : State}, u.Inv → (act u).Inv) : (s.mirrorAccepts act).Inv :=
  .ite h (.ite (h.mirrorRelease.shotTaken.count _) (hact (h.mirrorRelease.raise _)))
theorem State.Inv.mirrorRejects (h : s.Inv) : (s.mirrorRejects).Inv := State.Inv.count (.ite h.mirrorRelease.shotTaken h.mirrorRelease) _
theorem State.Inv.beginHandOver (h : s.Inv) (n : Nat) (line : Nat) : (s.beginHandOver n line).Inv := by
  unfold State.beginHandOver
  dsimp only
  split
  · exact inv_foldl _ (fun _ _ h => h.collides _) _ _ (h.modChan _ _)
  · exact h
theorem State.Inv.bankUncorrectable (h : s.Inv) (b : Nat) (stripe : Option Nat) : (s.bankUncorrectable b stripe).Inv :=
  (h.draw.count _).repairRow _ _ _
theorem State.Inv.pruneMaps (h : s.Inv) (j : Job) (n : Nat) : (s.pruneMaps j n).Inv := by
  unfold State.pruneMaps
  split
  · exact (h.modChan _ _).modChan _ _
  · exact h
theorem State.Inv.enterLate (h : s.Inv) (slot : Nat) (line : Nat) : (s.enterLate slot line).Inv := by
  unfold State.enterLate
  split
  · exact h
  · exact ((((h.putBack _ _ _).modJob _ _).setJobState _ _).raise _).count _
theorem State.Inv.lateStart (h : s.Inv) (slot : Nat) (line : Nat) : (s.lateStart slot line).Inv := by
  unfold State.lateStart
  split
  · exact h
  · refine .ite (State.Inv.sendNewPkt (State.Inv.modJob (State.Inv.draw (.ite ((h.enterLate _ _).modAxis _ _) (h.enterLate _ _))) _ _) _ _ _) ?_
    exact .ite ((h.enterLate _ _).modAxis _ _) (h.enterLate _ _)
theorem State.Inv.ringFed (h : s.Inv) (j : Job) : (s.ringFed j).2.Inv := .ite_snd h.draw h
theorem State.Inv.dropLine (h : s.Inv) (slot : Nat) (n : Nat) (line : Nat) : (s.dropLine slot n line).Inv := (h.modFifo _ _ _).composeOn _ _
theorem State.Inv.externalSkip (h : s.Inv) (slot : Nat) (line : Nat) : (s.externalSkip slot line).Inv := by
  unfold State.externalSkip
  split
  · exact h
  · refine State.Inv.writeHeader ?_ _
    refine State.Inv.count ?_ _
    exact inv_foldl _ (fun _ _ h => (h.dropLine _ _ _).modJob _ _) _ _ ((h.modJob _ _).addEntry _ _)
theorem State.Inv.lineLate (h : s.Inv) (slot : Nat) (n : Nat) (line : Nat) : (s.lineLate slot n line).Inv := by
  unfold State.lineLate
  split
  · exact h
  · refine .ite h ?_
    refine .ite (h.modChan _ _) ?_
    refine .ite (h.lateStart _ _) ?_
    exact .ite (((h.ringFed _).enterLate _ _).sendNewPkt _ _ _) ((h.ringFed _).externalSkip _ _)
theorem State.Inv.packLine (h : s.Inv) (slot : Nat) (n : Nat) (line : Nat) (badWords : List Nat) : (s.packLine slot n line badWords).Inv := by
  unfold State.packLine
  split
  · exact h
  · refine .ite h ?_
    split
    · split
      · refine .ite ?_ ((h.detect _ _).lineLate _ _ _)
        refine State.Inv.pruneMaps ?_ _ _
        refine State.Inv.modFifo ?_ _ _ _
        exact inv_foldl _ (fun _ _ h => h.bankUncorrectable _ _) _ _ (h.detect _ _)
      · exact (h.detect _ _).lineLate _ _ _
    · split
      · refine .ite ?_ (h.lineLate _ _ _)
        refine State.Inv.pruneMaps ?_ _ _
        refine State.Inv.modFifo ?_ _ _ _
        exact inv_foldl _ (fun _ _ h => h.bankUncorrectable _ _) _ _ h
      · exact h.lineLate _ _ _
theorem State.Inv.lineBankErrors {α : Type} (h : s.Inv) (b : Nat) (e : BadWords α) : (s.lineBankErrors b e).Inv :=
  inv_foldl _ (fun _ _ h => (h.bankUncorrectable _ _).lineBankAction _ _) _ _ (inv_foldl _ (fun _ _ h => h.bankCorrected _ _) _ _ h)
theorem State.Inv.overtaken (h : s.Inv) (slot : Nat) (n : Nat) (line : Nat) : (s.overtaken slot n line).Inv := by
  unfold State.overtaken
  split
  · exact h
  · exact .ite h (State.Inv.dropLine (State.Inv.count (State.Inv.lineDone (.ite (h.detect _ _) h) _ _ _ _) _) _ _ _)
theorem State.Inv.passOver (h : s.Inv) (slot : Nat) (n : Nat) (line : Nat) : (s.passOver slot n line).Inv :=
  (((((h.modFifo _ _ _).composeFrom _ _ _).composeOn _ _).packLine _ _ _ _).checkStopAt _).checkEnded _
theorem State.Inv.cosyStop (h : s.Inv) (n : Nat) : (s.cosyStop n).Inv := .ite (h.modChan _ _) h
theorem State.Inv.beginSlot (h : s.Inv) (n : Nat) (p : Period) (k : Nat) : (s.beginSlot n p k).Inv := by
  unfold State.beginSlot
  split
  · exact h
  · exact h.modChan _ _
theorem State.Inv.cosySlot (h : s.Inv) (n : Nat) (f : Firing) : (s.cosySlot n f).Inv := .ite (h.beginSlot _ _ _) h
theorem State.Inv.passGone (h : s.Inv) (slot n k : Nat) : (s.passGone slot n k).Inv := by
  induction k generalizing s with
  | zero => exact h
  | succ k ih =>
    unfold State.passGone
    split
    · exact h
    · exact .ite (ih (h.passOver _ _ _)) h
theorem State.Inv.noteResume (h : s.Inv) (slot : Nat) : (s.noteResume slot).Inv := by
  unfold State.noteResume
  split
  · exact h
  · split
    · exact h
    · exact (((h.modJob _ _).addEntry _ _).raise _).writeHeader _
theorem State.Inv.cosyEnd (h : s.Inv) (n : Nat) (f : Firing) : (s.cosyEnd n f).Inv := .ite h (.ite (h.modChan _ _) (h.modChan _ _))
theorem State.Inv.ioStopDue (h : s.Inv) (n : Nat) : (s.ioStopDue n).Inv := .ite (h.modChan _ _) h
theorem State.Inv.armChan (h : s.Inv) (slot : Nat) (n : Nat) (skip : Bool) : (s.armChan slot n skip).Inv := by
  unfold State.armChan
  split
  · exact h
  · exact (h.skipTo _ _ _ _).packLine _ _ _ _
theorem State.Inv.armJob (h : s.Inv) (slot : Nat) (skip : Bool) : (s.armJob slot skip).Inv := by
  unfold State.armJob
  split
  · exact h
  · refine State.Inv.checkEnded ?_ _
    refine State.Inv.checkStopAt ?_ _
    refine State.Inv.answerStarts ?_ _
    refine .ite ((h.modJob _ _).setJobState _ _) ?_
    exact inv_foldl _ (fun _ _ h => h.armChan _ _ _) _ _ ((h.modJob _ _).setJobState _ _)
theorem State.Inv.startRereg (h : s.Inv) (slot : Nat) (resume : Bool) : (s.startRereg slot resume).Inv := by
  unfold State.startRereg
  split
  · exact h
  · exact .ite (h.modAxis _ _) h
theorem State.Inv.reregister (h : s.Inv) (slot : Nat) : (s.reregister slot).Inv := by
  unfold State.reregister
  split
  · exact h
  · exact State.Inv.startRereg (State.Inv.armJob (State.Inv.modJob (.ite (h.sendNewPkt _ _ _) h) _ _) _ _) _ _
theorem State.Inv.sendTileData (h : s.Inv) (t : Tile) (off : Nat) (data : Bytes) : (s.sendTileData t off data).Inv := by
  unfold State.sendTileData
  extract_lets rest xfer sent t' replaced
  have hsent : sent.Inv := inv_foldl _ (fun _ _ h => .ite (h.sendAll _ _) (h.sendTo _ _ _)) _ _ h
  clear_value sent
  exact hsent.same rfl
theorem State.Inv.held (h : s.Inv) (q : Rat) : (s.held q).2.Inv := .ite_snd h h.draw
theorem State.Inv.logShutdown (h : s.Inv) (x : Sensor) (injected : Bool) : (s.logShutdown x injected).Inv :=
  .ite h (.ite ((h.detect _ _).count _) ((h.detect _ _).same rfl))
theorem State.Inv.shutChan (h : s.Inv) (n : Nat) (cause : Nat) : (s.shutChan n cause).Inv := by
  unfold State.shutChan
  split
  · dsimp only
    split
    · exact (h.putBack _ _ _).modChan _ _
    · refine .ite (((h.putBack _ _ _).modChan _ _).modChan _ _) ?_
      split
      · exact .ite (((h.putBack _ _ _).modChan _ _).cutLine _ _ _) (((h.putBack _ _ _).modChan _ _).modChan _ _)
      · exact ((h.putBack _ _ _).modChan _ _).modChan _ _
  · dsimp only
    split
    · exact (h.modChan _ _).modChan _ _
    · refine .ite (((h.modChan _ _).modChan _ _).modChan _ _) ?_
      split
      · exact .ite (((h.modChan _ _).modChan _ _).cutLine _ _ _) (((h.modChan _ _).modChan _ _).modChan _ _)
      · exact ((h.modChan _ _).modChan _ _).modChan _ _
theorem State.Inv.shutJob (h : s.Inv) (slot : Nat) (device : Bool) : (s.shutJob slot device).Inv := by
  unfold State.shutJob
  split
  · exact .ite (h.stopJob _) (.ite (h.stopAxisMax _) h)
  · exact h
theorem State.Inv.shutdown (h : s.Inv) (x : Sensor) (injected : Bool) : (s.shutdown x injected).Inv := by
  unfold State.shutdown
  refine State.Inv.endSurveyIf ?_ _ _
  refine inv_foldl _ (fun s x h => ?_) _ _ ?_
  · split
    · exact .ite (((h.shutJob _ _).checkEnded _).answerStops _) h
    · exact h
  · exact inv_foldl _ (fun _ _ h => (h.shutChan _ _).modChan _ _) _ _ (((((h.modSensor _ _).count _).deviceEvent _ _).raise _).logShutdown _ _)
theorem State.Inv.applyTargets (h : s.Inv) (ns : List Nat) : (s.applyTargets ns).Inv := by
  unfold State.applyTargets
  refine State.Inv.levelPulse ?_ _ _
  exact inv_foldl _ (fun _ _ h => h.applyTarget _) _ _ h
theorem State.Inv.takeValue (h : s.Inv) (x : Sensor) (v : Rat) (injected : Bool) : (s.takeValue x v injected).Inv := by
  unfold State.takeValue
  refine State.Inv.applyTargets ?_ _
  refine .ite ?_ ?_
  · refine State.Inv.shutdown ?_ _ _
    split
    · exact ((h.held _).modSensor _ _).modChan _ _
    · exact (h.held _).modSensor _ _
  · split
    · exact ((h.held _).modSensor _ _).modChan _ _
    · exact (h.held _).modSensor _ _
theorem State.Inv.legOver (h : s.Inv) (n : Nat) : (s.legOver n).Inv := .ite ((h.modAxis _ _).axisStood _) h
theorem State.Inv.stall (h : s.Inv) (n : Nat) : (s.stall n).Inv := by
  unfold State.stall
  dsimp only
  split
  · exact ((((h.count _).raise _).modAxis _ _).finishHome _ _).endSurveyOn _
  · exact ((((h.count _).raise _).modAxis _ _).axisInterrupted _ _).axisStood _
theorem State.Inv.updateAxis (h : s.Inv) (n : Nat) : (s.updateAxis n).Inv :=
  .ite (h.modAxis _ _) (.ite (State.Inv.stall (.ite_snd ((((h.modAxis _ _).modAxis _ _).legOver _).detect _ _)
    (((h.modAxis _ _).modAxis _ _).legOver _)) _) (.ite_snd ((((h.modAxis _ _).modAxis _ _).legOver _).detect _ _)
    (((h.modAxis _ _).modAxis _ _).legOver _)))
theorem State.Inv.finishAttach (h : s.Inv) : (s.finishAttach).Inv := by
  unfold State.finishAttach
  split
  · exact h
  · exact .ite h (State.Inv.finishOps (by exact h.same rfl) _ _)
theorem State.Inv.notPresent (h : s.Inv) (n : Nat) : (s.notPresent n).Inv := (h.modChan _ _).finishAttach
theorem State.Inv.identMissed (h : s.Inv) (n : Nat) (i : Ident) (guardUs : Nat) : (s.identMissed n i guardUs).Inv :=
  .ite (h.notPresent _) (h.modChan _ _)
theorem State.Inv.isPresent (h : s.Inv) (n : Nat) (id : HeadId) (fail : Bool) : (s.isPresent n id fail).Inv := by
  unfold State.isPresent
  refine State.Inv.finishAttach ?_
  refine State.Inv.injMoment ?_
  exact h.same rfl
theorem State.Inv.pollAgain (h : s.Inv) (n : Nat) (i : Ident) (answered : Bool) : (s.pollAgain n i answered).Inv := h.modChan _ _
theorem State.Inv.sendChallenge (h : s.Inv) (n : Nat) (i : Ident) : (s.sendChallenge n i).Inv := h.sendId _ _ _ _ _
theorem State.Inv.identified (h : s.Inv) (n : Nat) (i : Ident) (id : HeadId) : (s.identified n i id).Inv := by
  unfold State.identified
  refine .ite ?_ (h.isPresent _ _ _)
  split
  · exact h.isPresent _ _ _
  · exact h.draw.sendChallenge _ _
theorem State.Inv.sendResponse (h : s.Inv) (n : Nat) (i : Ident) : (s.sendResponse n i).Inv := h.sendId _ _ _ _ _
theorem State.Inv.roundFailed (h : s.Inv) : (s.roundFailed).Inv := by
  unfold State.roundFailed
  split
  · exact h
  · exact .ite (h.endSurvey _) (State.Inv.count (by exact h.same rfl) _)
theorem State.Inv.fireCapture (h : s.Inv) (u : SurveySetup) (k : Capture) : (s.fireCapture u k).Inv := by
  unfold State.fireCapture
  exact h.modChan _ _
theorem State.Inv.commitSurvey (h : s.Inv) : (s.commitSurvey).Inv := by
  unfold State.commitSurvey
  split
  · exact h
  · exact State.Inv.finishOps (by exact (h.copyShadows _).same rfl) _ _
theorem State.Inv.roundDone (h : s.Inv) (u : SurveySetup) : (s.roundDone u).Inv := by
  unfold State.roundDone
  split
  · exact h
  · next r _ =>
    extract_lets before work done pct next r' _ counted told
    have hcounted : counted.Inv := h.same rfl
    have htold : told.Inv := inv_foldl _ (fun _ _ h => (h.deviceEvent _ _).raise _) _ _ hcounted
    refine .ite ?_ htold
    split
    · exact State.Inv.gotoStation (by exact htold.same rfl)
    · exact htold.commitSurvey
theorem State.Inv.detectCam (h : s.Inv) (k : Nat) (p : Nat) (real : Bool) : (s.detectCam k p real).2.Inv := .ite_snd (h.detect _ _) h
theorem State.Inv.newFrame (h : s.Inv) (p : Nat) (u : CamSetup) (e : Exposure) : (s.newFrame p u e).Inv := h.modPort _ _
theorem State.Inv.triggerFrame (h : s.Inv) (p : Nat) (u : CamSetup) (e : Exposure) : (s.triggerFrame p u e).2.Inv := by
  unfold State.triggerFrame
  split
  · exact h
  · exact h.newFrame _ _ _
theorem State.Inv.endFrame (h : s.Inv) (p : Nat) (key : Nat) : (s.endFrame p key).Inv := ((h.modPort _ _).modFrame _ _ _).finishFrame _ _
theorem State.Inv.settleFrame (h : s.Inv) (p : Nat) (key : Nat) : (s.settleFrame p key).Inv := by
  unfold State.settleFrame
  split
  · exact h
  · exact .ite (h.endFrame _ _) h
theorem State.Inv.beginFrame (h : s.Inv) (p : Nat) (key : Nat) (pos : Int) (e : Exposure) : (s.beginFrame p key pos e).Inv :=
  (h.modFrame _ _ _).raise _
theorem State.Inv.placeLine (h : s.Inv) (p : Nat) (key : Nat) (idx : Nat) (pos : Int) (line : List Nat) (e : BankErrors) :
  (s.placeLine p key idx pos line e).Inv := by
  unfold State.placeLine
  split
  · exact h
  · refine .ite (h.loseLines _ _ _) ?_
    refine .ite ((h.detectCam _ _ _).dropStripe _ _ _) ?_
    refine .ite (((((h.detectCam _ _ _).modPort _ _).shotTaken).count _).closeFrame _ _) ?_
    exact (h.detectCam _ _ _).modPort _ _
theorem State.Inv.takeLine (h : s.Inv) (p : Nat) (o : Owed) (idx : Nat) (pixels : List Nat) (tail : LineTail) :
  (s.takeLine p o idx pixels tail).Inv := by
  unfold State.takeLine
  split
  · exact h
  · refine State.Inv.placeLine ?_ _ _ _ _ _ _
    refine .ite (State.Inv.count (State.Inv.markFrame (State.Inv.modFrame (State.Inv.detectCam (by exact h.same rfl) _ _ _) _ _ _) _ _ _) _) ?_
    exact State.Inv.detectCam (by exact h.same rfl) _ _ _
theorem State.Inv.stripeErrors (h : s.Inv) (p : Nat) (e : BankErrors) : (s.stripeErrors p e).Inv := by
  unfold State.stripeErrors
  refine inv_foldl _ (fun s x h => ?_) _ _ ?_
  · exact (h.count _).repairRow _ _ _
  · exact inv_foldl _ (fun _ _ h => h.bankCorrected _ _) _ _ h
theorem State.Inv.putRows (h : s.Inv) (a : Nat) (stride : Nat) (rows : List Bytes) : (s.putRows a stride rows).Inv := by
  unfold State.putRows
  exact inv_foldl _ (fun _ _ h => h.storePut _ _) _ _ h
theorem State.Inv.writeOutput (h : s.Inv) (p : Nat) (output : Nat) (f : CamFrame) (row0 : Nat) (rows : List (List (List Nat))) :
  (s.writeOutput p output f row0 rows).Inv := by
  unfold State.writeOutput
  split
  · exact h
  · split
    · exact State.Inv.modFrame (by exact (h.putRows _ _ _).same rfl) _ _ _
    · exact State.Inv.modFrame (by exact ((h.putRows _ _ _).putRows _ _ _).same rfl) _ _ _
    · exact .ite h (State.Inv.modFrame (by exact ((h.putRows _ _ _).putRows _ _ _).same rfl) _ _ _)
theorem State.Inv.writeRing (h : s.Inv) (p : Nat) (f : CamFrame) (x : Stripe) (rows : List (List (List Nat))) : (s.writeRing p f x rows).Inv := by
  unfold State.writeRing
  split
  · exact h.loseLines _ _ _
  · exact .ite (h.loseLines _ _ _) (h.same rfl)
theorem State.Inv.processStripe (h : s.Inv) (p : Nat) (f : CamFrame) (x : Stripe) : (s.processStripe p f x).Inv :=
  State.Inv.modFrame (State.Inv.writeRing (State.Inv.writeOutput (State.Inv.writeOutput
    (State.Inv.writeOutput (.ite h.draw h) _ _ _ _ _) _ _ _ _ _) _ _ _ _ _) _ _ _ _) _ _ _
theorem State.Inv.sendCtl (h : s.Inv) (p : Side) (typ : BitVec 4) (seq : BitVec 12) : (s.sendCtl p typ seq).Inv := h.modWport _ _
theorem State.Inv.sendNak (h : s.Inv) (p : Side) : (s.sendNak p).Inv := .ite h ((h.sendCtl _ _ _).modWport _ _)
theorem State.Inv.frameError (h : s.Inv) (p : Side) (sequenced : Bool) : (s.frameError p sequenced).Inv := .ite ((h.count _).sendNak _) (h.count _)
theorem State.Inv.sendAck (h : s.Inv) (p : Side) : (s.sendAck p).Inv := (h.sendCtl _ _ _).modWport _ _
theorem State.Inv.inOrder (h : s.Inv) (p : Side) (f : Frame) : (s.inOrder p f).2.Inv :=
  .ite_snd (h.shotTaken.frameError _ _) (.ite_snd h (.ite_snd (.ite ((h.modWport _ _).sendAck _) (h.modWport _ _))
    (.ite_snd (h.sendAck _) (h.sendNak _))))
theorem State.Inv.forward (h : s.Inv) (p : Side) (f : Frame) : (s.forward p f).Inv :=
  .ite h (.ite (.ite (h.sendFrame _ _) h) (.ite h (.ite (.ite (h.sendFrame _ _) (h.reroute _ _)) (h.count _))))
theorem State.Inv.receive (h : s.Inv) (p : Side) (f : Frame) {handle : State → State} (hhandle : ∀ {u : State}, u.Inv → (handle u).Inv) :
    (s.receive p f handle).Inv := by
  have hd := h.inOrder p f
  have hpassed : (if f.typ = tACK || f.typ = tNAK || f.typ = tSYNC then (s.inOrder p f).2 else (s.inOrder p f).2.forward p f).Inv := .ite hd
    (hd.forward _ _)
  exact .ite (.ite (hhandle hpassed) hpassed) hd
theorem State.Inv.takeTopo (h : s.Inv) (t : Topo) : (s.takeTopo t).Inv :=
  State.Inv.checkPath (State.Inv.modWport (State.Inv.modWport (by exact h.same rfl) _ _) _ _)
theorem State.Inv.takeEnumeration (h : s.Inv) (t : Topo) : (s.takeEnumeration t).Inv := by
  unfold State.takeEnumeration
  refine .ite h ?_
  refine State.Inv.takeTopo ?_ _
  split
  · exact h
  · exact h.same rfl
  · exact h.same rfl
theorem State.Inv.meetMasters (h : s.Inv) (a : RingMasters) : (s.meetMasters a).Inv := by
  unfold State.meetMasters
  split
  · exact h
  · exact h.same rfl
  · exact h.same rfl
  · exact h.same rfl
theorem State.Inv.takeBreak (h : s.Inv) (t : Topo) : (s.takeBreak t).Inv := State.Inv.takeTopo (by exact ((h.modWport _ _).modWport _ _).same rfl) _
theorem State.Inv.markParked (h : s.Inv) (p : Side) : (s.markParked p).Inv :=
  State.Inv.checkPath (State.Inv.portsMoved (by exact ((h.modWport _ _).modWport _ _).same rfl))
theorem State.Inv.takePos (h : s.Inv) (f : Frame) : (s.takePos f).Inv := .ite h (h.same rfl)
theorem State.Inv.align (h : s.Inv) (est : Int) : (s.align est).Inv := .ite (h.same rfl) (.ite (h.draw.same rfl) (h.draw.same rfl))
theorem State.Inv.takeSync (h : s.Inv) (p : Side) (f : Frame) : (s.takeSync p f).Inv := .ite (h.sendFrame _ _) (.ite h (h.draw.align _))
theorem State.Inv.ringTrip (h : s.Inv) (classes : BitVec 4) : (s.ringTrip classes).Inv :=
  .ite (h.same rfl) (State.Inv.tripActs (by exact h.same rfl) _)
theorem State.Inv.takeReport (h : s.Inv) (f : Frame) : (s.takeReport f).Inv := by
  unfold State.takeReport
  extract_lets d r _ reported tripped still
  have htripped : tripped.Inv := State.Inv.ringTrip (by exact h.same rfl) _
  clear_value tripped
  exact State.Inv.raise (by exact htripped.same rfl) _
theorem State.Inv.sendWaiting (h : s.Inv) (p : Side) : (s.sendWaiting p).Inv := by
  unfold State.sendWaiting
  exact inv_foldl _ (fun _ _ h => h.sendFrame _ _) _ _ (h.modWport _ _)
theorem State.Inv.dropAssembly (h : s.Inv) (f : Frame) : (s.dropAssembly f).Inv := h.same rfl
theorem State.Inv.takeSegment (h : s.Inv) (f : Frame) {whole : State → Bytes → State} (hwhole : ∀ {u : State} b, u.Inv → (whole u b).Inv) :
    (s.takeSegment f whole).Inv := by
  have hdropped : (s.dropAssembly f).Inv := h.dropAssembly f
  unfold State.takeSegment
  split
  · exact h
  · exact .ite (hwhole _ hdropped) (hdropped.same rfl)
theorem State.Inv.takeOnce (h : s.Inv) (f : Frame) {act : State → State} (hact : ∀ {u : State}, u.Inv → (act u).Inv) : (s.takeOnce f act).Inv :=
  .ite h (hact (by exact h.same rfl))
theorem State.Inv.takeCommand (h : s.Inv) (f : Frame) (b : Bytes) : (s.takeCommand f b).Inv := (h.sendPkt _ _ _ _).handlePacket _ _
theorem State.Inv.takeReply (h : s.Inv) (b : Bytes) : (s.takeReply b).Inv := .ite (h.engineReply _) ((h.engineReply _).same rfl)
theorem State.Inv.takeDelivery (h : s.Inv) (k : BitVec 16) : (s.takeDelivery k).Inv := h.same rfl
theorem State.Inv.signalLate (h : s.Inv) (origin : Nat) (b : Bytes) : (s.signalLate origin b).Inv := by
  unfold State.signalLate
  split
  · exact .ite h (.ite ((h.lateStart _ _).modJob _ _) (.ite (h.modJob _ _) h))
  · exact h
theorem State.Inv.signalStop (h : s.Inv) (b : Bytes) : (s.signalStop b).Inv := by
  unfold State.signalStop
  split
  · exact .ite (h.enterLate _ _) h
  · exact h
theorem State.Inv.signalFull (h : s.Inv) (origin : Nat) (b : Bytes) : (s.signalFull origin b).Inv := by
  unfold State.signalFull
  split
  · exact .ite (h.modJob _ _) h
  · exact h
theorem State.Inv.signalArm (h : s.Inv) (b : Bytes) : (s.signalArm b).Inv := by
  unfold State.signalArm
  split
  · split
    · exact .ite ((h.modJob _ _).armJob _ _) h
    · exact h
  · exact h
theorem State.Inv.takeSignal (h : s.Inv) (f : Frame) (b : Bytes) : (s.takeSignal f b).Inv := by
  unfold State.takeSignal
  split
  · exact h.signalLate _ _
  · exact h.signalStop _
  · exact h.signalFull _ _
  · exact h.signalArm _
  · exact h
theorem State.Inv.takePktFrame (h : s.Inv) (f : Frame) : (s.takePktFrame f).Inv := by
  unfold State.takePktFrame
  split
  · exact h.takeSegment f fun b hu => hu.takeOnce f fun hu => hu.takeCommand f b
  · exact h.takeSegment f fun b hu => hu.takeOnce f fun hu => hu.takeReply b
  · exact h.takeDelivery _
  · exact h.takeSegment f fun b hu => hu.takeOnce f fun hu => hu.takeSignal f b
  · exact h

end Sys2Proof.Machine
end

section
/-! SUPPORT. Every command completes in a state with the invariant (02 R63, R81, 13 R421). -/
namespace Sys2Proof.Machine
variable {s t : State}

theorem execRingReadCompletion_completes (h : s.Inv) (data : Bytes) (reread : Bytes) : Completes (execRingReadCompletion data reread s) := by
  unfold execRingReadCompletion
  split
  · exact .next h
  · refine .ite (.next h) ?_
    refine .ite (.next h) ?_
    split
    · dsimp only
      split
      · exact .next (.ite ((h.takePackets _ _ _).same rfl) (State.Inv.startFetch (by exact (h.takePackets _ _ _).same rfl)))
      · exact .next (h.takePackets _ _ _)
    · dsimp only
      split
      · exact .next (by exact (h.takePackets _ _ _).same rfl)
      · exact .next (h.takePackets _ _ _)

theorem execEventPulse_completes (h : s.Inv) (sources : List Nat) : Completes (execEventPulse sources s) := by
  unfold execEventPulse
  refine .ite (.next ((h.takeRaised _).pulse _)) ?_
  refine .next ?_
  refine inv_foldl _ (fun _ _ h => ?_) _ _ h
  exact h.raise _

theorem execDmaComplete_completes (h : s.Inv) (k : Fin 16) (e : DmaData) : Completes (execDmaComplete k e s) := by
  unfold execDmaComplete
  split
  · exact .next h
  · refine .ite (.next h) ?_
    refine .ite (.next ((((h.shotTaken.hostReadError _).count _).modDma _ _).dmaNext _)) ?_
    exact .next (State.Inv.dmaFinish (State.Inv.dmaErrors (.ite_snd h (h.dmaSource _)) _ _ _) _ _ _)

theorem execDmaHostError_completes (h : s.Inv) (k : Fin 16) (written : Bytes) (e : ReadError) : Completes (execDmaHostError k written e s) := by
  unfold execDmaHostError
  split
  · exact .next h
  · refine .ite (.next h) ?_
    exact .next (State.Inv.dmaNext (State.Inv.count (State.Inv.modDma (.ite (((h.dmaWrite _ _).hostReadError _).shotTaken)
      ((h.dmaWrite _ _).hostReadError _)) _ _) _) _)

theorem execLifecycleAdvanceDone_completes (h : s.Inv) : Completes (execLifecycleAdvanceDone s) := by
  unfold execLifecycleAdvanceDone
  split
  · exact .ite (.next h) (.next (h.enterLifecycle _))
  · exact .next h

theorem execWarmResetDone_completes (h : s.Inv) : Completes (execWarmResetDone s) := by
  unfold execWarmResetDone
  refine .ite (.next h) ?_
  refine .next ?_
  refine State.Inv.releaseHeld ?_
  refine State.Inv.finishOps ?_ _ _
  refine State.Inv.drain ?_
  refine State.Inv.otpBegin ?_
  refine State.Inv.kettleRecovers ?_
  refine State.Inv.completeCommit ?_
  refine State.Inv.applyPatches ?_
  refine State.Inv.inspectRegions ?_ _
  exact State.Inv.reloadCaddy (.ite (h.same rfl) (State.Inv.reachRun (by exact h.same rfl)))

theorem execSupplyMonitorTrip_completes (h : s.Inv) (rail : Rail) : Completes (execSupplyMonitorTrip rail s) := by
  unfold execSupplyMonitorTrip
  refine .ite (.next h) ?_
  split
  · exact .next (by exact h.same rfl)
  · exact .ite (.next (State.Inv.pinReset (by exact h.same rfl))) (.next h)
  · exact .next (by exact (h.otpAbort.coldReset _ _).same rfl)

theorem execMsixUnmask_completes (h : s.Inv) (u : Unmask) : Completes (execMsixUnmask u s) := by
  unfold execMsixUnmask
  split
  · exact .next (h.hostWriteReg _ _ _)
  · exact .ite (.next (State.Inv.flushVectors (by exact h.same rfl))) (.next h)
  · exact .ite (.next (State.Inv.flushVectors (by exact h.same rfl))) (.next h)

theorem execCompletionTimeout_completes (h : s.Inv) (e : EndpointError) : Completes (execCompletionTimeout e s) := by
  unfold execCompletionTimeout
  split
  · exact .next (.ite (h.readFails _ _) h)
  · exact .next (.ite (h.readFails _ _) h)
  · exact .next (.ite (h.reportAer _) h)
  · exact .next (.ite ((h.setHpErr _).reportAer _) h)
  · exact .next (.ite (h.reportAer _) h)
  · exact .next (.ite (h.reportAer _) h)
  · exact .next (.ite (h.reportAer _) h)
  · exact .next (.ite (h.reportAer _) h)

theorem execMirrorRead_completes (h : s.Inv) (a : BitVec 12) (ecc : MirrorEcc) : Completes (execMirrorRead a ecc s) := by
  unfold execMirrorRead
  refine .ite (.next h) ?_
  split
  · exact .next (h.mirrorReadAt _ _)
  · exact .next ((h.mirrorReadAt _ _).countN _ _)
  · exact .next (((h.mirrorReadAt _ _).countN _ _).mirrorRewrite _)

theorem execEncCount_completes (h : s.Inv) (e : Fin 8) (l : EncLevels) : Completes (execEncCount e l s) := by
  unfold execEncCount
  split
  · exact .next h
  · refine .ite (.next h) ?_
    dsimp only
    split
    · refine .ite (.next ((((h.modEncoder _ _).detect _ _).modEncoder _ _).count _)) ?_
      exact .next (((h.modEncoder _ _).detect _ _).modEncoder _ _)
    · refine .ite (.next (((h.modEncoder _ _).modEncoder _ _).count _)) ?_
      refine .next ?_
      refine State.Inv.modEncoder ?_ _ _
      dsimp only
      exact h.modEncoder _ _

theorem execInterpolatorTimeout_completes (h : s.Inv) (e : Fin 8) : Completes (execInterpolatorTimeout e s) := by
  unfold execInterpolatorTimeout
  split
  · exact .next h
  · exact .ite (.next (h.modEncoder _ _)) (.next h)

theorem execLineTrigger_completes (h : s.Inv) (j : Fin 4) : Completes (execLineTrigger j s) := by
  unfold execLineTrigger
  split
  · exact .next h
  · exact .ite (.next ((h.modJob _ _).raise _)) (.next h)

theorem execSlotStart_completes (h : s.Inv) (ch : Fin 48) : Completes (execSlotStart ch s) := by
  unfold execSlotStart
  dsimp only
  split
  · exact .next ((h.cosyStop _).cosySlot _ _)
  · split
    · exact .next (h.cosyStop _)
    · split
      · exact .next (h.cosyStop _)
      · refine .ite (.next (h.cosyStop _)) ?_
        split
        · split
          · exact .next (h.cosyStop _)
          · exact .ite (.next ((h.cosyStop _).beginSlot _ _ _)) (.next (h.cosyStop _))
        · split
          · exact .next (h.cosyStop _)
          · refine .ite (.next (h.cosyStop _)) ?_
            exact .next (((((h.cosyStop _).modChan _ _).beginSlot _ _ _).noteResume _).passGone _ _ _)

theorem execJobArmed_completes (h : s.Inv) (j : Fin 4) : Completes (execJobArmed j s) := by
  unfold execJobArmed
  split
  · exact .next h
  · exact .ite (.next (.ite (((h.modJob _ _).armJob _ _).startRereg _ _) ((h.modJob _ _).armJob _ _))) (.next h)

theorem execShuttlePassArm_completes (h : s.Inv) (j : Fin 4) : Completes (execShuttlePassArm j s) := by
  unfold execShuttlePassArm
  split
  · exact .next h
  · refine .ite ?_ (.next h)
    refine .next ?_
    refine State.Inv.checkEnded ?_ _
    refine State.Inv.checkStopAt ?_ _
    refine inv_foldl _ (fun _ _ h => ?_) _ _ (h.modJob _ _)
    exact h.armChan _ _ _

theorem execLateWebStopped_completes (h : s.Inv) (j : Fin 4) : Completes (execLateWebStopped j s) := by
  unfold execLateWebStopped
  split
  · exact .next h
  · exact .ite (.next ((h.startBackup _ _ _).modJob _ _)) (.next h)

theorem execLateBackupDone_completes (h : s.Inv) (j : Fin 4) : Completes (execLateBackupDone j s) := by
  unfold execLateBackupDone
  split
  · exact .next h
  · exact .ite (.next (h.modJob _ _)) (.next h)

theorem execLateReregister_completes (h : s.Inv) (j : Fin 4) : Completes (execLateReregister j s) := by
  unfold execLateReregister
  split
  · exact .next h
  · refine .ite (.next h) ?_
    exact .ite (.ite (.next (h.reregister _)) (.next h)) (.ite (.next h) (.next ((h.modJob _ _).sendNewPkt _ _ _)))

theorem execTileReadCompletion_completes (h : s.Inv) (id : Nat) (off : Nat) (r : ReadResult) : Completes (execTileReadCompletion id off r s) := by
  unfold execTileReadCompletion
  refine .ite (.next h) ?_
  dsimp only
  split
  · refine .next ?_
    refine inv_foldl _ (fun _ _ h => ?_) _ _ (h.detect _ _)
    exact .ite (h.landTile _ _ _) (h.sendTileData _ _ _)
  · exact .next (((h.detect _ _).hostReadError _).failRead _ _)

theorem execTileCopyRow_completes (h : s.Inv) (id : Nat) (errors : ReadErrors) : Completes (execTileCopyRow id errors s) := by
  unfold execTileCopyRow
  split
  · exact .next h
  · exact .ite (.next h) (.ite (.next (h.endTile _ _)) (.next (((h.countN _ _).countN _ _).landTile _ _ _)))

theorem execMapWriteApplied_completes (h : s.Inv) (ch : Fin 48) : Completes (execMapWriteApplied ch s) := by
  unfold execMapWriteApplied
  split
  · exact .next h
  · split
    · exact .ite (.next ((h.applyMapWrite _ _ _).finishOps _ _)) (.next h)
    · exact .next h

theorem execThrottleUpTimer_completes (h : s.Inv) (x : Sensor) : Completes (execThrottleUpTimer x s) := by
  unfold execThrottleUpTimer
  dsimp only
  split
  · exact .next h
  · exact .ite (.next h) (.ite (.next ((h.modSensor _ _).applyTargets _)) (.next (h.modSensor _ _)))

theorem execThrottleDownTimer_completes (h : s.Inv) (x : Sensor) : Completes (execThrottleDownTimer x s) := by
  unfold execThrottleDownTimer
  dsimp only
  split
  · exact .next h
  · exact .ite (.next h) (.next ((h.modSensor _ _).applyTargets _))

theorem execFeedAtCapacity_completes (h : s.Inv) (j : Fin 4) : Completes (execFeedAtCapacity j s) := by
  unfold execFeedAtCapacity
  split
  · exact .next h
  · refine .ite ?_ (.next h)
    refine .next ?_
    refine State.Inv.raise ?_ _
    refine inv_foldl _ (fun _ _ h => ?_) _ _ h
    exact h.setApplied _ _

theorem execThrottleWaitOverrun_completes (h : s.Inv) (ch : Fin 48) : Completes (execThrottleWaitOverrun ch s) := by
  unfold execThrottleWaitOverrun
  split
  · exact .next h
  · exact .ite (.next (((h.setApplied _ _).raise _).count _)) (.next h)

theorem execEnergyModelUpdate_completes (h : s.Inv) : Completes (execEnergyModelUpdate s) := by
  unfold execEnergyModelUpdate
  refine .ite (.next h) ?_
  refine .next ?_
  refine inv_foldl _ (fun _ _ h => ?_) _ _ h
  refine State.Inv.modChan ?_ _ _
  split
  · exact h.modHead _ _
  · exact h

theorem execSensorSuspect_completes (h : s.Inv) (x : Sensor) : Completes (execSensorSuspect x s) := by
  unfold execSensorSuspect
  split
  · exact .next h
  · exact .ite (.next (h.markSuspect _)) (.next h)

theorem execTrajectoryUpdate_completes (h : s.Inv) (me : Fin 2) : Completes (execTrajectoryUpdate me s) := by
  unfold execTrajectoryUpdate
  refine .ite (.next h) ?_
  refine .next ?_
  refine inv_foldl _ (fun _ _ h => ?_) _ _ h
  exact h.updateAxis _

theorem execMoveDone_completes (h : s.Inv) (ax : Fin 8) : Completes (execMoveDone ax s) := by
  unfold execMoveDone
  dsimp only
  split
  · split
    · exact .ite (.next (((h.modAxis _ _).raise _).axisStood _)) (.next h)
    · exact .ite (.next (((h.modAxis _ _).raise _).axisSettled _)) (.next h)
  · exact .next h

theorem execAxisStands_completes (h : s.Inv) (ax : Fin 8) : Completes (execAxisStands ax s) := by
  unfold execAxisStands
  refine .ite (.next h) ?_
  split
  · exact .next ((h.modAxis _ _).axisStood _)
  · split
    · exact .ite (.next (h.finishHome _ _)) (.next h)
    · exact .next h
  · exact .next h

theorem execLimitActive_completes (h : s.Inv) (ax : Fin 8) (positive : Bool) : Completes (execLimitActive ax positive s) := by
  unfold execLimitActive
  refine .ite (.next (h.modAxis _ _)) ?_
  split
  · exact .ite (.next (h.modAxis _ _)) (.next ((((h.modAxis _ _).modAxis _ _).raise _).endSurveyOn _))
  · exact .ite (.next (((h.modAxis _ _).stopRequest _ _ _ _).raise _)) (.next (h.modAxis _ _))

theorem execHomeSwitchQualified_completes (h : s.Inv) (ax : Fin 8) (active : Bool) : Completes (execHomeSwitchQualified ax active s) := by
  unfold execHomeSwitchQualified
  split
  · dsimp only
    split
    · exact .next h
    · exact .next h
  · dsimp only
    split
    · exact .next h
    · refine .ite (.ite (.next ((((h.detect _ _).count _).modAxis _ _).raise _)) (.next (h.modAxis _ _))) ?_
      exact .ite (.next (h.modAxis _ _)) (.ite (.ite (.next (h.modAxis _ _)) (.next (h.modAxis _ _))) (.next h))

theorem execIndexEdge_completes (h : s.Inv) (ax : Fin 8) : Completes (execIndexEdge ax s) := by
  unfold execIndexEdge
  dsimp only
  split
  · exact .ite (.next (h.modAxis _ _)) (.next h)
  · exact .next h

theorem execChatter_completes (h : s.Inv) (ax : Fin 8) : Completes (execChatter ax s) := by
  unfold execChatter
  dsimp only
  split
  · exact .ite (.next (((h.count _).modAxis _ _).raise _)) (.next h)
  · exact .next h

theorem execIdAnswerMissing_completes (h : s.Inv) (ch : Fin 48) : Completes (execIdAnswerMissing ch s) := by
  unfold execIdAnswerMissing
  dsimp only
  split
  · exact .next h
  · refine .ite (.next h) ?_
    refine .ite (.next (h.identMissed _ _ _)) ?_
    exact .ite (.next (h.isPresent _ _ _)) (.ite (.next (h.pollAgain _ _ _)) (.next h))

theorem execIdentRetry_completes (h : s.Inv) (ch : Fin 48) : Completes (execIdentRetry ch s) := by
  unfold execIdentRetry
  split
  · exact .ite (.next (h.sendIdent _ _)) (.next h)
  · exact .next h

theorem execResponsePoll_completes (h : s.Inv) (ch : Fin 48) : Completes (execResponsePoll ch s) := by
  unfold execResponsePoll
  split
  · exact .ite (.next (h.sendResponse _ _)) (.next h)
  · exact .next h

theorem execAuthTimeout_completes (h : s.Inv) (ch : Fin 48) : Completes (execAuthTimeout ch s) := by
  unfold execAuthTimeout
  split
  · exact .ite (.next (h.isPresent _ _ _)) (.next h)
  · exact .next h

theorem execSurveyMoveDone_completes (h : s.Inv) : Completes (execSurveyMoveDone s) := by
  unfold execSurveyMoveDone
  split
  · exact .ite (.next (by exact h.same rfl)) (.next h)
  · exact .next h

theorem execDropWatchFrame_completes (h : s.Inv) (cam : Fin 4) (f : DropFrame) : Completes (execDropWatchFrame cam f s) := by
  unfold execDropWatchFrame
  split
  · refine .ite (.next h) ?_
    split
    · exact .next ((h.detect _ _).countN _ _)
    · refine .ite (.next ((h.detect _ _).countN _ _)) ?_
      exact .next (.ite ((((h.detect _ _).countN _ _).detect _ _).same rfl) (.ite
        (State.Inv.roundFailed (by exact (((h.detect _ _).countN _ _).detect _ _).same rfl))
        (State.Inv.roundDone (by exact (((h.detect _ _).countN _ _).detect _ _).same rfl) _)))
  · exact .next h

theorem execSurveyTimeout_completes (h : s.Inv) : Completes (execSurveyTimeout s) := by
  unfold execSurveyTimeout
  split
  · exact .ite (.next (h.endSurvey _)) (.next h)
  · exact .next h

theorem execCamTrigger_completes (h : s.Inv) (p : Fin 2) : Completes (execCamTrigger p s) := by
  unfold execCamTrigger
  split
  · dsimp only
    split
    · exact .ite (.next h) (.next (h.modPort _ _))
    · exact .next h
  · dsimp only
    split
    · refine .ite (.next h) ?_
      split
      · refine .ite ?_ (.next ((((((h.modPort _ _).detectCam _ _ _).count _).modPort _ _).raise _).count _))
        split
        · exact .next (((((h.modPort _ _).detectCam _ _ _).count _).triggerFrame _ _ _).modFrame _ _ _)
        · exact .next (((((((((h.modPort _ _).detectCam _ _ _).count _).triggerFrame _ _ _).modFrame _ _ _).markFrame _ _ _).loseLines _ _
          _).dropStripe _ _ _).settleFrame _ _)
      · split
        · exact .next (.ite ((((h.modPort _ _).detectCam _ _ _).triggerFrame _ _ _).modPort _ _)
          (((((h.modPort _ _).detectCam _ _ _).triggerFrame _ _ _).modPort _ _).beginFrame _ _ _ _))
        · exact .next (State.Inv.modFrame (State.Inv.modPort (.ite ((((h.modPort _ _).detectCam _ _ _).triggerFrame _ _ _).modPort _ _)
          (((((h.modPort _ _).detectCam _ _ _).triggerFrame _ _ _).modPort _ _).beginFrame _ _ _ _)) _ _) _ _ _)
    · exact .next h

theorem execCamFrameBegin_completes (h : s.Inv) (p : Fin 2) : Completes (execCamFrameBegin p s) := by
  unfold execCamFrameBegin
  refine .ite (.next h) ?_
  split
  · exact .next (h.modPort _ _)
  · exact .next ((h.modPort _ _).count _)

theorem execCamLine_completes (h : s.Inv) (p : Fin 2) (pixels : List Nat) (tail : LineTail) : Completes (execCamLine p pixels tail s) := by
  unfold execCamLine
  split
  · refine .ite (.next ((h.detectCam _ _ _).count _)) ?_
    split
    · exact .next (h.detectCam _ _ _)
    · exact .next ((((h.detectCam _ _ _).modPort _ _).takeLine _ _ _ _ _).settleFrame _ _)
  · refine .ite ?_ (.next h)
    refine .ite (.next h) ?_
    refine .ite (.next ((h.detectCam _ _ _).count _)) ?_
    split
    · split
      · exact .next (h.detectCam _ _ _)
      · refine .ite (.next ((((h.detectCam _ _ _).modFrame _ _ _).takeLine _ _ _ _ _).endFrame _ _)) ?_
        exact .next (((h.detectCam _ _ _).modFrame _ _ _).takeLine _ _ _ _ _)
    · exact .next (h.detectCam _ _ _)

theorem execCamFrameEnd_completes (h : s.Inv) (p : Fin 2) : Completes (execCamFrameEnd p s) := by
  unfold execCamFrameEnd
  refine .ite (.next h) ?_
  split
  · exact .next ((h.modFrame _ _ _).endFrame _ _)
  · exact .next (h.modPort _ _)

theorem execCamTimeout_completes (h : s.Inv) (p : Fin 2) : Completes (execCamTimeout p s) := by
  unfold execCamTimeout
  refine .ite (.next h) ?_
  split
  · exact .next ((h.closeFrame _ _).count _)
  · exact .next h

theorem execStripeStart_completes (h : s.Inv) : Completes (execStripeStart s) := by
  unfold execStripeStart
  refine .ite (.next h) ?_
  split
  · exact .next h
  · split
    · exact .next h
    · refine .ite (.next (State.Inv.dropStripe (.ite (((h.stripeErrors _ _).shotTaken).count _) ((h.stripeErrors _ _).shotTaken)) _ _ _)) ?_
      refine .ite (.next ((h.stripeErrors _ _).dropStripe _ _ _)) ?_
      refine .next ?_
      exact (h.stripeErrors _ _).same rfl

theorem execStripeDone_completes (h : s.Inv) : Completes (execStripeDone s) := by
  unfold execStripeDone
  split
  · exact .next h
  · refine .ite (.next h) ?_
    dsimp only
    split
    · exact .next (State.Inv.raise (by exact h.same rfl) _)
    · exact .next (State.Inv.finishFrame (State.Inv.raise (State.Inv.processStripe (by exact h.same rfl) _ _ _) _) _ _)

theorem execStoreConfigDone_completes (h : s.Inv) : Completes (execStoreConfigDone s) := by
  unfold execStoreConfigDone
  split
  · exact .next h
  · exact .ite (.next h) (.next (State.Inv.finishOps (by exact h.same rfl) _ _))

theorem execRingEnumerate_completes (h : s.Inv) (closed : Bool) (east : List (Option (Fin 8))) (west : List (Option (Fin 8))) : Completes
  (execRingEnumerate closed east west s) := by
  unfold execRingEnumerate
  refine .ite (.next h) ?_
  refine .next ?_
  refine inv_foldl _ (fun _ _ h => ?_) _ _ (State.Inv.modWport (State.Inv.modWport (by exact h.same rfl) _ _) _ _)
  exact .ite h (h.sendFrame _ _)

theorem execAlignLost_completes (h : s.Inv) : Completes (execAlignLost s) := by
  unfold execAlignLost
  split
  · exact .ite (.next (State.Inv.count (by exact h.same rfl) _)) (.next h)
  · exact .next h

theorem execFaultColumn_completes (h : s.Inv) (p : Side) (b1 : Byte) (b2 : Byte) (b3 : Byte) : Completes (execFaultColumn p b1 b2 b3 s) := by
  unfold execFaultColumn
  split
  · exact .next h
  · refine .ite (.next h) ?_
    refine .ite (.next (h.ringTrip _)) ?_
    exact .next (.ite (State.Inv.modWport (by exact (h.ringTrip _).same rfl) _ _) ((h.ringTrip _).same rfl))

theorem execRelayTimeout_completes (h : s.Inv) (pktId : BitVec 16) : Completes (execRelayTimeout pktId s) := by
  unfold execRelayTimeout
  split
  · exact .next h
  · exact .ite (.next h) (.next (State.Inv.reply (by exact h.same rfl) _ _ _ _ _))

/-- The reads that a packet row meets are its operand; they are dropped with the row. -/
theorem execJobStart_completes (h : s.Inv) (c : StartCmd) : Completes (execJobStart c s) :=
  .next (by exact (State.Inv.packetRow (by exact h.same rfl) _ _).same rfl)

theorem execStatsRead_completes (h : s.Inv) (c : StatsCmd) : Completes (execStatsRead c s) :=
  .next (by exact (State.Inv.packetRow (by exact h.same rfl) _ _).same rfl)

theorem execKettleStall_completes (h : s.Inv) : Completes (execKettleStall s) := by
  unfold execKettleStall
  split
  · exact .next h
  · refine .ite (.next h) ?_
    extract_lets all answered _ _ emptied told
    have hanswered : answered.Inv := inv_foldl _ (fun s x h => h.reply _ _ _ _ _) _ _ h
    clear_value answered
    have hemptied : emptied.Inv := { hanswered with queue := Nat.zero_le _ }
    have htold : told.Inv := hemptied.deviceEvent _ _
    clear_value told
    exact .next (by exact htold.same rfl)

theorem execOtpProgramPulse_completes (h : s.Inv) (lo nom hi : BitVec 39) : Completes (execOtpProgramPulse lo nom hi s) := by
  unfold execOtpProgramPulse
  split
  · exact .next h
  split
  · exact .next h.otpBegin
  next r _ _ a _ _ _ =>
    refine .ite (.next h) (.ite (.next (h.otpStop _ _ _)) (.ite (.next (h.otpStop _ _ _)) (.ite (.next ((h.reburnRead _ _).otpStop _ _ _)) ?_)))
    extract_lets w read _ put verified
    have hput : put.Inv := (h.reburnRead r a).otpPut a w
    clear_value put
    have hverified : verified.Inv := hput.otpVerified a
    clear_value verified
    exact .ite (.ite (.next (hverified.advanceNext _ _)) (.next (by exact hverified.same rfl)))
      (.ite (.next ((hput.otpFailed _).otpStop _ _ _)) (.next (by exact hput.same rfl)))

theorem execShutdownLogWrite_completes (h : s.Inv) (lo nom hi : BitVec 39) : Completes (execShutdownLogWrite lo nom hi s) := by
  unfold execShutdownLogWrite
  split
  · exact .next h
  refine .ite (.next h) ?_
  extract_lets t
  split
  · exact .next (State.Inv.count (by exact h.same rfl) _)
  next a _ =>
    extract_lets w put
    have hput : put.Inv := h.otpPut a w
    clear_value put
    exact .ite (.next (by exact (hput.otpVerified a).same rfl)) (.next (State.Inv.otpFailed (by exact hput.same rfl) _))

theorem execLowStateEntered_completes (h : s.Inv) : Completes (execLowStateEntered s) := by
  unfold execLowStateEntered
  split
  · exact .next h
  refine .ite (.next h) ?_
  extract_lets deep first parked stopped lost quiet
  have hstopped : stopped.Inv := .ite h.park.stopFabric h
  clear_value stopped
  have hlost : lost.Inv := .ite hstopped.conventionalReset.linkLost hstopped
  clear_value lost
  exact .next (by exact hlost.same rfl)

theorem execFundamentalReset_completes (h : s.Inv) : Completes (execFundamentalReset s) := by
  unfold execFundamentalReset
  extract_lets lost
  have hlost : lost.Inv := h.conventionalReset.linkLost
  clear_value lost
  exact .ite (.next (by exact hlost.same rfl)) (.next h)

theorem execDoorbell_completes (h : s.Inv) (v : BitVec 16) : Completes (execDoorbell v s) :=
  .next (h.mirrorAccepts fun hu => .ite ((hu.wakeBy 1).same rfl) (.ite ((hu.wakeBy 1).writeCmdTail _) (hu.wakeBy 1)))

theorem execImmGo_completes (h : s.Inv) (v : BitVec 16) : Completes (execImmGo v s) :=
  .next (h.mirrorAccepts fun hu => .ite (hu.wakeBy 1) (.ite ((hu.wakeBy 1).same rfl) (.ite (hu.wakeBy 1).writeImmGo (hu.wakeBy 1))))

theorem execWake_completes (h : s.Inv) (v : BitVec 16) : Completes (execWake v s) := .next (h.mirrorAccepts fun hu => hu.wakeBy 1)

theorem execMirrorEStop_completes (h : s.Inv) (v : BitVec 16) : Completes (execMirrorEStop v s) :=
  .ite (.next (h.mirrorAccepts fun hu => hu.trip 8)) (.ite (.next h.mirrorRejects) (.next h))

theorem execIdAnswer_completes (h : s.Inv) (ch : Fin 48) (f : IdFrame) : Completes (execIdAnswer ch f s) := by
  unfold execIdAnswer
  extract_lets n a released good d
  have hreleased : released.Inv := h.modChan _ _
  have hd : d.2.Inv := hreleased.detect _ _
  clear_value released d a
  split
  · exact .next h
  next i _ =>
    refine .ite (.next h) (.ite (execIdAnswerMissing_completes h ch) ?_)
    refine .ite (.ite (.next ((hd.count _).identMissed _ _ _)) (.next (hd.identified _ _ _))) (.ite ?_ (.ite ?_ (.next hreleased)))
    · split
      · exact .next (hreleased.modChan _ _)
      · exact .next (hreleased.isPresent _ _ _)
    · refine .ite (.next (hreleased.isPresent _ _ _)) ?_
      split
      · exact .ite (.next (hreleased.isPresent _ _ _)) (.next (hreleased.pollAgain _ _ _))
      · exact .next (hreleased.pollAgain _ _ _)

theorem execSurveyRound_completes (h : s.Inv) : Completes (execSurveyRound s) := by
  unfold execSurveyRound
  split
  · extract_lets due caps cold cams fired
    have hfired : fired.Inv := inv_foldl _ (fun s x h => h.fireCapture _ _) _ _ h
    clear_value fired
    exact .ite (.next h) (.ite (.next h.roundFailed) (.ite (.next h) (.next (by exact hfired.same rfl))))
  · exact .next h

theorem execWlPortUp_completes (h : s.Inv) (p : Side) : Completes (execWlPortUp p s) := by
  unfold execWlPortUp
  refine .ite ?_ (.next h)
  extract_lets q up _ locked closes closed _ linked onwards sent _ woken joins
  have hlocked : locked.Inv := (h.modWport _ _).portsMoved.same rfl
  clear_value locked
  have hclosed : closed.Inv := .ite (hlocked.modWport _ _) hlocked
  clear_value closed
  have hlinked : linked.Inv := hclosed.same rfl
  clear_value linked
  have hsent : sent.Inv := .ite (hlinked.modWport _ _) hlinked
  clear_value sent
  exact .next (by exact hsent.same rfl)

theorem execTopoEnumeration_completes (h : s.Inv) (p : Side) (t : Topo) : Completes (execTopoEnumeration p t s) :=
  .ite (.next (h.receive _ _ fun hu => (hu.meetMasters _).takeEnumeration _)) (.next h)

theorem execTopoBreakNotice_completes (h : s.Inv) (p : Side) (t : Topo) : Completes (execTopoBreakNotice p t s) :=
  .ite (.next (h.receive _ _ fun hu => (hu.meetMasters _).takeBreak _)) (.next h)

theorem execTopoParkNotice_completes (h : s.Inv) (n : ParkNotice) : Completes (execTopoParkNotice n s) :=
  .ite (.next (h.receive _ _ fun hu => hu.markParked _)) (.next h)

theorem execWakeFrame_completes (h : s.Inv) (p : Side) (f : Frame) : Completes (execWakeFrame p f s) := by
  have hwoken : (s.receive p f fun s => (s.raise 0x63).wakeBy 2).Inv := h.receive _ _ fun hu => (hu.raise _).wakeBy _
  exact .ite (.next (.ite (hwoken.modWport _ _) hwoken)) (.next h)

theorem execPos_completes (h : s.Inv) (p : Side) (f : Frame) : Completes (execPos p f s) :=
  .ite (.next (h.receive _ _ fun hu => hu.takePos _)) (.next h)

theorem execSync_completes (h : s.Inv) (p : Side) (f : Frame) : Completes (execSync p f s) :=
  .ite (.next (h.receive _ _ fun hu => hu.takeSync _ _)) (.next h)

theorem execSyncSend_completes (h : s.Inv) : Completes (execSyncSend s) := by
  unfold execSyncSend
  refine .ite (.next h) ?_
  extract_lets body sent
  have hsent : sent.Inv := inv_foldl _ (fun s x h => h.sendFrame _ _) _ _ h
  clear_value sent
  exact .next (by exact hsent.same rfl)

theorem execFlt_completes (h : s.Inv) (p : Side) (f : Frame) : Completes (execFlt p f s) :=
  .ite (.next (h.receive _ _ fun hu => .ite hu (hu.takeReport _))) (.next h)

theorem execData_completes (h : s.Inv) (p : Side) (f : Frame) : Completes (execData p f s) :=
  .ite (.next (h.receive _ _ fun hu => hu.takeData _)) (.next h)

/-- A relayed packet of any kind is taken in where the guard of its instruction holds (12 R390). -/
theorem packetFrame_completes (h : s.Inv) (p : Side) (f : Frame) (c : Prop) [Decidable c] :
    Completes (if c then .next (s.receive p f fun s => s.takePktFrame f) else .next s) :=
  .ite (.next (h.receive _ _ fun hu => hu.takePktFrame _)) (.next h)

theorem execThermalMeasurement_completes (h : s.Inv) (x : Sensor) (raw : Int) : Completes (execThermalMeasurement x raw s) := by
  unfold execThermalMeasurement
  extract_lets active settled temp y marked mine d64 d66 drawn read forced value stored own ref far compared v
  have hmarked : marked.Inv := .ite ((h.modSensor _ _).markSuspect _) (h.modSensor _ _)
  have hd64 : d64.2.Inv := .ite_snd (hmarked.detect _ _) hmarked
  have hd66 : d66.2.Inv := .ite_snd (hd64.detect _ _) hd64
  have hread : read.2.Inv := by
    cases htemp : temp with
    | none => simpa [read, htemp] using hd66
    | some q => simpa [read, htemp] using State.Inv.held hd66 q
  have hstored : stored.Inv := by
    cases hvalue : value with
    | none => simpa [stored, hvalue] using hread
    | some k => simpa [stored, hvalue] using hread.modSensor x _
  exact .ite (.next h) (.next ((hstored.modSensor _ _).takeValue _ _ _))

theorem execLineComposed_completes (h : s.Inv) (ch : Fin 48) (corrected : Nat) (unread : BadWords (Nat × Nat)) :
    Completes (execLineComposed ch corrected unread s) := by
  unfold execLineComposed
  split
  · exact .next h
  split
  · exact .next h
  extract_lets met j line first d84 n84 d85 bad counted codes entered
  have hmet : met.Inv := h.lineBankErrors _ _
  have hd84 : d84.2.Inv := .ite_snd (hmet.detect _ _) hmet
  have hd85 : d85.2.Inv := .ite_snd (hd84.detect _ _) hd84
  have hentered : entered.Inv := ((hd85.countN _ _).countN _ _).modChan _ _
  exact .ite (.next h) (.next ((hentered.composeFrom _ _ _).composeOn _ _))

theorem execFirePositionReached_completes (h : s.Inv) (ch : Fin 48) : Completes (execFirePositionReached ch s) := by
  unfold execFirePositionReached
  extract_lets n c line dueAlready begun lowest d21 missed lateReal d20 counted due first
  have hd21 : d21.2.Inv := .ite_snd (h.detect _ _) h
  have hd20 : d20.2.Inv := .ite_snd (hd21.detect _ _) hd21
  have hcounted : counted.Inv := .ite (hd20.count _) hd20
  split
  · exact .next h
  split
  · exact .next h
  exact .ite (.next h) (.ite (.next (h.overtaken _ _ _)) (.ite (.next h) (.ite (.next (h.passOver _ _ _))
    (.ite (.next ((h.lineDone _ _ _ _).passOver _ _ _)) (.ite (.next (((hd21.count _).lineDone _ _ _ _).passOver _ _ _))
      (.next (hcounted.modChan _ _)))))))

theorem execSlotEnd_completes (h : s.Inv) (ch : Fin 48) : Completes (execSlotEnd ch s) := by
  unfold execSlotEnd
  extract_lets n
  split
  · exact .next (.ite (h.cosyEnd _ _) h)
  split
  · split
    · exact .next (h.modChan _ _)
    · exact .next (h.ioStopDue _)
  split
  · exact .next (h.ioStopDue _)
  extract_lets last ended done left cut shut
  have hended : ended.Inv := h.modChan _ _
  have hleft : left.Inv := .ite ((hended.lineDone _ _ _ _).modChan _ _) hended
  have hcut : cut.Inv := .ite hleft (hleft.cutLine _ _ _)
  have hshut : shut.Inv := .ite hleft (hcut.modChan _ _)
  exact .ite (.next h) (.next (((hshut.checkStopAt _).checkEnded _).answerStops _))

theorem execStrainerBarObserved_completes (h : s.Inv) (ch : Fin 48) (bar : Nat) : Completes (execStrainerBarObserved ch bar s) := by
  unfold execStrainerBarObserved
  extract_lets n c
  split
  · exact .next h
  split
  · exact .next h
  split
  · exact .next h
  extract_lets e first lines since mine obs absent spoilt seen d34 d35 given forced res changes run changed
  have hseen : seen.Inv := h.modJob _ _
  have hd34 : d34.2.Inv := .ite_snd (hseen.detect _ _) hseen
  have hd35 : d35.2.Inv := .ite_snd (hd34.detect _ _) hd34
  have hrun : run.Inv := hd35.modChan _ _
  have hchanged : changed.Inv := .ite hrun (hrun.changeMap _ _)
  exact .ite (.next h) (.ite (.next hseen) (.ite (.next (hd34.count _))
    (.next (inv_foldl _ (fun _ _ h => .ite ((h.raise _).count _) (h.raise _)) _ _ hchanged))))

theorem execBackgroundTestWindow_completes (h : s.Inv) (bank : Fin 17) (r : TestResult) : Completes (execBackgroundTestWindow bank r s) := by
  unfold execBackgroundTestWindow
  extract_lets b taken put d met
  have hput : put.Inv := h.modBank _ _
  have hd : d.2.Inv := .ite_snd (hput.detect _ _) hput
  have hmet : met.Inv := .ite (hd.bankCorrected _ _) hd
  clear_value met
  refine .ite (.next h) ?_
  split
  · exact .next (((hmet.count _).repairRow _ _ _).bankAction _ _)
  · exact .next (hmet.repairRow _ _ _)
  · exact .next hmet

theorem execPreparationPoint_completes (h : s.Inv) (ch : Fin 48) (bad : BadWords Nat) : Completes (execPreparationPoint ch bad s) := by
  unfold execPreparationPoint
  extract_lets n
  split
  · exact .next h
  split
  · exact .next h
  refine .ite (.next h) ?_
  split
  · exact .next h
  extract_lets prepared packed
  have hprepared : prepared.Inv := (h.beginHandOver _ _).modChan _ _
  have hpacked : packed.Inv := (hprepared.lineBankErrors _ _).packLine _ _ _ _
  exact .next (.ite hpacked ((hpacked.checkStopAt _).checkEnded _))

theorem exec_completes (h : s.Inv) (c : Instr) : Completes (exec c s) := by
  cases c with
  | ping _ | getInfo _ | setPower _ | blockReset _ | headAttach _ | headConfig _ | brewLoad _ | rotationLoad _ | cosySet _ | jobOpen _
  | layerDefine _ | jobStop _ | jobResume _ | jobClose _ | tilePost _ | axisConfig _ | moveAbs _ | moveVel _ | axisStop _ | axisResume _
  | home _ | kinematicsSet _ | axisStatus _ | camConfig _ | camExpose _ | outputConfig _ | contextLoad _ | surveyStart _ | nozzleMapRead _
  | nozzleMapWrite _ | strainerConfig _ | thermalConfig _ | thermalStatus _ | shutdownRelease _ | memtestConfig _ | storeConfig _
  | countersRead _ | countersClear _ | injectArm _ | inject _ | ringStatus _ | ringMap _ | lifecycleAdvance _ | tamperConfig _ | fireHold _
  | fireRelease _ | eStop _ | mirrorSnap _ => exact .next (h.packetRow _ _)
  | jobStart c => exact execJobStart_completes h c
  | statsRead c => exact execStatsRead_completes h c
  | cmdTail _ | immDoorbell _ | rplHead _ | evtHead _ | ringCtlReset _ | cmdEn _ | rplEn _ | evtEn _ | headOffsetHiWrite _ _ | commit _
  | commitAt _ | evSoft _ | dmaStart _ _ | tcClear _ _ | injGo _ | otpKey _ | otpRead | otpReadMarginLo | otpReadMarginHi | otpProgram
  | otpReburnWord | otpFinaliseRegion | warmReset _ | pwrReqSleep | pwrReqIdle | pwrReqOff | retrainE | retrainW | ringReset =>
    exact .next (h.hostWriteReg _ _ _)
  | ringReadCompletion data reread => exact execRingReadCompletion_completes h data reread
  | ringReadError _ => exact .ite (.next h) (.next (State.Inv.hostReadError (by exact h.same rfl) _))
  | kettleTakePacket => exact .next h.kettleTake
  | kettleStall => exact execKettleStall_completes h
  | kettleRecover => exact .ite (.next h.kettleRecovers) (.next h)
  | kettleLoadUpdate _ | otpKeyTimeout | xtalQualified | pcieLinkUp _ _ => exact .ite (.next (by exact h.same rfl)) (.next h)
  | registerWrite _ _ _ _ | loRegisterRead _ _ | bar4Access _ _ _ _ => exact .next (h.hostAccess _)
  | fireConfigWrite _ _ _ | shadowWrite _ _ _ => exact .ite (.next (h.hostWriteReg _ _ _)) (.next h)
  | eventPulse sources => exact execEventPulse_completes h sources
  | dmaComplete k d => exact execDmaComplete_completes h k d
  | dmaHostError k written e => exact execDmaHostError_completes h k written e
  | otpProgramPulse lo nom hi => exact execOtpProgramPulse_completes h lo nom hi
  | shutdownLogWrite lo nom hi => exact execShutdownLogWrite_completes h lo nom hi
  | lifecycleAdvanceDone => exact execLifecycleAdvanceDone_completes h
  | warmResetDone => exact execWarmResetDone_completes h
  | offAfter => exact .ite (.next (h.enter _)) (.next h)
  | lowStateEntered => exact execLowStateEntered_completes h
  | aonTimerExpiry => exact .ite (.next (State.Inv.wakeBy (State.Inv.raise (by exact h.same rfl) _) _)) (.next h)
  | wakeRequest _ => exact .ite (.next (h.wakeBy _)) (.next h)
  | wakeComplete => exact .ite (.next h) (.next h.kettleStarts.reachRun.releaseHeld)
  | powerOn _ _ _ _ => exact .next (State.Inv.senseOnce (State.Inv.coldReset (by exact h.same rfl) _ _))
  | supplyMonitorTrip rail => exact execSupplyMonitorTrip_completes h rail
  | rstNAssert => exact .ite (.next h) (.next (State.Inv.pinReset (by exact h.same rfl)))
  | rstNRelease | switchedRailsInRange => exact .ite (.next (State.Inv.senseOnce (by exact h.same rfl))) (.next h)
  | pllLockLoss _ => exact .ite (.next (State.Inv.pllLost (.ite h.shotTaken h) _)) (.next h)
  | fundamentalReset => exact execFundamentalReset_completes h
  | hotReset | functionLevelReset => exact .ite (.next h.conventionalReset) (.next h)
  | pcieLinkDown => exact .ite (.next (State.Inv.pcieDown (.ite h.shotTaken h))) (.next h)
  | pcieRecovery _ => exact .ite (.next (State.Inv.recovered (.ite h.shotTaken h))) (.next h)
  | busMasterEnable _ => exact .ite (.next (h.configWrite _)) (.next h)
  | msixUnmask u => exact execMsixUnmask_completes h u
  | completionTimeout r => exact execCompletionTimeout_completes h r
  | mirrorRead a e => exact execMirrorRead_completes h a e
  | mirrorBadAccess => exact .ite (.next h) (.next (State.Inv.count (by exact h.same rfl) _))
  | doorbell v => exact execDoorbell_completes h v
  | immGo v => exact execImmGo_completes h v
  | wake v => exact execWake_completes h v
  | mirrorEStop v => exact execMirrorEStop_completes h v
  | mirrorWriteRejected _ _ => exact .ite (.next h) (.next h.mirrorRejects)
  | mirrorRefresh => exact .next h.refresh
  | interlockAssert _ => exact .ite (.next h) (.next (State.Inv.trip (by exact h.same rfl) _))
  | interlockRelease _ => exact .ite (.next h) (.next (State.Inv.reportLocal (by exact h.same rfl)))
  | sensorInputEdge _ _ => exact .ite (.next h) (.next (State.Inv.wakeBy (State.Inv.raise (by exact h.same rfl) _) _))
  | tamperDetect _ => exact .ite (.next (State.Inv.tamperActs (by exact h.same rfl))) (.next h)
  | encCount e m => exact execEncCount_completes h e m
  | interpolatorTimeout e => exact execInterpolatorTimeout_completes h e
  | lineTrigger j => exact execLineTrigger_completes h j
  | preparationPoint ch bad => exact execPreparationPoint_completes h ch bad
  | lineComposed ch corrected bad => exact execLineComposed_completes h ch corrected bad
  | firePositionReached ch => exact execFirePositionReached_completes h ch
  | slotStart ch => exact execSlotStart_completes h ch
  | slotEnd ch => exact execSlotEnd_completes h ch
  | jobArmed j => exact execJobArmed_completes h j
  | shuttlePassArm j => exact execShuttlePassArm_completes h j
  | lateWebStopped j => exact execLateWebStopped_completes h j
  | lateBackupDone j => exact execLateBackupDone_completes h j
  | lateReregister j => exact execLateReregister_completes h j
  | tileReadCompletion id off r => exact execTileReadCompletion_completes h id off r
  | tileCopyRow id errors => exact execTileCopyRow_completes h id errors
  | mapWriteApplied ch => exact execMapWriteApplied_completes h ch
  | thermalMeasurement x raw => exact execThermalMeasurement_completes h x raw
  | throttleUpTimer x => exact execThrottleUpTimer_completes h x
  | throttleDownTimer x => exact execThrottleDownTimer_completes h x
  | feedAtCapacity j => exact execFeedAtCapacity_completes h j
  | throttleWaitOverrun ch => exact execThrottleWaitOverrun_completes h ch
  | energyModelUpdate => exact execEnergyModelUpdate_completes h
  | sensorSuspect x => exact execSensorSuspect_completes h x
  | cosyPeriod _ => exact .ite (.next h) (.ite (.next (h.modChan _ _)) (.next ((h.modChan _ _).beginSlot _ _ _)))
  | trajectoryUpdate me => exact execTrajectoryUpdate_completes h me
  | moveDone ax => exact execMoveDone_completes h ax
  | axisStands ax => exact execAxisStands_completes h ax
  | limitActive ax positive => exact execLimitActive_completes h ax positive
  | homeSwitchQualified ax active => exact execHomeSwitchQualified_completes h ax active
  | indexEdge ax => exact execIndexEdge_completes h ax
  | chatter ax => exact execChatter_completes h ax
  | idAnswer ch f => exact execIdAnswer_completes h ch f
  | idAnswerMissing ch => exact execIdAnswerMissing_completes h ch
  | identRetry ch => exact execIdentRetry_completes h ch
  | responsePoll ch => exact execResponsePoll_completes h ch
  | authTimeout ch => exact execAuthTimeout_completes h ch
  | surveyMoveDone => exact execSurveyMoveDone_completes h
  | surveyRound => exact execSurveyRound_completes h
  | dropWatchFrame cam f => exact execDropWatchFrame_completes h cam f
  | surveyTimeout => exact execSurveyTimeout_completes h
  | camTrigger p => exact execCamTrigger_completes h p
  | camFrameBegin p => exact execCamFrameBegin_completes h p
  | camLine p pixels trailer => exact execCamLine_completes h p pixels trailer
  | camFrameEnd p => exact execCamFrameEnd_completes h p
  | camTimeout p => exact execCamTimeout_completes h p
  | stripeStart => exact execStripeStart_completes h
  | stripeDone => exact execStripeDone_completes h
  | strainerBarObserved ch bar => exact execStrainerBarObserved_completes h ch bar
  | backgroundTestWindow bank r => exact execBackgroundTestWindow_completes h bank r
  | patrolScrub _ _ => exact .ite (.next h) (.next (by exact ((h.countN _ _).countN _ _).same rfl))
  | storeRetrain => exact .ite (.next h) (.next (by exact h.same rfl))
  | storeConfigDone => exact execStoreConfigDone_completes h
  | wlCommaLock _ => exact .ite (.next ((h.modWport _ _).portsMoved)) (.next h)
  | wlPortUp p => exact execWlPortUp_completes h p
  | ringBreak _ => exact .ite (.next (h.portDown _)) (.next h)
  | resetColumnsReceived _ => exact .ite (.next ((h.sendReset _).ringResetState)) (.next h)
  | ringEnumerate closed east west => exact execRingEnumerate_completes h closed east west
  | topoEnumeration p t => exact execTopoEnumeration_completes h p t
  | topoBreakNotice p t => exact execTopoBreakNotice_completes h p t
  | topoParkNotice n => exact execTopoParkNotice_completes h n
  | wakeFrame p f => exact execWakeFrame_completes h p f
  | wlSignalDetect _ => exact .ite (.next h) (.ite (.next ((h.raise _).wakeBy _)) (.next (h.raise _)))
  | pos p f => exact execPos_completes h p f
  | posSend => exact .ite (.next h) (.next (State.Inv.sendAll (by exact h.same rfl) _ _))
  | posTimeout => exact .ite (.next h.losePos) (.next h)
  | poslostClear => exact .ite (.next (State.Inv.reportLocal (by exact h.same rfl))) (.next h)
  | sync p f => exact execSync_completes h p f
  | syncSend => exact execSyncSend_completes h
  | alignLost => exact execAlignLost_completes h
  | faultColumn p b1 b2 b3 => exact execFaultColumn_completes h p b1 b2 b3
  | flt p f => exact execFlt_completes h p f
  | fltRefresh => exact .ite (.next (State.Inv.sendFlt (by exact h.same rfl))) (.next h)
  | ack _ _ => exact .ite (.next h) (.ite (.next (h.shotTaken.frameError _ _)) (.next ((h.freeThrough _ _).sendWaiting _)))
  | nak _ _ =>
    exact .ite (.next h) (.ite (.next (h.shotTaken.frameError _ _)) (.ite (.next ((h.freeThrough _ _).portDown _))
      (.next (((h.freeThrough _ _).replay _).sendWaiting _))))
  | ackTimer _ => exact .ite (.next (h.sendAck _)) (.next h)
  | replayTimeout _ => exact .ite (.ite (.next (h.portDown _)) (.next (h.replay _))) (.next h)
  | wlFrameError _ _ => exact .ite (.next (State.Inv.frameError (.ite h.shotTaken h) _ _)) (.next h)
  | relayCommand _ _ | relayReply _ _ | deliveryAcknowledgement _ _ | jobSignalLate _ _ | jobSignalStopFiring _ _ | jobSignalFifosFull _ _
  | jobSignalArm _ _ | pkt _ _ => exact packetFrame_completes h _ _ _
  | relayTimeout pktId => exact execRelayTimeout_completes h pktId
  | data p f => exact execData_completes h p f
  | limitInactive _ _ => exact .next (h.modAxis _ _)
  | blockResetDone => exact .ite (.next h) (.next (State.Inv.finishOps (by exact h.same rfl) _ _))

/-- Settles O59: the front command, or the tick of an empty queue, completes and keeps every part of the invariant. -/
theorem stepKeepsInvariant : Obligations.StepKeepsInvariant := by
  intro s h
  unfold step
  split
  · exact Completes.next h.tick
  · exact exec_completes (by exact h.same rfl) _

end Sys2Proof.Machine
end

section
/-! SUPPORT. The queue's front, the state after reset, the Kettle queue (02 R63, R80, R82). -/
namespace Sys2Proof.Machine

/-- Settles O1: the branch of `step` for a queue with a front. -/
theorem stepRunsFrontCommand : Obligations.StepRunsFrontCommand := by
  intro c r s h
  simp only [step, h]

/-- Settles O60: nothing is stored, queued or held after reset, and WAKE_EN is 0x1F. -/
theorem resetHasInvariant : Obligations.ResetHasInvariant := by
  unfold Obligations.ResetHasInvariant
  constructor <;> decide

/-- Settles O7: the two branches of `enqueue` besides the event of a failed ROM check. -/
theorem kettleQueueTakesSixtyFour : Obligations.KettleQueueTakesSixtyFour := by
  intro s p seq
  unfold State.enqueue
  refine ⟨fun h => ?_, fun hstalled hrom hroom => ?_⟩
  · rcases h with h | h <;> simp [h]
  · simp [hstalled, hrom, Nat.not_le.mpr hroom, State.SameButReplies]

end Sys2Proof.Machine
end

section
/-! SUPPORT. Little-endian fields of byte strings (00 R8), packet headers and check codes (02 R45-R47). -/
namespace Sys2Proof.Machine

/-- The number that a byte string spells, lowest byte first (00 R8). -/
def leNat (b : Bytes) : Nat := b.foldr (fun x acc => x.toNat + 256 * acc) 0

theorem le_eq_leNat (b : Bytes) (off n : Nat) : le b off n = leNat ((b.drop off).take n) := rfl

theorem leNat_toLe (n k : Nat) : leNat (toLe n k) = k % 256 ^ n := by
  induction n generalizing k with
  | zero => simp [leNat, toLe, Nat.mod_one]
  | succ n ih =>
    rw [toLe, leNat, List.foldr_cons, ← leNat, ih, BitVec.toNat_ofNat, pow_succ' 256 n, Nat.mod_mul]

/-- A field that begins past the first string lies in the second. -/
theorem le_append_right {a b : Bytes} {off n : Nat} (h : a.length ≤ off) : le (a ++ b) off n = le b (off - a.length) n := by
  rw [le_eq_leNat, le_eq_leNat, List.drop_append, List.drop_of_length_le h, List.nil_append]

/-- A field that ends within the first string lies in the first. -/
theorem le_append_left {a b : Bytes} {off n : Nat} (h : off + n ≤ a.length) : le (a ++ b) off n = le a off n := by
  rw [le_eq_leNat, le_eq_leNat, List.drop_append_of_le_length (by omega), List.take_append_of_le_length (by rw [List.length_drop]; omega)]

/-- The field that `toLe` wrote at the front. -/
theorem le_toLe_append (n k : Nat) (b : Bytes) : le (toLe n k ++ b) 0 n = k % 256 ^ n := by
  rw [le_append_left (by simp), le_eq_leNat, List.drop_zero, List.take_of_length_le (by simp), leNat_toLe]

/-- The field that `toLe` wrote between others. -/
theorem le_append_toLe {a : Bytes} {off : Nat} (h : a.length = off) (n k : Nat) (b : Bytes) : le (a ++ (toLe n k ++ b)) off n = k % 256 ^ n := by
  rw [le_append_right (by omega), h, Nat.sub_self, le_toLe_append]

theorem length_headerBytes (opcode flags target tag len status qdepth : Nat) :
    (headerBytes opcode flags target tag len status qdepth).length = 12 := by
  simp [headerBytes]

section
variable {head params : Bytes} (hhead : head.length = 12)
include hhead

theorem take_withCrc : (withCrc head params).take 12 = head := by
  simp only [withCrc, List.append_assoc]
  rw [← hhead, List.take_left]

theorem drop_withCrc : ((withCrc head params).drop 16).take params.length = params := by
  have hsplit : withCrc head params = (head ++ toLe 4 (crc32c (head ++ [0, 0, 0, 0] ++ params)).toNat) ++
      (params ++ pad (64 * slotsOf params.length - (16 + params.length))) := by
    simp [withCrc, hhead, ← Nat.add_assoc]
  rw [hsplit, List.drop_append_of_le_length (by simp [hhead]), List.drop_of_length_le (by simp [hhead]), List.nil_append, List.take_left]

/-- The word at byte 12 is the CRC of the packet with zeros in its place (02 R46). -/
theorem le_withCrc : le (withCrc head params) 12 4 = (crc32c (head ++ [0, 0, 0, 0] ++ params)).toNat := by
  simp only [withCrc]
  rw [List.append_assoc, List.append_assoc, le_append_toLe hhead]
  exact Nat.mod_eq_of_lt (BitVec.isLt _)

/-- A packet with its CRC passes the check of 02 R46. -/
theorem withCrc_checks : le (withCrc head params) 12 4 =
    (crc32c ((withCrc head params).take 12 ++ [0, 0, 0, 0] ++ ((withCrc head params).drop 16).take params.length)).toNat := by
  rw [take_withCrc hhead, drop_withCrc hhead, le_withCrc hhead]

end

/-- The CRC of one byte more is that of the bytes before it, taken on by eight steps of the register. -/
theorem crc32c_snoc (b : Bytes) (x : Byte) : crc32c (b ++ [x]) = crcByte 0x82F63B78 (crc32c b ^^^ 0xFFFFFFFF) x ^^^ 0xFFFFFFFF := by
  rw [crc32c, crcReflected, List.foldl_append, crc32c, crcReflected, BitVec.xor_assoc, BitVec.xor_self, BitVec.xor_zero]
  rfl

theorem State.replyBytes_of_own (s : State) {r : Reply} (h : r.raw = []) : s.replyBytes r =
    withCrc (headerBytes r.opcode.toNat 0 s.deviceId r.tag.toNat r.params.length r.status.toNat s.pe.queue.length) r.params := by
  simp [State.replyBytes, h]

/-- Settles O4: eight steps of the register for each byte, and `withCrc` for replies and event records. -/
theorem crcIsCrc32C : Obligations.CrcIsCrc32C := by
  refine ⟨fun b x => ?_, BitVec.xor_self, by decide +kernel, ?_, ?_⟩
  · have hpoly : (0x1EDC6F41 : Word).reverse = 0x82F63B78 := by decide +kernel
    rw [crc32c_snoc, hpoly]
    rfl
  · intro s r hraw _
    rw [s.replyBytes_of_own hraw]
    exact withCrc_checks (length_headerBytes ..)
  · intro s op tb code data
    exact ⟨s.eventBytes_length .., withCrc_checks (length_headerBytes ..)⟩

end Sys2Proof.Machine
end

section
/-! SUPPORT. Replies: the bytes in the reply ring, the header, the hold buffer (02 R45, R49, R50, R58, R81). -/
namespace Sys2Proof.Machine
variable {s : State}

/-! ### Slots written into a ring -/

/-- Where the slots do not wrap, the bytes of host memory from the first slot on are those written, and the rest is as before. -/
theorem State.mget_writeSlots {r : Ring} {n i : Nat} {b : Bytes} (hmem : Mem.wf s.host.mem = true) (hlen : b.length = 64 * n) (hfits : i + n ≤ r.slots) :
    (∀ k, k < 64 * n → mget (s.writeSlots r n i b).host.mem (r.base.toNat + 64 * i + k) = b.getD k 0) ∧
    (∀ a, a < r.base.toNat + 64 * i ∨ r.base.toNat + 64 * (i + n) ≤ a → mget (s.writeSlots r n i b).host.mem a = mget s.host.mem a) := by
  induction n generalizing s i b with
  | zero => exact ⟨fun k hk => by omega, fun a _ => rfl⟩
  | succ n ih =>
    have haddr : r.addr i = r.base.toNat + 64 * i := by rw [Ring.addr, Nat.mod_eq_of_lt (by omega)]
    have hslot : (b.take 64).length = 64 := by rw [List.length_take]; omega
    obtain ⟨hin, hout⟩ := ih (s := s.hostWrite (r.addr i) (b.take 64)) (i := i + 1) (b := b.drop 64) (mwrite_wf _ _ _ hmem)
      (by rw [List.length_drop]; omega) (by omega)
    rw [haddr] at hin hout
    constructor
    · intro k hk
      rw [State.writeSlots, haddr]
      by_cases hfirst : k < 64
      · rw [hout _ (by omega), State.hostWrite, mget_mwrite _ _ _ _ hmem (by omega), List.getD_eq_getElem?_getD, List.getD_eq_getElem?_getD,
          List.getElem?_take_of_lt hfirst]
      · have hrest := hin (k - 64) (by omega)
        rw [show r.base.toNat + 64 * (i + 1) + (k - 64) = r.base.toNat + 64 * i + k by omega] at hrest
        rw [hrest, List.getD_eq_getElem?_getD, List.getD_eq_getElem?_getD, List.getElem?_drop, show 64 + (k - 64) = k by omega]
    · intro a ha
      rw [State.writeSlots, haddr, hout _ (by omega), State.hostWrite, mget_mwrite_outside _ _ _ _ hmem (by omega)]

theorem State.writeSlots_eq (s : State) (r : Ring) (n i : Nat) (b : Bytes) :
    s.writeSlots r n i b = { s with host := { s.host with mem := (s.writeSlots r n i b).host.mem } } := by
  induction n generalizing s i b with
  | zero => rfl
  | succ n ih =>
    rw [State.writeSlots, ih]
    rfl

/-- A reply written moves RPL_TAIL, and vector 0 waits in the PBA while no message can be sent (02 R49, 14 R427, R428). -/
theorem State.writeReply_eq (hclosed : s.vectorOpen 0 = false) (b : Bytes) : s.writeReply b = { s with
    pe := { s.pe with rpl := { s.pe.rpl with tail := (s.pe.rpl.tail + b.length / 64) % s.pe.rpl.slots } }
    host := { s.host with mem := (s.writeSlots s.pe.rpl (b.length / 64) s.pe.rpl.tail b).host.mem, pba := setBit s.host.pba 0 true } } := by
  rw [State.writeReply, State.writeSlots_eq]
  exact State.raiseVector_closed hclosed

/-! ### The bytes of a reply -/

/-- A reply shows the device's ID and the depth of Kettle's queue, nothing else of the state (02 R45). -/
theorem State.replyBytes_congr {t : State} (hlink : t.link = s.link) (hqueue : t.pe.queue = s.pe.queue) : t.replyBytes = s.replyBytes := by
  funext r
  rw [State.replyBytes, State.replyBytes, State.deviceId, State.deviceId, hlink, hqueue]

theorem State.length_replyBytes {r : Reply} (h : r.raw = []) : (s.replyBytes r).length = 64 * slotsOf r.params.length := by
  rw [s.replyBytes_of_own h, length_withCrc (length_headerBytes ..)]

/-- Every reply takes a slot at least. -/
theorem State.replyBytes_slot (s : State) (r : Reply) : 0 < (s.replyBytes r).length / 64 := by
  by_cases h : r.raw = []
  · rw [State.length_replyBytes h, slotsOf, ceilDiv]
    omega
  · have hraw := List.length_pos_of_ne_nil h
    simp only [State.replyBytes, if_pos h, List.length_append, pad, List.length_replicate, ceilDiv]
    omega

/-! ### The hold buffer -/

/-- A reply that the ring has no room for: it is disabled, host memory is out of reach, or no slot is free (02 R50, R58). -/
def State.RplFull (s : State) : Prop := s.pe.rpl.en = false ∨ s.host.bme = false ∨ s.pe.rpl.free = 0

theorem State.RplFull.replyFits (h : s.RplFull) {n : Nat} (hn : 0 < n) : s.replyFits n = false := by
  rcases h with h | h | h
  · simp [State.replyFits, h]
  · simp [State.replyFits, h]
  · simp [State.replyFits, h, hn.ne']

/-- The replies that are held and those that Kettle waits to write. -/
def State.holds (s : State) (held waits : List Reply) : State := { s with pe := { s.pe with hold := held, kettleWait := waits } }

/-- What Kettle has to say comes first where the ring is full. -/
theorem State.drainReplies_full (h : s.RplFull) (n : Nat) : State.drainReplies (n + 1) s = s.kettleWrites.elim s (State.drainReplies n) := by
  have hnone (r : Reply) := h.replyFits (s.replyBytes_slot r)
  cases hhold : s.pe.hold <;> cases hwrites : s.kettleWrites <;> simp [State.drainReplies, hhold, hwrites, hnone]

theorem State.kettleWrites_none (h : s.pe.kettleWait = []) : s.kettleWrites = none := by
  rw [State.kettleWrites, h]

/-- Nothing moves while the ring is full and Kettle has nothing to write. -/
theorem State.drainReplies_full_idle (h : s.RplFull) (hwait : s.kettleWrites = none) (n : Nat) : State.drainReplies n s = s := by
  cases n with
  | zero => rfl
  | succ n => rw [State.drainReplies_full h, hwait, Option.elim_none]

/-- Kettle is able to write: it neither stalls nor starts up again (02 R81, 13 R416). -/
def State.KettleWriting (s : State) : Prop := s.pe.stalled = false ∧ s.pe.rebooting = false

/-- A reply of Kettle joins the hold buffer while it has room (02 R58). -/
theorem State.KettleWriting.holds_next (h : s.KettleWriting) {held : List Reply} {r : Reply} (hr : r.relayTo = none) (hroom : held.length < 32) :
    (s.holds held [r]).kettleWrites = some (s.holds (held ++ [r]) []) := by
  obtain ⟨hstalled, hrebooting⟩ := h
  simp [State.kettleWrites, State.holds, hstalled, hrebooting, hr, hroom]

/-- A reply of Kettle waits while the hold buffer is full (02 R81). -/
theorem State.holds_waits (s : State) {held : List Reply} {r : Reply} (hr : r.relayTo = none) (hfull : 32 ≤ held.length) :
    (s.holds held [r]).kettleWrites = none := by
  simp [State.kettleWrites, State.holds, hr, Nat.not_lt.mpr hfull]

theorem State.RplFull.holds (h : s.RplFull) (held waits : List Reply) : (s.holds held waits).RplFull := h

theorem State.kettleReply_held (h : s.RplFull) (hkettle : s.KettleWriting) (hwait : s.pe.kettleWait = []) (hroom : s.pe.hold.length < 32) {r : Reply}
    (hr : r.relayTo = none) : s.kettleReply r = s.holds (s.pe.hold ++ [r]) [] := by
  have hjoin : s.kettleReply r = State.drainReplies (2 * (s.pe.hold.length + 1)) (s.holds s.pe.hold [r]) := by
    rw [State.kettleReply, hwait]
    rfl
  rw [hjoin, show 2 * (s.pe.hold.length + 1) = 2 * s.pe.hold.length + 1 + 1 by omega, State.drainReplies_full (h.holds _ _), hkettle.holds_next hr hroom,
    Option.elim_some]
  exact State.drainReplies_full_idle (h.holds _ _) (State.kettleWrites_none rfl) _

theorem State.kettleReply_waits (h : s.RplFull) (hwait : s.pe.kettleWait = []) (hfull : 32 ≤ s.pe.hold.length) {r : Reply} (hr : r.relayTo = none) :
    s.kettleReply r = s.holds s.pe.hold [r] := by
  rw [State.kettleReply, hwait]
  exact State.drainReplies_full_idle (h.holds s.pe.hold [r]) (s.holds_waits hr hfull) _

theorem State.engineReply_held (h : s.RplFull) (hshot : s.shot 1 = false) (hwait : s.pe.kettleWait = []) (hroom : s.pe.hold.length < 32) (r : Reply) :
    s.engineReply r = s.holds (s.pe.hold ++ [r]) [] := by
  have hholds : ({ s with pe := { s.pe with hold := s.pe.hold ++ [r] } } : State) = s.holds (s.pe.hold ++ [r]) [] := by rw [State.holds, ← hwait]
  rw [State.engineReply, s.detect_eq 1 _ hshot]
  simp only [Nat.not_le.mpr hroom, decide_false, Bool.false_eq_true, if_false]
  rw [hholds]
  exact State.drainReplies_full_idle (h.holds _ _) (State.kettleWrites_none rfl) _

/-- With the hold buffer full a reply of the packet engine is lost (02 R58). -/
theorem State.engineReply_lost (hshot : s.shot 1 = false) (hfull : 32 ≤ s.pe.hold.length) (r : Reply) :
    s.engineReply r = (s.count 1).setRplLost := by
  rw [State.engineReply, s.detect_eq 1 _ hshot]
  simp [hfull]

/-- A vector raised depends on the host port alone. -/
theorem State.raiseVector_host {t : State} (h : t.host = s.host) (v : Nat) : (t.raiseVector v).host = (s.raiseVector v).host := by
  have hopen : t.vectorOpen v = s.vectorOpen v := by simp only [State.vectorOpen, State.msixEntry, h]
  simp only [State.raiseVector, hopen, State.hostWrite, State.msixEntry, h]
  split <;> rfl

theorem State.setRplLost_eq (s : State) : s.setRplLost =
    { s with pe := { s.pe with rplLost := true }, host := if s.pe.rplLost then s.host else (s.raiseVector 2).host } := by
  unfold State.setRplLost
  split
  · next h => rw [← h]
  · have hsame := State.raiseVector_same { s with pe := { s.pe with rplLost := true } } 2
    rw [State.SameButReplies, State.raiseVector_pe, State.raiseVector_host (s := s) (t := { s with pe := { s.pe with rplLost := true } }) rfl] at hsame
    exact hsame

/-! ### A reply into a free ring -/

theorem State.drainReplies_idle (hhold : s.pe.hold = []) (hwait : s.pe.kettleWait = []) (n : Nat) : State.drainReplies n s = s := by
  cases n with
  | zero => rfl
  | succ n => simp [State.drainReplies, hhold, State.kettleWrites_none hwait]

/-- The one held reply is written once the ring takes it (02 R58). -/
theorem State.drainReplies_write {r : Reply} (hhold : s.pe.hold = [r]) (hwait : s.pe.kettleWait = [])
    (hfits : s.replyFits ((s.replyBytes r).length / 64) = true) (n : Nat) : State.drainReplies (n + 1) s = (s.holds [] []).writeReply (s.replyBytes r) := by
  have hempty : ({ s with pe := { s.pe with hold := [] } } : State) = s.holds [] [] := by rw [State.holds, ← hwait]
  rw [State.drainReplies, hhold]
  simp only [hfits, if_true]
  rw [hempty]
  refine State.drainReplies_idle ?_ (State.writeReply_wait _ _) n
  rw [State.writeReply, State.raiseVector_pe, State.writeSlots_pe]
  rfl

/-- One held reply is written by a drain. -/
theorem State.drain_write {r : Reply} (hhold : s.pe.hold = [r]) (hwait : s.pe.kettleWait = [])
    (hfits : s.replyFits ((s.replyBytes r).length / 64) = true) : s.drain = (s.holds [] []).writeReply (s.replyBytes r) := by
  rw [State.drain, hhold, hwait]
  exact State.drainReplies_write hhold hwait hfits 1

theorem State.holds_self (s : State) : s.holds s.pe.hold s.pe.kettleWait = s := rfl

theorem State.holds_nil (hhold : s.pe.hold = []) (hwait : s.pe.kettleWait = []) : s.holds [] [] = s := by
  conv_rhs => rw [← State.holds_self s, hhold, hwait]

/-- A reply of Kettle goes at once into a ring that has room (02 R49). -/
theorem State.kettleReply_written (hkettle : s.KettleWriting) (hhold : s.pe.hold = []) (hwait : s.pe.kettleWait = []) {r : Reply} (hr : r.relayTo = none)
    (hfits : s.replyFits ((s.replyBytes r).length / 64) = true) : s.kettleReply r = s.writeReply (s.replyBytes r) := by
  have hjoin : s.kettleReply r = State.drainReplies 2 (s.holds [] [r]) := by
    rw [State.kettleReply, hwait, State.drain, State.holds, ← hhold]
    simp [hhold]
  have hheld : State.drainReplies 2 (s.holds [] [r]) = State.drainReplies 1 (s.holds [r] []) := by
    rw [State.drainReplies, hkettle.holds_next hr (by simp)]
    rfl
  have hbytes : (s.holds [r] []).replyBytes = s.replyBytes := State.replyBytes_congr rfl rfl
  rw [hjoin, hheld, State.drainReplies_write rfl rfl (by rw [hbytes]; exact hfits), hbytes]
  exact congrArg (State.writeReply · _) (State.holds_nil hhold hwait)

theorem State.replyFits_iff {n : Nat} : s.replyFits n = true ↔ s.pe.rpl.en = true ∧ s.host.bme = true ∧ n ≤ s.pe.rpl.free := by
  simp [State.replyFits, and_assoc]

/-- The good reply to a packet of the command ring goes to Kettle's replies or to those of the packet engine (02 R58). -/
theorem State.reply_ok_ring {p : Packet} (hwant : p.wantReply = true) (kettle : Bool) (params : Bytes) :
    s.reply kettle p .ring stOK params =
      if kettle then s.kettleReply { opcode := p.opcode, tag := p.tag, status := stOK, params := params }
      else s.engineReply { opcode := p.opcode, tag := p.tag, status := stOK, params := params } := by
  simp [State.reply, hwant]

/-! ### The header -/

section
variable {opcode flags target tag len status qdepth : Nat} {b : Bytes}

theorem le_header_opcode : le (headerBytes opcode flags target tag len status qdepth ++ b) 0 2 = opcode % 65536 := by
  simp [headerBytes, toLe, le]
  omega

theorem le_header_flags : le (headerBytes opcode flags target tag len status qdepth ++ b) 2 1 = flags % 256 := by
  simp [headerBytes, toLe, le]

theorem le_header_target : le (headerBytes opcode flags target tag len status qdepth ++ b) 3 1 = target % 256 := by
  simp [headerBytes, toLe, le]

theorem le_header_tag : le (headerBytes opcode flags target tag len status qdepth ++ b) 4 2 = tag % 65536 := by
  simp [headerBytes, toLe, le]
  omega

theorem le_header_length : le (headerBytes opcode flags target tag len status qdepth ++ b) 6 2 = len % 65536 := by
  simp [headerBytes, toLe, le]
  omega

theorem le_header_status : le (headerBytes opcode flags target tag len status qdepth ++ b) 8 2 = status % 65536 := by
  simp [headerBytes, toLe, le]
  omega

theorem le_header_qdepth : le (headerBytes opcode flags target tag len status qdepth ++ b) 10 2 = qdepth % 65536 := by
  simp [headerBytes, toLe, le]
  omega

end

/-- What follows the header of a packet. -/
theorem withCrc_eq_head_append (head params : Bytes) : ∃ b, withCrc head params = head ++ b :=
  ⟨_, by rw [withCrc, List.append_assoc, List.append_assoc]⟩

/-- The header of a reply (02 R45). -/
theorem State.replyBytes_header {r : Reply} (hraw : r.raw = []) (hid : s.deviceId < 256) (hlen : r.params.length ≤ 4080) (hqueue : s.pe.queue.length < 65536) :
    let b := s.replyBytes r
    le b 0 2 = r.opcode.toNat ∧ le b 2 1 = 0 ∧ le b 3 1 = s.deviceId ∧ le b 4 2 = r.tag.toNat ∧
      le b 6 2 = r.params.length ∧ le b 8 2 = r.status.toNat ∧ le b 10 2 = s.pe.queue.length := by
  obtain ⟨b, hb⟩ := withCrc_eq_head_append (headerBytes r.opcode.toNat 0 s.deviceId r.tag.toNat r.params.length r.status.toNat s.pe.queue.length) r.params
  rw [s.replyBytes_of_own hraw, hb]
  exact ⟨le_header_opcode.trans (Nat.mod_eq_of_lt r.opcode.isLt), le_header_flags, le_header_target.trans (Nat.mod_eq_of_lt hid),
    le_header_tag.trans (Nat.mod_eq_of_lt r.tag.isLt), le_header_length.trans (Nat.mod_eq_of_lt (by omega)),
    le_header_status.trans (Nat.mod_eq_of_lt r.status.isLt), le_header_qdepth.trans (Nat.mod_eq_of_lt hqueue)⟩

/-! ### RPL_HEAD -/

/-- RPL_HEAD moved to a slot (02 R50, R52). -/
def State.withRplHead (s : State) (i : Nat) : State := { s with pe := { s.pe with rpl := { s.pe.rpl with head := i } } }

/-- RPL_HEAD written inside the ring (02 R50, R52, R58). -/
theorem State.Awake.exec_rplHead (ha : s.Awake) (h4 : s.shot 4 = false) {v : Word} (hv : v.toNat % 4096 < s.pe.rpl.slots) :
    exec (.rplHead v) s = .next (s.withRplHead (v.toNat % 4096)).drain := by
  have hwrite : s.hostWriteReg .bar0 0x30 v.toNat = s.writeRplHead v.toNat := by
    rw [s.hostWriteReg_awake _ _ _ ha h4, w32_toNat]
    rfl
  change Host.Outcome.next (s.hostWriteReg .bar0 0x30 v.toNat) = _
  rw [hwrite, State.writeRplHead, if_neg (by omega)]
  rfl

/-- Settles O5: a reply of Kettle passes the hold buffer into a free ring; a full ring leaves it there, and a full hold buffer loses it or lets it wait. -/
theorem repliesAreWritten : Obligations.RepliesAreWritten := by
  refine ⟨?_, ?_, ?_, ?_⟩
  · intro s p params hwant hhold hwait hstalled hrebooting hen hbme hmem hclosed hlen hfree hfits r t
    have hbytes : (s.replyBytes r).length = 64 * slotsOf params.length := State.length_replyBytes rfl
    have hslots : (s.replyBytes r).length / 64 = slotsOf params.length := by omega
    have ht : t = s.writeReply (s.replyBytes r) := (State.reply_ok_ring hwant true params).trans
      (State.kettleReply_written ⟨hstalled, hrebooting⟩ hhold hwait rfl (State.replyFits_iff.mpr ⟨hen, hbme, hslots.trans_le hfree⟩))
    rw [State.writeReply_eq hclosed, hslots] at ht
    obtain ⟨hin, hout⟩ := State.mget_writeSlots hmem hbytes hfits
    rw [ht]
    exact ⟨hin, hout, rfl, rfl⟩
  · intro s r hraw hlen hid hqueue b
    obtain ⟨hopcode, hflags, htarget, htag, hlength, hstatus, hqdepth⟩ := State.replyBytes_header hraw hid hlen hqueue
    have hb : b = _ := s.replyBytes_of_own hraw
    have hhead := length_headerBytes r.opcode.toNat 0 s.deviceId r.tag.toNat r.params.length r.status.toNat s.pe.queue.length
    refine ⟨State.length_replyBytes hraw, hopcode, hflags, htarget, htag, hlength, hstatus, hqdepth, ?_, ?_⟩
    · rw [hb, take_withCrc hhead, le_withCrc hhead]
    · rw [hb, drop_withCrc hhead]
  · intro s p params hwant hshot hwait hstalled hrebooting hring r holds
    have hfull : s.RplFull := hring
    refine ⟨fun hroom kettle => ?_, fun hheld => ⟨?_, ?_⟩⟩
    · rw [State.reply_ok_ring hwant]
      cases kettle with
      | true => exact State.kettleReply_held hfull ⟨hstalled, hrebooting⟩ hwait hroom rfl
      | false => exact State.engineReply_held hfull hshot hwait hroom r
    · exact (State.reply_ok_ring hwant true params).trans (State.kettleReply_waits hfull hwait hheld rfl)
    · intro t
      have ht : t = (s.count 1).setRplLost := (State.reply_ok_ring hwant false params).trans (State.engineReply_lost hshot hheld r)
      rw [ht, State.setRplLost_eq]
      have hvector := State.raiseVector_host (s := s) (t := s.count 1) rfl 2
      exact ⟨rfl, by rw [← hvector]; rfl⟩
  · intro s r v ha h4 hhold hwait hraw hparams hen hbme hmem hclosed htail hhead hnext
    have hbytes : (s.replyBytes r).length = 64 * 1 := by
      rw [State.length_replyBytes hraw, slotsOf, ceilDiv]
      omega
    have hmoved : (s.withRplHead (v.toNat % 4096)).replyBytes = s.replyBytes := State.replyBytes_congr rfl rfl
    have hfree : 0 < (s.withRplHead (v.toNat % 4096)).pe.rpl.free := Ring.free_pos htail hhead hnext
    have hfits : (s.withRplHead (v.toNat % 4096)).replyFits (((s.withRplHead (v.toNat % 4096)).replyBytes r).length / 64) = true :=
      State.replyFits_iff.mpr ⟨hen, hbme, by rw [hmoved]; omega⟩
    have hdrain := State.drain_write (s := s.withRplHead (v.toNat % 4096)) hhold hwait hfits
    rw [hmoved, State.writeReply_eq (s := (s.withRplHead (v.toNat % 4096)).holds [] []) hclosed, show (s.replyBytes r).length / 64 = 1 by omega] at hdrain
    obtain ⟨hin, -⟩ := State.mget_writeSlots (s := (s.withRplHead (v.toNat % 4096)).holds [] []) (r := (s.withRplHead (v.toNat % 4096)).pe.rpl)
      hmem hbytes (show s.pe.rpl.tail + 1 ≤ s.pe.rpl.slots by omega)
    refine ⟨_, (ha.exec_rplHead h4 hhead).trans (congrArg _ hdrain), ?_, ?_, rfl, hin⟩
    · rw [← hwait]
      rfl
    · exact (getLsbD_setBit _ 0 0 true (by decide)).trans (if_pos rfl)

end Sys2Proof.Machine
end

section
/-! SUPPORT. The checks of a command packet, in their order (02 R48, R56; 11 R363, 12 R377, R378). -/
namespace Sys2Proof.Machine
variable {s : State} {p : Packet} {src : Source}

/-! ### Checks 2 to 6 -/

theorem State.handlePacket_refused {st : BitVec 16} (h : s.packetCheck p src = some st) : s.handlePacket p src = s.reply false p src st [] := by
  rw [State.handlePacket, h]

/-- LENGTH against 02 R45. -/
theorem State.packetCheck_length (h : p.length % 4 ≠ 0 ∨ 4080 < p.length) : s.packetCheck p src = some stBAD_LENGTH := by
  rw [State.packetCheck, if_pos (by simpa using h)]

section
variable (hmod : p.length % 4 = 0) (hmax : p.length ≤ 4080)
include hmod hmax

theorem State.packetCheck_opcode (h : p.opcode.toNat ∉ opcodes) : s.packetCheck p src = some stBAD_OPCODE := by
  rw [State.packetCheck, if_neg (by simp; omega), if_pos (by simpa using h)]

variable (hop : p.opcode.toNat ∈ opcodes)
include hop

theorem State.packetCheck_header (h : p.headerOk = false) : s.packetCheck p src = some stBAD_PARAM := by
  rw [State.packetCheck, if_neg (by simp; omega), if_neg (by simpa using hop), if_pos (by simp [h])]

variable (hheader : p.headerOk = true)
include hheader

theorem State.packetCheck_unreachable (hlocal : s.isLocal p src = false) (h : s.unreachable p = true) :
    s.packetCheck p src = some stTARGET_UNREACHABLE := by
  rw [State.packetCheck, if_neg (by simp; omega), if_neg (by simpa using hop), if_neg (by simp [hheader]), if_pos (by simp [hlocal, h])]

theorem State.packetCheck_layout (hlocal : s.isLocal p src = true) (h : lengthOk p.opcode.toNat p.length p.params = false) :
    s.packetCheck p src = some stBAD_LENGTH := by
  rw [State.packetCheck, if_neg (by simp; omega), if_neg (by simpa using hop), if_neg (by simp [hheader]), if_neg (by simp [hlocal]), if_pos (by simp [h])]

end

/-- FLAGS and TARGET that 02 R48 does not allow together. -/
theorem Packet.headerOk_eq_false (h : 8 ≤ p.flags.toNat ∨ (p.broadcast = true ∧ p.target ≠ 0xFF) ∨ (p.broadcast = false ∧ p.target = 0xFF) ∨
    (8 ≤ p.target.toNat ∧ p.target ≠ 0xFF)) : p.headerOk = false := by
  rcases h with h | ⟨hb, ht⟩ | ⟨hb, ht⟩ | ⟨h, ht⟩
  · simp [Packet.headerOk, Nat.not_lt.mpr h]
  · have hone : p.target ≠ 255#8 := ht
    simp [Packet.headerOk, hb, hone]
  · simp [Packet.headerOk, hb, ht]
  · have hone : p.target ≠ 255#8 := ht
    simp [Packet.headerOk, Nat.not_lt.mpr h, hone]

/-! ### The checks of Kettle -/

theorem State.runKettle_scrapped (hlife : s.otp.wires.lifecycle = 4) (hop : p.opcode.toNat ∉ [0x0100, 0x0101, 0x0900, 0x0A00, 0x0A01]) (seq : Nat) :
    s.runKettle p src seq = s.reply true p src stREFUSED_LIFECYCLE [] := by
  have hrefused : scrappedOk p.opcode.toNat = false := by simpa [scrappedOk, and_assoc] using hop
  simp [State.runKettle, hlife, hrefused, State.say]

section
variable (hlife : s.otp.wires.lifecycle ≠ 4) (seq : Nat)
include hlife

theorem State.runKettle_jobStart (hop : p.opcode = 0x0302) : s.runKettle p src seq = s.opJobStart p src seq := by
  simp [State.runKettle, hop, hlife]

theorem State.runKettle_jobResume (hop : p.opcode = 0x0304) : s.runKettle p src seq = s.opJobResume p src seq := by
  simp [State.runKettle, hop, hlife]

theorem State.runKettle_surveyStart (hop : p.opcode = 0x0600) : s.runKettle p src seq = s.opSurveyStart p src seq := by
  simp [State.runKettle, hop, hlife]

end

/-- The temperatures that refuse a start or a resume (09 R314): a latched shutdown refuses a resume, a cold head what no wait covers. -/
theorem State.tempBan_iff {j : Job} {resume wait : Bool} : s.tempBan j resume wait = true ↔
    (wait = false ∧ ∃ n, n ∈ j.chans ∧ (s.headSensor n).value < 150) ∨ (resume = true ∧ ∃ n, n ∈ j.chans ∧ s.shutdownLatched n = true) := by
  rw [or_comm]
  simp [State.tempBan]
  rfl

section
variable {slot : Nat} {j : Job} (seq : Nat)

/-- An opcode that prints is refused at an interlock latch first (09 R314). -/
theorem State.opJobStart_tripped (h : s.tripped = true) : s.opJobStart p src seq = s.reply true p src stREFUSED_INTERLOCK [] := by
  simp [State.opJobStart, h, State.say]

theorem State.opJobResume_tripped (h : s.tripped = true) : s.opJobResume p src seq = s.reply true p src stREFUSED_INTERLOCK [] := by
  simp [State.opJobResume, h, State.say]

variable (h : s.tripped = false) (hslot : s.jobSlot (BitVec.ofNat 16 (le p.params 0 2)) = some slot) (hjob : s.jobAt slot = some j)
include h hslot hjob

theorem State.opJobStart_ban (hban : s.tempBan j false (le p.params 2 2 % 2 = 1) = true) :
    s.opJobStart p src seq = s.reply true p src stREFUSED_TEMPERATURE [] := by
  simp only [State.opJobStart, h, Packet.u, hslot, hjob, Bool.false_eq_true, if_false]
  exact if_pos hban

theorem State.opJobResume_ban (hban : s.tempBan j true (le p.params 2 2 % 2 = 1) = true) :
    s.opJobResume p src seq = s.reply true p src stREFUSED_TEMPERATURE [] := by
  simp only [State.opJobResume, h, Packet.u, hslot, hjob, Bool.false_eq_true, if_false]
  exact if_pos hban

theorem State.opJobStart_conflict (hban : s.tempBan j false (le p.params 2 2 % 2 = 1) = false) (hconflict : s.link.conflict = true) :
    s.opJobStart p src seq = s.reply true p src stTARGET_CONFLICT [] := by
  simp only [State.opJobStart, h, Packet.u, hslot, hjob, Bool.false_eq_true, if_false]
  exact (if_neg (Bool.eq_false_iff.mp hban)).trans (if_pos hconflict)

theorem State.opJobResume_conflict (hban : s.tempBan j true (le p.params 2 2 % 2 = 1) = false) (hconflict : s.link.conflict = true) :
    s.opJobResume p src seq = s.reply true p src stTARGET_CONFLICT [] := by
  simp only [State.opJobResume, h, Packet.u, hslot, hjob, Bool.false_eq_true, if_false]
  exact (if_neg (Bool.eq_false_iff.mp hban)).trans (if_pos hconflict)

end

theorem mem_maskChans {m : ChMask} {n : Nat} : n ∈ maskChans m ↔ n < 48 ∧ m.getLsbD n = true := by
  simp [maskChans]

/-- A bit of a field, in the mask that the field is taken as. -/
theorem getLsbD_ofNat_bit {w k n : Nat} (hn : n < w) : (BitVec.ofNat w k).getLsbD n = bit k n := by
  rw [BitVec.getLsbD_ofNat, Nat.testBit_eq_decide_div_mod_eq, bit]
  simp [hn]

/-- A cold head among the channels of a survey refuses it (06 R224). -/
theorem State.opSurveyStart_cold (h : s.tripped = false) {n : Nat} (hn : n < 48) (hbit : bit (le p.params 0 8) n = true) (hcold : s.coldHead n = true)
    (seq : Nat) : s.opSurveyStart p src seq = s.reply true p src stREFUSED_TEMPERATURE [] := by
  have hany : (maskChans (BitVec.ofNat 64 (p.u 0 8))).any s.coldHead = true :=
    List.any_eq_true.mpr ⟨n, mem_maskChans.mpr ⟨hn, (getLsbD_ofNat_bit (by omega)).trans hbit⟩, hcold⟩
  simp only [State.opSurveyStart, h, hany, Bool.false_eq_true, if_false, if_true]
  rfl

/-- Settles O6: each check with those before it passed. -/
theorem firstFailingCheckAnswers : Obligations.FirstFailingCheckAnswers := by
  intro s p
  refine ⟨fun h => State.handlePacket_refused (State.packetCheck_length h), fun hmod hmax hop => State.handlePacket_refused (State.packetCheck_opcode hmod hmax hop),
    fun hmod hmax hop h => State.handlePacket_refused (State.packetCheck_header hmod hmax hop (Packet.headerOk_eq_false h)), ?_, ?_,
    fun seq hlife hop => State.runKettle_scrapped hlife hop seq, ?_, ?_⟩
  · intro hmod hmax hop hheader htarget hlayout
    exact State.handlePacket_refused (State.packetCheck_layout hmod hmax hop hheader (by simp [State.isLocal, htarget]) hlayout)
  · intro hmod hmax hop hheader hall hother hfar
    have hall' : p.target ≠ 255#8 := hall
    have hunreachable : s.unreachable p = true := by
      rcases hfar with h | h | ⟨hconflict, hhardware, htarget⟩
      · simp [State.unreachable, h]
      · simp [State.unreachable, h]
      · have htarget' : p.target ≠ 0#8 := htarget
        simp [State.unreachable, hconflict, hhardware, htarget']
    exact State.handlePacket_refused (State.packetCheck_unreachable hmod hmax hop hheader (by simp [State.isLocal, hall', hother]) hunreachable)
  · intro seq slot j hlife hslot hjob waits cold latched answers hprints
    rcases hprints with hop | hop
    · have hnot : p.opcode ≠ 772#16 := by rw [hop]; decide
      simp only [answers, State.runKettle_jobStart hlife seq hop]
      refine ⟨fun h => State.opJobStart_tripped seq h, fun h hban => State.opJobStart_ban seq h hslot hjob ?_,
        fun h hban hconflict => State.opJobStart_conflict seq h hslot hjob ?_ hconflict⟩
      · exact State.tempBan_iff.mpr (by simpa [waits, cold, hnot] using hban)
      · exact Bool.eq_false_iff.mpr fun hbanned => hban (by simpa [waits, cold, hnot] using State.tempBan_iff.mp hbanned)
    · simp only [answers, State.runKettle_jobResume hlife seq hop]
      refine ⟨fun h => State.opJobResume_tripped seq h, fun h hban => State.opJobResume_ban seq h hslot hjob ?_,
        fun h hban hconflict => State.opJobResume_conflict seq h hslot hjob ?_ hconflict⟩
      · exact State.tempBan_iff.mpr (by simpa [waits, cold, latched, hop] using hban)
      · exact Bool.eq_false_iff.mpr fun hbanned => hban (by simpa [waits, cold, latched, hop] using State.tempBan_iff.mp hbanned)
  · intro seq n hlife hop h hn hbit hattached hcold
    rw [State.runKettle_surveyStart hlife seq hop]
    exact State.opSurveyStart_cold h hn hbit (by rw [State.coldHead, hattached]; exact decide_eq_true hcold) seq

end Sys2Proof.Machine
end

section
/-! SUPPORT. PING, GET_INFO and COUNTERS_READ (02 R76, 15 R449). -/
namespace Sys2Proof.Machine
variable {s : State} {c : Cmd}

/-! ### Bits gathered in a number -/

theorem bitsOf_succ (n : Nat) (p : Nat → Bool) : bitsOf (n + 1) p = 2 ^ n * b2n (p n) + bitsOf n p := by
  rw [bitsOf, List.range_succ, List.foldl_append, ← bitsOf, List.foldl_cons, List.foldl_nil, Nat.mul_comm, Nat.add_comm]

theorem bitsOf_lt (n : Nat) (p : Nat → Bool) : bitsOf n p < 2 ^ n := by
  induction n with
  | zero => exact Nat.one_pos
  | succ n ih =>
    have hbit : b2n (p n) ≤ 1 := by cases p n <;> decide
    have hterm : 2 ^ n * b2n (p n) ≤ 2 ^ n := by simpa using Nat.mul_le_mul_left (2 ^ n) hbit
    rw [bitsOf_succ, Nat.pow_succ]
    omega

theorem bit_eq_testBit (k i : Nat) : bit k i = k.testBit i := by
  rw [bit, Nat.testBit_eq_decide_div_mod_eq]

theorem bit_bitsOf {n i : Nat} (h : i < n) (p : Nat → Bool) : bit (bitsOf n p) i = p i := by
  induction n with
  | zero => omega
  | succ n ih =>
    rw [bitsOf_succ, bit_eq_testBit, Nat.testBit_two_pow_mul_add _ (bitsOf_lt n p)]
    by_cases hi : i < n
    · rw [if_pos hi, ← bit_eq_testBit, ih hi]
    · rw [if_neg hi, show i = n by omega, Nat.sub_self]
      cases p n <;> decide

/-! ### Fields written one after the other -/

/-- Field i of equally wide fields. -/
theorem le_flatMap_toLe {α : Type} (w : Nat) (f : α → Nat) (l : List α) (b : Bytes) {i : Nat} (h : i < l.length) :
    le (l.flatMap (fun x => toLe w (f x)) ++ b) (w * i) w = f l[i] % 256 ^ w := by
  induction l generalizing i with
  | nil => simp at h
  | cons x l ih =>
    rw [List.flatMap_cons, List.append_assoc]
    cases i with
    | zero => exact le_toLe_append w (f x) _
    | succ i =>
      rw [le_append_right (by rw [length_toLe, Nat.mul_succ]; omega), length_toLe, Nat.mul_succ, Nat.add_sub_cancel, ih (by simpa using h)]
      rfl

theorem length_flatMap_toLe {α : Type} (w : Nat) (f : α → Nat) (l : List α) : (l.flatMap (fun x => toLe w (f x))).length = w * l.length := by
  induction l with
  | nil => rfl
  | cons x l ih => rw [List.flatMap_cons, List.length_append, length_toLe, ih, List.length_cons, Nat.mul_succ, Nat.add_comm]

/-! ### The reply of GET_INFO -/

/-- What GET_INFO answers (02 R70, R76). -/
def State.info (s : State) : Bytes :=
  let w := s.otp.wires
  toLe 4 0x4816 ++ (toLe 1 0xB1 ++ (toLe 1 s.deviceId ++ (toLe 1 (b2n w.master) ++ (toLe 1 w.lifecycle ++ (toLe 4 Config.romVersion.toNat ++
    (toLe 4 s.otp.patch.toNat ++ (toLe 1 s.otp.regionOk.toNat ++ (toLe 1 s.otp.weakRegions ++
      (toLe 1 (b2n w.bar4 + 2 * b2n w.compat + 4 * b2n w.debugLock + 8 * b2n w.inject) ++ (toLe 1 0 ++
        (toLe 8 (bitsOf 48 (fun n => (s.chan n).attached)) ++ (toLe 8 s.storeBytes ++ []))))))))))))

theorem State.opGetInfo_eq (p : Packet) (src : Source) (seq : Nat) : s.opGetInfo p src seq = s.reply true p src stOK s.info := by
  rw [State.opGetInfo, State.answer]
  simp only [State.info, List.append_assoc, List.append_nil]
  rfl

theorem State.info_fields (s : State) : s.info.length = 36 ∧ le s.info 0 4 = 0x4816 ∧ le s.info 4 1 = 0xB1 ∧ le s.info 5 1 = s.deviceId % 256 ∧
    le s.info 7 1 = s.otp.wires.lifecycle % 256 ∧ le s.info 12 4 = s.otp.patch.toNat ∧
    (∀ n, n < 48 → bit (le s.info 20 8) n = (s.chan n).attached) ∧ le s.info 28 8 = s.storeBytes % 2 ^ 64 := by
  refine ⟨by simp [State.info], ?_, ?_, ?_, ?_, ?_, fun n hn => ?_, ?_⟩
  all_goals
    unfold State.info
    simp only [le_append_right, length_toLe, Nat.reduceLeDiff, Nat.reduceSub, le_toLe_append, Nat.reducePow, Nat.reduceMod, Nat.le_refl]
  · exact Nat.mod_eq_of_lt s.otp.patch.isLt
  · rw [Nat.mod_eq_of_lt ((bitsOf_lt 48 _).trans (by decide)), bit_bitsOf hn]

/-! ### The opcodes that Kettle executes -/

theorem State.KettleTakes.layout {op : BitVec 16} (h : s.KettleTakes op c) : lengthOk op.toNat c.params.length c.params = true := by
  obtain ⟨-, -, ⟨-, -, -, -, -, -, hlayout⟩, -⟩ := h
  exact hlayout

/-- A packet that Kettle takes at once runs the operation of its opcode. -/
theorem State.KettleTakes.runs {op : BitVec 16} (h : s.KettleTakes op c) {f : State → State} (hop : opcodes.contains op.toNat = true)
    (hkettle : (packetOfCmd op c).hardware = false)
    (hrun : ∀ t : State, t.otp.wires.lifecycle ≠ 4 → t.runKettle (packetOfCmd op c) .ring s.pe.seq = f t) :
    Host.Outcome.next (s.packetRow op c) = (.next (f s.taken) : Host.Outcome State Fault Refusal) := by
  obtain ⟨-, -, -, hlife, -⟩ := id h
  rw [s.packetRow_kettle op c hop hkettle h, hrun s.taken hlife]

theorem State.KettleTakes.exec_ping (h : s.KettleTakes 0x0100 c) : exec (.ping c) s = .next (s.taken.ok 0x0100 c c.params) :=
  h.runs (f := fun t => t.ok 0x0100 c c.params) (by decide) (by simp [Packet.hardware, packetOfCmd])
    fun t hlife => by simp [State.runKettle, hlife, packetOfCmd, State.opPing, State.answer, State.ok]

theorem State.KettleTakes.exec_getInfo (h : s.KettleTakes 0x0101 c) : exec (.getInfo c) s = .next (s.taken.ok 0x0101 c s.taken.info) :=
  h.runs (f := fun t => t.ok 0x0101 c t.info) (by decide) (by simp [Packet.hardware, packetOfCmd])
    fun t hlife => by simp [State.runKettle, hlife, packetOfCmd, State.opGetInfo_eq, State.ok]

theorem State.KettleTakes.exec_countersRead (h : s.KettleTakes 0x0900 c) :
    exec (.countersRead c) s = .next (s.taken.opCountersRead (packetOfCmd 0x0900 c) .ring s.pe.seq) :=
  h.runs (f := fun t => t.opCountersRead (packetOfCmd 0x0900 c) .ring s.pe.seq) (by decide) (by simp [Packet.hardware, packetOfCmd])
    fun t hlife => by simp [State.runKettle, hlife, packetOfCmd]

/-! ### The reply of COUNTERS_READ -/

/-- What COUNTERS_READ answers (15 R449): its parameters, the flags of saturation, the counters it names, whole dwords. -/
def State.countersReply (s : State) (params : Bytes) : Bytes :=
  params.take 4 ++ (toLe 16 s.tc.sat.toNat ++
    ((List.range (le params 1 1)).flatMap (fun i => toLe 2 (s.counter (le params 0 1 + i)).toNat) ++ pad (2 * (le params 1 1 % 2))))

theorem State.opCountersRead_eq {p : Packet} (hfirst : le p.params 0 1 ≤ 127) (hn : 0 < le p.params 1 1) (hlast : le p.params 0 1 + le p.params 1 1 ≤ 128)
    (hzeros : zeros p.params 2 2 = true) (src : Source) (seq : Nat) : s.opCountersRead p src seq = s.reply true p src stOK (s.countersReply p.params) := by
  have hrange : (127 < p.u 0 1 || p.u 1 1 = 0 || 128 < p.u 0 1 + p.u 1 1 || !zeros p.params 2 2) = false := by
    simp [Packet.u, hzeros]
    exact ⟨⟨decide_eq_false (by omega), decide_eq_false (by omega)⟩, decide_eq_false (by omega)⟩
  simp only [State.opCountersRead, hrange, Bool.false_eq_true, if_false, State.answer, State.countersReply, List.append_assoc]
  rfl

theorem State.countersReply_fields {params : Bytes} (hlen : params.length = 4) :
    (s.countersReply params).take 4 = params ∧ le (s.countersReply params) 4 16 = s.tc.sat.toNat ∧
      (∀ i, i < le params 1 1 → le (s.countersReply params) (20 + 2 * i) 2 = (s.counter (le params 0 1 + i)).toNat) ∧
      (s.countersReply params).length = 20 + 2 * le params 1 1 + 2 * (le params 1 1 % 2) := by
  have htake : params.take 4 = params := List.take_of_length_le (by omega)
  unfold State.countersReply
  rw [htake]
  refine ⟨by rw [← hlen, List.take_left], ?_, fun i hi => ?_, ?_⟩
  · rw [le_append_toLe hlen]
    exact Nat.mod_eq_of_lt (BitVec.isLt _)
  · rw [le_append_right (by omega), le_append_right (by rw [length_toLe]; omega), length_toLe, hlen,
      show 20 + 2 * i - 4 - 16 = 2 * i by omega, le_flatMap_toLe 2 _ _ _ (by simpa using hi), List.getElem_range]
    exact Nat.mod_eq_of_lt (BitVec.isLt _)
  · simp only [List.length_append, hlen, length_toLe, length_flatMap_toLe, List.length_range, pad, List.length_replicate]
    omega

/-- Settles O8: the replies of the three opcodes, field by field. -/
theorem systemQueriesAnswer : Obligations.SystemQueriesAnswer := by
  intro c s
  refine ⟨fun h => h.exec_ping, fun h => ?_, fun h hfirst hn hlast hzeros => ?_⟩
  · obtain ⟨-, -, ⟨-, -, -, hid, -⟩, -⟩ := id h
    obtain ⟨hlen, hpart, hrev, hdev, hlife, hpatch, hchans, hstore⟩ := s.taken.info_fields
    exact ⟨_, h.exec_getInfo, hlen, hpart, hrev, hdev.trans (Nat.mod_eq_of_lt (Nat.lt_of_lt_of_le hid (by decide))), hlife, hpatch, hchans, hstore⟩
  · have hlen : c.params.length = 4 := by simpa [lengthOk] using h.layout
    refine ⟨_, h.exec_countersRead.trans (congrArg _ ?_), s.taken.countersReply_fields hlen⟩
    exact State.opCountersRead_eq (p := packetOfCmd 0x0900 c) hfirst hn hlast hzeros .ring s.pe.seq

end Sys2Proof.Machine
end

section
/-! SUPPORT. What frames and replies that are sent leave as it was (02 R58, 12 R387-R390). -/
namespace Sys2Proof.Machine
variable {s t u : State}

/-- A relation that each operation of a fold keeps. -/
theorem foldl_rel {α : Type} {R : State → State → Prop} (hrefl : ∀ s, R s s) (htrans : ∀ {s t u}, R s t → R t u → R s u) {f : State → α → State}
    (hf : ∀ s x, R s (f s x)) (l : List α) (s : State) : R s (l.foldl f s) := by
  induction l generalizing s with
  | nil => exact hrefl s
  | cons x l ih => exact htrans (hf s x) (ih _)

/-! ### Frames -/

/-- Nothing differs but what a frame sent can touch: the link, the counters, a shot that makes it sent again (15 R455). -/
def State.SameButFrames (s t : State) : Prop := t = { s with link := t.link, inj := t.inj, tc := t.tc }

theorem State.SameButFrames.refl (s : State) : s.SameButFrames s := rfl

theorem State.SameButFrames.trans (h : s.SameButFrames t) (g : t.SameButFrames u) : s.SameButFrames u := by
  unfold State.SameButFrames at *
  rw [g, h]

theorem State.modWport_frames (s : State) (p : Side) (f : Port → Port) : s.SameButFrames (s.modWport p f) := by
  cases p <;> rfl

theorem State.freeThrough_frames (s : State) (p : Side) (seq : BitVec 12) : s.SameButFrames (s.freeThrough p seq) := by
  unfold State.freeThrough
  split
  · exact s.modWport_frames _ _
  · rfl

theorem State.replay_frames (s : State) (p : Side) : s.SameButFrames (s.replay p) := by
  unfold State.replay
  extract_lets n
  split
  · rfl
  · exact State.SameButFrames.trans (t := s.countReplays n) rfl (State.modWport_frames _ _ _)

theorem State.sendFrame_frames (s : State) (p : Side) (f : Frame) : s.SameButFrames (s.sendFrame p f) := by
  unfold State.sendFrame
  extract_lets q g sent
  have hsent : s.SameButFrames sent := s.modWport_frames _ _
  split
  · rfl
  split
  · split
    · split
      · have hshot : sent.SameButFrames sent.shotTaken := rfl
        exact hsent.trans (hshot.trans ((State.freeThrough_frames _ _ _).trans (State.replay_frames _ _)))
      · exact hsent
    · exact s.modWport_frames _ _
  · exact s.modWport_frames _ _

theorem State.sendAll_frames (s : State) (typ : BitVec 4) (b : Bytes) : s.SameButFrames (s.sendAll typ b) := by
  refine foldl_rel State.SameButFrames.refl State.SameButFrames.trans (fun s p => ?_) _ s
  dsimp only
  split
  · rfl
  · exact s.sendFrame_frames _ _

theorem State.sendTo_frames (s : State) (id : Nat) (typ : BitVec 4) (b : Bytes) : s.SameButFrames (s.sendTo id typ b) := by
  unfold State.sendTo
  split
  · rfl
  · exact s.sendFrame_frames _ _

theorem State.sendPkt_frames (s : State) (id kind : Nat) (k : BitVec 16) (b : Bytes) : s.SameButFrames (s.sendPkt id kind k b) := by
  refine foldl_rel State.SameButFrames.refl State.SameButFrames.trans (fun s x => ?_) _ s
  split
  · exact s.sendAll_frames _ _
  · exact s.sendTo_frames _ _ _

theorem State.sendReply_frames (s : State) (dest : Byte) (r : Reply) : s.SameButFrames (s.sendReply dest r) :=
  State.SameButFrames.trans (t := s.takePktId.2) rfl (State.sendPkt_frames _ _ _ _ _)

theorem State.reportLocal_frames (s : State) : s.SameButFrames s.reportLocal := by
  unfold State.reportLocal
  extract_lets n
  split
  · rfl
  · have hfault (s : State) (classes : BitVec 4) : s.SameButFrames (s.sendFault classes) := by
      unfold State.sendFault
      split
      · rfl
      · refine State.SameButFrames.trans (t := { s with link := { s.link with faultSent := some (_, s.clock) } }) rfl
          (foldl_rel State.SameButFrames.refl State.SameButFrames.trans (fun s p => ?_) _ _)
        split
        · exact s.modWport_frames _ _
        · rfl
    exact State.SameButFrames.trans (t := { s with link := { s.link with localSent := s.localReport } }) rfl
      ((hfault _ _).trans (State.sendAll_frames _ _ _))

/-! ### Replies -/

/-- Nothing differs but what a reply can touch: RPL_TAIL, the replies that wait, RPL_LOST, the host port, and what a frame touches. -/
def State.SameButSent (s t : State) : Prop := t = { s with
  pe := { s.pe with rpl := { s.pe.rpl with tail := t.pe.rpl.tail }, hold := t.pe.hold, kettleWait := t.pe.kettleWait, rplLost := t.pe.rplLost }
  host := t.host, link := t.link, inj := t.inj, tc := t.tc }

theorem State.SameButSent.refl (s : State) : s.SameButSent s := rfl

theorem State.SameButSent.trans (h : s.SameButSent t) (g : t.SameButSent u) : s.SameButSent u := by
  unfold State.SameButSent at *
  rw [g, h]

theorem State.SameButFrames.sent (h : s.SameButFrames t) : s.SameButSent t := by
  unfold State.SameButFrames at h
  rw [h]
  rfl

theorem State.writeReply_sent (s : State) (b : Bytes) : s.SameButSent (s.writeReply b) := by
  have hsame := s.writeReply_same b
  have hpe : (s.writeReply b).pe = { s.pe with rpl := { s.pe.rpl with tail := (s.writeReply b).pe.rpl.tail } } := by
    unfold State.writeReply
    dsimp only
    rw [State.raiseVector_pe, State.writeSlots_pe]
  unfold State.SameButReplies at hsame
  rw [hpe] at hsame
  obtain ⟨i, h, hwritten⟩ : ∃ i h, s.writeReply b = { s with pe := { s.pe with rpl := { s.pe.rpl with tail := i } }, host := h } := ⟨_, _, hsame⟩
  rw [hwritten]
  rfl

theorem State.kettleWrites_sent (h : s.kettleWrites = some t) : s.SameButSent t := by
  unfold State.kettleWrites at h
  split at h
  · cases h
  · split at h
    · cases h
    · split at h
      · cases h
        exact State.SameButSent.trans (t := { s with pe := { s.pe with kettleWait := _ } }) rfl (State.sendReply_frames _ _ _).sent
      · split at h
        · cases h
          rfl
        · cases h

theorem State.drainReplies_sent (n : Nat) (s : State) : s.SameButSent (State.drainReplies n s) := by
  induction n generalizing s with
  | zero => rfl
  | succ n ih =>
    have hnext : s.SameButSent (match s.kettleWrites with | some t => State.drainReplies n t | none => s) := by
      split
      · next t ht => exact (State.kettleWrites_sent ht).trans (ih t)
      · rfl
    unfold State.drainReplies
    dsimp only
    split
    · next r rest _ =>
      split
      · exact State.SameButSent.trans (t := { s with pe := { s.pe with hold := rest } }) rfl ((State.writeReply_sent _ _).trans (ih _))
      · exact hnext
    · exact hnext

theorem State.drain_sent (s : State) : s.SameButSent s.drain := State.drainReplies_sent _ s

theorem State.kettleReply_sent (s : State) (r : Reply) : s.SameButSent (s.kettleReply r) :=
  State.SameButSent.trans (t := { s with pe := { s.pe with kettleWait := s.pe.kettleWait ++ [r] } }) rfl (State.drain_sent _)

theorem State.detect_sent (s : State) (k : Nat) (real : Bool) : s.SameButSent (s.detect k real).2 := by
  unfold State.detect
  split <;> rfl

theorem State.setRplLost_sent (s : State) : s.SameButSent s.setRplLost := by
  rw [s.setRplLost_eq]
  rfl

theorem State.engineReply_sent (s : State) (r : Reply) : s.SameButSent (s.engineReply r) := by
  unfold State.engineReply
  extract_lets d
  have hd : s.SameButSent d.2 := s.detect_sent _ _
  split
  · exact hd.trans (State.SameButSent.trans (t := d.2.count 1) rfl (State.setRplLost_sent _))
  · exact hd.trans (State.SameButSent.trans (t := { d.2 with pe := { d.2.pe with hold := d.2.pe.hold ++ [r] } }) rfl (State.drain_sent _))

/-- A reply, whoever makes it and wherever it goes. -/
theorem State.reply_sent (s : State) (kettle : Bool) (p : Packet) (src : Source) (st : BitVec 16) (params : Bytes) :
    s.SameButSent (s.reply kettle p src st params) := by
  have hboth (r : Reply) : s.SameButSent (if kettle then s.kettleReply r else s.engineReply r) := by
    split
    · exact s.kettleReply_sent r
    · exact s.engineReply_sent r
  unfold State.reply
  extract_lets r
  split
  · split
    · split
      · exact hboth r
      · split
        · exact s.kettleReply_sent _
        · exact (s.sendReply_frames _ _).sent
    · exact hboth r
  · rfl

end Sys2Proof.Machine
end

section
/-! SUPPORT. The registers of the rings and the immediate slot (02 R50-R55, R62, 14 R445). -/
namespace Sys2Proof.Machine
variable {s t : State}

/-! ### Event records -/

theorem State.writeEvent_pe (s : State) (fabric : Bool) (tb : BitVec 64) (code data : Nat) : (s.writeEvent fabric tb code data).pe =
    { s.pe with evt := { s.pe.evt with tail := (s.pe.evt.tail + 1) % s.pe.evt.slots } } := by
  unfold State.writeEvent
  dsimp only
  split
  · rw [State.raiseVector_pe]
    rfl
  · rfl

/-- The record of the lost ones moves EVT_TAIL and forgets how many they were (02 R62). -/
theorem State.eventsLost_pe (s : State) :
    ∃ tail dropped, s.eventsLost.pe = { s.pe with evt := { s.pe.evt with tail := tail }, evtDropped := dropped } := by
  unfold State.eventsLost
  split
  · exact ⟨_, _, State.writeEvent_pe _ _ _ _ _⟩
  · exact ⟨_, _, rfl⟩

theorem State.eventsLost_none (h : s.pe.evtDropped = 0) : s.eventsLost = s := by
  simp [State.eventsLost, h]

/-! ### Indices -/

theorem State.setIdxErr_pe : s.setIdxErr.pe = { s.pe with idxErr := true } := by
  unfold State.setIdxErr
  split
  · next h => rw [← h]
  · rw [State.raiseVector_pe]

theorem State.Awake.exec_cmdTail (ha : s.Awake) (h4 : s.shot 4 = false) (v : Word) : exec (.cmdTail v) s = .next (s.writeCmdTail v.toNat) := by
  change Host.Outcome.next (s.hostWriteReg .bar0 0x0C v.toNat) = _
  rw [s.hostWriteReg_awake _ _ _ ha h4, w32_toNat]
  rfl

theorem State.Awake.exec_rplHead_eq (ha : s.Awake) (h4 : s.shot 4 = false) (v : Word) : exec (.rplHead v) s = .next (s.writeRplHead v.toNat) := by
  change Host.Outcome.next (s.hostWriteReg .bar0 0x30 v.toNat) = _
  rw [s.hostWriteReg_awake _ _ _ ha h4, w32_toNat]
  rfl

theorem State.Awake.exec_evtHead_eq (ha : s.Awake) (h4 : s.shot 4 = false) (v : Word) : exec (.evtHead v) s = .next (s.writeEvtHead v.toNat) := by
  change Host.Outcome.next (s.hostWriteReg .bar0 0x50 v.toNat) = _
  rw [s.hostWriteReg_awake _ _ _ ha h4, w32_toNat]
  rfl

/-- CMD_TAIL moved to a slot (02 R50, R52). -/
def State.withCmdTail (s : State) (i : Nat) : State := { s with pe := { s.pe with cmd := { s.pe.cmd with tail := i } } }

/-- A fetch starts where the ring is enabled, host memory may be read, none is under way and packets wait (02 R54, R478). -/
theorem State.Awake.startFetch_withCmdTail (ha : s.Awake) (i : Nat) :
    ∃ fetch, (s.withCmdTail i).startFetch = { s with pe := { s.pe with cmd := { s.pe.cmd with tail := i }, fetch := fetch } } ∧
      (s.pe.cmd.en = true → s.host.bme = true → s.pe.fetch = none → s.pe.cmd.head ≠ i → fetch = some { next := s.pe.cmd.head, stop := i, buf := [] }) ∧
      (s.pe.cmd.en = false ∨ s.host.bme = false ∨ s.pe.fetch ≠ none ∨ s.pe.cmd.head = i → fetch = s.pe.fetch) := by
  obtain ⟨hrun, hentering⟩ := ha
  have hstart : (s.withCmdTail i).startFetch = if s.pe.cmd.en = true ∧ s.host.bme = true ∧ s.pe.fetch = none ∧ s.pe.cmd.head ≠ i then
      { s.withCmdTail i with pe := { (s.withCmdTail i).pe with fetch := some { next := s.pe.cmd.head, stop := i, buf := [] } } } else s.withCmdTail i := by
    have hawake : (s.withCmdTail i).inRun = true ∧ (s.withCmdTail i).pwr.entering = none := ⟨hrun, hentering⟩
    simp [State.startFetch, hawake, and_assoc]
    rfl
  rw [hstart]
  split
  · next h =>
    obtain ⟨hen, hbme, hnone, hne⟩ := h
    exact ⟨_, rfl, fun _ _ _ _ => rfl, fun h => by simp [hen, hbme, hnone, hne] at h⟩
  · next h => exact ⟨_, rfl, fun hen hbme hnone hne => absurd ⟨hen, hbme, hnone, hne⟩ h, fun _ => rfl⟩

/-- Settles O10: each index register taken or refused. -/
theorem ringIndexWrites : Obligations.RingIndexWrites := by
  intro v s ha h4
  refine ⟨fun hin => ?_, fun hout => ?_, fun hin => ?_, fun hout => ?_, fun hin => ?_, fun hout => ?_⟩
  · obtain ⟨fetch, hfetch, hstarts, hkeeps⟩ := ha.startFetch_withCmdTail (v.toNat % 4096)
    have hwrite : s.writeCmdTail v.toNat = (s.withCmdTail (v.toNat % 4096)).startFetch := if_neg (by omega)
    exact ⟨_, (ha.exec_cmdTail h4 v).trans (congrArg _ (hwrite.trans hfetch)), rfl, hstarts, hkeeps, rfl⟩
  · exact ⟨_, (ha.exec_cmdTail h4 v).trans (congrArg _ (if_pos hout)), State.setIdxErr_pe⟩
  · have hsent := (s.withRplHead (v.toNat % 4096)).drain_sent
    have hpe := congrArg State.pe hsent
    refine ⟨_, ha.exec_rplHead h4 hin, ?_, ?_, ?_, fun hown => ?_, fun hhold hwait => ?_⟩
    · rw [hpe]
      rfl
    · rw [hpe]
      rfl
    · rw [hpe]
      rfl
    · exact State.SameButReplies.trans (t := s.withRplHead (v.toNat % 4096)) rfl (State.drain_same _ hown)
    · exact State.drainReplies_idle (s := s.withRplHead (v.toNat % 4096)) hhold hwait _
  · exact ⟨_, (ha.exec_rplHead_eq h4 v).trans (congrArg _ (if_pos hout)), State.setIdxErr_pe⟩
  · obtain ⟨tail, dropped, hpe⟩ := (s.withEvtHead (v.toNat % 4096)).eventsLost_pe
    refine ⟨_, ha.exec_evtHead h4 hin, ?_, ?_, fun hnone => ?_⟩
    · rw [hpe]
      rfl
    · exact State.SameButReplies.trans (t := s.withEvtHead (v.toNat % 4096)) rfl (State.eventsLost_same _)
    · exact State.eventsLost_none hnone
  · exact ⟨_, (ha.exec_evtHead_eq h4 v).trans (congrArg _ (if_pos hout)), State.setIdxErr_pe⟩

/-! ### RING_CTL -/

theorem Ring.enable_self (r : Ring) : r.enable r.en = r := by
  unfold Ring.enable
  split
  · next h => simp at h
  · rfl

theorem Ring.enable_en (r : Ring) (on : Bool) : (r.enable on).en = on := by
  unfold Ring.enable
  split
  · next h => simp_all
  · rfl

/-- A rise sets both indices to 0 (02 R52). -/
theorem Ring.enable_rise {r : Ring} (h : r.en = false) : (r.enable true).head = 0 ∧ (r.enable true).tail = 0 := by
  simp [Ring.enable, h]

theorem Ring.enable_off (r : Ring) : (r.enable false).head = r.head := by
  simp [Ring.enable]

/-- The enables put into RING_CTL (02 R52, R53). -/
def State.enabled (s : State) (v : Nat) : State := { s with pe := { s.pe with
  cmd := s.pe.cmd.enable (bit v 0), rpl := s.pe.rpl.enable (bit v 1), evt := s.pe.evt.enable (bit v 2)
  fetch := if s.pe.cmd.en = bit v 0 then s.pe.fetch else none } }

theorem State.writeRingCtl_eq (s : State) (v : Nat) : s.writeRingCtl v = ((if bit v 8 then s.ringReset else s).enabled v).drain.eventsLost := rfl

/-- What a write of RING_CTL leaves of the enables, the queue, the fetch and the indices, once held replies and lost events are written. -/
theorem State.enabled_drain (s : State) (v : Nat) : ∃ tail hold wait lost etail dropped,
    (s.enabled v).drain.eventsLost.pe = { (s.enabled v).pe with
      rpl := { (s.enabled v).pe.rpl with tail := tail }, hold := hold, kettleWait := wait, rplLost := lost
      evt := { (s.enabled v).pe.evt with tail := etail }, evtDropped := dropped } := by
  obtain ⟨etail, dropped, hpe⟩ := (s.enabled v).drain.eventsLost_pe
  have hdrain := congrArg State.pe (s.enabled v).drain_sent
  rw [hdrain] at hpe
  exact ⟨_, _, _, _, _, _, hpe⟩

theorem State.enabled_same (s : State) (v : Nat) (own : ∀ r, r ∈ s.pe.kettleWait → r.relayTo = none) : s.SameButReplies (s.enabled v).drain.eventsLost :=
  State.SameButReplies.trans (t := s.enabled v) rfl ((State.drain_same (s.enabled v) own).trans (State.eventsLost_same _))

theorem State.Awake.exec_ringCtl (ha : s.Awake) (h4 : s.shot 4 = false) {v : Nat} (hv : v < 2 ^ 32) : s.hostWriteReg .bar0 0x60 v = s.writeRingCtl v := by
  have hword : (w32 v).toNat = v := Nat.mod_eq_of_lt hv
  rw [s.hostWriteReg_awake _ _ _ ha h4]
  change s.writeRingCtl (w32 v).toNat = _
  rw [hword]

/-- RING_CTL with one enable written, the other two as they are. -/
theorem PacketEngine.ctlWith_bits (p : PacketEngine) (on : Bool) :
    (∀ k, k < 3 → p.ctlWith k on < 8 ∧ bit (p.ctlWith k on) 8 = false ∧ bit (p.ctlWith k on) 0 = (if k = 0 then on else p.cmd.en) ∧
      bit (p.ctlWith k on) 1 = (if k = 1 then on else p.rpl.en) ∧ bit (p.ctlWith k on) 2 = (if k = 2 then on else p.evt.en)) := by
  unfold PacketEngine.ctlWith PacketEngine.ctl
  generalize p.cmd.en = c
  generalize p.rpl.en = r
  generalize p.evt.en = e
  revert c r e on
  decide

/-- The enables put back as they are leave a disabled or enabled ring alone. -/
theorem State.Awake.exec_enable (ha : s.Awake) (h4 : s.shot 4 = false) {k : Nat} (hk : k < 3) (on : Bool) :
    Host.Outcome.next (s.hostWriteReg .bar0 0x60 (s.pe.ctlWith k on)) =
      (.next (s.enabled (s.pe.ctlWith k on)).drain.eventsLost : Host.Outcome State Fault Refusal) := by
  obtain ⟨hlt, hreset, -⟩ := s.pe.ctlWith_bits on k hk
  rw [ha.exec_ringCtl h4 (by omega), State.writeRingCtl_eq, hreset]
  rfl

/-- RING_RESET with the enables beside it. -/
theorem State.Awake.exec_ringCtlReset (ha : s.Awake) (h4 : s.shot 4 = false) (e : BitVec 3) :
    exec (.ringCtlReset e) s = .next (s.ringReset.enabled (256 + e.toNat)).drain.eventsLost := by
  have hlt := e.isLt
  have hreset : bit (256 + e.toNat) 8 = true := by simp only [bit, decide_eq_true_eq]; omega
  change Host.Outcome.next (s.hostWriteReg .bar0 0x60 (256 + e.toNat)) = _
  rw [ha.exec_ringCtl h4 (by omega), State.writeRingCtl_eq, hreset]
  rfl

theorem bit_reset_enables (e : BitVec 3) {k : Nat} (hk : k < 3) : bit (256 + e.toNat) k = e.getLsbD k := by
  revert e k
  decide

/-- Settles O11: the enables, then a drain and the record of lost events, which leave them. -/
theorem ringEnables : Obligations.RingEnables := by
  intro s ha h4 own
  refine ⟨fun e => ?_, fun on => ?_, fun on => ?_, fun on => ?_⟩
  · obtain ⟨tail, hold, wait, lost, etail, dropped, hpe⟩ := s.ringReset.enabled_drain (256 + e.toNat)
    have hcmd := bit_reset_enables e (k := 0) (by decide)
    have hrpl := bit_reset_enables e (k := 1) (by decide)
    have hevt := bit_reset_enables e (k := 2) (by decide)
    refine ⟨_, ha.exec_ringCtlReset h4 e, ?_, ?_, fun hown => ?_, ?_, ?_, ?_, fun hon => ?_, fun hoff => ?_, fun hon => ?_, fun hon => ?_, fun hwait => ?_⟩
    · rw [hpe]
      rfl
    · rw [hpe]
      exact ite_self none
    · exact State.SameButReplies.trans (t := s.ringReset) rfl (s.ringReset.enabled_same _ hown)
    · rw [hpe, ← hcmd]
      exact Ring.enable_en _ _
    · rw [hpe, ← hrpl]
      exact Ring.enable_en _ _
    · rw [hpe, ← hevt]
      exact Ring.enable_en _ _
    · rw [hpe]
      simp only [State.enabled, hcmd, hon]
      exact Ring.enable_rise rfl
    · rw [hpe]
      simp only [State.enabled, hcmd, hoff]
      exact Ring.enable_off _
    · rw [hpe]
      simp only [State.enabled, hrpl, hon]
      exact (Ring.enable_rise rfl).1
    · rw [hpe]
      simp only [State.enabled, hevt, hon]
      exact (Ring.enable_rise rfl).1
    · have hidle : (s.ringReset.enabled (256 + e.toNat)).drain = s.ringReset.enabled (256 + e.toNat) := State.drainReplies_idle (s := s.ringReset.enabled (256 + e.toNat)) rfl hwait _
      obtain ⟨etail, dropped, hlost⟩ := (s.ringReset.enabled (256 + e.toNat)).eventsLost_pe
      rw [hidle, hlost]
      refine ⟨rfl, fun hon => ?_⟩
      simp only [State.enabled, hrpl, hon]
      exact (Ring.enable_rise rfl).2
  · obtain ⟨-, -, hcmd, -, -⟩ := s.pe.ctlWith_bits on 0 (by decide)
    obtain ⟨tail, hold, wait, lost, etail, dropped, hpe⟩ := s.enabled_drain (s.pe.ctlWith 0 on)
    rw [if_pos rfl] at hcmd
    refine ⟨_, ha.exec_enable h4 (by decide) on, ?_, fun hoff hon => ?_, fun hsame => ?_, ?_, fun hown => s.enabled_same _ hown⟩
    · rw [hpe]
      simp only [State.enabled, hcmd]
      exact Ring.enable_en _ _
    · rw [hpe]
      simp only [State.enabled, hcmd]
      rw [hon]
      exact Ring.enable_rise hoff
    · rw [hpe]
      simp only [State.enabled, hcmd]
      exact ⟨by rw [← hsame, Ring.enable_self], if_pos hsame⟩
    · rw [hpe]
      rfl
  · obtain ⟨-, -, hcmd, hrpl, -⟩ := s.pe.ctlWith_bits on 1 (by decide)
    obtain ⟨tail, hold, wait, lost, etail, dropped, hpe⟩ := s.enabled_drain (s.pe.ctlWith 1 on)
    rw [if_pos rfl] at hrpl
    rw [if_neg (by decide)] at hcmd
    refine ⟨_, ha.exec_enable h4 (by decide) on, ?_, fun hoff hon => ?_, fun hhold hwait hoff hon => ?_, ?_, ?_, fun hown => s.enabled_same _ hown⟩
    · rw [hpe]
      simp only [State.enabled, hrpl]
      exact Ring.enable_en _ _
    · rw [hpe]
      simp only [State.enabled, hrpl]
      rw [hon]
      exact (Ring.enable_rise hoff).1
    · have hidle : (s.enabled (s.pe.ctlWith 1 on)).drain = s.enabled (s.pe.ctlWith 1 on) :=
        State.drainReplies_idle (s := s.enabled (s.pe.ctlWith 1 on)) hhold hwait _
      obtain ⟨etail, dropped, hlost⟩ := (s.enabled (s.pe.ctlWith 1 on)).eventsLost_pe
      rw [hidle, hlost]
      simp only [State.enabled, hrpl]
      rw [hon]
      exact (Ring.enable_rise hoff).2
    · rw [hpe]
      simp only [State.enabled, hcmd, Ring.enable_self]
    · rw [hpe]
      rfl
  · obtain ⟨-, -, hcmd, -, hevt⟩ := s.pe.ctlWith_bits on 2 (by decide)
    obtain ⟨tail, hold, wait, lost, etail, dropped, hpe⟩ := s.enabled_drain (s.pe.ctlWith 2 on)
    rw [if_pos rfl] at hevt
    rw [if_neg (by decide)] at hcmd
    refine ⟨_, ha.exec_enable h4 (by decide) on, ?_, fun hoff hon => ?_, fun hnone hoff hon => ?_, ?_, ?_, fun hown => s.enabled_same _ hown⟩
    · rw [hpe]
      simp only [State.enabled, hevt]
      exact Ring.enable_en _ _
    · rw [hpe]
      simp only [State.enabled, hevt]
      rw [hon]
      exact (Ring.enable_rise hoff).1
    · have hdrain := congrArg State.pe (s.enabled (s.pe.ctlWith 2 on)).drain_sent
      have hkept : (s.enabled (s.pe.ctlWith 2 on)).drain.pe.evtDropped = 0 := by
        rw [hdrain]
        exact hnone
      rw [State.eventsLost_none hkept, hdrain]
      simp only [State.enabled, hevt]
      rw [hon]
      exact (Ring.enable_rise hoff).2
    · rw [hpe]
      simp only [State.enabled, hcmd, Ring.enable_self]
    · rw [hpe]
      rfl

/-! ### The immediate slot -/

theorem State.Awake.exec_immDoorbell (ha : s.Awake) (h4 : s.shot 4 = false) (v : Word) : exec (.immDoorbell v) s = .next (s.writeImmDoorbell v.toNat) := by
  change Host.Outcome.next (s.hostWriteReg .bar0 0x140 v.toNat) = _
  rw [s.hostWriteReg_awake _ _ _ ha h4, w32_toNat]
  rfl

/-- The mirror's port taken, and its pulse on the way (14 R440). -/
def State.portPulsed (s : State) : State := ({ s with mirror := { s.mirror with out := none } } : State).raise 0x64

theorem State.Awake.mirrorAccepts (ha : s.Awake) (h5 : s.shot 5 = false) (act : State → State) : s.mirrorAccepts act = act s.portPulsed := by
  have hsupply : s.pwr.supply = true := by
    obtain ⟨hrun, -⟩ := ha
    simp_all [State.inRun]
  simp only [State.mirrorAccepts, hsupply, h5]
  rfl

theorem State.Awake.portPulsed (ha : s.Awake) : s.portPulsed.Awake := by
  have hpwr : s.portPulsed.pwr = s.pwr := State.raise_pwr _ _
  obtain ⟨hrun, hentering⟩ := ha
  exact ⟨by rw [← hrun, State.inRun, State.inRun, hpwr], by rw [hpwr]; exact hentering⟩

/-- A device that runs needs no waking, and holds no request back (13 R404). -/
theorem State.Awake.wakeBy (ha : s.Awake) (k : Nat) : s.wakeBy k = s := by
  obtain ⟨hrun, hentering⟩ := ha
  have hstate : s.pwr.state = .run := by simp_all [State.inRun]
  simp only [State.wakeBy, hstate, hentering, Option.isSome_none, Bool.false_eq_true, if_false, ite_self]

theorem State.Awake.holdsRequests (ha : s.Awake) : s.holdsRequests = false := by
  obtain ⟨hrun, hentering⟩ := ha
  simp_all [State.inRun, State.holdsRequests]

/-- The mirror's IMM_GO in RUN (14 R445). -/
theorem State.Awake.exec_immGo (ha : s.Awake) (h5 : s.shot 5 = false) (v : BitVec 16) :
    exec (.immGo v) s = .next (if v.getLsbD 0 then s.portPulsed.writeImmGo else s.portPulsed) := by
  obtain ⟨hrun, -⟩ := id ha.portPulsed
  change Host.Outcome.next (s.mirrorAccepts _) = _
  rw [ha.mirrorAccepts h5]
  simp only [ha.portPulsed.wakeBy, ha.portPulsed.holdsRequests, hrun]
  cases v.getLsbD 0 <;> rfl

/-- The bytes of the immediate slot (02 R52). -/
def PacketEngine.slotBytes (p : PacketEngine) : Bytes := p.immSlot.toList.flatMap (fun (w : Word) => toLe 4 w.toNat)

section
variable (hfree : s.pe.immBusy = false)
include hfree

theorem State.writeImmGo_good (hlen : (packetOf s.pe.slotBytes).length ≤ 48) (hcrc : crcOk s.pe.slotBytes = true) :
    s.writeImmGo = s.handlePacket (packetOf s.pe.slotBytes) .imm := by
  unfold State.writeImmGo
  rw [hfree]
  exact (if_neg (Nat.not_lt.mpr hlen)).trans (if_pos hcrc)

theorem State.writeImmGo_badCrc (hlen : (packetOf s.pe.slotBytes).length ≤ 48) (hcrc : crcOk s.pe.slotBytes = false) :
    s.writeImmGo = s.reply false { packetOf s.pe.slotBytes with flags := (packetOf s.pe.slotBytes).flags ||| 1 } .imm stCHECK_FAIL [0xFF, 0xFF, 0, 0] := by
  unfold State.writeImmGo
  rw [hfree]
  exact (if_neg (Nat.not_lt.mpr hlen)).trans (if_neg (Bool.eq_false_iff.mp hcrc))

theorem State.writeImmGo_long (hlen : 48 < (packetOf s.pe.slotBytes).length) :
    s.writeImmGo = s.reply false (packetOf s.pe.slotBytes) .imm stBAD_LENGTH [] := by
  unfold State.writeImmGo
  rw [hfree]
  exact if_pos hlen

end

theorem State.writeImmGo_busy (hbusy : s.pe.immBusy = true) : s.writeImmGo = s.setImmLost := by
  rw [State.writeImmGo, if_pos hbusy]

/-- IMM_DOORBELL with bit 0 set (02 R52). -/
theorem State.writeImmDoorbell_go {v : Word} (hgo : v.getLsbD 0 = true) : s.writeImmDoorbell v.toNat = s.writeImmGo := by
  rw [State.writeImmDoorbell, bit_toNat, if_pos hgo]

theorem State.writeImmDoorbell_busy (hbusy : s.pe.immBusy = true) (v : Nat) : s.writeImmDoorbell v = s.setImmLost := by
  rw [State.writeImmDoorbell, State.writeImmGo_busy hbusy, if_pos hbusy, ite_self]

theorem State.setImmLost_lost (s : State) : s.SameButReplies s.setImmLost ∧ s.setImmLost.pe = { s.pe with immLost := true } := by
  rw [s.setImmLost_eq]
  exact ⟨rfl, rfl⟩

/-- Settles O12: IMM_GO by the slot's state and by its packet, from the doorbell and from the mirror. -/
theorem immediateSlot : Obligations.ImmediateSlot := by
  intro s ha h4 h5 b p bad m
  have hmpe : m.pe = s.pe := State.raise_pe _ _
  have hdoor (v : Word) (hgo : v.getLsbD 0 = true) {t : State} (ht : s.writeImmGo = t) : exec (.immDoorbell v) s = .next t :=
    (ha.exec_immDoorbell h4 v).trans (congrArg _ ((State.writeImmDoorbell_go hgo).trans ht))
  have hport (v : BitVec 16) (hgo : v.getLsbD 0 = true) {t : State} (ht : m.writeImmGo = t) : exec (.immGo v) s = .next t :=
    (ha.exec_immGo h5 v).trans (congrArg _ ((if_pos hgo).trans ht))
  refine ⟨fun hbusy => ⟨fun v => ?_, fun v hgo => ?_⟩, fun hfree => ?_, fun v hno => ?_⟩
  · obtain ⟨hsame, hpe⟩ := s.setImmLost_lost
    exact ⟨_, (ha.exec_immDoorbell h4 v).trans (congrArg _ (State.writeImmDoorbell_busy hbusy _)), hsame, hpe⟩
  · obtain ⟨hsame, hpe⟩ := m.setImmLost_lost
    exact ⟨_, hport v hgo (State.writeImmGo_busy (hmpe ▸ hbusy)), hsame, hmpe ▸ hpe⟩
  · have hmfree : m.pe.immBusy = false := by rw [hmpe]; exact hfree
    have hslot : m.pe.slotBytes = b := by rw [hmpe]; rfl
    have hgood := State.writeImmGo_good hmfree
    have hbad := State.writeImmGo_badCrc hmfree
    have hlong := State.writeImmGo_long hmfree
    rw [hslot] at hgood hbad hlong
    exact ⟨fun v hgo hlen hcrc => hdoor v hgo (State.writeImmGo_good hfree hlen hcrc), fun v hgo hlen hcrc => hdoor v hgo (State.writeImmGo_badCrc hfree hlen hcrc),
      fun v hgo hlen => hdoor v hgo (State.writeImmGo_long hfree hlen),
      fun v hno => (ha.exec_immDoorbell h4 v).trans (congrArg _ (by rw [State.writeImmDoorbell, bit_toNat, hno, hfree]; rfl)),
      fun v hgo hlen hcrc => hport v hgo (hgood hlen hcrc), fun v hgo hlen hcrc => hport v hgo (hbad hlen hcrc), fun v hgo hlen => hport v hgo (hlong hlen)⟩
  · exact (ha.exec_immGo h5 v).trans (congrArg _ (if_neg (Bool.eq_false_iff.mp hno)))

end Sys2Proof.Machine
end

section
/-! SUPPORT. Kettle takes, stalls and recovers (02 R63, R79, R81, R82). -/
namespace Sys2Proof.Machine
variable {s t u : State}

/-! ### What an event leaves of the packet engine -/

/-- The packet engine but for EVT_TAIL, the records dropped and EVT_LOST. -/
def State.SameEngineButEvents (s t : State) : Prop :=
  ∃ tail dropped lost, t.pe = { s.pe with evt := { s.pe.evt with tail := tail }, evtDropped := dropped, evtLost := lost }

theorem State.SameEngineButEvents.trans (h : s.SameEngineButEvents t) (g : t.SameEngineButEvents u) : s.SameEngineButEvents u := by
  obtain ⟨tail, dropped, lost, ht⟩ := h
  obtain ⟨tail', dropped', lost', hu⟩ := g
  rw [ht] at hu
  exact ⟨_, _, _, hu⟩

theorem State.detect_pe (s : State) (k : Nat) (real : Bool) : (s.detect k real).2.pe = s.pe := by
  unfold State.detect
  split <;> rfl

theorem State.event_engine (s : State) (fabric : Bool) (tb : BitVec 64) (code data : Nat) : s.SameEngineButEvents (s.event fabric tb code data) := by
  unfold State.event
  extract_lets told d
  have htold : s.SameEngineButEvents told := by
    obtain ⟨tail, dropped, hpe⟩ := s.eventsLost_pe
    exact ⟨_, _, _, hpe⟩
  have hd : told.SameEngineButEvents d.2 := ⟨told.pe.evt.tail, told.pe.evtDropped, told.pe.evtLost, State.detect_pe _ _ _⟩
  split
  · have hdrop := congrArg State.pe d.2.dropEvent_eq
    exact (htold.trans hd).trans ⟨_, _, _, hdrop⟩
  · exact (htold.trans hd).trans ⟨_, _, _, State.writeEvent_pe _ _ _ _ _⟩

/-! ### Recovery -/

/-- Nothing differs but OTP's registers and the counters. -/
def State.SameButOtp (s t : State) : Prop := t = { s with otp := t.otp, tc := t.tc }

theorem State.SameButOtp.refl (s : State) : s.SameButOtp s := rfl

theorem State.SameButOtp.trans (h : s.SameButOtp t) (g : t.SameButOtp u) : s.SameButOtp u := by
  unfold State.SameButOtp at *
  rw [g, h]

theorem State.otpInspect_otp (s : State) (a : Nat) : s.SameButOtp (s.otpInspect a) := by
  unfold State.otpInspect
  extract_lets counted
  have hcounted : s.SameButOtp counted := by
    simp only [counted]
    split <;> rfl
  split
  · refine hcounted.trans ?_
    unfold State.findWeak
    split <;> rfl
  · exact hcounted

theorem State.otpBegin_otp (s : State) : s.SameButOtp s.otpBegin := by
  unfold State.otpBegin
  split
  · rfl
  split
  · rfl
  split
  · rfl
  · extract_lets g read
    have hread : s.SameButOtp read := foldl_rel State.SameButOtp.refl State.SameButOtp.trans (fun s a => s.otpInspect_otp a) _ s
    clear_value read
    split
    · exact hread.trans rfl
    · exact hread.trans rfl

theorem State.kettleRecovers_eq (h : s.pe.stalled = true) : s.kettleRecovers.pe.stalled = false ∧ s.kettleRecovers.pe.takeFrom = s.clock ∧
    s.kettleRecovers.jobs = s.jobs ∧ s.kettleRecovers.chans = s.chans := by
  unfold State.kettleRecovers
  rw [if_pos h]
  extract_lets us
  have hfrom (u : State) (hstalled : u.pe.stalled = false) (hfrom : u.pe.takeFrom = s.clock) (hjobs : u.jobs = s.jobs) (hchans : u.chans = s.chans) :
      (u.deviceEvent 2 us).otpBegin.drain.pe.stalled = false ∧ (u.deviceEvent 2 us).otpBegin.drain.pe.takeFrom = s.clock ∧
      (u.deviceEvent 2 us).otpBegin.drain.jobs = s.jobs ∧ (u.deviceEvent 2 us).otpBegin.drain.chans = s.chans := by
    obtain ⟨tail, dropped, lost, hpe⟩ := u.event_engine false u.timebase 2 us
    rw [State.drain_sent, State.otpBegin_otp]
    change (u.deviceEvent 2 us).pe.stalled = false ∧ (u.deviceEvent 2 us).pe.takeFrom = s.clock ∧ (u.deviceEvent 2 us).jobs = _ ∧ (u.deviceEvent 2 us).chans = _
    rw [State.deviceEvent_jobs, State.deviceEvent_chans, State.deviceEvent, hpe]
    exact ⟨hstalled, hfrom, hjobs, hchans⟩
  exact hfrom _ rfl rfl rfl rfl

/-! ### The stall -/

/-- Packets answered BUSY. -/
def State.answerBusy (s : State) (l : List QPacket) : State := l.foldl (fun s (x : QPacket) => s.reply false x.pkt x.src stBUSY []) s

theorem State.answerBusy_sent (s : State) (l : List QPacket) : s.SameButSent (s.answerBusy l) :=
  foldl_rel State.SameButSent.refl State.SameButSent.trans (fun s (x : QPacket) => s.reply_sent false x.pkt x.src stBUSY []) l s

/-- The BUSY that answers a packet. -/
def busyReply (x : QPacket) : Reply := { opcode := x.pkt.opcode, tag := x.pkt.tag, status := stBUSY, params := [] }

theorem State.reply_busy {x : QPacket} (h : x.src = .ring) : s.reply false x.pkt x.src stBUSY [] = s.engineReply (busyReply x) := by
  have hok : stBUSY ≠ stOK := by decide
  have hdeferred : stBUSY ≠ stDEFERRED := by decide
  have hpending : stBUSY ≠ stPENDING := by decide
  simp [State.reply, h, busyReply, hok, hdeferred, hpending]

/-- Into a disabled ring the answers are held, while the hold buffer has room (02 R58). -/
theorem State.answerBusy_held (hfull : s.RplFull) (hshot : s.shot 1 = false) (hwait : s.pe.kettleWait = []) (l : List QPacket)
    (hroom : s.pe.hold.length + l.length ≤ 32) (hring : ∀ x, x ∈ l → x.src = .ring) : s.answerBusy l = s.holds (s.pe.hold ++ l.map busyReply) [] := by
  induction l generalizing s with
  | nil =>
    have hself := s.holds_self
    rw [hwait] at hself
    simpa [State.answerBusy] using hself.symm
  | cons x l ih =>
    have hfirst : s.reply false x.pkt x.src stBUSY [] = s.holds (s.pe.hold ++ [busyReply x]) [] :=
      (State.reply_busy (hring x List.mem_cons_self)).trans
        (State.engineReply_held hfull hshot hwait (by rw [List.length_cons] at hroom; omega) _)
    have hrest := ih (s := s.holds (s.pe.hold ++ [busyReply x]) []) (hfull.holds _ _) hshot rfl
      (by simp only [State.holds, List.length_append, List.length_cons, List.length_nil] at hroom ⊢; omega)
      (fun y hy => hring y (List.mem_cons_of_mem _ hy))
    have hlists : s.pe.hold ++ (x :: l).map busyReply = s.pe.hold ++ [busyReply x] ++ l.map busyReply := by simp
    rw [State.answerBusy, List.foldl_cons, hfirst, ← State.answerBusy, hrest, hlists]
    rfl

/-- Kettle's queue emptied, and the tile data that waited for its packets. -/
def State.queueEmptied (s : State) : State := { s with pe := { s.pe with queue := [] }, link := { s.link with heldData := [] } }

/-- The stall declared now (02 R79). -/
def State.nowStalled (s : State) : State := { s with pe := { s.pe with stalled := true, stallSince := s.clock } }

theorem State.recorded_nowStalled_mem (s : State) (held : List Reply) (b : Bytes) (v : Option Nat) :
    ((s.holds held []).queueEmptied.recorded b v).nowStalled.host.mem = mwrite s.host.mem (s.pe.evt.addr s.pe.evt.tail) b := rfl

/-- After 5 ms without a take Kettle is stalled (02 R79, R81). -/
theorem execKettleStall_eq {q : QPacket} {r : List QPacket} (hrun : s.inRun = true) (hstalled : s.pe.stalled = false) (hqueue : s.pe.queue = q :: r)
    (hwait : s.mustWait q = false) (hlate : s.pe.takeFrom + 5 * 400000 ≤ s.clock) :
    exec .kettleStall s = .next ((s.answerBusy s.pe.queue).queueEmptied.deviceEvent 1 s.pe.queue.length).nowStalled := by
  change execKettleStall s = _
  unfold execKettleStall
  rw [hqueue]
  dsimp only
  have hdue : ¬ (s.clock < s.pe.takeFrom + 5 * tickMs) := by
    unfold tickMs
    omega
  rw [if_neg (by simp [hrun, hstalled, hwait, hdue])]
  rfl

theorem execKettleStall_early {q : QPacket} {r : List QPacket} (hqueue : s.pe.queue = q :: r) (h : s.clock < s.pe.takeFrom + 5 * 400000) :
    exec .kettleStall s = .next s := by
  change execKettleStall s = _
  unfold execKettleStall
  rw [hqueue]
  dsimp only
  have hearly : s.clock < s.pe.takeFrom + 5 * tickMs := h
  rw [if_pos (by simp [hearly])]

theorem State.kettleTake_waits {q : QPacket} {r : List QPacket} (hqueue : s.pe.queue = q :: r) (hwait : s.mustWait q = true) : s.kettleTake = s := by
  simp [State.kettleTake, hqueue, hwait]

theorem State.kettleTake_takes {q : QPacket} {r : List QPacket} (hfree : s.kettleFree = true) (hqueue : s.pe.queue = q :: r) (hwait : s.mustWait q = false) :
    s.kettleTake = ({ s with pe := { s.pe with queue := r, takeFrom := s.clock } }).runKettle q.pkt q.src q.seq := by
  simp [State.kettleTake, hqueue, hwait, hfree]

theorem State.vectorOpen_congr {m : List Host.Cell} (h : t.host = { s.host with mem := m }) (v : Nat) : t.vectorOpen v = s.vectorOpen v := by
  simp only [State.vectorOpen, State.msixEntry, h]

theorem State.shot_congr (h : t.inj = s.inj) (k : Nat) : t.shot k = s.shot k := by
  rw [State.shot, State.shot, h]

/-- The vector of a record that has been stored waits where no message of it can be sent. -/
theorem State.raiseVector_recorded {v : Nat} (hclosed : s.vectorOpen v = false) (b : Bytes) :
    ({ s.hostWrite (s.pe.evt.addr s.pe.evt.tail) b with
      pe := { s.pe with evt := { s.pe.evt with tail := (s.pe.evt.tail + 1) % s.pe.evt.slots } } } : State).raiseVector v = s.recorded b (some v) :=
  State.raiseVector_closed ((State.vectorOpen_congr rfl v).trans hclosed)

theorem State.writeEvent_recorded {code v : Nat} (hvector : eventVector false code = some v) (hclosed : s.vectorOpen v = false) (tb : BitVec 64) (data : Nat) :
    s.writeEvent false tb code data = s.recorded (s.eventBytes 0xE100 tb code data) (some v) := by
  unfold State.writeEvent
  extract_lets r stored engine advanced
  rw [hvector]
  exact State.raiseVector_recorded hclosed _

/-- A device event finds a disabled ring (02 R62). -/
theorem State.deviceEvent_dropped (hoff : s.pe.evt.en = false) (hshot : s.shot 2 = false) (code data : Nat) : s.deviceEvent code data = s.dropEvent :=
  State.event_dropped (State.eventFits_eq_false (.inl hoff)) hshot _ _ _ _

/-- With a free slot a device event is a record more; only its own vector has to wait. -/
theorem State.deviceEvent_recorded (hen : s.pe.evt.en = true) (hbme : s.host.bme = true) (hfree : 0 < s.pe.evt.free) (hdropped : s.pe.evtDropped = 0)
    (hshot : s.shot 2 = false) {code v : Nat} (hvector : eventVector false code = some v) (hclosed : s.vectorOpen v = false) (data : Nat) :
    s.deviceEvent code data = s.recorded (s.eventBytes 0xE100 s.timebase code data) (some v) := by
  have hfits : s.eventFits = true := by simp [State.eventFits, hen, hbme, hfree]
  rw [State.deviceEvent, State.event, State.eventsLost_none hdropped, s.detect_eq 2 _ hshot, hfits]
  exact State.writeEvent_recorded hvector hclosed _ _

/-- Settles O14: the branches of the take, the stall's answers and event, the recovery. -/
theorem kettleTakesStallsRecovers : Obligations.KettleTakesStallsRecovers := by
  intro s
  refine ⟨fun q r hfree hqueue hwait => congrArg _ (State.kettleTake_takes hfree hqueue hwait),
    fun q r hqueue hwait => congrArg _ (State.kettleTake_waits hqueue hwait), fun q r hrun hstalled hqueue hwait hlate => ?_,
    fun q r hqueue hearly => execKettleStall_early hqueue hearly, fun hrun hrebooting hrom hstalled => ?_, fun k hrun => if_pos hrun⟩
  · refine ⟨_, execKettleStall_eq hrun hstalled hqueue hwait hlate, ?_⟩
    have hanswered := s.answerBusy_sent s.pe.queue
    have hevent := (s.answerBusy s.pe.queue).queueEmptied.event_same false (s.answerBusy s.pe.queue).queueEmptied.timebase 1 s.pe.queue.length
    obtain ⟨tail, dropped, lost, hpe⟩ :=
      (s.answerBusy s.pe.queue).queueEmptied.event_engine false (s.answerBusy s.pe.queue).queueEmptied.timebase 1 s.pe.queue.length
    rw [← State.deviceEvent] at hevent hpe
    refine ⟨?_, rfl, ?_, ?_, ?_, ?_, ?_, fun hshot1 hshot2 hkwait hhold hen hdropped hlen hring => ?_⟩
    · change ((s.answerBusy s.pe.queue).queueEmptied.deviceEvent 1 s.pe.queue.length).pe.queue = []
      rw [hpe]
      rfl
    · change ((s.answerBusy s.pe.queue).queueEmptied.deviceEvent 1 s.pe.queue.length).clock = s.clock
      rw [hevent, hanswered]
      rfl
    · change ((s.answerBusy s.pe.queue).queueEmptied.deviceEvent 1 s.pe.queue.length).pe.ops = s.pe.ops
      rw [hpe, hanswered]
      rfl
    · change ((s.answerBusy s.pe.queue).queueEmptied.deviceEvent 1 s.pe.queue.length).jobs = s.jobs
      rw [hevent, hanswered]
      rfl
    · change ((s.answerBusy s.pe.queue).queueEmptied.deviceEvent 1 s.pe.queue.length).chans = s.chans
      rw [hevent, hanswered]
      rfl
    · change ((s.answerBusy s.pe.queue).queueEmptied.deviceEvent 1 s.pe.queue.length).axes = s.axes
      rw [hevent, hanswered]
      rfl
    · have hheld : s.answerBusy s.pe.queue = s.holds (s.pe.queue.map busyReply) [] := by
        rw [State.answerBusy_held (.inl hen) hshot1 hkwait _ (by rw [hhold]; simpa using hlen) hring, hhold, List.nil_append]
      refine ⟨?_, fun hoff => ?_, fun hon hbme hfree htail hmem hclosed => ?_⟩
      · change ((s.answerBusy s.pe.queue).queueEmptied.deviceEvent 1 s.pe.queue.length).pe.hold = s.pe.queue.map busyReply
        rw [hpe, hheld]
        rfl
      · have hdrop := State.deviceEvent_dropped (s := (s.holds (s.pe.queue.map busyReply) []).queueEmptied) hoff ((State.shot_congr rfl 2).trans hshot2) 1
          s.pe.queue.length
        rw [hheld, hdrop, State.dropEvent_eq]
        exact ⟨congrArg (· + 1) hdropped, rfl, rfl⟩
      · have hwritten := State.deviceEvent_recorded (s := (s.holds (s.pe.queue.map busyReply) []).queueEmptied) hon hbme hfree hdropped
          ((State.shot_congr rfl 2).trans hshot2) (code := 1) (v := 1) rfl ((State.vectorOpen_congr rfl 1).trans hclosed) s.pe.queue.length
        have haddr : s.pe.evt.addr s.pe.evt.tail = s.pe.evt.base.toNat + 64 * s.pe.evt.tail := by rw [Ring.addr, Nat.mod_eq_of_lt htail]
        rw [hheld, hwritten]
        refine ⟨rfl, rfl, (getLsbD_setBit _ 1 1 true (by decide)).trans (if_pos rfl), fun i hi => ?_⟩
        have hbytes : (s.holds (s.pe.queue.map busyReply) []).queueEmptied.eventBytes 0xE100 s.timebase 1 s.pe.queue.length =
            ({ s with pe := { s.pe with queue := [] } } : State).eventBytes 0xE100 s.timebase 1 s.pe.queue.length := by
          rw [State.eventBytes, State.eventBytes]
          rfl
        rw [← haddr, ← hbytes]
        rw [State.recorded_nowStalled_mem]
        exact mget_mwrite s.host.mem (s.pe.evt.addr s.pe.evt.tail) _ i hmem (by rw [State.eventBytes_length]; exact hi)
  · obtain ⟨hnot, hfrom, hjobs, hchans⟩ := State.kettleRecovers_eq hstalled
    exact ⟨_, if_pos (by simp [hrun, hrebooting, hrom]), hnot, hfrom, hjobs, hchans⟩

end Sys2Proof.Machine
end

section
/-! SUPPORT. HEAD_CONFIG, BREW_LOAD, ROTATION_LOAD and COSY_SET (02 R71, R72, 03 R95, R109, R115, 04 R133, 09 R311). -/
namespace Sys2Proof.Machine
variable {s : State} {c : Cmd}

/-! ### The operations that Kettle runs -/

theorem State.KettleTakes.exec_headConfig (h : s.KettleTakes 0x0201 c) :
    exec (.headConfig c) s = .next (s.taken.opHeadConfig (packetOfCmd 0x0201 c) .ring s.pe.seq) :=
  h.runs (f := fun t => t.opHeadConfig (packetOfCmd 0x0201 c) .ring s.pe.seq) (by decide) (by simp [Packet.hardware, packetOfCmd])
    fun t hlife => by simp [State.runKettle, hlife, packetOfCmd]

theorem State.KettleTakes.exec_brewLoad (h : s.KettleTakes 0x0210 c) :
    exec (.brewLoad c) s = .next (s.taken.opBrewLoad (packetOfCmd 0x0210 c) .ring s.pe.seq) :=
  h.runs (f := fun t => t.opBrewLoad (packetOfCmd 0x0210 c) .ring s.pe.seq) (by decide) (by simp [Packet.hardware, packetOfCmd])
    fun t hlife => by simp [State.runKettle, hlife, packetOfCmd]

theorem State.KettleTakes.exec_rotationLoad (h : s.KettleTakes 0x0220 c) :
    exec (.rotationLoad c) s = .next (s.taken.opRotationLoad (packetOfCmd 0x0220 c) .ring s.pe.seq) :=
  h.runs (f := fun t => t.opRotationLoad (packetOfCmd 0x0220 c) .ring s.pe.seq) (by decide) (by simp [Packet.hardware, packetOfCmd])
    fun t hlife => by simp [State.runKettle, hlife, packetOfCmd]

theorem State.KettleTakes.exec_cosySet (h : s.KettleTakes 0x0230 c) :
    exec (.cosySet c) s = .next (s.taken.opCosySet (packetOfCmd 0x0230 c) .ring s.pe.seq) :=
  h.runs (f := fun t => t.opCosySet (packetOfCmd 0x0230 c) .ring s.pe.seq) (by decide) (by simp [Packet.hardware, packetOfCmd])
    fun t hlife => by simp [State.runKettle, hlife, packetOfCmd]

/-! ### Channels that a mask selects -/

/-- A change of every channel that the mask selects, and of no other. -/
theorem State.foldl_modChan (f : Chan → Chan) (l : List Nat) (hnodup : l.Nodup) (hl : ∀ n, n ∈ l → n < 48) (s : State) :
    l.foldl (fun s n => s.modChan n f) s = { s with chans := (l.foldl (fun s n => s.modChan n f) s).chans } ∧
      ∀ m, (l.foldl (fun s n => s.modChan n f) s).chan m = if m ∈ l then f (s.chan m) else s.chan m := by
  induction l generalizing s with
  | nil => exact ⟨rfl, fun m => by simp⟩
  | cons n l ih =>
    obtain ⟨hnot, hnodup⟩ := List.nodup_cons.1 hnodup
    have hn : n < 48 := hl n (List.mem_cons_self)
    obtain ⟨hframe, hchan⟩ := ih hnodup (fun k hk => hl k (List.mem_cons_of_mem _ hk)) (s.modChan n f)
    refine ⟨hframe.trans rfl, fun m => ?_⟩
    rw [List.foldl_cons, hchan m]
    by_cases hm : m = n
    · subst hm; rw [if_neg hnot, if_pos List.mem_cons_self, State.chan_modChan s m f hn]
    · rw [State.chan_modChan_ne s n m f (Ne.symm hm)]
      simp [hm]

theorem nodup_maskChans (m : ChMask) : (maskChans m).Nodup := List.nodup_range.filter _

theorem lt_of_mem_maskChans {m : ChMask} {n : Nat} (h : n ∈ maskChans m) : n < 48 := by
  simpa using (List.mem_filter.1 h).1

theorem mem_maskChans_ofNat {k n : Nat} : n ∈ maskChans (BitVec.ofNat 64 k) ↔ n < 48 ∧ bit k n = true := by
  rw [mem_maskChans]
  exact and_congr_right fun hn => by rw [getLsbD_ofNat_bit (by omega)]

/-- A selection of channels that is one selects a channel. -/
theorem channelsOk_selects {k : Nat} (h : channelsOk k = true) : ∃ m, m < 48 ∧ bit k m = true := by
  obtain ⟨hne, hlt⟩ : k ≠ 0 ∧ k < 2 ^ 48 := by simpa [channelsOk] using h
  obtain ⟨m, hbit⟩ := Nat.exists_testBit_of_ne_zero hne
  have hm : m < 48 := by
    by_contra hge
    have hpow : 2 ^ 48 ≤ 2 ^ m := Nat.pow_le_pow_right (by decide) (by omega)
    exact absurd ((Nat.testBit_lt_two_pow (hlt.trans_le hpow)).symm.trans hbit) (by decide)
  exact ⟨m, hm, (bit_eq_testBit k m).trans hbit⟩

/-! ### What each opcode does -/

/-- HEAD_CONFIG with its fields in range, on a channel with a head and no job. -/
theorem State.opHeadConfig_eq {p : Packet} (hn : p.u 0 1 < 48) (hatt : (s.chan (p.u 0 1)).attached = true) (hjob : s.jobOf (p.u 0 1) = none)
    (hink : p.u 1 1 ≤ 7) (hrow : p.u 2 1 ≤ 3) (hg : 1 ≤ p.u 3 1 ∧ p.u 3 1 ≤ 8) (hnz : 64 ≤ p.u 4 2 ∧ p.u 4 2 ≤ 2048)
    (hsize : p.u 4 2 = 64 * (s.chan (p.u 0 1)).headId.size.toNat) (hpartner : p.u 6 1 < 48 ∨ p.u 6 1 = 255)
    (hdiv : 4 ≤ p.u 7 1 ∧ p.u 7 1 ≤ 64) (hquiet : p.u 8 4 ≤ 40000) (src : Source) (seq : Nat) :
    s.opHeadConfig p src seq = (s.modChan (p.u 0 1) (fun d => { d with
      configured := true, ink := p.u 1 1, row := p.u 2 1, gMax := min (p.u 3 1) s.otp.wires.gCap, nozzles := p.u 4 2,
      partner := p.u 6 1, clkDiv := p.u 7 1, quiet := p.u 8 4, pMax := p.u 12 4 })).say p src stOK := by
  have hbad : (7 < p.u 1 1 || 3 < p.u 2 1 || p.u 3 1 = 0 || 8 < p.u 3 1 || p.u 4 2 < 64 || 2048 < p.u 4 2 ||
      p.u 4 2 ≠ 64 * (s.chan (p.u 0 1)).headId.size.toNat || (47 < p.u 6 1 && p.u 6 1 ≠ 255) || p.u 7 1 < 4 || 64 < p.u 7 1 ||
      40000 < p.u 8 4) = false := by
    simp only [Bool.or_eq_false_iff, Bool.and_eq_false_iff, decide_eq_false_iff_not, not_not]
    omega
  have hstate : (!(s.chan (p.u 0 1)).attached || (s.jobOf (p.u 0 1)).isSome) = false := by simp [hatt, hjob]
  simp only [State.opHeadConfig, hbad, hstate, if_neg (show ¬ 47 < p.u 0 1 by omega), Bool.false_eq_true, if_false]

/-- BREW_LOAD with its fields in range, on an entry that no line uses. -/
theorem State.opBrewLoad_eq {p : Packet} (hn : p.u 0 1 < 48) (hdrop : 1 ≤ p.u 1 1 ∧ p.u 1 1 ≤ 3) (hk : p.u 2 1 ≤ 7)
    (hfree : (s.chan (p.u 0 1)).protects true (fun u => u.brew (p.u 1 1) = p.u 2 1) = false)
    (hcosy : ¬ (p.u 1 1 = 1 ∧ p.u 2 1 = 7 ∧ (s.chan (p.u 0 1)).cosy = true)) (hzero : p.u 3 1 = 0)
    (hok : (brewOf (p.params.drop 4)).ok (p.u 1 1) = true) (src : Source) (seq : Nat) :
    s.opBrewLoad p src seq = (s.modChan (p.u 0 1) (fun d => { d with
      brewS := (if p.u 1 1 = 1 then vset d.brewS (p.u 2 1) (brewOf (p.params.drop 4)) else d.brewS),
      brewM := (if p.u 1 1 = 2 then vset d.brewM (p.u 2 1) (brewOf (p.params.drop 4)) else d.brewM),
      brewL := (if p.u 1 1 = 3 then vset d.brewL (p.u 2 1) (brewOf (p.params.drop 4)) else d.brewL) })).say p src stOK := by
  have hrange : (47 < p.u 0 1 || p.u 1 1 = 0 || 3 < p.u 1 1 || 7 < p.u 2 1) = false := by
    simp only [Bool.or_eq_false_iff, decide_eq_false_iff_not]
    omega
  have hstate : ((s.chan (p.u 0 1)).protects true (fun u => u.brew (p.u 1 1) = p.u 2 1) ||
      (p.u 1 1 = 1 && p.u 2 1 = 7 && (s.chan (p.u 0 1)).cosy)) = false := by
    simpa [hfree] using hcosy
  have hbody : (p.u 3 1 ≠ 0 || !(brewOf (p.params.drop 4)).ok (p.u 1 1)) = false := by simp [hzero, hok]
  simp only [State.opBrewLoad, hrange, hstate, hbody, Bool.false_eq_true, if_false, State.modChan]
  obtain hd | hd | hd : p.u 1 1 = 1 ∨ p.u 1 1 = 2 ∨ p.u 1 1 = 3 := by omega
  all_goals simp [hd]

/-- A rotation body against R95. -/
theorem rotationOk_iff {r : Rotation} {slot : Nat → Nat} (hslots : r.slotOf = (List.range 32).map slot) : rotationOk r = true ↔
    4 ≤ r.slots ∧ r.slots ≤ 32 ∧ 1 ≤ r.gTable ∧ r.gTable ≤ 8 ∧ (∀ g, g < 32 → slot g < r.slots) ∧
      (∀ t, t < r.slots → 1 ≤ ((List.range 32).filter (fun g => slot g = t)).length ∧
        ((List.range 32).filter (fun g => slot g = t)).length ≤ r.gTable) := by
  have hgroups : ∀ t, r.groupsOf t = (List.range 32).filter (fun g => slot g = t) := fun t => by
    rw [Rotation.groupsOf]
    refine List.filter_congr fun g hg => ?_
    have hg : g < 32 := List.mem_range.1 hg
    simp [hslots, List.getD_eq_getElem?_getD, hg]
  simp [rotationOk, hslots, hgroups, and_assoc]

/-- ROTATION_LOAD on a table that no line uses, by whether the body is good. -/
theorem State.opRotationLoad_eq {p : Packet} {r : Rotation}
    (hr : r = { slots := p.u 4 1, gTable := p.u 5 1, slotOf := (List.range 32).map (fun g => p.u (8 + g) 1) })
    (hn : p.u 0 1 < 48) (hk : p.u 1 1 ≤ 3) (hfree : (s.chan (p.u 0 1)).protects false (fun u => u.rot = p.u 1 1) = false)
    (hzeros : zeros p.params 2 2 = true ∧ zeros p.params 6 2 = true) (src : Source) (seq : Nat) :
    s.opRotationLoad p src seq = if rotationOk r = true then
      (s.modChan (p.u 0 1) (fun d => { d with rots := vset d.rots (p.u 1 1) r })).say p src stOK else s.say p src stBAD_PARAM := by
  have hrange : (47 < p.u 0 1 || 3 < p.u 1 1) = false := by
    simp only [Bool.or_eq_false_iff, decide_eq_false_iff_not]
    omega
  simp only [State.opRotationLoad, ← hr, hrange, hfree, hzeros, Bool.false_eq_true, if_false, Bool.not_true, Bool.false_or]
  cases rotationOk r <;> rfl

/-- A COSY_SET that enables is refused while a trip latch is set. -/
theorem State.opCosySet_tripped {p : Packet} (htrip : s.tripped = true) (hon : p.u 10 2 = 1) (src : Source) (seq : Nat) :
    s.opCosySet p src seq = s.say p src stREFUSED_INTERLOCK := by
  simp [State.opCosySet, htrip, hon]

/-- COSY_SET with its fields in range, on channels that may take it. -/
theorem State.opCosySet_eq {p : Packet} (hfree : s.tripped = false ∨ p.u 10 2 = 0) (hok : channelsOk (p.u 0 8) = true) (hon : p.u 10 2 ≤ 1)
    (hchan : ∀ m, m < 48 → bit (p.u 0 8) m = true → (s.chan m).ready = true ∧ ((s.chan m).small 7).na ≠ 0 ∧
      (p.i 8 2 ≠ 0 → 150 ≤ p.i 8 2 ∧ p.i 8 2 ≤ (s.headSensor m).warn - (s.headSensor m).hyst)) (src : Source) (seq : Nat) :
    s.opCosySet p src seq = ((maskChans (BitVec.ofNat 64 (p.u 0 8))).foldl (fun s n => s.modChan n (fun c => { c with
      cosy := decide (p.u 10 2 = 1), cosyTarget := (if p.i 8 2 = 0 then 450 else p.i 8 2),
      warming := c.warming && decide (p.u 10 2 = 1) })) s).say p src stOK := by
  have hmask : ∀ m, m ∈ maskChans (BitVec.ofNat 64 (p.u 0 8)) → m < 48 ∧ bit (p.u 0 8) m = true := fun m hm => mem_maskChans_ofNat.1 hm
  have htrip : (s.tripped && decide (p.u 10 2 % 2 = 1)) = false := by
    rcases hfree with h | h <;> simp [h]
  have hstate : (maskChans (BitVec.ofNat 64 (p.u 0 8))).any (fun n => !(s.chan n).ready || ((s.chan n).small 7).na = 0) = false := by
    refine List.any_eq_false.2 fun m hm => ?_
    obtain ⟨hready, hna, -⟩ := hchan m (hmask m hm).1 (hmask m hm).2
    simp [hready, hna]
  have hrange : (!channelsOk (p.u 0 8) || 1 < p.u 10 2 || (p.i 8 2 ≠ 0 && (decide (p.i 8 2 < 150) ||
      (maskChans (BitVec.ofNat 64 (p.u 0 8))).any (fun n => decide ((s.headSensor n).warn - (s.headSensor n).hyst < p.i 8 2))))) = false := by
    rw [hok, decide_eq_false (show ¬ 1 < p.u 10 2 by omega)]
    by_cases ht : p.i 8 2 = 0
    · simp [ht]
    · obtain ⟨m, hm, hbit⟩ := channelsOk_selects hok
      obtain ⟨-, -, htemp⟩ := hchan m hm hbit
      have hany : (maskChans (BitVec.ofNat 64 (p.u 0 8))).any
          (fun n => decide ((s.headSensor n).warn - (s.headSensor n).hyst < p.i 8 2)) = false := by
        refine List.any_eq_false.2 fun m hm => ?_
        obtain ⟨-, -, htemp⟩ := hchan m (hmask m hm).1 (hmask m hm).2
        exact decide_eq_true_iff.not.2 (Int.not_lt.2 (htemp ht).2)
      rw [hany, decide_eq_false (Int.not_lt.2 (htemp ht).1)]
      simp
  have hmod : p.u 10 2 % 2 = p.u 10 2 := Nat.mod_eq_of_lt (by omega)
  rw [hmod] at htrip
  simp only [State.opCosySet, htrip, hstate, hrange, hmod, Bool.false_eq_true, if_false]

/-- Settles O31: each opcode by its equation, and the two refusals. -/
theorem headTables : Obligations.HeadTables := by
  intro c s
  refine ⟨?_, ?_, ?_, fun h hok hon => ⟨fun htrip hone => ?_, fun hfree hchan => ?_⟩⟩
  · intro h hn hatt hjob hink hrow hg1 hg8 hnz1 hnz2 hsize hpartner hdiv1 hdiv2 hquiet
    exact h.exec_headConfig.trans (congrArg _ (State.opHeadConfig_eq (s := s.taken) (p := packetOfCmd 0x0201 c) hn hatt hjob hink hrow ⟨hg1, hg8⟩ ⟨hnz1, hnz2⟩ hsize
      hpartner ⟨hdiv1, hdiv2⟩ hquiet .ring s.pe.seq))
  · rintro drop k rfl rfl h hn hd1 hd3 hk hfree hcosy hzero hok
    exact h.exec_brewLoad.trans (congrArg _ (State.opBrewLoad_eq (s := s.taken) (p := packetOfCmd 0x0210 c) hn ⟨hd1, hd3⟩ hk hfree hcosy hzero hok .ring s.pe.seq))
  · intro r hr h hn hk hfree hz2 hz6
    have hrun := h.exec_rotationLoad.trans (congrArg _ (State.opRotationLoad_eq (s := s.taken) (p := packetOfCmd 0x0220 c) hr hn hk hfree ⟨hz2, hz6⟩ .ring s.pe.seq))
    have hgood := rotationOk_iff (r := r) (slot := fun g => le c.params (8 + g) 1) (by rw [hr])
    exact ⟨fun h => hrun.trans (congrArg _ (if_pos (hgood.2 h))), fun h => hrun.trans (congrArg _ (if_neg fun g => h (hgood.1 g)))⟩
  · exact h.exec_cosySet.trans (congrArg _ (State.opCosySet_tripped (s := s.taken) (p := packetOfCmd 0x0230 c) htrip hone .ring s.pe.seq))
  · obtain ⟨hframe, hset⟩ := State.foldl_modChan (fun c' => { c' with
      cosy := decide (le c.params 10 2 = 1), cosyTarget := (if leS c.params 8 2 = 0 then 450 else leS c.params 8 2),
      warming := c'.warming && decide (le c.params 10 2 = 1) }) _ (nodup_maskChans (BitVec.ofNat 64 (le c.params 0 8)))
      (fun _ => lt_of_mem_maskChans) s.taken
    refine ⟨_, h.exec_cosySet.trans (congrArg _ (State.opCosySet_eq (s := s.taken) (p := packetOfCmd 0x0230 c) hfree hok hon hchan .ring s.pe.seq)), hframe, fun m hm => ?_⟩
    refine (hset m).trans ?_
    simp only [mem_maskChans_ofNat, hm, true_and]
    rfl

end Sys2Proof.Machine
end

section
/-! SUPPORT. JOB_OPEN and LAYER_DEFINE (02 R71, R73, 05 R165-R167, R172). -/
namespace Sys2Proof.Machine
variable {s : State} {c : Cmd} {p : Packet}

theorem State.KettleTakes.exec_jobOpen (h : s.KettleTakes 0x0300 c) :
    exec (.jobOpen c) s = .next (s.taken.opJobOpen (packetOfCmd 0x0300 c) .ring s.pe.seq) :=
  h.runs (f := fun t => t.opJobOpen (packetOfCmd 0x0300 c) .ring s.pe.seq) (by decide) (by simp [Packet.hardware, packetOfCmd])
    fun t hlife => by simp [State.runKettle, hlife, packetOfCmd]

theorem State.KettleTakes.exec_layerDefine (h : s.KettleTakes 0x0301 c) :
    exec (.layerDefine c) s = .next (s.taken.opLayerDefine (packetOfCmd 0x0301 c) .ring s.pe.seq) :=
  h.runs (f := fun t => t.opLayerDefine (packetOfCmd 0x0301 c) .ring s.pe.seq) (by decide) (by simp [Packet.hardware, packetOfCmd])
    fun t hlife => by simp [State.runKettle, hlife, packetOfCmd]

/-- The job that JOB_OPEN names. -/
def jobOfOpen (p : Packet) : Job :=
  { id := BitVec.ofNat 16 (p.u 0 2), geometry := p.u 2 1, feed := p.u 3 1, channels := BitVec.ofNat 64 (p.u 4 8), lines := p.u 12 4,
    record := p.u 16 8, pitch := p.u 24 8 }

/-- A channel whose job opens starts at line 0, and its bank is written. -/
def State.openChan (s : State) (n : Nat) : State := (s.modChan n Chan.forJob).bankWrote (n / 4) 3

/-- A job opened in a slot, and its record's header written. -/
def State.openJob (s : State) (slot : Nat) (j : Job) : State :=
  ((maskChans j.channels).foldl State.openChan { s with jobs := vset s.jobs slot (some j) }).writeHeader slot

/-- JOB_OPEN that names free channels with heads, a free record and values in range. -/
theorem State.opJobOpen_eq {slot : Nat} (hslot : slot < 4) (hfree : s.jobAt slot = none) (hlowest : ∀ k, k < slot → s.jobAt k ≠ none)
    (hid : s.jobSlot (BitVec.ofNat 16 (p.u 0 2)) = none)
    (hchan : ∀ n, n < 48 → bit (p.u 4 8) n = true → s.jobOf n = none ∧ (s.chan n).ready = true) (hgeo : p.u 2 1 ≤ 2)
    (hfeed : p.u 3 1 ≤ 7 ∨ p.u 3 1 = 255) (hok : channelsOk (p.u 4 8) = true) (hrec : p.u 16 8 % 512 = 0)
    (hstore : p.u 16 8 + 1536 ≤ s.storeBytes) (hpitch : p.u 24 8 < 2 ^ 48) (src : Source) (seq : Nat) :
    s.opJobOpen p src seq = (s.openJob slot (jobOfOpen p)).say p src stOK := by
  have hfind : (List.range 4).find? (fun j => (s.jobAt j).isNone) = some slot := by
    refine List.find?_range_eq_some.2 ⟨by simp [hfree], by simpa using hslot, fun k hk => ?_⟩
    simpa [Option.isSome_iff_ne_none] using hlowest k hk
  have hstate : ((s.jobSlot (BitVec.ofNat 16 (p.u 0 2))).isSome ||
      (maskChans (BitVec.ofNat 64 (p.u 4 8))).any (fun n => (s.jobOf n).isSome || !(s.chan n).ready) || s.storeBytes = 0) = false := by
    have hany : (maskChans (BitVec.ofNat 64 (p.u 4 8))).any (fun n => (s.jobOf n).isSome || !(s.chan n).ready) = false := by
      refine List.any_eq_false.2 fun n hn => ?_
      obtain ⟨hn, hbit⟩ := mem_maskChans_ofNat.1 hn
      obtain ⟨hjob, hready⟩ := hchan n hn hbit
      simp [hjob, hready]
    rw [hid, hany, decide_eq_false (by omega)]
    rfl
  have hrange : (2 < p.u 2 1 || (7 < p.u 3 1 && p.u 3 1 ≠ 255) || !channelsOk (p.u 4 8) || p.u 16 8 % 512 ≠ 0 ||
      s.storeBytes < p.u 16 8 + 1536 || 2 ^ 48 ≤ p.u 24 8) = false := by
    simp only [hok, Bool.or_eq_false_iff, Bool.and_eq_false_iff, decide_eq_false_iff_not, Bool.not_true, not_not, and_true]
    omega
  simp only [State.opJobOpen, hfind, hstate, hrange, Bool.false_eq_true, if_false]
  rfl

/-- Channels opened one after another. -/
theorem State.foldl_openChan (l : List Nat) (hnodup : l.Nodup) (hl : ∀ n, n ∈ l → n < 48) (s : State) :
    l.foldl State.openChan s = { s with chans := (l.foldl State.openChan s).chans, mem := (l.foldl State.openChan s).mem } ∧
      ∀ m, (l.foldl State.openChan s).chan m = if m ∈ l then (s.chan m).forJob else s.chan m := by
  induction l generalizing s with
  | nil => exact ⟨rfl, fun m => by simp⟩
  | cons n l ih =>
    obtain ⟨hnot, hnodup⟩ := List.nodup_cons.1 hnodup
    have hn : n < 48 := hl n (List.mem_cons_self)
    obtain ⟨hframe, hchan⟩ := ih hnodup (fun k hk => hl k (List.mem_cons_of_mem _ hk)) (s.openChan n)
    refine ⟨hframe.trans rfl, fun m => ?_⟩
    rw [List.foldl_cons, hchan m]
    by_cases hm : m = n
    · subst hm
      rw [if_neg hnot, if_pos List.mem_cons_self]
      exact State.chan_modChan s m _ hn
    · rw [show (s.openChan n).chan m = s.chan m from State.chan_modChan_ne s n m _ (Ne.symm hm)]
      simp [hm]

theorem State.writeHeader_mem (slot : Nat) : s.writeHeader slot = { s with mem := (s.writeHeader slot).mem } := by
  rw [State.writeHeader]
  cases s.jobAt slot <;> rfl

theorem State.openJob_frame (slot : Nat) (j : Job) : s.openJob slot j =
    { s with jobs := vset s.jobs slot (some j), chans := (s.openJob slot j).chans, mem := (s.openJob slot j).mem } := by
  obtain ⟨hframe, -⟩ := State.foldl_openChan _ (nodup_maskChans j.channels) (fun _ => lt_of_mem_maskChans)
    { s with jobs := vset s.jobs slot (some j) }
  have hheader := State.writeHeader_mem (s := (maskChans j.channels).foldl State.openChan { s with jobs := vset s.jobs slot (some j) }) slot
  rw [State.openJob]
  generalize (maskChans j.channels).foldl State.openChan { s with jobs := vset s.jobs slot (some j) } = t at *
  generalize t.writeHeader slot = u at *
  rw [congrArg State.chans hheader]
  conv_lhs => rw [hheader, hframe]

theorem State.openJob_chan (slot : Nat) (j : Job) (n : Nat) :
    (s.openJob slot j).chan n = if n ∈ maskChans j.channels then (s.chan n).forJob else s.chan n := by
  obtain ⟨-, hchan⟩ := State.foldl_openChan _ (nodup_maskChans j.channels) (fun _ => lt_of_mem_maskChans)
    { s with jobs := vset s.jobs slot (some j) }
  refine Eq.trans ?_ (hchan n)
  rw [State.openJob, State.writeHeader_mem]
  rfl

/-- LAYER_DEFINE of a layer that the job's geometry allows. -/
theorem State.opLayerDefine_eq {slot : Nat} {j : Job} {d : Layer} (hslot : s.jobSlot (BitVec.ofNat 16 (p.u 0 2)) = some slot)
    (hjob : s.jobAt slot = some j) (hopen : j.state = .opened) (hzeros : zeros p.params 25 3 = true)
    (hd : d = { op := p.u 3 1, base := p.u 4 8, stride := p.u 12 4, lines := p.u 16 4, phase := p.u 20 4, required := p.u 24 1 % 2 = 1 })
    (hok : s.layerOk j (p.u 2 1) d.op d (p.u 24 1) = true) (src : Source) (seq : Nat) :
    s.opLayerDefine p src seq = (s.modJob slot (fun x => { x with layers := vset x.layers (p.u 2 1) (some d) })).say p src stOK := by
  subst hd
  simp [State.opLayerDefine, hslot, hjob, hopen, hzeros, hok]

/-- Settles O34: the job stands in the lowest free slot, its channels at line 0, and a layer is kept in its place. -/
theorem jobsOpen : Obligations.JobsOpen := by
  intro c s slot
  refine ⟨fun h hslot hfree hlowest hid hchan hgeo hfeed hok hrec hstore hpitch => ?_, fun j h hslot hjob hopen hzeros d hd hlayer => ?_⟩
  · have hop := State.opJobOpen_eq (s := s.taken) (p := packetOfCmd 0x0300 c) hslot hfree hlowest hid hchan hgeo hfeed hok hrec hstore hpitch
      .ring s.pe.seq
    have hframe := s.taken.openJob_frame slot (jobOfOpen (packetOfCmd 0x0300 c))
    have hjobs : (s.taken.openJob slot (jobOfOpen (packetOfCmd 0x0300 c))).jobs = vset s.jobs slot (some (jobOfOpen (packetOfCmd 0x0300 c))) :=
      congrArg State.jobs hframe
    refine ⟨_, h.exec_jobOpen.trans (congrArg _ hop), hframe.trans ?_, ?_, fun k hk hne => ?_, fun n hn => ?_⟩
    · exact congrArg (fun x => ({ s.taken with
        jobs := x, chans := (s.taken.openJob slot _).chans, mem := (s.taken.openJob slot _).mem } : State)) hjobs.symm
    · rw [State.jobAt, hjobs]
      exact vget_vset_self _ _ _ _ hslot
    · rw [State.jobAt, hjobs]
      exact vget_vset_ne _ _ _ _ _ (Ne.symm hne)
    · refine (s.taken.openJob_chan slot (jobOfOpen (packetOfCmd 0x0300 c)) n).trans ?_
      rw [show (jobOfOpen (packetOfCmd 0x0300 c)).channels = BitVec.ofNat 64 (le c.params 4 8) from rfl]
      simp only [mem_maskChans_ofNat, hn, true_and]
      rfl
  · exact h.exec_layerDefine.trans (congrArg _ (State.opLayerDefine_eq (s := s.taken) (p := packetOfCmd 0x0301 c) hslot hjob hopen hzeros hd
      hlayer .ring s.pe.seq))

end Sys2Proof.Machine
end

section
/-! SUPPORT. THERMAL_CONFIG, THERMAL_STATUS and SHUTDOWN_RELEASE (02 R74, R76, 09 R296, R305). -/
namespace Sys2Proof.Machine
variable {s t : State} {c : Cmd} {p : Packet}

theorem State.KettleTakes.exec_thermalConfig (h : s.KettleTakes 0x0700 c) :
    exec (.thermalConfig c) s = .next (s.taken.opThermalConfig (packetOfCmd 0x0700 c) .ring s.pe.seq) :=
  h.runs (f := fun t => t.opThermalConfig (packetOfCmd 0x0700 c) .ring s.pe.seq) (by decide) (by simp [Packet.hardware, packetOfCmd])
    fun t hlife => by simp [State.runKettle, hlife, packetOfCmd]

theorem State.KettleTakes.exec_thermalStatus (h : s.KettleTakes 0x0701 c) :
    exec (.thermalStatus c) s = .next (s.taken.opThermalStatus (packetOfCmd 0x0701 c) .ring s.pe.seq) :=
  h.runs (f := fun t => t.opThermalStatus (packetOfCmd 0x0701 c) .ring s.pe.seq) (by decide) (by simp [Packet.hardware, packetOfCmd])
    fun t hlife => by simp [State.runKettle, hlife, packetOfCmd]

theorem State.KettleTakes.exec_shutdownRelease (h : s.KettleTakes 0x0702 c) :
    exec (.shutdownRelease c) s = .next (s.taken.opShutdownRelease (packetOfCmd 0x0702 c) .ring s.pe.seq) :=
  h.runs (f := fun t => t.opShutdownRelease (packetOfCmd 0x0702 c) .ring s.pe.seq) (by decide) (by simp [Packet.hardware, packetOfCmd])
    fun t hlife => by simp [State.runKettle, hlife, packetOfCmd]

/-! ### Sensors -/

theorem State.sensor_modSensor (x : Sensor) (f : SensorState → SensorState) : (s.modSensor x f).sensor x = f (s.sensor x) := by
  cases x with
  | head n => exact State.headSensor_modHead s n.val f n.isLt
  | die i => exact vget_vset_self _ _ _ _ i.isLt

theorem State.sensor_modSensor_ne {x y : Sensor} (h : y ≠ x) (f : SensorState → SensorState) : (s.modSensor x f).sensor y = s.sensor y := by
  cases x with
  | head n =>
    cases y with
    | head m => exact State.headSensor_modHead_ne s n.val m.val f fun heq => h (congrArg Sensor.head (Fin.ext heq).symm)
    | die i => rfl
  | die i =>
    cases y with
    | head m => rfl
    | die k => exact vget_vset_ne _ _ _ _ _ fun heq => h (congrArg Sensor.die (Fin.ext heq).symm)

theorem State.modSensor_frame (x : Sensor) (f : SensorState → SensorState) : s.modSensor x f = { s with therm := (s.modSensor x f).therm } := by
  cases x <;> rfl

/-- A change of every sensor of a list, and of no other. -/
theorem State.foldl_modSensor (f : SensorState → SensorState) (l : List Sensor) (hnodup : l.Nodup) (s : State) :
    l.foldl (fun s x => s.modSensor x f) s = { s with therm := (l.foldl (fun s x => s.modSensor x f) s).therm } ∧
      ∀ y, (l.foldl (fun s x => s.modSensor x f) s).sensor y = if y ∈ l then f (s.sensor y) else s.sensor y := by
  induction l generalizing s with
  | nil => exact ⟨rfl, fun y => by simp⟩
  | cons x l ih =>
    obtain ⟨hnot, hnodup⟩ := List.nodup_cons.1 hnodup
    obtain ⟨hframe, hsensor⟩ := ih hnodup (s.modSensor x f)
    refine ⟨?_, fun y => ?_⟩
    · have hone := s.modSensor_frame x f
      rw [List.foldl_cons]
      generalize l.foldl (fun s x => s.modSensor x f) (s.modSensor x f) = u at *
      generalize s.modSensor x f = v at *
      conv_lhs => rw [hframe, hone]
    · rw [List.foldl_cons, hsensor y]
      by_cases hy : y = x
      · subst hy
        rw [if_neg hnot, if_pos List.mem_cons_self, State.sensor_modSensor]
      · rw [State.sensor_modSensor_ne hy]
        simp [hy]

theorem nodup_selectSensors (cls idx : Nat) : (selectSensors cls idx).Nodup := by
  unfold selectSensors
  split_ifs
  · simp
  · exact (List.nodup_finRange 48).map fun _ _ h => Sensor.head.inj h
  · simp
  · simp
  · exact (List.nodup_finRange 6).map fun _ _ h => Sensor.die.inj h
  · simp
  · simp

/-- THERMAL_CONFIG of sensors that may take it, with limits in order and within the device's. -/
theorem State.opThermalConfig_eq (hsel : selectSensors (p.u 0 1) (p.u 1 1) ≠ [])
    (hfree : ∀ x, x ∈ selectSensors (p.u 0 1) (p.u 1 1) → s.configBlocked x (p.i 2 2) (p.i 6 2) (p.i 8 2) = false)
    (hwarn : p.i 2 2 ≤ if p.u 0 1 = 0 then s.otp.wires.headWarn else s.otp.wires.dieWarn)
    (hthrottle : p.i 4 2 ≤ if p.u 0 1 = 0 then s.otp.wires.headThrottle else s.otp.wires.dieThrottle)
    (hshutdown : p.i 6 2 ≤ if p.u 0 1 = 0 then s.otp.wires.headShutdown else s.otp.wires.dieShutdown)
    (hlow : (if p.u 0 1 = 0 then 250 else 400) ≤ p.i 2 2) (hwt : p.i 2 2 < p.i 4 2) (hts : p.i 4 2 < p.i 6 2)
    (hhyst : 10 ≤ p.i 8 2 ∧ p.i 8 2 ≤ 100) (hzeros : zeros p.params 10 2 = true) (src : Source) (seq : Nat) :
    s.opThermalConfig p src seq = ((selectSensors (p.u 0 1) (p.u 1 1)).foldl (fun s x => s.modSensor x (fun y => { y with
      next := some (p.i 2 2, p.i 4 2, p.i 6 2, p.i 8 2) })) s).say p src stOK := by
  have hany : (selectSensors (p.u 0 1) (p.u 1 1)).any (fun x => s.configBlocked x (p.i 2 2) (p.i 6 2) (p.i 8 2)) = false :=
    List.any_eq_false.2 fun x hx => by simp [hfree x hx]
  simp only [State.opThermalConfig, hsel, hany, hzeros, if_false, Bool.false_eq_true]
  refine if_neg ?_
  simp only [Bool.or_eq_true, decide_eq_true_iff, Bool.not_true, Bool.false_eq_true, or_false]
  omega

/-! ### Equally long records -/

/-- A field of record i. -/
theorem le_flatMap_record {α : Type} {k off n : Nat} (g : α → Bytes) (hg : ∀ x, (g x).length = k) (hoff : off + n ≤ k) (l : List α) (b : Bytes)
    {i : Nat} (h : i < l.length) : le (l.flatMap g ++ b) (k * i + off) n = le (g l[i]) off n := by
  induction l generalizing i with
  | nil => simp at h
  | cons x l ih =>
    rw [List.flatMap_cons, List.append_assoc]
    cases i with
    | zero => exact (le_append_left (by rw [hg]; omega)).trans (congrArg (fun o => le (g x) o n) (by omega))
    | succ i =>
      rw [le_append_right (by rw [hg, Nat.mul_succ]; omega), hg, Nat.mul_succ, show k * i + k + off - k = k * i + off by omega,
        ih (by simpa using h)]
      rfl

theorem length_flatMap_record {α : Type} {k : Nat} (g : α → Bytes) (hg : ∀ x, (g x).length = k) (l : List α) :
    (l.flatMap g).length = k * l.length := by
  induction l with
  | nil => rfl
  | cons x l ih => rw [List.flatMap_cons, List.length_append, hg, ih, List.length_cons, Nat.mul_succ, Nat.add_comm]
theorem length_sensorBytes (y : SensorState) (level : Nat) (shut : Bool) : (sensorBytes y level shut).length = 4 := by
  simp [sensorBytes, toLeS]

/-- The fields of a sensor's record (09 R305). -/
theorem sensorBytes_fields (y : SensorState) (level : Nat) (shut : Bool) :
    le (sensorBytes y level shut) 0 2 = (y.shown % 65536).toNat ∧ le (sensorBytes y level shut) 2 1 = (if shut then 255 else level % 256) ∧
      bit (le (sensorBytes y level shut) 3 1) 0 = y.suspect ∧ bit (le (sensorBytes y level shut) 3 1) 1 = y.warning ∧
      bit (le (sensorBytes y level shut) 3 1) 3 = y.latched := by
  have hflags : le (sensorBytes y level shut) 3 1 = b2n y.suspect + 2 * b2n y.warning + 4 * b2n (decide (0 < level)) + 8 * b2n y.latched := by
    rw [sensorBytes, ← List.append_nil (_ ++ toLe 1 _), List.append_assoc _ (toLe 1 _) [], le_append_toLe (by simp [toLeS])]
    cases y.suspect <;> cases y.warning <;> cases decide (0 < level) <;> cases y.latched <;> rfl
  refine ⟨?_, ?_, ?_⟩
  · rw [sensorBytes, List.append_assoc, toLeS, le_toLe_append]
    exact Nat.mod_eq_of_lt (by omega)
  · rw [sensorBytes, List.append_assoc, le_append_toLe (by simp [toLeS])]
    cases shut <;> rfl
  · rw [hflags]
    cases y.suspect <;> cases y.warning <;> cases decide (0 < level) <;> cases y.latched <;> decide

/-- The record of a head's sensor. -/
def State.headRecord (s : State) (n : Nat) : Bytes := sensorBytes (s.headSensor n) (s.chan n).applied (s.shutdownLatched n)

/-- The record of a die sensor. -/
def State.dieRecord (s : State) (i : Nat) : Bytes := sensorBytes (s.dieSensor i) (s.dieSensor i).target (s.dieSensor i).latched

theorem State.length_headRecord (n : Nat) : (s.headRecord n).length = 4 := length_sensorBytes _ _ _

theorem State.length_dieRecord (i : Nat) : (s.dieRecord i).length = 4 := length_sensorBytes _ _ _

/-- What THERMAL_STATUS answers (09 R305). -/
def State.thermalReply (s : State) : Bytes := (List.range 48).flatMap s.headRecord ++ (List.range 6).flatMap s.dieRecord

theorem State.length_thermalReply : s.thermalReply.length = 216 := by
  rw [State.thermalReply, List.length_append, length_flatMap_record _ State.length_headRecord,
    length_flatMap_record _ State.length_dieRecord, List.length_range, List.length_range]

theorem State.le_thermalReply_head {n off k : Nat} (hn : n < 48) (hoff : off + k ≤ 4) : le s.thermalReply (4 * n + off) k = le (s.headRecord n) off k := by
  rw [State.thermalReply, le_flatMap_record s.headRecord State.length_headRecord hoff _ _ (by simpa using hn), List.getElem_range]

theorem State.le_thermalReply_die {i off k : Nat} (hi : i < 6) (hoff : off + k ≤ 4) :
    le s.thermalReply (192 + 4 * i + off) k = le (s.dieRecord i) off k := by
  have hlen : ((List.range 48).flatMap s.headRecord).length = 192 := by
    rw [length_flatMap_record _ State.length_headRecord, List.length_range]
  have hdie := le_flatMap_record s.dieRecord State.length_dieRecord hoff (List.range 6) [] (i := i) (by simpa using hi)
  rw [List.append_nil] at hdie
  rw [State.thermalReply, le_append_right (by omega), hlen, show 192 + 4 * i + off - 192 = 4 * i + off by omega, hdie, List.getElem_range]

/-! ### The release of latches -/

/-- Nothing differs that SHUTDOWN_RELEASE leaves alone once the latches are clear: it applies levels to the channels. -/
structure State.SameButLevels (s t : State) : Prop where
  therm : t.therm = s.therm
  jobs : t.jobs = s.jobs
  axes : t.axes = s.axes

theorem State.SameButLevels.refl (s : State) : s.SameButLevels s := ⟨rfl, rfl, rfl⟩

theorem State.SameButLevels.trans {u : State} (h : s.SameButLevels t) (g : t.SameButLevels u) : s.SameButLevels u :=
  ⟨g.therm.trans h.therm, g.jobs.trans h.jobs, g.axes.trans h.axes⟩

theorem State.setApplied_levels (n l : Nat) : s.SameButLevels (s.setApplied n l) := by
  rw [State.setApplied]
  split
  · exact ⟨rfl, rfl, rfl⟩
  · exact ⟨rfl, rfl, rfl⟩

theorem State.applyTarget_levels (n : Nat) : s.SameButLevels (s.applyTarget n) := by
  simp only [State.applyTarget]
  split_ifs
  · exact ⟨rfl, rfl, rfl⟩
  · exact ⟨rfl, rfl, rfl⟩
  · exact State.setApplied_levels _ _
  · obtain ⟨htherm, hjobs, haxes⟩ := State.setApplied_levels (s := s.shotTaken) n (s.targetLevel n)
    exact ⟨htherm, hjobs, haxes⟩
  · exact ⟨rfl, rfl, rfl⟩

theorem State.levelPulse_levels (before : State) (ns : List Nat) : s.SameButLevels (s.levelPulse before ns) := by
  rw [State.levelPulse]
  split
  · exact ⟨State.raise_therm _ _, State.raise_jobs _ _, State.raise_axes _ _⟩
  · exact .refl _

theorem State.applyReleased_levels (before : State) : s.SameButLevels (s.applyReleased before) := by
  have hset : ∀ l : List Nat, s.SameButLevels (l.foldl (fun s n => s.setApplied n 7) s) := fun l =>
    foldl_rel State.SameButLevels.refl State.SameButLevels.trans (fun s n => State.setApplied_levels n 7) l s
  have htarget : ∀ (l : List Nat) (t : State), t.SameButLevels (l.foldl State.applyTarget t) := fun l t =>
    foldl_rel State.SameButLevels.refl State.SameButLevels.trans (fun s n => State.applyTarget_levels n) l t
  exact ((hset _).trans (htarget _ _)).trans (State.levelPulse_levels _ _)

/-- The latches of the heads that the mask selects, and of every die sensor, cleared. -/
def State.unlatched (s : State) (m : ChMask) : State :=
  let u := (maskChans m).foldl (fun s n => s.modHead n (fun y => { y with latched := false })) s
  { u with therm := { u.therm with dies := u.therm.dies.map (fun (y : SensorState) => { y with latched := false }) } }

/-- A change of every head sensor of a list, and of no other. -/
theorem State.foldl_modHead (f : SensorState → SensorState) (l : List Nat) (hnodup : l.Nodup) (hl : ∀ n, n ∈ l → n < 48) (s : State) :
    (l.foldl (fun s n => s.modHead n f) s).jobs = s.jobs ∧ (l.foldl (fun s n => s.modHead n f) s).axes = s.axes ∧
      ∀ m, (l.foldl (fun s n => s.modHead n f) s).headSensor m = if m ∈ l then f (s.headSensor m) else s.headSensor m := by
  induction l generalizing s with
  | nil => exact ⟨rfl, rfl, fun m => by simp⟩
  | cons n l ih =>
    obtain ⟨hnot, hnodup⟩ := List.nodup_cons.1 hnodup
    obtain ⟨hjobs, haxes, hsensor⟩ := ih hnodup (fun k hk => hl k (List.mem_cons_of_mem _ hk)) (s.modHead n f)
    refine ⟨hjobs, haxes, fun m => ?_⟩
    rw [List.foldl_cons, hsensor m]
    by_cases hm : m = n
    · subst hm
      rw [if_neg hnot, if_pos List.mem_cons_self, State.headSensor_modHead s m f (hl m List.mem_cons_self)]
    · rw [State.headSensor_modHead_ne s n m f (Ne.symm hm)]
      simp [hm]

theorem State.headSensor_unlatched (k : Nat) {n : Nat} (hn : n < 48) :
    ((s.unlatched (BitVec.ofNat 64 k)).headSensor n).latched = ((s.headSensor n).latched && !bit k n) := by
  obtain ⟨-, -, hsensor⟩ := State.foldl_modHead (fun y => { y with latched := false }) _ (nodup_maskChans (BitVec.ofNat 64 k))
    (fun _ => lt_of_mem_maskChans) s
  refine (congrArg SensorState.latched (hsensor n)).trans ?_
  simp only [mem_maskChans_ofNat, hn, true_and]
  cases bit k n <;> simp

theorem State.dieSensor_unlatched (m : ChMask) {i : Nat} (hi : i < 6) : ((s.unlatched m).dieSensor i).latched = false := by
  simp [State.unlatched, State.dieSensor, vget, hi]

/-- A latch that SHUTDOWN_RELEASE would clear and whose entry is not in the log yet. -/
def State.releaseWaits (s : State) (m : ChMask) : Bool := s.therm.logWait.any (fun x =>
  if x.1 < 48 then m.getLsbD x.1 && (s.headSensor x.1).latched else (s.dieSensor (x.1 - 48)).latched)

/-- A temperature above WARN refuses the release. -/
theorem State.opShutdownRelease_hot {n : Nat} (hn : n < 48) (hbit : bit (p.u 0 8) n = true)
    (hhot : ((s.headSensor n).warn : Rat) < (s.headSensor n).value) (src : Source) (seq : Nat) :
    s.opShutdownRelease p src seq = s.say p src stREFUSED_TEMPERATURE := by
  have hany : (maskChans (BitVec.ofNat 64 (p.u 0 8))).any (fun n => decide (((s.headSensor n).warn : Rat) < (s.headSensor n).value)) = true :=
    List.any_eq_true.2 ⟨n, mem_maskChans_ofNat.2 ⟨hn, hbit⟩, decide_eq_true hhot⟩
  simp only [State.opShutdownRelease, hany, Bool.true_or, if_true]

/-- With every temperature at or below WARN, the device's mode decides. -/
theorem State.opShutdownRelease_cool (hheads : ∀ n, n < 48 → bit (p.u 0 8) n = true → (s.headSensor n).value ≤ ((s.headSensor n).warn : Rat))
    (hdies : ∀ i, i < 6 → (s.dieSensor i).value < ((s.dieSensor i).warn : Rat)) (src : Source) (seq : Nat) :
    s.opShutdownRelease p src seq = if !s.otp.wires.compat then s.say p src stBAD_STATE
      else if s.releaseWaits (BitVec.ofNat 64 (p.u 0 8)) then s.say p src stBUSY
      else if !channelsOk (p.u 0 8) then s.say p src stBAD_PARAM
      else ((s.unlatched (BitVec.ofNat 64 (p.u 0 8))).applyReleased s).say p src stOK := by
  have hany : (maskChans (BitVec.ofNat 64 (p.u 0 8))).any (fun n => decide (((s.headSensor n).warn : Rat) < (s.headSensor n).value)) = false :=
    List.any_eq_false.2 fun n hn => by
      obtain ⟨hn, hbit⟩ := mem_maskChans_ofNat.1 hn
      exact decide_eq_true_iff.not.2 (not_lt.2 (hheads n hn hbit))
  have hdie : (List.range 6).any (fun i => decide (((s.dieSensor i).warn : Rat) ≤ (s.dieSensor i).value)) = false :=
    List.any_eq_false.2 fun i hi => decide_eq_true_iff.not.2 (not_le.2 (hdies i (List.mem_range.1 hi)))
  simp only [State.opShutdownRelease, hany, hdie, Bool.or_false, Bool.false_eq_true, if_false]
  rfl

/-- Settles O41: the limits wait with each sensor selected, the records of the reply, and the three answers to a release. -/
theorem thermalCommands : Obligations.ThermalCommands := by
  intro c s
  refine ⟨?_, fun h => ?_, fun h => ⟨fun n hn hbit hhot => ?_, fun hheads hdies => ⟨fun hcompat => ?_, fun hcompat hok hlogged => ?_⟩⟩⟩
  · intro h xs head w hsel hfree hwarn hthrottle hshutdown hlow hwt hts hhyst1 hhyst2 hzeros
    obtain ⟨hframe, hsensor⟩ := State.foldl_modSensor (fun y => { y with
      next := some (leS c.params 2 2, leS c.params 4 2, leS c.params 6 2, leS c.params 8 2) }) xs (nodup_selectSensors _ _) s.taken
    exact ⟨_, h.exec_thermalConfig.trans (congrArg _ (State.opThermalConfig_eq (s := s.taken) (p := packetOfCmd 0x0700 c) hsel hfree hwarn hthrottle
      hshutdown hlow hwt hts ⟨hhyst1, hhyst2⟩ hzeros .ring s.pe.seq)), hframe, hsensor⟩
  · refine ⟨s.thermalReply, h.exec_thermalStatus, State.length_thermalReply, fun n hn => ?_, fun i hi => ?_⟩
    · obtain ⟨hshown, hlevel, hsuspect, hwarning, hlatched⟩ := sensorBytes_fields (s.headSensor n) (s.chan n).applied (s.shutdownLatched n)
      rw [State.le_thermalReply_head hn (by decide), State.le_thermalReply_head hn (by decide)]
      exact ⟨(State.le_thermalReply_head (off := 0) hn (by decide)).trans hshown, hlevel, hsuspect, hwarning, hlatched⟩
    · obtain ⟨hshown, -, hsuspect, -, hlatched⟩ := sensorBytes_fields (s.dieSensor i) (s.dieSensor i).target (s.dieSensor i).latched
      rw [show 195 + 4 * i = 192 + 4 * i + 3 by omega, State.le_thermalReply_die hi (by decide)]
      exact ⟨(State.le_thermalReply_die (off := 0) hi (by decide)).trans hshown, hsuspect, hlatched⟩
  · exact h.exec_shutdownRelease.trans (congrArg _ (State.opShutdownRelease_hot (s := s.taken) (p := packetOfCmd 0x0702 c) hn hbit hhot .ring s.pe.seq))
  · refine h.exec_shutdownRelease.trans (congrArg _ ?_)
    rw [State.opShutdownRelease_cool (s := s.taken) (p := packetOfCmd 0x0702 c) hheads hdies .ring s.pe.seq]
    exact if_pos (by simp [State.taken, hcompat])
  · have hwaits : s.taken.releaseWaits (BitVec.ofNat 64 (le c.params 0 8)) = false := by
      refine List.any_eq_false.2 fun x hx => ?_
      have hx := hlogged x hx
      split at hx
      case isTrue hhead =>
        rw [if_pos hhead, getLsbD_ofNat_bit (by omega)]
        rcases hx with hbit | hlatch
        · simp [hbit]
        · simp [show (s.taken.headSensor x.1).latched = false from hlatch]
      case isFalse hdie =>
        rw [if_neg hdie]
        simp [show (s.taken.dieSensor (x.1 - 48)).latched = false from hx]
    have hrun : s.taken.opShutdownRelease (packetOfCmd 0x0702 c) .ring s.pe.seq = _ :=
      (State.opShutdownRelease_cool (s := s.taken) (p := packetOfCmd 0x0702 c) hheads hdies .ring s.pe.seq).trans
        ((if_neg (by simp [State.taken, hcompat])).trans ((if_neg (by rw [show (packetOfCmd 0x0702 c).u 0 8 = le c.params 0 8 from rfl, hwaits]; decide)).trans
          (if_neg (by rw [show (packetOfCmd 0x0702 c).u 0 8 = le c.params 0 8 from rfl, hok]; decide))))
    obtain ⟨htherm, hjobs, haxes⟩ := State.applyReleased_levels (s := s.taken.unlatched (BitVec.ofNat 64 (le c.params 0 8))) s.taken
    obtain ⟨hjobs', haxes', -⟩ := State.foldl_modHead (fun y => { y with latched := false }) _
      (nodup_maskChans (BitVec.ofNat 64 (le c.params 0 8))) (fun _ => lt_of_mem_maskChans) s.taken
    refine ⟨_, h.exec_shutdownRelease.trans (congrArg _ hrun), hjobs.trans hjobs', haxes.trans haxes', fun n hn => ?_, fun i hi => ?_⟩
    · rw [State.headSensor]
      refine (congrArg (fun x : Thermal => (vget x.heads n headDefault).latched) htherm).trans ?_
      exact State.headSensor_unlatched _ hn
    · refine (congrArg (fun x : Thermal => (vget x.dies i dieDefault).latched) htherm).trans ?_
      exact State.dieSensor_unlatched _ hi

end Sys2Proof.Machine
end

section
/-! SUPPORT. What the operations on jobs, lines and surveys leave alone: power, interlocks, encoders, axes and Kettle's queue. -/
namespace Sys2Proof.Machine
variable {s t : State}

/-- The parts that a job's operations do not touch. -/
def State.drive (s : State) : Power × Interlock × Vector Encoder 8 × Vector Axis 8 × List QPacket := (s.pwr, s.ilk, s.enc, s.axes, s.pe.queue)

/-- A part of the state that every step of a fold keeps. -/
theorem foldl_keeps {α β : Type} {f : State → α → State} {part : State → β} (h : ∀ s x, part (f s x) = part s) (l : List α) (s : State) :
    part (l.foldl f s) = part s := by
  induction l generalizing s with
  | nil => rfl
  | cons x l ih => exact (ih _).trans (h s x)

theorem State.foldl_modChan_drive (f : State → Nat → Chan → Chan) (l : List Nat) (s : State) :
    (l.foldl (fun s n => s.modChan n (f s n)) s).drive = s.drive :=
  foldl_keeps (f := fun s n => s.modChan n (f s n)) (part := State.drive) (fun _ _ => rfl) l s

theorem State.SameButSent.drive (h : s.SameButSent t) : t.drive = s.drive := by
  unfold State.SameButSent at h
  rw [h]
  rfl

theorem State.finishOps_drive (s : State) (sel : PendOp → Bool) (ans : PendOp → BitVec 16 × Bytes) : (s.finishOps sel ans).drive = s.drive := by
  unfold State.finishOps
  exact foldl_keeps (part := State.drive) (fun t p => (t.reply_sent _ _ _ _ _).drive) _ _

theorem State.raise_drive (s : State) (k : Nat) : (s.raise k).drive = s.drive := by
  simp [State.drive]

theorem State.addEntry_drive (s : State) (j : Nat) (e : Entry) : (s.addEntry j e).drive = s.drive := by
  have hdetect : ∀ real, (s.detect 25 real).2.drive = s.drive := fun real => (s.detect_sent 25 real).drive
  unfold State.addEntry
  split
  · rfl
  · split
    · extract_lets e' u
      split <;> rfl
    · extract_lets d rest u
      split
      · split
        · exact hdetect _
        · exact hdetect _
      · exact hdetect _

theorem State.writeHeader_drive (s : State) (j : Nat) : (s.writeHeader j).drive = s.drive := by
  rw [State.writeHeader_mem]
  rfl

theorem State.setApplied_drive (s : State) (n l : Nat) : (s.setApplied n l).drive = s.drive := by
  unfold State.setApplied
  extract_lets was u
  split <;> rfl

theorem State.settleRises_drive (s : State) (ns : List Nat) : (s.settleRises ns).drive = s.drive := by
  unfold State.settleRises
  extract_lets ms u
  have hu : u.drive = s.drive := foldl_keeps (part := State.drive) (fun t n => t.setApplied_drive n _) ms s
  split
  · exact (u.raise_drive _).trans hu
  · exact hu

theorem State.setJobState_drive (s : State) (j : Nat) (st : JobState) : (s.setJobState j st).drive = s.drive := by
  unfold State.setJobState
  extract_lets u
  have hu : u.drive = s.drive := State.writeHeader_drive _ j
  split
  · split
    · exact hu
    · exact (u.settleRises_drive _).trans hu
  · exact hu

theorem State.putBack_drive (s : State) (j : Job) (ns : List Nat) (f : Chan → Chan) : (s.putBack j ns f).drive = s.drive := by
  unfold State.putBack
  extract_lets u
  exact (State.foldl_modChan_drive (fun t n c => c.moveChanges (s.leadPack j n) (t.leadPack j n)) j.chans u).trans
    (State.foldl_modChan_drive (fun _ _ => f) ns s)

theorem State.answerStops_drive (s : State) (slot : Nat) : (s.answerStops slot).drive = s.drive := by
  unfold State.answerStops
  split
  · split
    · exact s.finishOps_drive _ _
    · rfl
  · rfl

theorem State.enterStopped_drive (s : State) (slot : Nat) : (s.enterStopped slot).drive = s.drive := by
  unfold State.enterStopped
  split
  · rfl
  · extract_lets v u w x
    calc ((x.answerStarts _).answerStops slot).drive = (x.answerStarts _).drive := State.answerStops_drive _ _
      _ = x.drive := State.finishOps_drive _ _ _
      _ = w.drive := State.setJobState_drive _ _ _
      _ = u.drive := rfl
      _ = s.drive := s.putBack_drive _ _ _

theorem State.failLate_drive (s : State) (slot : Nat) : (s.failLate slot).drive = s.drive := by
  unfold State.failLate
  split
  · rfl
  · exact (State.enterStopped_drive _ _).trans (s.addEntry_drive _ _)

theorem State.endSurvey_drive (s : State) (result : Nat) : (s.endSurvey result).drive = s.drive := by
  unfold State.endSurvey
  split
  · rfl
  · exact State.finishOps_drive _ _ _

theorem State.endSurveyIf_drive (s : State) (p : SurveyRun → Bool) (result : Nat) : (s.endSurveyIf p result).drive = s.drive := by
  unfold State.endSurveyIf
  split
  · split
    · exact s.endSurvey_drive _
    · rfl
  · rfl

theorem State.axisInterrupted_drive (s : State) (ax : Nat) (rereg : Bool) : (s.axisInterrupted ax rereg).drive = s.drive := by
  unfold State.axisInterrupted
  extract_lets u
  have hu : u.drive = s.drive := by
    change (match s.legJob ax rereg with | some j => s.failLate j | none => s).drive = s.drive
    split
    · exact s.failLate_drive _
    · rfl
  exact (u.endSurveyIf_drive _ _).trans hu

/-! ### The end of the lines -/

theorem State.lineDone_drive (s : State) (j n line : Nat) (k : LineEnd) : (s.lineDone j n line k).drive = s.drive := by
  unfold State.lineDone
  extract_lets told classed noted left
  have htold : told.drive = s.drive := by
    cases k
    · rfl
    · rfl
    · exact s.addEntry_drive _ _
    · exact s.addEntry_drive _ _
  have hleft : left.drive = noted.drive := by
    cases k <;> rfl
  calc (left.writeHeader j).drive = left.drive := left.writeHeader_drive j
    _ = noted.drive := hleft
    _ = told.drive := rfl
    _ = s.drive := htold

theorem State.cutLine_drive (s : State) (j n cause : Nat) : (s.cutLine j n cause).drive = s.drive := by
  unfold State.cutLine
  cases (s.chan n).inPeriod with
  | none => rfl
  | some p => exact State.lineDone_drive (s.modChan n Chan.cut) _ _ _ _

theorem State.nextPass_drive (s : State) (slot : Nat) : (s.nextPass slot).drive = s.drive := by
  unfold State.nextPass
  split
  · rfl
  · refine (State.writeHeader_drive _ slot).trans ?_
    exact State.foldl_modChan_drive (fun _ _ c =>
      { c with nextLine := 0, nextCompose := 0, fifo := [], packed := none, prepared := none, dueEarly := 0, gone := [], heldMiss := none }) _ _

theorem State.deviceEvent_drive (s : State) (code data : Nat) : (s.deviceEvent code data).drive = s.drive := by
  obtain ⟨tail, dropped, lost, hpe⟩ := s.event_engine false s.timebase code data
  have hsame : s.SameButEvents (s.deviceEvent code data) := s.event_same false s.timebase code data
  have hqueue : (s.deviceEvent code data).pe.queue = s.pe.queue := by
    rw [State.deviceEvent, hpe]
  unfold State.drive
  rw [hqueue]
  unfold State.SameButEvents at hsame
  rw [hsame]

theorem State.checkEnded_drive (s : State) (slot : Nat) : (s.checkEnded slot).drive = s.drive := by
  unfold State.checkEnded
  split
  · rfl
  · extract_lets overs
    split
    · split
      · exact (State.answerStops_drive _ _).trans ((State.deviceEvent_drive _ _ _).trans (s.setJobState_drive _ _))
      · exact s.nextPass_drive _
    · rfl

end Sys2Proof.Machine
end

section
/-! SUPPORT. The motion opcodes (02 R76, 03 R115, 07 R235, R238, R241-R249, R252, R260). -/
namespace Sys2Proof.Machine
variable {s t u : State} {c : Cmd} {p : Packet}

theorem State.KettleTakes.exec_axisConfig (h : s.KettleTakes 0x0400 c) :
    exec (.axisConfig c) s = .next (s.taken.opAxisConfig (packetOfCmd 0x0400 c) .ring s.pe.seq) :=
  h.runs (f := fun t => t.opAxisConfig (packetOfCmd 0x0400 c) .ring s.pe.seq) (by decide) (by simp [Packet.hardware, packetOfCmd])
    fun t hlife => by simp [State.runKettle, hlife, packetOfCmd]

theorem State.KettleTakes.exec_moveAbs (h : s.KettleTakes 0x0401 c) :
    exec (.moveAbs c) s = .next (s.taken.opMoveAbs (packetOfCmd 0x0401 c) .ring s.pe.seq) :=
  h.runs (f := fun t => t.opMoveAbs (packetOfCmd 0x0401 c) .ring s.pe.seq) (by decide) (by simp [Packet.hardware, packetOfCmd])
    fun t hlife => by simp [State.runKettle, hlife, packetOfCmd]

theorem State.KettleTakes.exec_moveVel (h : s.KettleTakes 0x0402 c) :
    exec (.moveVel c) s = .next (s.taken.opMoveVel (packetOfCmd 0x0402 c) .ring s.pe.seq) :=
  h.runs (f := fun t => t.opMoveVel (packetOfCmd 0x0402 c) .ring s.pe.seq) (by decide) (by simp [Packet.hardware, packetOfCmd])
    fun t hlife => by simp [State.runKettle, hlife, packetOfCmd]

theorem State.KettleTakes.exec_axisStop (h : s.KettleTakes 0x0403 c) :
    exec (.axisStop c) s = .next (s.taken.opAxisStop (packetOfCmd 0x0403 c) .ring s.pe.seq) :=
  h.runs (f := fun t => t.opAxisStop (packetOfCmd 0x0403 c) .ring s.pe.seq) (by decide) (by simp [Packet.hardware, packetOfCmd])
    fun t hlife => by simp [State.runKettle, hlife, packetOfCmd]

theorem State.KettleTakes.exec_axisResume (h : s.KettleTakes 0x0404 c) :
    exec (.axisResume c) s = .next (s.taken.opAxisResume (packetOfCmd 0x0404 c) .ring s.pe.seq) :=
  h.runs (f := fun t => t.opAxisResume (packetOfCmd 0x0404 c) .ring s.pe.seq) (by decide) (by simp [Packet.hardware, packetOfCmd])
    fun t hlife => by simp [State.runKettle, hlife, packetOfCmd]

theorem State.KettleTakes.exec_home (h : s.KettleTakes 0x0405 c) :
    exec (.home c) s = .next (s.taken.opHome (packetOfCmd 0x0405 c) .ring s.pe.seq) :=
  h.runs (f := fun t => t.opHome (packetOfCmd 0x0405 c) .ring s.pe.seq) (by decide) (by simp [Packet.hardware, packetOfCmd])
    fun t hlife => by simp [State.runKettle, hlife, packetOfCmd]

theorem State.KettleTakes.exec_kinematicsSet (h : s.KettleTakes 0x0406 c) :
    exec (.kinematicsSet c) s = .next (s.taken.opKinematicsSet (packetOfCmd 0x0406 c) .ring s.pe.seq) :=
  h.runs (f := fun t => t.opKinematicsSet (packetOfCmd 0x0406 c) .ring s.pe.seq) (by decide) (by simp [Packet.hardware, packetOfCmd])
    fun t hlife => by simp [State.runKettle, hlife, packetOfCmd]

theorem State.KettleTakes.exec_axisStatus (h : s.KettleTakes 0x0407 c) :
    exec (.axisStatus c) s = .next (s.taken.opAxisStatus (packetOfCmd 0x0407 c) .ring s.pe.seq) :=
  h.runs (f := fun t => t.opAxisStatus (packetOfCmd 0x0407 c) .ring s.pe.seq) (by decide) (by simp [Packet.hardware, packetOfCmd])
    fun t hlife => by simp [State.runKettle, hlife, packetOfCmd]

/-! ### Operations under way -/

theorem State.SameButSent.ops (h : s.SameButSent t) : t.pe.ops = s.pe.ops := by
  unfold State.SameButSent at h
  rw [h]

theorem State.KettleTakes.noneWaits {op : BitVec 16} (h : s.KettleTakes op c) : s.pe.kettleWait = [] := by
  obtain ⟨hfree, -⟩ := h
  simp only [State.kettleFree, Bool.and_eq_true, decide_eq_true_eq] at hfree
  exact hfree.1.2

/-- An operation that Kettle starts stands at the end of those under way, and nothing else changes but the replies. -/
theorem State.KettleTakes.starts {op : BitVec 16} (h : s.KettleTakes op c) (pending : Bool) (k : OpKind) :
    s.SameButReplies (s.taken.startOp pending k (packetOfCmd op c) .ring s.pe.seq) ∧
      (s.taken.startOp pending k (packetOfCmd op c) .ring s.pe.seq).pe.ops =
        s.pe.ops ++ [{ kind := k, pkt := packetOfCmd op c, src := .ring, seq := s.pe.seq }] := by
  have hpending : s.SameButReplies (s.taken.reply true (packetOfCmd op c) .ring stPENDING []) := by
    refine State.SameButReplies.trans (t := s.taken) rfl (State.reply_same _ _ _ _ fun r hr => ?_)
    exact absurd (show r ∈ s.pe.kettleWait from hr) (by simp [h.noneWaits])
  have hops : (s.taken.reply true (packetOfCmd op c) .ring stPENDING []).pe.ops = s.pe.ops :=
    (s.taken.reply_sent true (packetOfCmd op c) .ring stPENDING []).ops
  cases pending with
  | false => exact ⟨rfl, rfl⟩
  | true => exact ⟨hpending.trans rfl, congrArg (· ++ _) hops⟩

/-- A change of one axis after an operation started. -/
theorem State.SameButReplies.modAxis (h : s.SameButReplies u) {n : Nat} (hn : n < 8) (f : Axis → Axis) :
    u.modAxis n f = { s with pe := (u.modAxis n f).pe, host := (u.modAxis n f).host, axes := (u.modAxis n f).axes } ∧
      (u.modAxis n f).axis n = f (s.axis n) ∧ ∀ k, k ≠ n → (u.modAxis n f).axis k = s.axis k := by
  unfold State.SameButReplies at h
  have haxes : u.axes = s.axes := by rw [h]
  have haxis : ∀ k, u.axis k = s.axis k := fun k => congrArg (fun v : Vector Axis 8 => vget v k {}) haxes
  refine ⟨?_, (State.axis_modAxis u n f hn).trans (congrArg f (haxis n)), fun k hk => (State.axis_modAxis_ne u n k f (Ne.symm hk)).trans (haxis k)⟩
  exact congrArg (fun v : State => { v with axes := (u.modAxis n f).axes }) h

theorem State.finishOps_sent (s : State) (sel : PendOp → Bool) (ans : PendOp → BitVec 16 × Bytes) :
    ({ s with pe := { s.pe with ops := s.pe.ops.filter (fun p => !sel p) } } : State).SameButSent (s.finishOps sel ans) := by
  unfold State.finishOps
  exact foldl_rel State.SameButSent.refl State.SameButSent.trans (fun t p => t.reply_sent _ _ _ _ _) _ _

/-- The operations that are not finished. -/
theorem State.mem_finishOps {sel : PendOp → Bool} {ans : PendOp → BitVec 16 × Bytes} {o : PendOp} :
    o ∈ (s.finishOps sel ans).pe.ops ↔ o ∈ s.pe.ops ∧ sel o = false := by
  rw [(s.finishOps_sent sel ans).ops]
  simp

theorem State.axisStood_drive (s : State) (n : Nat) : (s.axisStood n).drive = s.drive :=
  (State.finishOps_drive _ _ _).trans ((State.finishOps_drive _ _ _).trans (s.finishOps_drive _ _))

/-- A move of an axis that stands is finished. -/
theorem State.axisStood_ops {n : Nat} {o : PendOp} (ho : o ∈ (s.axisStood n).pe.ops) : o.kind ≠ .moveAbs n := by
  obtain ⟨ho, -⟩ := State.mem_finishOps.1 ho
  obtain ⟨ho, -⟩ := State.mem_finishOps.1 ho
  obtain ⟨o', ho', rfl⟩ := List.mem_map.1 ho
  obtain ⟨-, hsel⟩ := State.mem_finishOps.1 ho'
  split
  · nofun
  · intro hkind
    simp [hkind] at hsel

end Sys2Proof.Machine
end

section
/-! SUPPORT. What each motion opcode does to its axes (07 R238-R252). -/
namespace Sys2Proof.Machine
variable {s t u : State} {c : Cmd} {p : Packet} {a : Axis}

/-! ### Plans -/

@[simp] theorem Axis.plan_state (m : Move) (final : Bool) : (a.plan m final).state = a.state := by
  unfold Axis.plan; split <;> rfl
@[simp] theorem Axis.plan_commanded (m : Move) (final : Bool) : (a.plan m final).commanded = a.commanded := by
  unfold Axis.plan; split <;> rfl
@[simp] theorem Axis.plan_speed (m : Move) (final : Bool) : (a.plan m final).speed = a.speed := by
  unfold Axis.plan; split <;> rfl
@[simp] theorem Axis.plan_nextA (m : Move) (final : Bool) : (a.plan m final).nextA = a.nextA := by
  unfold Axis.plan; split <;> rfl
@[simp] theorem Axis.plan_move (m : Move) (final : Bool) : (a.plan m final).move = a.move := by
  unfold Axis.plan; split <;> rfl

/-- An axis with a move taken and planned, at most as fast as its job's capacity allows. -/
def Axis.planned (a : Axis) (m : Move) (lim : Option Rat) : Axis := { (a.accept m) with vLim := lim }.plan m false

theorem Axis.planned_fields (a : Axis) (m : Move) (lim : Option Rat) : (a.planned m lim).state = .moving ∧ (a.planned m lim).commanded = a.commanded ∧
    (a.planned m lim).speed = a.speed ∧ (a.planned m lim).nextA = none ∧ (a.planned m lim).move = some m :=
  ⟨Axis.plan_state _ _, Axis.plan_commanded _ _, Axis.plan_speed _ _, Axis.plan_nextA _ _, Axis.plan_move _ _⟩

/-- An axis that a move starts. -/
def Axis.running (a : Axis) (m : Move) (lim : Option Rat) : Axis := { a.planned m lim with state := .moving }

/-- An axis that a move finds at its target. -/
def Axis.arrived (a : Axis) (m : Move) : Axis := { (a.accept m) with state := .idle }

/-! ### Starts -/

/-- MOVE_ABS of an axis that may run to the target. -/
theorem State.opMoveAbs_eq {n : Nat} {target : Int} (hp : p.u 0 1 = n) (ht : p.i 4 8 = target) (htrip : s.tripped = false) (hn : n < 8)
    (hconf : (s.axis n).configured = true) (hmode : (s.axis n).mode ≠ 2) (hstand : (s.axis n).standing = true)
    (hlim : (s.axis n).towardsLimit (target * 65536 - (s.axis n).commanded) = false) (hprof : p.u 1 1 ≤ 1)
    (hzeros : zeros p.params 2 2 = true) (hv : 0 < p.u 12 4) (hvMax : p.u 12 4 ≤ (s.axis n).vMax) (ha : 0 < p.u 16 4)
    (haMax : p.u 16 4 ≤ (s.axis n).aMax) (src : Source) (seq : Nat) {m : Move}
    (hm : m = (s.axis n).nextMove { goal := .abs target, prof := p.u 1 1, v := p.u 12 4, a := p.u 16 4, j := (s.axis n).jMax }) :
    s.opMoveAbs p src seq = if target * 65536 - (s.axis n).commanded = 0 then
        (((s.startOp true (.moveAbs n) p src seq).modAxis n (fun a => a.arrived m)).raise (0x28 + n)).axisStood n
      else (s.startOp true (.moveAbs n) p src seq).modAxis n (fun a => a.running m (s.feedLimit n)) := by
  subst hp ht hm
  have hrange : (1 < p.u 1 1 || !zeros p.params 2 2 || p.u 12 4 = 0 || (s.axis (p.u 0 1)).vMax < p.u 12 4 || p.u 16 4 = 0 ||
      (s.axis (p.u 0 1)).aMax < p.u 16 4) = false := by
    rw [hzeros]
    simp only [Bool.or_eq_false_iff, decide_eq_false_iff_not, Bool.not_true, and_true]
    omega
  have hstate : (!(s.axis (p.u 0 1)).configured || (s.axis (p.u 0 1)).mode = 2 ||
      (s.axis (p.u 0 1)).towardsLimit (p.i 4 8 * 65536 - (s.axis (p.u 0 1)).commanded)) = false := by
    simp [hconf, hmode, hlim]
  simp only [State.opMoveAbs, htrip, hstate, hrange, hstand, if_neg (show ¬ 8 ≤ p.u 0 1 by omega), Bool.not_true, Bool.false_eq_true, if_false]
  rfl

/-- MOVE_VEL of an axis that may run that way. -/
theorem State.opMoveVel_eq {n : Nat} {v : Int} (hp : p.u 0 1 = n) (hv : p.i 4 4 = v) (htrip : s.tripped = false) (hn : n < 8)
    (hconf : (s.axis n).configured = true) (hmode : (s.axis n).mode ≠ 2) (hstand : (s.axis n).standing = true)
    (hlim : (s.axis n).towardsLimit v = false) (hprof : p.u 1 1 ≤ 1) (hzeros : zeros p.params 2 2 = true)
    (hvMax : v.natAbs ≤ (s.axis n).vMax) (ha : 0 < p.u 8 4) (haMax : p.u 8 4 ≤ (s.axis n).aMax) (src : Source) (seq : Nat) {m : Move}
    (hm : m = (s.axis n).nextMove { goal := .vel v, prof := p.u 1 1, v := v.natAbs, a := p.u 8 4, j := (s.axis n).jMax }) :
    s.opMoveVel p src seq = (s.startOp false (.moveVel n) p src seq).modAxis n (fun a => a.planned m (s.feedLimit n)) := by
  subst hp hv hm
  have hrange : (1 < p.u 1 1 || !zeros p.params 2 2 || (s.axis (p.u 0 1)).vMax < (p.i 4 4).natAbs || p.u 8 4 = 0 ||
      (s.axis (p.u 0 1)).aMax < p.u 8 4) = false := by
    rw [hzeros]
    simp only [Bool.or_eq_false_iff, decide_eq_false_iff_not, Bool.not_true, and_true]
    omega
  have hstate : (!(s.axis (p.u 0 1)).configured || (s.axis (p.u 0 1)).mode = 2 || (s.axis (p.u 0 1)).towardsLimit (p.i 4 4)) = false := by
    simp [hconf, hmode, hlim]
  simp only [State.opMoveVel, htrip, hstate, hrange, hstand, if_neg (show ¬ 8 ≤ p.u 0 1 by omega), Bool.not_true, Bool.false_eq_true, if_false]
  rfl

/-- The homing that HOME starts. -/
def homeRunOf (p : Packet) (a : Axis) : HomeRun :=
  { dir := p.u 1 1, qual := p.u 2 1, chatter := p.u 3 1, windowUs := p.u 4 4, vFast := p.u 8 4, vSlow := p.u 12 4,
    backoff := p.i 16 8, phase := 1, mark := a.pos, index := 0, result := 4 }

/-- An axis whose homing starts. -/
def Axis.startHoming (a : Axis) (h : HomeRun) : Axis :=
  { ({ a with move := none, fault := 0, remaining := 0, homing := some h, state := .homing, stopA := 0 }.homeVel (h.sign * h.vFast)) with
    state := .homing }

/-- HOME of an axis that may be homed. -/
theorem State.opHome_eq {n : Nat} (hp : p.u 0 1 = n) (htrip : s.tripped = false) (hn : n < 8) (hlate : s.lateFeed n = false)
    (hconf : (s.axis n).configured = true) (hmode : (s.axis n).mode ≠ 2) (hjob : s.axisInJob n = false) (hstand : (s.axis n).standing = true)
    (hdir : p.u 1 1 ≤ 1) (hqual : 0 < p.u 2 1) (hchatter : 0 < p.u 3 1) (hwindow : 0 < p.u 4 4)
    (hfast : 0 < p.u 8 4 ∧ p.u 8 4 ≤ (s.axis n).vMax) (hslow : 0 < p.u 12 4 ∧ p.u 12 4 ≤ (s.axis n).vMax) (hback : 0 < p.i 16 8)
    (src : Source) (seq : Nat) :
    s.opHome p src seq = (s.startOp true (.home n) p src seq).modAxis n (fun a => a.startHoming (homeRunOf p (s.axis n))) := by
  subst hp
  have hrange : (1 < p.u 1 1 || p.u 2 1 = 0 || p.u 3 1 = 0 || p.u 4 4 = 0 || p.u 8 4 = 0 || (s.axis (p.u 0 1)).vMax < p.u 8 4 ||
      p.u 12 4 = 0 || (s.axis (p.u 0 1)).vMax < p.u 12 4 || decide (p.i 16 8 ≤ 0)) = false := by
    simp only [Bool.or_eq_false_iff, decide_eq_false_iff_not]
    omega
  have hstate : (!(s.axis (p.u 0 1)).configured || (s.axis (p.u 0 1)).mode = 2 || s.axisInJob (p.u 0 1)) = false := by
    simp [hconf, hmode, hjob]
  simp only [State.opHome, htrip, hstate, hrange, hstand, hlate, if_neg (show ¬ 8 ≤ p.u 0 1 by omega), Bool.not_true, Bool.false_eq_true, if_false]
  rfl

/-! ### The configuration -/

/-- AXIS_CONFIG of an axis that stands and that no job has. -/
theorem State.opAxisConfig_eq {n : Nat} (hp : p.u 0 1 = n) (hn : n < 8) (hlate : s.lateFeed n = false) (hjob : s.axisInJob n = false)
    (hstand : (s.axis n).standing = true) (hmode : p.u 1 1 ≤ 2) (hpol : p.u 2 2 ≤ 7) (hv : 0 < p.u 8 4 ∧ p.u 8 4 ≤ 2147483647)
    (hstep : p.u 1 1 ≠ 2 → p.u 8 4 ≤ 256000000) (ha : 0 < p.u 12 4) (hj : 0 < p.u 16 4) (src : Source) (seq : Nat) :
    s.opAxisConfig p src seq = (s.modAxis n (fun x => { x with
      configured := true, mode := p.u 1 1, polarity := BitVec.ofNat 3 (p.u 2 2), window := p.u 4 4, vMax := p.u 8 4,
      aMax := p.u 12 4, jMax := p.u 16 4, state := .idle, fault := 0, move := none, saved := none, last := none, remaining := 0,
      segs := [], landing := none, nextA := none, en := decide (p.u 1 1 ≠ 2) && !s.pwr.blockHeld.getLsbD (12 + n / 4),
      limNeg := (x.limNeg != (x.polarity.getLsbD 1 != decide (p.u 2 2 / 2 % 2 = 1))),
      limPos := (x.limPos != (x.polarity.getLsbD 1 != decide (p.u 2 2 / 2 % 2 = 1))) })).say p src stOK := by
  subst hp
  have hrange : (2 < p.u 1 1 || 7 < p.u 2 2 || p.u 8 4 = 0 || 2147483647 < p.u 8 4 || (p.u 1 1 ≠ 2 && decide (256000000 < p.u 8 4)) ||
      p.u 12 4 = 0 || p.u 16 4 = 0) = false := by
    simp only [Bool.or_eq_false_iff, Bool.and_eq_false_iff, decide_eq_false_iff_not, not_not]
    omega
  simp only [State.opAxisConfig, hlate, hjob, hstand, hrange, if_neg (show ¬ 8 ≤ p.u 0 1 by omega), Bool.not_true, Bool.false_eq_true, if_false]
  rfl

/-! ### Stops and resumes of several axes -/

/-- What a fold over axes does to each, where a step changes only its own axis. -/
theorem foldl_axis {F : State → Nat → State} {R : Nat → Axis → Axis → Prop} (hother : ∀ s n k, k ≠ n → (F s n).axis k = s.axis k)
    (hself : ∀ s n, n < 8 → R n (s.axis n) ((F s n).axis n)) (l : List Nat) (hnodup : l.Nodup) (hl : ∀ n, n ∈ l → n < 8) (s : State) (k : Nat) :
    (k ∉ l → (l.foldl F s).axis k = s.axis k) ∧ (k ∈ l → R k (s.axis k) ((l.foldl F s).axis k)) := by
  induction l generalizing s with
  | nil => exact ⟨fun _ => rfl, fun h => absurd h List.not_mem_nil⟩
  | cons n l ih =>
    obtain ⟨hnot, hnodup⟩ := List.nodup_cons.1 hnodup
    obtain ⟨hout, hin⟩ := ih hnodup (fun m hm => hl m (List.mem_cons_of_mem _ hm)) (F s n)
    by_cases hk : k = n
    · subst hk
      refine ⟨fun h => absurd List.mem_cons_self h, fun _ => ?_⟩
      rw [List.foldl_cons, hout hnot]
      exact hself s k (hl k List.mem_cons_self)
    · rw [List.foldl_cons, List.mem_cons, or_iff_right hk]
      rw [hother s n k hk] at hout hin
      exact ⟨hout, hin⟩

theorem Axis.stop_standing (h : a.standing = true) (acc jerk fault : Nat) : a.stop acc jerk fault = a := by
  simp [Axis.stop, h]

theorem Axis.stop_moving (h : a.state = .moving) (acc jerk fault : Nat) :
    (a.stop acc jerk fault).state = .stopping ∧ (a.stop acc jerk fault).commanded = a.commanded := by
  have hstand : a.standing = false := by simp [Axis.standing, h]
  simp only [Axis.stop, hstand, h, Bool.false_eq_true, if_false]
  split <;> exact ⟨trivial, rfl⟩

theorem State.axis_of_drive (h : t.drive = s.drive) (k : Nat) : t.axis k = s.axis k :=
  congrArg (fun d : Power × Interlock × Vector Encoder 8 × Vector Axis 8 × List QPacket => vget d.2.2.2.1 k {}) h

/-- Power, interlocks, encoders: what stops of axes leave alone. -/
def State.senses (s : State) : Power × Interlock × Vector Encoder 8 := (s.pwr, s.ilk, s.enc)

theorem State.senses_of_drive (h : t.drive = s.drive) : t.senses = s.senses :=
  congrArg (fun d : Power × Interlock × Vector Encoder 8 × Vector Axis 8 × List QPacket => (d.1, d.2.1, d.2.2.1)) h

/-- A stop of one axis. -/
theorem State.stopRequest_eq (n acc jerk fault : Nat) :
    (s.stopRequest n acc jerk fault).drive = (s.modAxis n (fun a => a.stop acc jerk fault)).drive := by
  unfold State.stopRequest
  extract_lets a v
  split
  · rfl
  · exact v.axisInterrupted_drive _ _

theorem State.stopByFabric_eq (n : Nat) : ∃ acc jerk, (s.stopByFabric n).drive = (s.modAxis n (fun a => a.stop acc jerk 0)).drive := by
  unfold State.stopByFabric
  split
  · exact ⟨_, _, State.stopRequest_eq _ _ _ _⟩
  · exact ⟨_, _, State.stopRequest_eq _ _ _ _⟩

/-- AXIS_STOP of one axis, if the mask has it. -/
def State.stopSelected (mode : Nat) (m : BitVec 8) (s : State) (n : Nat) : State :=
  if m.getLsbD n then (if mode = 1 then s.stopRequest n (s.axis n).aMax (s.axis n).jMax 0 else s.stopByFabric n) else s

/-- An axis that the mask selects has been told to stop. -/
def Stopped (m : BitVec 8) (n : Nat) (a b : Axis) : Prop :=
  if m.getLsbD n then ∃ acc jerk, b = a.stop acc jerk 0 else b = a

theorem State.stopSelected_eq (mode : Nat) (m : BitVec 8) (n : Nat) :
    (∃ acc jerk, m.getLsbD n = true ∧ (s.stopSelected mode m n).drive = (s.modAxis n (fun a => a.stop acc jerk 0)).drive) ∨
      m.getLsbD n = false ∧ s.stopSelected mode m n = s := by
  unfold State.stopSelected
  cases hbit : m.getLsbD n with
  | false => exact .inr ⟨rfl, rfl⟩
  | true =>
    rw [if_pos rfl]
    split
    · exact .inl ⟨_, _, rfl, State.stopRequest_eq _ _ _ _⟩
    · obtain ⟨acc, jerk, h⟩ := State.stopByFabric_eq (s := s) n
      exact .inl ⟨acc, jerk, rfl, h⟩

theorem State.foldl_stopSelected (mode : Nat) (m : BitVec 8) (s : State) :
    ((List.range 8).foldl (State.stopSelected mode m) s).senses = s.senses ∧
      ∀ k, k < 8 → Stopped m k (s.axis k) (((List.range 8).foldl (State.stopSelected mode m) s).axis k) := by
  refine ⟨foldl_keeps (part := State.senses) (fun s n => ?_) _ s, fun k hk => ?_⟩
  · rcases State.stopSelected_eq (s := s) mode m n with ⟨acc, jerk, -, h⟩ | ⟨-, h⟩
    · exact (State.senses_of_drive h).trans rfl
    · rw [h]
  · refine (foldl_axis (R := Stopped m) (fun s n k hk => ?_) (fun s n hn => ?_) (List.range 8) List.nodup_range
      (fun n hn => List.mem_range.1 hn) s k).2 (List.mem_range.2 hk)
    · rcases State.stopSelected_eq (s := s) mode m n with ⟨acc, jerk, -, h⟩ | ⟨-, h⟩
      · exact (State.axis_of_drive h k).trans (State.axis_modAxis_ne s n k _ (Ne.symm hk))
      · rw [h]
    · unfold Stopped
      rcases State.stopSelected_eq (s := s) mode m n with ⟨acc, jerk, hbit, h⟩ | ⟨hbit, h⟩
      · rw [if_pos hbit]
        exact ⟨acc, jerk, (State.axis_of_drive h n).trans (State.axis_modAxis s n _ hn)⟩
      · rw [hbit, h]
        rfl

/-- AXIS_STOP with its fields in range. -/
theorem State.opAxisStop_eq (hmode : p.u 1 1 ≤ 1) (hzeros : zeros p.params 2 2 = true) (src : Source) (seq : Nat) :
    s.opAxisStop p src seq = ((List.range 8).foldl (State.stopSelected (p.u 1 1) (BitVec.ofNat 8 (p.u 0 1)))
      (s.startOp true (.axisStop (BitVec.ofNat 8 (p.u 0 1))) p src seq)).answerAxisStops := by
  have hrange : (1 < p.u 1 1 || !zeros p.params 2 2) = false := by
    rw [hzeros, decide_eq_false (by omega)]
    rfl
  simp only [State.opAxisStop, hrange, Bool.false_eq_true, if_false]
  rfl

/-- An axis whose retained move goes on. -/
def Axis.resumed (a : Axis) (lim : Option Rat) : Axis :=
  match a.move with
  | some mv => a.running (a.nextMove mv) lim
  | none => a

/-- AXIS_RESUME of one axis. -/
def State.resumeAxis (s : State) (n : Nat) : State := s.modAxis n (fun a => a.resumed (s.feedLimit n))

/-- The axes that AXIS_RESUME names. -/
def resumeSelection (k : Nat) : List Nat := (List.range 8).filter (fun n => (BitVec.ofNat 8 k).getLsbD n)

theorem mem_resumeSelection {k n : Nat} : n ∈ resumeSelection k ↔ n < 8 ∧ bit k n = true := by
  rw [resumeSelection, List.mem_filter, List.mem_range]
  exact and_congr_right fun hn => by rw [getLsbD_ofNat_bit hn]

/-- AXIS_RESUME of axes that may go on. -/
theorem State.opAxisResume_eq (htrip : s.tripped = false) (hzeros : zeros p.params 1 3 = true)
    (haxes : ∀ k, k < 8 → bit (p.u 0 1) k = true → s.lateFeed k = false ∧ (s.axis k).configured = true ∧ (s.axis k).mode ≠ 2 ∧
      (s.axis k).resumable = true ∧ (s.axis k).towardsLimit (s.axis k).remainingDir = false) (src : Source) (seq : Nat) :
    s.opAxisResume p src seq = ((resumeSelection (p.u 0 1)).foldl State.resumeAxis
      (s.startOp true (.axisResume (BitVec.ofNat 8 (p.u 0 1))) p src seq)).finishOps
        (fun q => match q.kind with | .axisResume k => k = 0 | _ => false) (fun _ => (stOK, [])) := by
  have hlate : (resumeSelection (p.u 0 1)).any (fun n => s.lateFeed n) = false := List.any_eq_false.2 fun n hn => by
    obtain ⟨hn, hbit⟩ := mem_resumeSelection.1 hn
    obtain ⟨hlate, -⟩ := haxes n hn hbit
    simp [hlate]
  have hstate : (resumeSelection (p.u 0 1)).any (fun n => !(s.axis n).configured || (s.axis n).mode = 2 || !(s.axis n).resumable ||
      (s.axis n).towardsLimit (s.axis n).remainingDir) = false := List.any_eq_false.2 fun n hn => by
    obtain ⟨hn, hbit⟩ := mem_resumeSelection.1 hn
    obtain ⟨-, hconf, hmode, hres, hlim⟩ := haxes n hn hbit
    simp [hconf, hmode, hres, hlim]
  unfold resumeSelection at hlate hstate
  simp only [State.opAxisResume, htrip, hlate, hstate, hzeros, Bool.not_true, Bool.false_eq_true, if_false]
  rfl

/-! ### New values for a move -/

/-- The goal of a move with a new V. -/
def Goal.withV (g : Goal) (v : Nat) : Goal :=
  match g with
  | .vel q => if v = 0 then .vel q else .vel (if q < 0 then -(v : Rat) else v)
  | g => g

/-- A move with the new values of KINEMATICS_SET, where 0 keeps the old one. -/
def Move.withValues (m : Move) (v acc j : Nat) : Move :=
  { goal := m.goal.withV v, prof := m.prof, v := (if v = 0 then m.v else v), a := (if acc = 0 then m.a else acc), j := (if j = 0 then m.j else j) }

/-- A stop from the present speed fits in the distance left to a target. -/
def Axis.stopsWithin (a : Axis) (m : Move) (target : Int) (acc j : Nat) : Bool :=
  decide (changeDistance (rabs a.speed) 0 (changeUpdates m.prof (rabs a.speed) acc j) ≤
    rabs (((target * 65536 - a.commanded : Int) : Rat) / 65536))

theorem State.modAxis_congr {n : Nat} {f g : Axis → Axis} (h : f (s.axis n) = g (s.axis n)) : s.modAxis n f = s.modAxis n g := by
  rw [State.modAxis, State.modAxis, h]

/-- A change of one axis and nothing else. -/
theorem State.modAxis_frame {n : Nat} (f : Axis → Axis) (hn : n < 8) : s.modAxis n f = { s with axes := (s.modAxis n f).axes } ∧
    (∀ k, k < 8 → k ≠ n → (s.modAxis n f).axis k = s.axis k) ∧ (s.modAxis n f).axis n = f (s.axis n) :=
  ⟨rfl, fun k _ hk => State.axis_modAxis_ne s n k f (Ne.symm hk), State.axis_modAxis s n f hn⟩

theorem Axis.setMove_none (h : a.leg = .none) (m : Move) (v : Nat) : a.setMove m v = { a with move := some m, last := some m } := by
  unfold Axis.setMove
  split
  · rfl
  · simp_all
  · simp_all

theorem Axis.planAgain_none (h : a.leg = .none) (m : Move) : a.planAgain m = a.plan m a.inFinal := by
  simp only [Axis.planAgain, h]

/-- A move with its new values, where its leg is the move's own. -/
theorem Axis.setMove_planAgain_none (h : a.leg = .none) (m : Move) (v : Nat) :
    (a.setMove m v).planAgain m = { a with move := some m, last := some m }.plan m a.inFinal := by
  rw [Axis.setMove_none h]
  exact Axis.planAgain_none (by exact h) m

/-- A move whose new values may be planned again, where its leg is the move's own. -/
theorem Axis.setMove_maybe_planAgain (h : a.leg = .none) (m : Move) (v : Nat) (again : Bool) {b : Axis}
    (hb : b = if again = true then (a.setMove m v).planAgain m else a.setMove m v) :
    b.nextA = a.nextA ∧ b.move = some m ∧ b.commanded = a.commanded := by
  rw [hb]
  split
  · rw [Axis.setMove_planAgain_none h]
    exact ⟨Axis.plan_nextA _ _, Axis.plan_move _ _, Axis.plan_commanded _ _⟩
  · rw [Axis.setMove_none h]
    exact ⟨rfl, rfl, rfl⟩

theorem State.opKinematicsSet_idle {n : Nat} (hp : p.u 0 1 = n) (hn : n < 8) (hlate : s.lateFeed n = false) (hconf : (s.axis n).configured = true)
    (hmode : (s.axis n).mode ≠ 2) (hidle : (s.axis n).state = .idle) (src : Source) (seq : Nat) :
    s.opKinematicsSet p src seq = s.say p src stBAD_STATE := by
  subst hp
  have hstate : (!(s.axis (p.u 0 1)).configured || (s.axis (p.u 0 1)).mode = 2) = false := by simp [hconf, hmode]
  simp only [State.opKinematicsSet, hlate, hstate, hidle, if_neg (show ¬ 8 ≤ p.u 0 1 by omega), Bool.false_eq_true, if_false]

/-- KINEMATICS_SET of a retained or a running move outside a data-late sequence, by what the axis does. -/
theorem State.opKinematicsSet_eq {n : Nat} {m : Move} (hp : p.u 0 1 = n) (hn : n < 8) (hlate : s.lateFeed n = false)
    (hconf : (s.axis n).configured = true) (hmode : (s.axis n).mode ≠ 2) (hleg : (s.axis n).leg = .none) (hsaved : (s.axis n).saved = none)
    (hmove : (s.axis n).move = some m) (hv : p.u 4 4 ≤ (s.axis n).vMax) (ha : p.u 8 4 ≤ (s.axis n).aMax) (hj : p.u 12 4 ≤ (s.axis n).jMax)
    (hzeros : zeros p.params 1 3 = true) (src : Source) (seq : Nat) {mv : Move} (hmv : mv = m.withValues (p.u 4 4) (p.u 8 4) (p.u 12 4)) :
    ((s.axis n).state = .stopped ∨ ((s.axis n).state = .fault ∧ (s.axis n).fault = 1) →
      s.opKinematicsSet p src seq = (s.modAxis n (fun x => { x with
        move := some mv, last := some mv, nextA := (if p.u 8 4 = 0 then x.nextA else none), moved := x.moved && decide (mv.goal = m.goal) })).say p src stOK) ∧
    (∀ q, (s.axis n).state = .moving → m.goal = .vel q →
      s.opKinematicsSet p src seq = (s.modAxis n (fun x => { x with
        move := some mv, last := some mv, nextA := (if p.u 8 4 = 0 then x.nextA else none), moved := x.moved && decide (mv.goal = m.goal) }.plan mv
          x.inFinal)).say p src stOK) ∧
    (∀ g, (s.axis n).state = .moving → m.goal = .abs g →
      ((s.axis n).stopsWithin m g mv.a mv.j = true → s.opKinematicsSet p src seq = (s.modAxis n (fun x => { x with
        move := some mv, last := some mv, nextA := (if p.u 8 4 = 0 then x.nextA else none) }.plan mv x.inFinal)).say p src stOK) ∧
      ((s.axis n).stopsWithin m g mv.a mv.j = false → ∃ (m' : Move) (f : Axis → Axis), m'.a = m.a ∧ m'.goal = m.goal ∧
        (f (s.axis n)).nextA = (if p.u 8 4 = 0 then (s.axis n).nextA else some (p.u 8 4)) ∧ (f (s.axis n)).move = some m' ∧
        (f (s.axis n)).commanded = (s.axis n).commanded ∧
        s.opKinematicsSet p src seq = (s.modAxis n f).say p src (if p.u 8 4 = 0 then stOK else stDEFERRED))) := by
  subst hp
  have hstate : (!(s.axis (p.u 0 1)).configured || (s.axis (p.u 0 1)).mode = 2) = false := by simp [hconf, hmode]
  have hrange : ((s.axis (p.u 0 1)).vMax < p.u 4 4 || (s.axis (p.u 0 1)).aMax < p.u 8 4 || (s.axis (p.u 0 1)).jMax < p.u 12 4 ||
      !zeros p.params 1 3) = false := by
    rw [hzeros]
    simp only [Bool.or_eq_false_iff, decide_eq_false_iff_not, Bool.not_true, and_true]
    omega
  have hpresent : (s.axis (p.u 0 1)).present = some m := by rw [Axis.present, hsaved, hmove]
  have hn8 : ¬ 8 ≤ p.u 0 1 := by omega
  subst hmv
  refine ⟨?_, fun q hmoving hgoal => ?_, fun g hmoving hgoal => ⟨fun hfits => ?_, fun hfits => ?_⟩⟩
  · rintro (hst | ⟨hst, hfault⟩)
    · simp only [State.opKinematicsSet, hlate, hstate, hrange, hpresent, hst, hn8, Bool.false_eq_true, if_false, reduceCtorEq, decide_false,
        Bool.false_and]
      exact congrArg (fun t : State => t.say p src stOK) (State.modAxis_congr (Axis.setMove_none (by exact hleg) _ _))
    · simp only [State.opKinematicsSet, hlate, hstate, hrange, hpresent, hst, hfault, hn8, Bool.false_eq_true, if_false, reduceCtorEq, ne_eq,
        not_true_eq_false, decide_false, Bool.and_false]
      exact congrArg (fun t : State => t.say p src stOK) (State.modAxis_congr (Axis.setMove_none (by exact hleg) _ _))
  · have hends : (s.axis (p.u 0 1)).endsAt m = none := by simp only [Axis.endsAt, hleg, hgoal]
    simp only [State.opKinematicsSet, hlate, hstate, hrange, hpresent, hmoving, hends, hn8, Bool.false_eq_true, if_false, if_true, reduceCtorEq,
      decide_false, Bool.false_and]
    exact congrArg (fun t : State => t.say p src stOK) (State.modAxis_congr (Axis.setMove_planAgain_none (by exact hleg) _ _))
  · have hends : (s.axis (p.u 0 1)).endsAt m = some g := by simp only [Axis.endsAt, hleg, hgoal]
    simp only [State.opKinematicsSet, hlate, hstate, hrange, hpresent, hmoving, hends, hn8, Bool.false_eq_true, if_false, if_true, reduceCtorEq,
      decide_false, Bool.false_and]
    refine (if_pos hfits).trans ?_
    exact congrArg (fun t : State => t.say p src stOK) (State.modAxis_congr (Axis.setMove_planAgain_none (by exact hleg) _ _))
  · have hends : (s.axis (p.u 0 1)).endsAt m = some g := by simp only [Axis.endsAt, hleg, hgoal]
    have hkeep : m.goal.withV (p.u 4 4) = m.goal := by rw [hgoal]; rfl
    simp only [State.opKinematicsSet, hlate, hstate, hrange, hpresent, hmoving, hends, hn8, Bool.false_eq_true, if_false, if_true, reduceCtorEq,
      decide_false, Bool.false_and]
    have hset := fun (mo : Move) (again : Bool) => Axis.setMove_maybe_planAgain
      (a := { s.axis (p.u 0 1) with nextA := if p.u 8 4 = 0 then (s.axis (p.u 0 1)).nextA else some (p.u 8 4) }) hleg mo (p.u 4 4) again rfl
    refine ⟨{ m.withValues (p.u 4 4) (p.u 8 4) (p.u 12 4) with a := m.a, j := if (s.axis (p.u 0 1)).stopsWithin m g m.a (if p.u 12 4 = 0 then m.j else p.u 12 4) then
      (if p.u 12 4 = 0 then m.j else p.u 12 4) else m.j }, _, rfl, ?_, ?_, ?_, ?_, if_neg (Bool.eq_false_iff.1 hfits)⟩
    · exact hkeep
    · exact (hset _ _).1
    · exact (hset _ _).2.1
    · exact (hset _ _).2.2

end Sys2Proof.Machine
end

section
/-! SUPPORT. The motion opcodes, settled. -/
namespace Sys2Proof.Machine
variable {s t u : State} {c : Cmd}

/-- While a trip latch is set every start of a motion is refused. -/
theorem State.tripped_starts {p : Packet} (h : s.tripped = true) (src : Source) (seq : Nat) :
    s.opMoveAbs p src seq = s.say p src stREFUSED_INTERLOCK ∧ s.opMoveVel p src seq = s.say p src stREFUSED_INTERLOCK ∧
      s.opAxisResume p src seq = s.say p src stREFUSED_INTERLOCK ∧ s.opHome p src seq = s.say p src stREFUSED_INTERLOCK := by
  simp [State.opMoveAbs, State.opMoveVel, State.opAxisResume, State.opHome, h]

/-- The ring's reply ends an operation on the axes alone. -/
theorem State.opAxisStatus_eq {p : Packet} {n : Nat} (hp : p.u 0 1 = n) (hn : n < 8) (hzeros : zeros p.params 1 3 = true) (src : Source) (seq : Nat) :
    s.opAxisStatus p src seq = s.reply true p src stOK (toLeS 8 (s.axis n).pos ++ toLeS 8 (s.axis n).encAt ++ toLeS 8 (s.axis n).remainingNow ++
      toLeS 4 (rtrunc (s.axis n).speed) ++ toLe 1 (s.axis n).state.code ++ toLe 1 (s.axis n).fault ++ [0, 0]) := by
  subst hp
  have hrange : (8 ≤ p.u 0 1 || !zeros p.params 1 3) = false := by
    rw [hzeros, decide_eq_false (by omega)]
    rfl
  simp only [State.opAxisStatus, hrange, Bool.false_eq_true, if_false]
  rfl

/-- Nothing differs but one axis and what the replies touch. -/
def State.OnlyAxis (s : State) (n : Nat) (t : State) : Prop :=
  t = { s with pe := t.pe, host := t.host, axes := t.axes } ∧ ∀ k, k < 8 → k ≠ n → t.axis k = s.axis k

/-- Kettle owes the final reply of an operation. -/
def State.Owes (s : State) (t : State) (op : BitVec 16) (c : Cmd) (k : OpKind) : Prop :=
  t.pe.ops = s.pe.ops ++ [{ kind := k, pkt := packetOfCmd op c, src := .ring, seq := s.pe.seq }]

/-- An operation that starts with a change of one axis. -/
theorem State.KettleTakes.startsAxis {op : BitVec 16} (h : s.KettleTakes op c) (pending : Bool) (k : OpKind) {n : Nat} (hn : n < 8) (f : Axis → Axis) {t : State}
    (ht : t = (s.taken.startOp pending k (packetOfCmd op c) .ring s.pe.seq).modAxis n f) :
    s.OnlyAxis n t ∧ s.Owes t op c k ∧ t.axis n = f (s.axis n) := by
  obtain ⟨hreplies, hops⟩ := h.starts pending k
  obtain ⟨hframe, hself, hother⟩ := hreplies.modAxis hn f
  subst ht
  exact ⟨⟨hframe, fun k _ hk => hother k hk⟩, hops, hself⟩

theorem State.KettleTakes.moveAbs_runs (h : s.KettleTakes 0x0401 c) {n : Nat} (hp : le c.params 0 1 = n) (htrip : s.tripped = false) (hn : n < 8)
    (hconf : (s.axis n).configured = true) (hmode : (s.axis n).mode ≠ 2) (hstand : (s.axis n).standing = true)
    (hlim : (s.axis n).towardsLimit (leS c.params 4 8 * 65536 - (s.axis n).commanded) = false) (hprof : le c.params 1 1 ≤ 1)
    (hzeros : zeros c.params 2 2 = true) (hv : 0 < le c.params 12 4) (hvMax : le c.params 12 4 ≤ (s.axis n).vMax) (ha : 0 < le c.params 16 4)
    (haMax : le c.params 16 4 ≤ (s.axis n).aMax) {m : Move}
    (hm : m = (s.axis n).nextMove { goal := .abs (leS c.params 4 8), prof := le c.params 1 1, v := le c.params 12 4, a := le c.params 16 4, j := (s.axis n).jMax }) :
    (leS c.params 4 8 * 65536 ≠ (s.axis n).commanded → ∃ t lim, exec (.moveAbs c) s = .next t ∧ s.OnlyAxis n t ∧ s.Owes t 0x0401 c (.moveAbs n) ∧
      t.axis n = (s.axis n).running m lim) ∧
    (leS c.params 4 8 * 65536 = (s.axis n).commanded → ∃ t u, exec (.moveAbs c) s = .next t ∧ t = (u.raise (0x28 + n)).axisStood n ∧ s.OnlyAxis n u ∧
      u.axis n = (s.axis n).arrived m) := by
  have hrun := h.exec_moveAbs.trans (congrArg _ (State.opMoveAbs_eq (s := s.taken) (p := packetOfCmd 0x0401 c) hp rfl htrip hn hconf hmode hstand hlim
    hprof hzeros hv hvMax ha haMax .ring s.pe.seq hm))
  refine ⟨fun hne => ?_, fun heq => ?_⟩
  · obtain ⟨honly, howes, haxis⟩ := h.startsAxis true (.moveAbs n) hn (fun a => a.running m (s.taken.feedLimit n)) rfl
    exact ⟨_, _, hrun.trans (congrArg _ (if_neg (sub_ne_zero.2 hne))), honly, howes, haxis⟩
  · obtain ⟨honly, -, haxis⟩ := h.startsAxis true (.moveAbs n) hn (fun a => a.arrived m) rfl
    exact ⟨_, _, hrun.trans (congrArg _ (if_pos (sub_eq_zero.2 heq))), rfl, honly, haxis⟩

theorem State.KettleTakes.moveVel_runs (h : s.KettleTakes 0x0402 c) {n : Nat} (hp : le c.params 0 1 = n) (htrip : s.tripped = false) (hn : n < 8)
    (hconf : (s.axis n).configured = true) (hmode : (s.axis n).mode ≠ 2) (hstand : (s.axis n).standing = true)
    (hlim : (s.axis n).towardsLimit (leS c.params 4 4) = false) (hprof : le c.params 1 1 ≤ 1) (hzeros : zeros c.params 2 2 = true)
    (hvMax : (leS c.params 4 4).natAbs ≤ (s.axis n).vMax) (ha : 0 < le c.params 8 4) (haMax : le c.params 8 4 ≤ (s.axis n).aMax) {m : Move}
    (hm : m = (s.axis n).nextMove
      { goal := .vel (leS c.params 4 4), prof := le c.params 1 1, v := (leS c.params 4 4).natAbs, a := le c.params 8 4, j := (s.axis n).jMax }) :
    ∃ t lim, exec (.moveVel c) s = .next t ∧ s.OnlyAxis n t ∧ s.Owes t 0x0402 c (.moveVel n) ∧ t.axis n = (s.axis n).planned m lim := by
  obtain ⟨honly, howes, haxis⟩ := h.startsAxis false (.moveVel n) hn (fun a => a.planned m (s.taken.feedLimit n)) rfl
  exact ⟨_, _, h.exec_moveVel.trans (congrArg _ (State.opMoveVel_eq (s := s.taken) (p := packetOfCmd 0x0402 c) hp rfl htrip hn hconf hmode hstand hlim
    hprof hzeros hvMax ha haMax .ring s.pe.seq hm)), honly, howes, haxis⟩

theorem State.KettleTakes.home_runs (h : s.KettleTakes 0x0405 c) {n : Nat} (hp : le c.params 0 1 = n) (htrip : s.tripped = false) (hn : n < 8)
    (hlate : s.lateFeed n = false) (hconf : (s.axis n).configured = true) (hmode : (s.axis n).mode ≠ 2) (hjob : s.axisInJob n = false)
    (hstand : (s.axis n).standing = true) (hdir : le c.params 1 1 ≤ 1) (hqual : 0 < le c.params 2 1) (hchatter : 0 < le c.params 3 1)
    (hwindow : 0 < le c.params 4 4) (hfast : 0 < le c.params 8 4 ∧ le c.params 8 4 ≤ (s.axis n).vMax)
    (hslow : 0 < le c.params 12 4 ∧ le c.params 12 4 ≤ (s.axis n).vMax) (hback : 0 < leS c.params 16 8) :
    ∃ t, exec (.home c) s = .next t ∧ s.OnlyAxis n t ∧ s.Owes t 0x0405 c (.home n) ∧
      t.axis n = (s.axis n).startHoming (homeRunOf (packetOfCmd 0x0405 c) (s.axis n)) := by
  obtain ⟨honly, howes, haxis⟩ := h.startsAxis true (.home n) hn (fun a => a.startHoming (homeRunOf (packetOfCmd 0x0405 c) (s.axis n))) rfl
  exact ⟨_, h.exec_home.trans (congrArg _ (State.opHome_eq (s := s.taken) (p := packetOfCmd 0x0405 c) hp htrip hn hlate hconf hmode hjob hstand hdir
    hqual hchatter hwindow hfast hslow hback .ring s.pe.seq)), honly, howes, haxis⟩

theorem State.KettleTakes.axisStop_stops (h : s.KettleTakes 0x0403 c) (hmode : le c.params 1 1 ≤ 1) (hzeros : zeros c.params 2 2 = true) :
    ∃ t, exec (.axisStop c) s = .next t ∧ t.senses = s.senses ∧
      ∀ k, k < 8 → Stopped (BitVec.ofNat 8 (le c.params 0 1)) k (s.axis k) (t.axis k) := by
  obtain ⟨hreplies, -⟩ := h.starts true (.axisStop (BitVec.ofNat 8 (le c.params 0 1)))
  have hop := State.opAxisStop_eq (s := s.taken) (p := packetOfCmd 0x0403 c) hmode hzeros .ring s.pe.seq
  change s.taken.opAxisStop _ _ _ = ((List.range 8).foldl (State.stopSelected (le c.params 1 1) (BitVec.ofNat 8 (le c.params 0 1)))
    (s.taken.startOp true (.axisStop (BitVec.ofNat 8 (le c.params 0 1))) _ _ _)).answerAxisStops at hop
  generalize s.taken.startOp true _ _ _ _ = u at *
  obtain ⟨hsenses, hstopped⟩ := State.foldl_stopSelected (le c.params 1 1) (BitVec.ofNat 8 (le c.params 0 1)) u
  have hanswers (v : State) : v.answerAxisStops.drive = v.drive := v.finishOps_drive _ _
  have hsenses' : u.senses = s.senses := by unfold State.SameButReplies at hreplies; rw [hreplies]; rfl
  have haxis (k : Nat) : u.axis k = s.axis k := by unfold State.SameButReplies at hreplies; rw [hreplies]; rfl
  refine ⟨_, h.exec_axisStop.trans (congrArg _ hop), ((State.senses_of_drive (hanswers _)).trans hsenses).trans hsenses', fun k hk => ?_⟩
  rw [State.axis_of_drive (hanswers _) k, ← haxis k]
  exact hstopped k hk

/-- The axes that AXIS_RESUME names go on, and no other changes. -/
theorem State.foldl_resumeAxis (l : List Nat) (hnodup : l.Nodup) (hl : ∀ n, n ∈ l → n < 8) (s : State) :
    l.foldl State.resumeAxis s = { s with axes := (l.foldl State.resumeAxis s).axes } ∧
      ∀ k, (k ∉ l → (l.foldl State.resumeAxis s).axis k = s.axis k) ∧
        (k ∈ l → ∃ lim, (l.foldl State.resumeAxis s).axis k = (s.axis k).resumed lim) := by
  refine ⟨?_, fun k => foldl_axis (R := fun _ a b => ∃ lim, b = a.resumed lim) (fun s n k hk => State.axis_modAxis_ne s n k _ (Ne.symm hk))
    (fun s n hn => ⟨s.feedLimit n, State.axis_modAxis s n _ hn⟩) l hnodup hl s k⟩
  refine foldl_rel (R := fun s t => t = { s with axes := t.axes }) (fun _ => rfl) (fun {s t u} h g => ?_) (fun s n => rfl) l s
  rw [g, h]

theorem State.KettleTakes.axisResume_resumes (h : s.KettleTakes 0x0404 c) (htrip : s.tripped = false) (hzeros : zeros c.params 1 3 = true)
    (haxes : ∀ k, k < 8 → bit (le c.params 0 1) k = true → s.lateFeed k = false ∧ (s.axis k).configured = true ∧ (s.axis k).mode ≠ 2 ∧
      (s.axis k).resumable = true ∧ (s.axis k).towardsLimit (s.axis k).remainingDir = false) :
    ∃ t, exec (.axisResume c) s = .next t ∧ t.chans = s.chans ∧ t.jobs = s.jobs ∧ ∀ k, k < 8 →
      (bit (le c.params 0 1) k = false → t.axis k = s.axis k) ∧ (bit (le c.params 0 1) k = true → ∃ lim, t.axis k = (s.axis k).resumed lim) := by
  obtain ⟨hreplies, -⟩ := h.starts true (.axisResume (BitVec.ofNat 8 (le c.params 0 1)))
  have hop := State.opAxisResume_eq (s := s.taken) (p := packetOfCmd 0x0404 c) htrip hzeros haxes .ring s.pe.seq
  change s.taken.opAxisResume _ _ _ = ((resumeSelection (le c.params 0 1)).foldl State.resumeAxis
    (s.taken.startOp true (.axisResume (BitVec.ofNat 8 (le c.params 0 1))) _ _ _)).finishOps _ _ at hop
  generalize s.taken.startOp true _ _ _ _ = u at *
  obtain ⟨hframe, haxis⟩ := State.foldl_resumeAxis (resumeSelection (le c.params 0 1)) (List.nodup_range.filter _)
    (fun n hn => (mem_resumeSelection.1 hn).1) u
  generalize (resumeSelection (le c.params 0 1)).foldl State.resumeAxis u = v at *
  have hkept : ∀ sel ans, (v.finishOps sel ans).chans = s.chans ∧ (v.finishOps sel ans).jobs = s.jobs := fun sel ans => by
    have hsent := v.finishOps_sent sel ans
    unfold State.SameButSent at hsent
    unfold State.SameButReplies at hreplies
    rw [hsent, hframe, hreplies]
    exact ⟨rfl, rfl⟩
  have hu (k : Nat) : u.axis k = s.axis k := by unfold State.SameButReplies at hreplies; rw [hreplies]; rfl
  refine ⟨_, h.exec_axisResume.trans (congrArg _ hop), (hkept _ _).1, (hkept _ _).2, fun k hk => ?_⟩
  rw [State.axis_of_drive (v.finishOps_drive _ _) k, ← hu k]
  obtain ⟨hout, hin⟩ := haxis k
  exact ⟨fun hbit => hout fun hmem => by simp [(mem_resumeSelection.1 hmem).2] at hbit, fun hbit => hin (mem_resumeSelection.2 ⟨hk, hbit⟩)⟩

/-- Settles O44: each opcode by its equation, and what a fold over the axes selected does to each. -/
theorem axisCommands : Obligations.AxisCommands := by
  intro c s n a others owed tripped
  refine ⟨fun htrip => ⟨fun h => ?_, fun h => ?_, fun h => ?_, fun h => ?_⟩, ?_, ?_, ?_, fun h hmode hzeros => ?_, fun h htrip hzeros haxes => ?_, ?_,
    fun h hn hlate hconf hmode => ⟨fun hidle => ?_, fun m hleg hsaved hmove hv ha hj hzeros => ?_⟩, fun h hn hzeros => ?_⟩
  · exact h.exec_moveAbs.trans (congrArg _ (State.tripped_starts (s := s.taken) htrip _ _).1)
  · exact h.exec_moveVel.trans (congrArg _ (State.tripped_starts (s := s.taken) htrip _ _).2.1)
  · exact h.exec_axisResume.trans (congrArg _ (State.tripped_starts (s := s.taken) htrip _ _).2.2.1)
  · exact h.exec_home.trans (congrArg _ (State.tripped_starts (s := s.taken) htrip _ _).2.2.2)
  · intro h hn hlate hjob hstand hmode hpol hv hvmax hstep ha hj
    exact h.exec_axisConfig.trans (congrArg _ (State.opAxisConfig_eq (s := s.taken) (p := packetOfCmd 0x0400 c) (n := n) rfl hn hlate hjob hstand
      hmode hpol ⟨hv, hvmax⟩ hstep ha hj .ring s.pe.seq))
  · intro h htrip hn hconf hmode hstand hlim hprof hzeros hv hvmax ha hamax
    obtain ⟨hmoves, harrives⟩ := h.moveAbs_runs rfl htrip hn hconf hmode hstand hlim hprof hzeros hv hvmax ha hamax rfl
    refine ⟨fun hne => ?_, fun heq => ?_⟩
    · obtain ⟨t, lim, hexec, honly, howes, haxis⟩ := hmoves hne
      obtain ⟨hstate, hcommanded, hspeed, hnext, hmove⟩ := Axis.planned_fields a
        (a.nextMove { goal := .abs (leS c.params 4 8), prof := le c.params 1 1, v := le c.params 12 4, a := le c.params 16 4, j := a.jMax }) lim
      rw [Axis.running] at haxis
      exact ⟨t, hexec, honly, howes, by rw [haxis], by rw [haxis]; exact hcommanded, by rw [haxis]; exact hspeed, by rw [haxis]; exact hnext,
        by rw [haxis]; exact hmove⟩
    · obtain ⟨t, u, hexec, rfl, honly, haxis⟩ := harrives heq
      have hkept : ∀ k, ((u.raise (0x28 + n)).axisStood n).axis k = u.axis k := fun k =>
        (State.axis_of_drive (State.axisStood_drive _ _) k).trans (State.axis_raise _ _ _)
      refine ⟨_, hexec, ?_, ?_, fun o ho => State.axisStood_ops ho, fun k hk hne => (hkept k).trans (honly.2 k hk hne)⟩
      · rw [hkept, haxis]
        rfl
      · rw [hkept, haxis]
        rfl
  · intro h htrip hn hconf hmode hstand hlim hprof hzeros hvmax ha hamax
    obtain ⟨t, lim, hexec, honly, howes, haxis⟩ := h.moveVel_runs rfl htrip hn hconf hmode hstand hlim hprof hzeros hvmax ha hamax rfl
    obtain ⟨hstate, hcommanded, -, hnext, hmove⟩ := Axis.planned_fields a (a.nextMove
      { goal := .vel (leS c.params 4 4), prof := le c.params 1 1, v := (leS c.params 4 4).natAbs, a := le c.params 8 4, j := a.jMax }) lim
    refine ⟨t, hexec, honly, howes, ?_⟩
    rw [haxis]
    exact ⟨hstate, hcommanded, hnext, hmove⟩
  · obtain ⟨t, hexec, hsenses, hstopped⟩ := h.axisStop_stops hmode hzeros
    refine ⟨t, hexec, congrArg Prod.fst hsenses, congrArg (fun d => d.2.1) hsenses, congrArg (fun d => d.2.2) hsenses, fun k hk => ?_⟩
    have hk' := hstopped k hk
    rw [Stopped, getLsbD_ofNat_bit hk] at hk'
    refine ⟨fun hbit => by simpa [hbit] using hk', fun hbit hmoving => ?_, fun hbit hstand => ?_⟩
    · obtain ⟨acc, jerk, haxis⟩ : ∃ acc jerk, t.axis k = (s.axis k).stop acc jerk 0 := by simpa [hbit] using hk'
      rw [haxis]
      exact Axis.stop_moving hmoving _ _ _
    · obtain ⟨acc, jerk, haxis⟩ : ∃ acc jerk, t.axis k = (s.axis k).stop acc jerk 0 := by simpa [hbit] using hk'
      rw [haxis, Axis.stop_standing hstand]
  · obtain ⟨t, hexec, hchans, hjobs, hresumed⟩ := h.axisResume_resumes htrip hzeros haxes
    refine ⟨t, hexec, hchans, hjobs, fun k hk => ⟨(hresumed k hk).1, fun m hbit hmove => ?_⟩⟩
    obtain ⟨lim, haxis⟩ := (hresumed k hk).2 hbit
    obtain ⟨-, hcommanded, -, hnext, hmoved⟩ := Axis.planned_fields (s.axis k) ((s.axis k).nextMove m) lim
    rw [haxis, Axis.resumed, hmove]
    exact ⟨rfl, hcommanded, hmoved, hnext⟩
  · intro h htrip hn hlate hconf hmode hjob hstand hdir hqual hchatter hwindow hfast hfast' hslow hslow' hback
    obtain ⟨t, hexec, honly, howes, haxis⟩ := h.home_runs rfl htrip hn hlate hconf hmode hjob hstand hdir hqual hchatter hwindow ⟨hfast, hfast'⟩
      ⟨hslow, hslow'⟩ hback
    refine ⟨t, homeRunOf (packetOfCmd 0x0405 c) a, hexec, honly, howes, ?_⟩
    rw [haxis]
    exact ⟨rfl, rfl, rfl, rfl, rfl, rfl, rfl, rfl⟩
  · exact h.exec_kinematicsSet.trans (congrArg _ (State.opKinematicsSet_idle (s := s.taken) (p := packetOfCmd 0x0406 c) (n := n) rfl hn hlate hconf hmode hidle
      .ring s.pe.seq))
  · intro goal mv
    have hmv : mv = m.withValues (le c.params 4 4) (le c.params 8 4) (le c.params 12 4) := by
      rfl
    obtain ⟨hstanding, hvel, habs⟩ := State.opKinematicsSet_eq (s := s.taken) (p := packetOfCmd 0x0406 c) (n := n) rfl hn hlate hconf hmode hleg hsaved hmove
      hv ha hj hzeros .ring s.pe.seq rfl
    rw [← show mv = m.withValues ((packetOfCmd 0x0406 c).u 4 4) ((packetOfCmd 0x0406 c).u 8 4) ((packetOfCmd 0x0406 c).u 12 4) from rfl] at *
    have hother (f : Axis → Axis) (k : Nat) (_ : k < 8) (hne : k ≠ n) : (s.taken.modAxis n f).axis k = s.axis k :=
      State.axis_modAxis_ne s.taken n k f (Ne.symm hne)
    have hself (f : Axis → Axis) : (s.taken.modAxis n f).axis n = f a := State.axis_modAxis s.taken n f hn
    refine ⟨fun hst => h.exec_kinematicsSet.trans (congrArg _ (hstanding hst)), fun q hmoving hgoal => ?_, fun g hmoving hgoal => ⟨fun hneed => ?_,
      fun hneed hacc => ?_⟩⟩
    · refine ⟨_, h.exec_kinematicsSet.trans (congrArg _ (hvel q hmoving hgoal)), rfl, hother _, ?_⟩
      rw [hself]
      exact ⟨Axis.plan_move _ _, (Axis.plan_state _ _).trans hmoving, Axis.plan_commanded _ _⟩
    · refine ⟨_, h.exec_kinematicsSet.trans (congrArg _ ((habs g hmoving hgoal).1 (decide_eq_true hneed))), rfl, hother _, ?_⟩
      rw [hself]
      exact ⟨Axis.plan_move _ _, Axis.plan_commanded _ _⟩
    · obtain ⟨m', f, ha', hgoal', hnext, hmove', hcommanded, hrun⟩ := (habs g hmoving hgoal).2 (decide_eq_false (not_le.2 hneed))
      refine ⟨s.taken.modAxis n f, m', h.exec_kinematicsSet.trans (congrArg _ (hrun.trans ?_)), rfl, hother f, ?_⟩
      · exact congrArg (fun st => (s.taken.modAxis n f).say (packetOfCmd 0x0406 c) .ring st) (if_neg hacc)
      · rw [hself]
        exact ⟨hnext.trans (if_neg hacc), hmove', ha', hgoal', hcommanded⟩
  · exact h.exec_axisStatus.trans (congrArg _ (State.opAxisStatus_eq (s := s.taken) (p := packetOfCmd 0x0407 c) (n := n) rfl hn hzeros .ring s.pe.seq))

end Sys2Proof.Machine
end

section
/-! SUPPORT. FIRE_HOLD, FIRE_RELEASE, E_STOP and MIRROR_SNAP (02 R77, 03 R114, 06 R226, 14 R443). -/
namespace Sys2Proof.Machine
variable {s t : State} {c : Cmd} {p : Packet}

/-! ### Packets that the packet engine executes -/

/-- A hardware-handled packet takes effect at once, and Kettle has no packet to take that it did not have. -/
theorem State.Awake.packetRow_hardware (ha : s.Awake) {op : BitVec 16} (h : s.Addressed op c) {f : State → State}
    (hop : opcodes.contains op.toNat = true) (hhard : (packetOfCmd op c).hardware = true)
    (hrun : ∀ t : State, t.runHardware (packetOfCmd op c) .ring s.pe.seq = f t) (hqueue : (f s.handled).pe.queue = s.handled.pe.queue) :
    Host.Outcome.next (s.packetRow op c) = (.next (f s.handled) : Host.Outcome State Fault Refusal) := by
  refine congrArg _ ?_
  by_cases hq : s.pe.queue = []
  · obtain ⟨hrunning, hentering⟩ := ha
    have hshot : s.shot 0 = false := h.1
    have htake : (f s.handled).kettleTake = f s.handled := by
      rw [State.kettleTake, hqueue, show s.handled.pe.queue = [] from hq]
    rw [State.packetRow, hrunning, hentering, hshot]
    simp only [Bool.not_true, Option.isSome_none, Bool.or_self, Bool.false_eq_true, if_false, hq, if_true]
    rw [show ({ opcode := op, flags := c.flags, target := c.target, tag := c.tag, length := c.params.length, params := c.params } : Packet) =
      packetOfCmd op c from rfl, s.handlePacket_local op c hop h, State.dispatch, hhard, if_pos rfl, hrun, htake]
  · rw [s.packetRow_hardware op c hop hhard ha hq h, hrun]

theorem State.SameButSent.queue (h : s.SameButSent t) : t.pe.queue = s.pe.queue := by
  unfold State.SameButSent at h
  rw [h]

/-! ### Firing holds -/

theorem State.setHolds_eq (m : ChMask) (on : Bool) : s.setHolds m on = { s with chans := (s.setHolds m on).chans } ∧
    ∀ n, (s.setHolds m on).chan n = if n ∈ maskChans m then { s.chan n with hold := on } else s.chan n :=
  State.foldl_modChan (fun c => { c with hold := on }) _ (nodup_maskChans m) (fun _ => lt_of_mem_maskChans) s

/-- The end of a survey leaves the record of it empty, and touches no other state but the replies and the operations under way. -/
theorem State.endSurvey_eq (result : Nat) : (s.endSurvey result).health.run = none ∧ (s.endSurvey result).chans = s.chans ∧
    (s.endSurvey result).jobs = s.jobs ∧ (s.endSurvey result).axes = s.axes ∧ (s.endSurvey result).ilk = s.ilk ∧
    (s.endSurvey result).pe.queue = s.pe.queue := by
  unfold State.endSurvey
  cases hrun : s.health.run with
  | none => exact ⟨hrun, rfl, rfl, rfl, rfl, rfl⟩
  | some r =>
    have hkept (u : State) (hu : u.health.run = none ∧ u.chans = s.chans ∧ u.jobs = s.jobs ∧ u.axes = s.axes ∧ u.ilk = s.ilk ∧ u.pe.queue = s.pe.queue)
        (sel : PendOp → Bool) (ans : PendOp → BitVec 16 × Bytes) : (u.finishOps sel ans).health.run = none ∧ (u.finishOps sel ans).chans = s.chans ∧
        (u.finishOps sel ans).jobs = s.jobs ∧ (u.finishOps sel ans).axes = s.axes ∧ (u.finishOps sel ans).ilk = s.ilk ∧
        (u.finishOps sel ans).pe.queue = s.pe.queue := by
      have hsent := u.finishOps_sent sel ans
      unfold State.SameButSent at hsent
      rw [hsent]
      exact hu
    exact hkept _ (by exact ⟨rfl, rfl, rfl, rfl, rfl, rfl⟩) _ _

/-- What FIRE_HOLD does before it answers. -/
def State.fireHeld (s : State) (m : ChMask) : State := (s.setHolds m true).endSurveyIf (fun r => r.channels &&& m ≠ 0) 1

theorem State.fireHeld_eq (m : ChMask) : (s.fireHeld m).chans = (s.setHolds m true).chans ∧ (s.fireHeld m).jobs = s.jobs ∧ (s.fireHeld m).axes = s.axes ∧
    (s.fireHeld m).ilk = s.ilk ∧ (s.fireHeld m).pe.queue = s.pe.queue := by
  obtain ⟨hframe, -⟩ := State.setHolds_eq (s := s) m true
  unfold State.fireHeld State.endSurveyIf
  generalize s.setHolds m true = u at *
  obtain ⟨-, hchans, hjobs, haxes, hilk, hqueue⟩ := State.endSurvey_eq (s := u) 1
  split
  · split
    · rw [hchans, hjobs, haxes, hilk, hqueue, hframe]
      exact ⟨rfl, rfl, rfl, rfl, rfl⟩
    · rw [hframe]
      exact ⟨rfl, rfl, rfl, rfl, rfl⟩
  · rw [hframe]
    exact ⟨rfl, rfl, rfl, rfl, rfl⟩

/-- A hold ends a survey on a channel that it names, and leaves any other alone. -/
theorem State.fireHeld_health {m : ChMask} {r : SurveyRun} (hrun : s.health.run = some r) :
    (r.channels &&& m ≠ 0 → (s.fireHeld m).health.run = none) ∧ (r.channels &&& m = 0 → (s.fireHeld m).health = s.health) := by
  obtain ⟨hframe, -⟩ := State.setHolds_eq (s := s) m true
  have hhealth : (s.setHolds m true).health = s.health := by rw [hframe]
  unfold State.fireHeld State.endSurveyIf
  rw [hhealth, hrun]
  refine ⟨fun h => ?_, fun h => ?_⟩
  · simp only [h, ne_eq, not_false_eq_true, decide_true, if_true]
    exact (State.endSurvey_eq 1).1
  · simp only [h, ne_eq, not_true_eq_false, decide_false, Bool.false_eq_true, if_false]
    exact hhealth

theorem and_ne_zero_of_bit {w : Nat} {a b : BitVec w} {n : Nat} (ha : a.getLsbD n = true) (hb : b.getLsbD n = true) : a &&& b ≠ 0 := by
  intro h
  have hbit := congrArg (fun v : BitVec w => v.getLsbD n) h
  simp [ha, hb] at hbit

theorem and_eq_zero_of_bits {w : Nat} {a b : BitVec w} (h : ∀ n, n < w → a.getLsbD n = true → b.getLsbD n = false) : a &&& b = 0 := by
  refine BitVec.eq_of_getLsbD_eq fun n hn => ?_
  rw [BitVec.getLsbD_and]
  cases ha : a.getLsbD n with
  | false => simp
  | true => simp [h n hn ha]

/-- The hold of a channel, set or cleared by a mask. -/
theorem State.setHolds_chan (k : Nat) (on : Bool) {n : Nat} (hn : n < 48) :
    ((s.setHolds (BitVec.ofNat 64 k) on).chan n).hold = (if bit k n then on else (s.chan n).hold) ∧
      (s.setHolds (BitVec.ofNat 64 k) on).chan n = { s.chan n with hold := ((s.setHolds (BitVec.ofNat 64 k) on).chan n).hold } := by
  obtain ⟨-, hchan⟩ := State.setHolds_eq (s := s) (BitVec.ofNat 64 k) on
  rw [hchan n]
  simp only [mem_maskChans_ofNat, hn, true_and]
  cases bit k n <;> exact ⟨rfl, rfl⟩

theorem State.Awake.exec_fireHold (ha : s.Awake) (h : s.Addressed 0xF000 c) (hok : channelsOk (le c.params 0 8) = true) :
    exec (.fireHold c) s = .next ((s.handled.fireHeld (BitVec.ofNat 64 (le c.params 0 8))).reply false (packetOfCmd 0xF000 c) .ring stOK
      (toLe 8 (s.handled.fireHeld (BitVec.ofNat 64 (le c.params 0 8))).timebase.toNat)) := by
  refine ha.packetRow_hardware h (f := fun t => (t.fireHeld (BitVec.ofNat 64 (le c.params 0 8))).reply false (packetOfCmd 0xF000 c) .ring stOK
    (toLe 8 (t.fireHeld (BitVec.ofNat 64 (le c.params 0 8))).timebase.toNat)) (by decide) (by simp [Packet.hardware, packetOfCmd]) (fun t => ?_) ?_
  · have hop : t.runHardware (packetOfCmd 0xF000 c) .ring s.pe.seq = t.opFireHold (packetOfCmd 0xF000 c) .ring s.pe.seq := rfl
    rw [hop, State.opFireHold, show (packetOfCmd 0xF000 c).u 0 8 = le c.params 0 8 from rfl, hok]
    rfl
  · exact (State.reply_sent _ _ _ _ _ _).queue.trans (State.fireHeld_eq _).2.2.2.2

theorem State.injMoment_eq : s.injMoment = { s with inj := s.injMoment.inj } := by
  unfold State.injMoment
  split <;> rfl

/-- What FIRE_RELEASE does before it answers. -/
def State.fireReleased (s : State) (m : ChMask) : State := (s.setHolds m false).injMoment

theorem State.fireReleased_eq (m : ChMask) : s.fireReleased m = { s with chans := (s.setHolds m false).chans, inj := (s.fireReleased m).inj } := by
  obtain ⟨hframe, -⟩ := State.setHolds_eq (s := s) m false
  unfold State.fireReleased
  generalize s.setHolds m false = u at *
  have hinj := State.injMoment_eq (s := u)
  generalize u.injMoment = v at *
  conv_lhs => rw [hinj, hframe]

theorem State.Awake.exec_fireRelease (ha : s.Awake) (h : s.Addressed 0xF001 c) (hok : channelsOk (le c.params 0 8) = true) :
    exec (.fireRelease c) s = .next ((s.handled.fireReleased (BitVec.ofNat 64 (le c.params 0 8))).reply false (packetOfCmd 0xF001 c) .ring stOK
      (toLe 8 (s.handled.fireReleased (BitVec.ofNat 64 (le c.params 0 8))).timebase.toNat)) := by
  refine ha.packetRow_hardware h (f := fun t => (t.fireReleased (BitVec.ofNat 64 (le c.params 0 8))).reply false (packetOfCmd 0xF001 c) .ring stOK
    (toLe 8 (t.fireReleased (BitVec.ofNat 64 (le c.params 0 8))).timebase.toNat)) (by decide) (by simp [Packet.hardware, packetOfCmd]) (fun t => ?_) ?_
  · have hop : t.runHardware (packetOfCmd 0xF001 c) .ring s.pe.seq = t.opFireRelease (packetOfCmd 0xF001 c) .ring s.pe.seq := rfl
    rw [hop, State.opFireRelease, show (packetOfCmd 0xF001 c).u 0 8 = le c.params 0 8 from rfl, hok]
    rfl
  · refine (State.reply_sent _ _ _ _ _ _).queue.trans ?_
    rw [State.fireReleased_eq]

end Sys2Proof.Machine
end

section
/-! SUPPORT. E_STOP and MIRROR_SNAP (02 R77, 14 R443), and the four opcodes settled. -/
namespace Sys2Proof.Machine
variable {s t : State} {c : Cmd} {p : Packet}

/-! ### The emergency stop -/

/-- The latches of the interlocks and Kettle's queue: what an emergency stop leaves alone once it has set its latch. -/
def State.latches (s : State) : Interlock × List QPacket := (s.ilk, s.pe.queue)

theorem State.latches_of_drive (h : t.drive = s.drive) : t.latches = s.latches :=
  congrArg (fun d : Power × Interlock × Vector Encoder 8 × Vector Axis 8 × List QPacket => (d.2.1, d.2.2.2.2)) h

theorem State.stopAxisMax_latches (s : State) (ax : Nat) : (s.stopAxisMax ax).latches = s.latches := by
  unfold State.stopAxisMax
  extract_lets u
  split
  · rfl
  · exact (State.latches_of_drive (u.endSurveyIf_drive _ _)).trans rfl

theorem State.stopJob_latches (s : State) (slot : Nat) : (s.stopJob slot).latches = s.latches := by
  unfold State.stopJob
  split
  · rfl
  · split
    · extract_lets u
      have hu : u.latches = s.latches := State.latches_of_drive (s.enterStopped_drive slot)
      split
      · exact (u.stopAxisMax_latches _).trans hu
      · exact hu
    · rfl

theorem State.tripJobs_latches (s : State) (cause : Nat) : (s.tripJobs cause).latches = s.latches := by
  unfold State.tripJobs
  refine foldl_keeps (part := State.latches) (fun s slot => ?_) _ s
  split
  · next j _ =>
    calc _ = _ := State.latches_of_drive (State.answerStops_drive _ slot)
      _ = _ := State.latches_of_drive (State.checkEnded_drive _ slot)
      _ = (j.chans.foldl (fun s n => s.cutLine slot n cause) s).latches := State.stopJob_latches _ slot
      _ = s.latches := foldl_keeps (part := State.latches) (fun s n => State.latches_of_drive (s.cutLine_drive slot n cause)) _ s
  · rfl

theorem State.tripActs_latches (s : State) (classes : BitVec 4) : (s.tripActs classes).latches = s.latches := by
  unfold State.tripActs
  extract_lets stopped cut axes ended pulsed
  have haxes : axes.latches = stopped.latches := by
    change (if classes.getLsbD 3 then (List.range 8).foldl State.stopAxisMax cut else cut).latches = _
    split
    · exact (foldl_keeps (part := State.latches) State.stopAxisMax_latches _ cut).trans rfl
    · rfl
  have hended : ended.latches = axes.latches := State.latches_of_drive (axes.endSurvey_drive 1)
  have hpulsed : pulsed.latches = ended.latches := by
    change (if classes &&& 7 = 0 then ended else ended.raise 0x38).latches = _
    split
    · rfl
    · exact State.latches_of_drive (ended.raise_drive _)
  have hraised : (if classes.getLsbD 3 then pulsed.raise 0x39 else pulsed).latches = pulsed.latches := by
    split
    · exact State.latches_of_drive (pulsed.raise_drive _)
    · rfl
  calc _ = pulsed.latches := hraised
    _ = ended.latches := hpulsed
    _ = axes.latches := hended
    _ = stopped.latches := haxes
    _ = s.latches := s.tripJobs_latches 1

/-- A trip sets its latches and leaves Kettle's queue alone. -/
theorem State.trip_latches (s : State) (classes : BitVec 4) :
    (s.trip classes).ilk.trips = s.ilk.trips ||| classes ∧ (s.trip classes).pe.queue = s.pe.queue := by
  have hreport (u : State) : u.reportLocal.latches = u.latches := by
    have h := u.reportLocal_frames
    unfold State.SameButFrames at h
    rw [h]
    rfl
  have hlatches := (hreport _).trans (State.tripActs_latches { s with ilk := { s.ilk with
    trips := s.ilk.trips ||| classes
    assertedAt := Vector.ofFn (fun (k : Fin 4) => if classes.getLsbD k.val then s.clock else vget s.ilk.assertedAt k.val 0) } } classes)
  exact ⟨congrArg (fun d : Interlock × List QPacket => d.1.trips) hlatches, congrArg Prod.snd hlatches⟩

theorem State.Awake.exec_eStop (ha : s.Awake) (h : s.Addressed 0xF002 c) :
    exec (.eStop c) s = .next ((s.handled.trip 8).reply false (packetOfCmd 0xF002 c) .ring stOK []) :=
  ha.packetRow_hardware h (f := fun t => (t.trip 8).reply false (packetOfCmd 0xF002 c) .ring stOK []) (by decide)
    (by simp [Packet.hardware, packetOfCmd]) (fun _ => rfl) ((State.reply_sent _ _ _ _ _ _).queue.trans (State.trip_latches _ _).2)

/-! ### The mirror's snapshot -/

theorem swf_mirrorPut {m : List (Nat × BitVec 16)} (h : swf 0 m = true) (a n v : Nat) : swf 0 (mirrorPut m a n v) = true := by
  unfold mirrorPut
  generalize List.range n = l
  induction l generalizing m with
  | nil => exact h
  | cons i l ih => exact ih (swf_sput 0 m (a + i) _ h)

/-- The words of a value that was put into the mirror. -/
theorem sget_mirrorPut {m : List (Nat × BitVec 16)} (h : swf 0 m = true) (a n v : Nat) {i : Nat} (hi : i < n) :
    sget 0 (mirrorPut m a n v) (a + i) = BitVec.ofNat 16 (v / 65536 ^ i) := by
  induction n with
  | zero => omega
  | succ n ih =>
    have hput : mirrorPut m a (n + 1) v = sput 0 (mirrorPut m a n v) (a + n) (BitVec.ofNat 16 (v / 65536 ^ n)) := by
      rw [mirrorPut, List.range_succ, List.foldl_append]
      rfl
    rw [hput]
    by_cases heq : i = n
    · rw [heq, sget_sput_self 0 _ _ _ (swf_mirrorPut h a n v)]
    · rw [sget_sput_ne 0 _ _ _ _ (swf_mirrorPut h a n v) (by omega), ih (by omega)]

theorem State.mirrorWrite_swf (h : swf 0 s.mirror.sram = true) (vs : List (Nat × Nat × Nat)) : swf 0 (s.mirrorWrite vs).mirror.sram = true := by
  unfold State.mirrorWrite
  generalize s.mirror.sram = m at *
  dsimp only
  induction vs generalizing m with
  | nil => exact h
  | cons x vs ih => exact ih _ (swf_mirrorPut h _ _ _)

theorem State.refresh_mirror : s.refresh = { s with mirror := s.refresh.mirror } := by
  have hwords (a b : List (Nat × Nat × Nat)) : (s.mirrorWrite a).mirrorWrite b = { s with mirror := ((s.mirrorWrite a).mirrorWrite b).mirror } := rfl
  unfold State.refresh
  generalize s.aonWords = aon at *
  generalize s.coreWords = core at *
  extract_lets old trip
  split
  · rfl
  · split
    · exact hwords _ _
    · exact hwords _ _

theorem State.refresh_swf (h : swf 0 s.mirror.sram = true) : swf 0 s.refresh.mirror.sram = true := by
  have hwords (a b : List (Nat × Nat × Nat)) : swf 0 ((s.mirrorWrite a).mirrorWrite b).mirror.sram = true :=
    State.mirrorWrite_swf (State.mirrorWrite_swf h a) b
  unfold State.refresh
  generalize s.aonWords = aon at *
  generalize s.coreWords = core at *
  extract_lets old trip
  split
  · exact h
  · split
    · exact hwords _ _
    · exact hwords _ _

theorem State.mirrorSnap_mirror : s.mirrorSnap = { s with mirror := s.mirrorSnap.mirror } := by
  have h := State.refresh_mirror (s := s)
  unfold State.mirrorSnap State.mirrorWrite
  generalize s.refresh = u at *
  conv_lhs => rw [h]

theorem State.Awake.exec_mirrorSnap (ha : s.Awake) (h : s.Addressed 0xF003 c) : exec (.mirrorSnap c) s =
    .next (s.handled.mirrorSnap.reply false (packetOfCmd 0xF003 c) .ring stOK (toLe 8 s.handled.timebase.toNat)) :=
  ha.packetRow_hardware h (f := fun t => t.mirrorSnap.reply false (packetOfCmd 0xF003 c) .ring stOK (toLe 8 t.timebase.toNat)) (by decide)
    (by simp [Packet.hardware, packetOfCmd]) (fun _ => rfl) ((State.reply_sent _ _ _ _ _ _).queue.trans (by rw [State.mirrorSnap_mirror]))

/-- Settles O9: the holds of the channels named, the survey that a hold ends, the latch of an emergency stop, and the timebase in SNAP_TB. -/
theorem hardwareOpcodesTakeEffect : Obligations.HardwareOpcodesTakeEffect := by
  intro c s ha
  refine ⟨fun h hok => ?_, fun h hok => ?_, fun h => ?_, fun h hswf => ?_⟩
  · obtain ⟨hchans, hjobs, haxes, hilk, -⟩ := State.fireHeld_eq (s := s.handled) (BitVec.ofNat 64 (le c.params 0 8))
    have hhealth := fun {r} => State.fireHeld_health (s := s.handled) (m := BitVec.ofNat 64 (le c.params 0 8)) (r := r)
    have hexec := ha.exec_fireHold h hok
    generalize s.handled.fireHeld (BitVec.ofNat 64 (le c.params 0 8)) = u at *
    have hsent := u.reply_sent false (packetOfCmd 0xF000 c) .ring stOK (toLe 8 u.timebase.toNat)
    generalize u.reply false (packetOfCmd 0xF000 c) .ring stOK (toLe 8 u.timebase.toNat) = t at *
    unfold State.SameButSent at hsent
    have hchan (n : Nat) : t.chan n = (s.handled.setHolds (BitVec.ofNat 64 (le c.params 0 8)) true).chan n := by
      rw [State.chan, hsent]
      exact congrArg (fun v : Vector Chan 48 => vget v n {}) hchans
    have hset := fun {n} => State.setHolds_chan (s := s.handled) (le c.params 0 8) true (n := n)
    refine ⟨t, hexec, fun n hn => ?_, fun n hn => ?_, ?_, ?_, ?_, fun r hrun => ⟨fun n hn hr hbit => ?_, fun hr => ?_⟩⟩
    · rw [hchan, (hset hn).1]
      change _ = ((s.handled.chan n).hold || _)
      cases bit (le c.params 0 8) n <;> simp
    · rw [hchan]
      exact (hset hn).2
    · rw [hsent]; exact hjobs
    · rw [hsent]; exact haxes
    · rw [hsent]; exact hilk
    · rw [hsent]
      exact (hhealth hrun).1 (and_ne_zero_of_bit hr ((getLsbD_ofNat_bit (by omega)).trans hbit))
    · rw [hsent]
      exact (hhealth hrun).2 (and_eq_zero_of_bits fun n hn hn' => (getLsbD_ofNat_bit hn).trans (hr n hn').2)
  · have hframe := State.fireReleased_eq (s := s.handled) (BitVec.ofNat 64 (le c.params 0 8))
    have hexec := ha.exec_fireRelease h hok
    generalize s.handled.fireReleased (BitVec.ofNat 64 (le c.params 0 8)) = u at *
    have hsent := u.reply_sent false (packetOfCmd 0xF001 c) .ring stOK (toLe 8 u.timebase.toNat)
    generalize u.reply false (packetOfCmd 0xF001 c) .ring stOK (toLe 8 u.timebase.toNat) = t at *
    unfold State.SameButSent at hsent
    have hchan (n : Nat) : t.chan n = (s.handled.setHolds (BitVec.ofNat 64 (le c.params 0 8)) false).chan n := by
      rw [State.chan, hsent, hframe]
      rfl
    have hset := fun {n} => State.setHolds_chan (s := s.handled) (le c.params 0 8) false (n := n)
    refine ⟨t, hexec, fun n hn => ?_, fun n hn => ?_, ?_, ?_, ?_⟩
    · rw [hchan, (hset hn).1]
      change _ = ((s.handled.chan n).hold && _)
      cases bit (le c.params 0 8) n <;> simp
    · rw [hchan]
      exact (hset hn).2
    · rw [hsent, hframe]; rfl
    · rw [hsent, hframe]; rfl
    · rw [hsent, hframe]; rfl
  · obtain ⟨htrips, -⟩ := s.handled.trip_latches 8
    have hexec := ha.exec_eStop h
    generalize s.handled.trip 8 = u at *
    have hsent := u.reply_sent false (packetOfCmd 0xF002 c) .ring stOK []
    generalize u.reply false (packetOfCmd 0xF002 c) .ring stOK [] = t at *
    unfold State.SameButSent at hsent
    have htrips : t.ilk.trips = s.ilk.trips ||| 8 := by
      rw [hsent]
      exact htrips
    exact ⟨t, hexec, htrips, by simp [State.gateOpen, State.tripped, htrips]⟩
  · have hsent := s.handled.mirrorSnap.reply_sent false (packetOfCmd 0xF003 c) .ring stOK (toLe 8 s.handled.timebase.toNat)
    unfold State.SameButSent at hsent
    refine ⟨_, ha.exec_mirrorSnap h, fun i hi => ?_, ?_, ?_, ?_⟩
    · rw [hsent]
      exact sget_mirrorPut (State.refresh_swf (s := s.handled) hswf) 0x00C 4 s.timebase.toNat hi
    · rw [hsent, State.mirrorSnap_mirror]; rfl
    · rw [hsent, State.mirrorSnap_mirror]; rfl
    · rw [hsent, State.mirrorSnap_mirror]; rfl

end Sys2Proof.Machine
end

section
/-! SUPPORT. The fetch of the command ring (02 R54, R57, R479). -/
namespace Sys2Proof.Machine
variable {s t : State} {f : Fetch} {b d r : Bytes} {p : Packet}

/-! ### Packets taken from the bytes of a fetch -/

theorem extentOf_pos (b : Bytes) : 0 < extentOf b := by
  unfold extentOf slotsOf ceilDiv
  omega

/-- A packet taken from the ring: CMD_HEAD passes it, and it goes to the checks. -/
def State.takeSlots (s : State) (n : Nat) (p : Packet) : State := (s.setCmdHead (s.pe.cmd.head + n)).handlePacket p .ring

/-- The bytes end in the middle of a packet. -/
theorem takePackets_partial (n : Nat) (h : b.length < 64 * extentOf b) (s : State) (second : Bytes) :
    State.takePackets n s b second = (some b, s) := by
  cases n with
  | zero => rfl
  | succ n =>
    rw [State.takePackets]
    simp [h]

theorem takePackets_nil (n : Nat) (s : State) (second : Bytes) : State.takePackets n s [] second = (some [], s) :=
  takePackets_partial n (by have := extentOf_pos []; simp only [List.length_nil]; omega) s second

/-- The bytes are one packet with a good CRC. -/
theorem takePackets_good (n : Nat) (hlen : b.length = 64 * extentOf b) (hshot : s.shot 0 = false) (hcrc : crcOk b = true) (second : Bytes) :
    State.takePackets (n + 1) s b second = (some [], s.takeSlots (extentOf b) (packetOf b)) := by
  have hpos := extentOf_pos b
  have hwhole : b.take (64 * extentOf b) = b := List.take_of_length_le (by omega)
  have hrest : b.drop (64 * extentOf b) = [] := List.drop_of_length_le (by omega)
  rw [State.takePackets]
  simp only [hwhole, hrest, hshot, hcrc, Bool.not_false, Bool.and_self, if_true, Bool.false_eq_true, if_false, takePackets_nil]
  rw [if_neg (by simp only [Bool.or_eq_true, decide_eq_true_iff]; omega)]
  rfl

/-- The bytes are one packet whose CRC fails, and that read again has a good one. -/
theorem takePackets_reread (n : Nat) (hlen : b.length = 64 * extentOf b) (hshot : s.shot 0 = false) (hcrc : crcOk b = false)
    (hr : r.length = b.length) (hcrc' : crcOk r = true) (hext : extentOf r = extentOf b) :
    State.takePackets (n + 1) s b r =
      (some [], ((s.setCmdHead (s.pe.cmd.head + extentOf b)).count 0).handlePacket (packetOf r) .ring) := by
  have hpos := extentOf_pos b
  have hwhole : b.take (64 * extentOf b) = b := List.take_of_length_le (by omega)
  have hagain : r.take (64 * extentOf b) = r := List.take_of_length_le (by omega)
  have hrest : b.drop (64 * extentOf b) = [] := List.drop_of_length_le (by omega)
  have hfits : 64 * extentOf b ≤ r.length := by omega
  rw [State.takePackets]
  simp only [hwhole, hrest, hshot, hcrc, hagain, hcrc', hext, hfits, Nat.le_refl, decide_true, Bool.and_self, Bool.false_and, if_true,
    Bool.false_eq_true, if_false, takePackets_nil]
  rw [if_neg (by simp only [Bool.or_eq_true, decide_eq_true_iff]; omega)]

/-- The bytes are one packet whose CRC fails both times. -/
theorem takePackets_bad (n : Nat) (hlen : b.length = 64 * extentOf b) (hshot : s.shot 0 = false) (hcrc : crcOk b = false)
    (hr : r.length = b.length) (hcrc' : crcOk r = false) : State.takePackets (n + 1) s b r = (none, s.discardRing r) := by
  have hpos := extentOf_pos b
  have hwhole : b.take (64 * extentOf b) = b := List.take_of_length_le (by omega)
  have hagain : r.take (64 * extentOf b) = r := List.take_of_length_le (by omega)
  have hfits : 64 * extentOf b ≤ r.length := by omega
  rw [State.takePackets]
  simp only [hwhole, hshot, hcrc, hagain, hcrc', hfits, Bool.false_and, if_true, Bool.false_eq_true, if_false]
  rw [if_neg (by simp only [Bool.or_eq_true, decide_eq_true_iff]; omega)]

/-! ### A completion -/

/-- The slots that a fetch still waits for. -/
def State.fetchLeft (s : State) (f : Fetch) : Nat := (f.stop + s.pe.cmd.slots - f.next) % s.pe.cmd.slots

/-- The slots that a completion brings of the fetch under way, and that is all it may bring. -/
theorem min_fetchLeft {k : Nat} (hd : d.length = 64 * (k + 1)) (hleft : k + 1 ≤ s.fetchLeft f) :
    min ((f.stop + s.pe.cmd.slots - f.next) % s.pe.cmd.slots) (d.length / 64) = k + 1 ∧ d.take (64 * (k + 1)) = d := by
  rw [State.fetchLeft] at hleft
  exact ⟨by omega, List.take_of_length_le (by omega)⟩

/-- A completion that leaves slots of the fetch to come. -/
theorem exec_completion_part (hrun : s.inRun = true) (hbme : s.host.bme = true) (hfetch : s.pe.fetch = some f) {k : Nat}
    (hd : d.length = 64 * (k + 1)) (hleft : k + 1 < s.fetchLeft f) {rest : Bytes}
    (hres : State.takePackets (k + 1 + f.buf.length / 64) s (f.buf ++ d) r = (some rest, s)) :
    exec (.ringReadCompletion d r) s =
      .next { s with pe := { s.pe with fetch := some { f with next := (f.next + (k + 1)) % s.pe.cmd.slots, buf := rest } } } := by
  obtain ⟨hn, htake⟩ := min_fetchLeft hd hleft.le
  change execRingReadCompletion d r s = _
  rw [State.fetchLeft] at hleft
  simp only [execRingReadCompletion, hfetch, hrun, hbme, hn, htake, hres, Bool.not_true, Bool.or_self, Bool.false_eq_true, if_false,
    Nat.succ_ne_zero, hleft.ne]

/-- The last completion of a fetch whose packets are taken. -/
theorem exec_completion_last (hrun : s.inRun = true) (hbme : s.host.bme = true) (hfetch : s.pe.fetch = some f) {k : Nat}
    (hd : d.length = 64 * (k + 1)) (hleft : k + 1 = s.fetchLeft f) {rest : Bytes}
    (hres : State.takePackets (k + 1 + f.buf.length / 64) s (f.buf ++ d) r = (some rest, t)) (htail : t.pe.cmd.tail = f.stop) :
    exec (.ringReadCompletion d r) s = .next { t with pe := { t.pe with fetch := none } } := by
  obtain ⟨hn, htake⟩ := min_fetchLeft hd hleft.le
  change execRingReadCompletion d r s = _
  rw [State.fetchLeft] at hleft
  rw [← hleft] at hn
  cases hfetch' : t.pe.fetch with
  | none =>
    simp only [execRingReadCompletion, hfetch, hrun, hbme, ← hleft, hn, htake, hres, Bool.not_true, Bool.or_self, Bool.false_eq_true, if_false,
      Nat.succ_ne_zero, hfetch']
    rw [← hfetch']
  | some g =>
    simp only [execRingReadCompletion, hfetch, hrun, hbme, hn, htake, hres, Bool.not_true, Bool.or_self, Bool.false_eq_true, if_false,
      Nat.succ_ne_zero, hfetch', ← hleft, htail, if_true]

/-- A completion with a packet that fails both reads. -/
theorem exec_completion_bad (hrun : s.inRun = true) (hbme : s.host.bme = true) (hfetch : s.pe.fetch = some f) {k : Nat}
    (hd : d.length = 64 * (k + 1)) (hleft : k + 1 ≤ s.fetchLeft f)
    (hres : State.takePackets (k + 1 + f.buf.length / 64) s (f.buf ++ d) r = (none, t)) :
    exec (.ringReadCompletion d r) s = .next t := by
  obtain ⟨hn, htake⟩ := min_fetchLeft hd hleft
  change execRingReadCompletion d r s = _
  simp only [execRingReadCompletion, hfetch, hrun, hbme, hn, htake, hres, Bool.not_true, Bool.or_self, Bool.false_eq_true, if_false,
    Nat.succ_ne_zero]

/-! ### Packets that this device handles -/

/-- What leads a packet: the way out of one for another device, and the execution of one for this device. -/
theorem State.route_here {src : Source} (hremote : s.handled.isRemote p src = false) (hlocal : s.handled.isLocal p src = true) :
    s.route p src = s.handled.dispatch p src s.pe.seq := by
  have hstay : (if s.handled.isRemote p src = true then s.handled.relayOut p src s.pe.seq else s.handled) = s.handled := if_neg (by simp [hremote])
  have hroute : s.route p src = if (if s.handled.isRemote p src = true then s.handled.relayOut p src s.pe.seq else s.handled).isLocal p src = true then
      (if s.handled.isRemote p src = true then s.handled.relayOut p src s.pe.seq else s.handled).dispatch p src s.pe.seq
    else (if s.handled.isRemote p src = true then s.handled.relayOut p src s.pe.seq else s.handled) := rfl
  rw [hroute, hstay, if_pos hlocal]

/-- A packet that passes the checks and goes to no other device is handled here. -/
theorem State.handlePacket_here (hcheck : s.packetCheck p .ring = none) (hremote : s.isRemote p .ring = false) :
    s.handlePacket p .ring = s.handled.dispatch p .ring s.pe.seq := by
  have hlocal : s.isLocal p .ring = true := by
    by_contra hnot
    have hnot : s.isLocal p .ring = false := by simpa using hnot
    have hdevice : p.target.toNat ≠ s.deviceId := fun h => by simp [State.isLocal, h] at hnot
    have hid : s.link.id.isSome = false := by simpa [State.isRemote, hdevice] using hremote
    have hfar : s.unreachable p = true := by
      rw [Option.isSome_eq_false_iff] at hid
      simp [State.unreachable, hid]
    simp only [State.packetCheck, hnot, hfar, Bool.not_false, Bool.and_self, if_true] at hcheck
    split_ifs at hcheck
  rw [State.handlePacket, hcheck]
  exact State.route_here hremote hlocal

/-- A Kettle-bound packet that passes the checks joins the queue, where the queue takes it. -/
theorem State.handlePacket_queued (hcheck : s.packetCheck p .ring = none) (hremote : s.isRemote p .ring = false) (hkettle : p.hardware = false)
    (hstalled : s.pe.stalled = false) (hrom : s.pe.romFail = false) (hroom : s.pe.queue.length < 64) :
    s.handlePacket p .ring = { s with pe := { s.pe with
      seq := s.pe.seq + 1, queue := s.pe.queue ++ [{ pkt := p, src := .ring, seq := s.pe.seq }],
      takeFrom := if s.pe.queue = [] then s.clock else s.pe.takeFrom } } := by
  have hbusy : (s.handled.pe.stalled || s.handled.pe.romFail || 64 ≤ s.handled.pe.queue.length) = false := by
    rw [show s.handled.pe.stalled = false from hstalled, show s.handled.pe.romFail = false from hrom,
      decide_eq_false (show ¬ 64 ≤ s.handled.pe.queue.length from not_le.2 hroom)]
    rfl
  rw [State.handlePacket_here hcheck hremote, State.dispatch, hkettle, if_neg Bool.false_ne_true, State.enqueue, if_neg (by rw [hbusy]; decide)]
  rfl

/-- The registers of the command ring, through what a reply and the end of operations touch. -/
theorem State.SameButSent.cmd (h : s.SameButSent t) : t.pe.cmd = s.pe.cmd := by
  unfold State.SameButSent at h
  rw [h]

theorem State.fireHeld_cmd (m : ChMask) : (s.fireHeld m).pe.cmd = s.pe.cmd := by
  obtain ⟨hframe, -⟩ := State.setHolds_eq (s := s) m true
  have hcmd : (s.setHolds m true).pe.cmd = s.pe.cmd := by rw [hframe]
  unfold State.fireHeld State.endSurveyIf State.endSurvey
  generalize s.setHolds m true = u at *
  rw [← hcmd]
  split
  · split
    · split
      · rfl
      · exact (State.finishOps_sent _ _ _).cmd.trans rfl
    · rfl
  · rfl

/-- A FIRE_HOLD that this device takes latches its holds. -/
theorem State.handlePacket_fireHold (hop : p.opcode = 0xF000) (hcheck : s.packetCheck p .ring = none) (htarget : p.target.toNat = s.deviceId)
    (hok : channelsOk (le p.params 0 8) = true) : (s.handlePacket p .ring).pe.cmd = s.pe.cmd ∧
      ∀ n, n < 48 → ((s.handlePacket p .ring).chan n).hold = ((s.chan n).hold || bit (le p.params 0 8) n) := by
  have hremote : s.isRemote p .ring = false := by simp [State.isRemote, htarget]
  have hhard : p.hardware = true := by simp [Packet.hardware, hop]
  have hrun : s.handlePacket p .ring = (s.handled.fireHeld (BitVec.ofNat 64 (le p.params 0 8))).reply false p .ring stOK
      (toLe 8 (s.handled.fireHeld (BitVec.ofNat 64 (le p.params 0 8))).timebase.toNat) := by
    rw [State.handlePacket_here hcheck hremote, State.dispatch, hhard, if_pos rfl]
    simp only [State.runHardware, hop]
    exact if_neg (by rw [show p.u 0 8 = le p.params 0 8 from rfl, hok]; decide)
  obtain ⟨hchans, -⟩ := State.fireHeld_eq (s := s.handled) (BitVec.ofNat 64 (le p.params 0 8))
  have hcmd := State.fireHeld_cmd (s := s.handled) (BitVec.ofNat 64 (le p.params 0 8))
  rw [hrun]
  generalize s.handled.fireHeld (BitVec.ofNat 64 (le p.params 0 8)) = u at *
  have hsent := u.reply_sent false p .ring stOK (toLe 8 u.timebase.toNat)
  refine ⟨hsent.cmd.trans hcmd, fun n hn => ?_⟩
  have hchan : (u.reply false p .ring stOK (toLe 8 u.timebase.toNat)).chans = u.chans := by
    unfold State.SameButSent at hsent
    rw [hsent]
  rw [State.chan, hchan, hchans]
  change ((s.handled.setHolds (BitVec.ofNat 64 (le p.params 0 8)) true).chan n).hold = ((s.handled.chan n).hold || _)
  rw [(State.setHolds_chan (le p.params 0 8) true hn).1]
  cases bit (le p.params 0 8) n <;> simp

/-- Slots discarded: CMD_HEAD goes to CMD_TAIL, the fetch ends, and the packet engine answers. -/
theorem State.discardRing_eq (h : s.pe.cmd.tail < s.pe.cmd.slots) (b : Bytes) : (s.discardRing b).pe.cmd.head = s.pe.cmd.tail ∧
    (s.discardRing b).pe.fetch = none ∧ (s.discardRing b).pe.queue = s.pe.queue ∧ (s.discardRing b).chans = s.chans ∧
    (s.discardRing b).jobs = s.jobs := by
  have hsent := ({ s with pe := { s.pe with fetch := none } } : State).setCmdHead s.pe.cmd.tail |>.reply_sent false
    { packetOf b with flags := (packetOf b).flags ||| 1 } .ring stCHECK_FAIL (toLe 2 s.pe.cmd.head ++ toLe 2 s.pe.cmd.used)
  unfold State.SameButSent at hsent
  rw [State.discardRing]
  dsimp only
  rw [hsent]
  exact ⟨Nat.mod_eq_of_lt h, rfl, rfl, rfl, rfl⟩

/-- Settles O13: the packets that the bytes of a completion hold, and what becomes of the fetch. -/
theorem ringFetch : Obligations.RingFetch := by
  intro s f hrun hfetch
  refine ⟨fun e he => ?_, fun hoff => ?_, fun d r hbme hshot hbuf hne hd64 => ?_⟩
  · have hoff : readOff e s.host.ctl.timeoutOff = false := by
      cases e <;> simp_all [readOff]
    change execRingReadError e s = _
    simp only [execRingReadError, hfetch, hrun, hoff, Option.isNone_some, Bool.not_true, Bool.or_self, Bool.false_eq_true, if_false]
    rfl
  · change execRingReadError .timeout s = _
    simp [execRingReadError, readOff, hoff]
  intro left b n queued waits
  obtain ⟨k, hk⟩ : ∃ k, d.length = 64 * (k + 1) := by
    have hpos : 0 < d.length := List.length_pos_iff.2 hne
    exact ⟨d.length / 64 - 1, by omega⟩
  refine ⟨fun hpart hmiddle => ?_, fun hlast hwhole hstop => ⟨fun hcrc hwaits => ?_, fun hcrc hr hcrc' hext hwaits => ?_,
    fun hcrc hop hcheck htarget hok => ?_, fun hcrc hr hcrc' htail => ?_⟩⟩
  · have hnext : d.length / 64 = k + 1 := by omega
    rw [hnext]
    exact exec_completion_part hrun hbme hfetch hk (by change k + 1 < left; omega) (takePackets_partial _ hmiddle s r)
  · obtain ⟨hcheck, hremote, hkettle, hstalled, hrom, hroom⟩ := hwaits
    have hqueued := State.handlePacket_queued (s := s.setCmdHead (s.pe.cmd.head + n)) hcheck hremote hkettle hstalled hrom hroom
    have hres : State.takePackets (k + 1 + f.buf.length / 64) s b r = (some [], s.takeSlots n (packetOf b)) := by
      rw [Nat.add_right_comm]
      exact takePackets_good _ hwhole hshot hcrc r
    rw [State.takeSlots, hqueued] at hres
    exact ⟨_, exec_completion_last hrun hbme hfetch hk (by change k + 1 = left; omega) hres hstop.symm, ⟨rfl, rfl, rfl, rfl⟩, rfl⟩
  · obtain ⟨hcheck, hremote, hkettle, hstalled, hrom, hroom⟩ := hwaits
    have hqueued := State.handlePacket_queued (s := (s.setCmdHead (s.pe.cmd.head + n)).count 0) hcheck hremote hkettle hstalled hrom hroom
    have hres : State.takePackets (k + 1 + f.buf.length / 64) s b r =
        (some [], ((s.setCmdHead (s.pe.cmd.head + n)).count 0).handlePacket (packetOf r) .ring) := by
      rw [Nat.add_right_comm]
      exact takePackets_reread _ hwhole hshot hcrc hr hcrc' hext
    rw [hqueued] at hres
    exact ⟨_, exec_completion_last hrun hbme hfetch hk (by change k + 1 = left; omega) hres hstop.symm, ⟨rfl, rfl, rfl, rfl⟩, rfl⟩
  · obtain ⟨hcmd, hholds⟩ := State.handlePacket_fireHold (s := s.setCmdHead (s.pe.cmd.head + n)) hop hcheck htarget hok
    have hres : State.takePackets (k + 1 + f.buf.length / 64) s b r = (some [], s.takeSlots n (packetOf b)) := by
      rw [Nat.add_right_comm]
      exact takePackets_good _ hwhole hshot hcrc r
    rw [State.takeSlots] at hres
    generalize (s.setCmdHead (s.pe.cmd.head + n)).handlePacket (packetOf b) .ring = t at *
    refine ⟨_, exec_completion_last hrun hbme hfetch hk (by change k + 1 = left; omega) hres (by rw [hcmd]; exact hstop.symm), ?_, rfl, hholds⟩
    exact congrArg Ring.head hcmd
  · have hres : State.takePackets (k + 1 + f.buf.length / 64) s b r = (none, s.discardRing r) := by
      rw [Nat.add_right_comm]
      exact takePackets_bad _ hwhole hshot hcrc hr hcrc'
    exact ⟨_, exec_completion_bad hrun hbme hfetch hk (by change k + 1 ≤ left; omega) hres, State.discardRing_eq htail r⟩

end Sys2Proof.Machine
end

section
/-! SUPPORT. Frames that this device takes over WizerLink (12 R373, R379, R390). -/
namespace Sys2Proof.Machine
variable {s t : State} {p : Side} {f : Frame} {b : Bytes}

/-! ### What the link notes apart from its ports -/

/-- What the link keeps apart from its ports, the count of replays and the next PKT_ID. -/
def State.ledger (s : State) : Link := { s.link with east := {}, west := {}, replays := 0, pktId := 0 }

theorem State.modWport_ledger (s : State) (p : Side) (f : Port → Port) : (s.modWport p f).ledger = s.ledger := by
  cases p <;> rfl

theorem State.freeThrough_ledger (s : State) (p : Side) (seq : BitVec 12) : (s.freeThrough p seq).ledger = s.ledger := by
  unfold State.freeThrough
  split
  · exact s.modWport_ledger _ _
  · rfl

theorem State.replay_ledger (s : State) (p : Side) : (s.replay p).ledger = s.ledger := by
  unfold State.replay
  extract_lets n
  split
  · rfl
  · exact (State.modWport_ledger _ _ _).trans rfl

theorem State.sendFrame_ledger (s : State) (p : Side) (f : Frame) : (s.sendFrame p f).ledger = s.ledger := by
  unfold State.sendFrame
  extract_lets q g sent
  have hsent : sent.ledger = s.ledger := s.modWport_ledger _ _
  split
  · rfl
  split
  · split
    · split
      · exact ((State.replay_ledger _ _).trans (State.freeThrough_ledger _ _ _)).trans hsent
      · exact hsent
    · exact s.modWport_ledger _ _
  · exact s.modWport_ledger _ _

theorem State.sendAll_ledger (s : State) (typ : BitVec 4) (b : Bytes) : (s.sendAll typ b).ledger = s.ledger := by
  refine foldl_keeps (part := State.ledger) (fun s p => ?_) _ s
  dsimp only
  split
  · rfl
  · exact s.sendFrame_ledger _ _

theorem State.sendTo_ledger (s : State) (id : Nat) (typ : BitVec 4) (b : Bytes) : (s.sendTo id typ b).ledger = s.ledger := by
  unfold State.sendTo
  split
  · rfl
  · exact s.sendFrame_ledger _ _

theorem State.sendPkt_ledger (s : State) (id kind : Nat) (k : BitVec 16) (b : Bytes) : (s.sendPkt id kind k b).ledger = s.ledger := by
  refine foldl_keeps (part := State.ledger) (fun s x => ?_) _ s
  split
  · exact s.sendAll_ledger _ _
  · exact s.sendTo_ledger _ _ _

theorem State.sendReply_ledger (s : State) (dest : Byte) (r : Reply) : (s.sendReply dest r).ledger = s.ledger :=
  (State.sendPkt_ledger _ _ _ _ _).trans rfl

theorem State.ledger_of_same (h : s.SameButReplies t) : t.ledger = s.ledger := by
  unfold State.SameButReplies at h
  rw [h]
  rfl

theorem State.kettleWrites_ledger (h : s.kettleWrites = some t) : t.ledger = s.ledger := by
  unfold State.kettleWrites at h
  split at h
  · cases h
  · split at h
    · cases h
    · split at h
      · cases h
        exact (State.sendReply_ledger _ _ _).trans rfl
      · split at h
        · cases h
          rfl
        · cases h

theorem State.drainReplies_ledger (n : Nat) (s : State) : (State.drainReplies n s).ledger = s.ledger := by
  induction n generalizing s with
  | zero => rfl
  | succ n ih =>
    have hnext : (match s.kettleWrites with | some t => State.drainReplies n t | none => s).ledger = s.ledger := by
      split
      · next t ht => exact (ih t).trans (State.kettleWrites_ledger ht)
      · rfl
    unfold State.drainReplies
    dsimp only
    split
    · next r rest _ =>
      split
      · exact (ih _).trans ((State.ledger_of_same (State.writeReply_same _ _)).trans rfl)
      · exact hnext
    · exact hnext

theorem State.engineReply_ledger (s : State) (r : Reply) : (s.engineReply r).ledger = s.ledger := by
  unfold State.engineReply
  extract_lets d
  have hd : d.2.ledger = s.ledger := by
    change (s.detect 1 _).2.ledger = _
    unfold State.detect
    split <;> rfl
  split
  · refine Eq.trans ?_ hd
    rw [State.setRplLost_eq]
    rfl
  · exact (State.drainReplies_ledger _ _).trans hd

/-! ### A frame that comes in its turn -/

theorem State.accepted_inOrder (h : s.Delivers p f) : s.inOrder p f = (true, s.accepted p) := by
  obtain ⟨-, hshot, -, htyp, hseq, hacks⟩ := h
  have hcrc : s.crcShot p = false := by rw [State.crcShot, hshot, Bool.false_and]
  have hfew : ¬ 16 ≤ ((s.accepted p).wport p).unackedRx := by
    rw [State.accepted, State.wport_modWport]
    change ¬ 16 ≤ (s.wport p).unackedRx + 1
    omega
  simp only [State.inOrder, hcrc, htyp, hseq, Bool.not_true, Bool.false_eq_true, if_false, if_true]
  exact congrArg (Prod.mk true) (if_neg hfew)

theorem State.accepted_takes (h : s.Delivers p f) : (s.accepted p).takes f = true := by
  obtain ⟨-, -, hdest, -⟩ := h
  have hid : (s.accepted p).link.id = s.link.id := by cases p <;> rfl
  rcases hdest with hall | ⟨i, hi, hown⟩
  · simp [State.takes, hall]
  · simp [State.takes, hid, hi, hown]

theorem State.passed_frames (s : State) (p : Side) (f : Frame) : s.SameButFrames (s.passed p f) := by
  have haccepted : s.SameButFrames (s.accepted p) := s.modWport_frames _ _
  unfold State.passed
  split
  · exact haccepted.trans (State.sendFrame_frames _ _ _)
  · exact haccepted

theorem State.passed_ledger (s : State) (p : Side) (f : Frame) : (s.passed p f).ledger = s.ledger := by
  have haccepted : (s.accepted p).ledger = s.ledger := s.modWport_ledger _ _
  unfold State.passed
  split
  · exact (State.sendFrame_ledger _ _ _).trans haccepted
  · exact haccepted

/-- A frame that comes in its turn for this device goes on where it must, and is handled. -/
theorem State.Delivers.receive (h : s.Delivers p f) (handle : State → State) : s.receive p f handle = handle (s.passed p f) := by
  have htakes := State.accepted_takes h
  have horder := State.accepted_inOrder h
  obtain ⟨-, -, hdest, htyp, -, -⟩ := h
  have hctl : (f.typ = tACK || f.typ = tNAK || f.typ = tSYNC) = false := by
    rw [Bool.eq_false_iff]
    intro hctl
    simp only [Bool.or_eq_true, decide_eq_true_eq, or_assoc] at hctl
    rcases hctl with h | h | h <;> rw [h] at htyp <;> exact absurd htyp (by decide)
  have hdest' : f.dest ≠ 0xFE := by
    rcases hdest with h | ⟨i, -, h⟩
    · rw [h]; decide
    · intro hfe
      rw [hfe] at h
      have := i.isLt
      simp at h
      omega
  have hforward : (s.accepted p).forward p f = s.passed p f := by
    unfold State.forward State.passed
    rw [if_neg hdest']
    by_cases hall : f.dest = 0xFF
    · simp only [hall, if_true, true_and]
    · simp only [hall, if_false, false_and, htakes, if_true]
  simp only [State.receive, horder, if_true, hctl, Bool.false_eq_true, if_false, hforward, htakes]

end Sys2Proof.Machine
end

section
/-! SUPPORT. Packets relayed to this device: commands, replies, signals, acknowledgements, tile data (12 R390-R393). -/
namespace Sys2Proof.Machine
variable {s t : State} {p : Side} {f : Frame} {b : Bytes}

theorem State.Delivers.takes (h : s.Delivers p f) : s.takes f = true := by
  obtain ⟨-, -, hdest, -⟩ := h
  rcases hdest with hall | ⟨i, hi, hown⟩
  · simp [State.takes, hall]
  · simp [State.takes, hi, hown]

/-- The last segment of a packet of a kind. -/
theorem State.DeliversPkt.isPkt {k : Nat} (h : s.DeliversPkt p f k) : s.isPkt p f k = true := by
  obtain ⟨hdel, htyp, hlen, hkind, hlast⟩ := h
  have htakes := hdel.takes
  obtain ⟨hon, -⟩ := hdel
  simp [State.isPkt, hon, htyp, hlen, hkind, hlast, htakes]

theorem State.DeliversPkt.receive {k : Nat} (h : s.DeliversPkt p f k) :
    s.receive p f (fun s => s.takePktFrame f) = (s.passed p f).takePktFrame f := by
  obtain ⟨hdel, -⟩ := h
  exact hdel.receive _

/-! ### Segments and packets -/

theorem State.link_of_ledger (h : t.ledger = s.ledger) : t.link.assembly = s.link.assembly ∧ t.link.taken = s.link.taken ∧
    t.link.relayed = s.link.relayed ∧ t.link.awaiting = s.link.awaiting ∧ t.link.heldData = s.link.heldData ∧ t.link.id = s.link.id :=
  ⟨show t.ledger.assembly = s.ledger.assembly by rw [h], show t.ledger.taken = s.ledger.taken by rw [h],
    show t.ledger.relayed = s.ledger.relayed by rw [h], show t.ledger.awaiting = s.ledger.awaiting by rw [h],
    show t.ledger.heldData = s.ledger.heldData by rw [h], show t.ledger.id = s.ledger.id by rw [h]⟩

theorem State.passed_assembled (s : State) (p : Side) (f : Frame) : (s.passed p f).assembled f = s.assembled f := by
  obtain ⟨hassembly, -⟩ := State.link_of_ledger (s.passed_ledger p f)
  rw [State.assembled, State.assembled, hassembly]

/-- The last segment of a packet hands it on. -/
theorem State.takeSegment_last (hb : s.assembled f = some b) (hlast : pktLast f = true) (whole : State → Bytes → State) :
    s.takeSegment f whole = whole (s.dropAssembly f) b := by
  simp [State.takeSegment, hb, hlast]

/-- A segment kept with those before it. -/
def State.keepSegment (s : State) (f : Frame) (b : Bytes) : State := { s with link := { s.link with assembly :=
  { origin := pktOrigin f, pktId := pktIdOf f, kind := pktKind f, bytes := b } :: s.link.assembly.filter (fun x => !x.of f) } }

/-- Any other segment is kept. -/
theorem State.takeSegment_more (hb : s.assembled f = some b) (hlast : pktLast f = false) (whole : State → Bytes → State) :
    s.takeSegment f whole = s.keepSegment f b := by
  simp [State.takeSegment, hb, hlast, State.dropAssembly, State.keepSegment]

/-- The packet is noted among the last 16 taken. -/
def State.noted (s : State) (f : Frame) : State :=
  { s with link := { s.link with taken := ((pktOrigin f, pktIdOf f) :: s.link.taken).take 16 } }

theorem State.takeOnce_again (h : s.link.taken.contains (pktOrigin f, pktIdOf f) = true) (act : State → State) : s.takeOnce f act = s := by
  rw [State.takeOnce]
  exact if_pos h

theorem State.takeOnce_first (h : s.link.taken.contains (pktOrigin f, pktIdOf f) = false) (act : State → State) : s.takeOnce f act = act (s.noted f) := by
  rw [State.takeOnce]
  exact if_neg (by rw [h]; decide)

/-- What a whole packet does when it comes: nothing if it came before, and else what its kind says. -/
theorem State.DeliversPkt.whole {k : Nat} (h : s.DeliversPkt p f k) (hb : s.assembled f = some b) (act : State → Bytes → State) :
    (s.link.taken.contains (pktOrigin f, pktIdOf f) = true →
      (s.passed p f).takeSegment f (fun s b => s.takeOnce f (fun s => act s b)) = (s.passed p f).dropAssembly f) ∧
    (s.link.taken.contains (pktOrigin f, pktIdOf f) = false →
      (s.passed p f).takeSegment f (fun s b => s.takeOnce f (fun s => act s b)) = act (((s.passed p f).dropAssembly f).noted f) b) := by
  obtain ⟨-, -, -, -, hlast⟩ := h
  obtain ⟨-, htaken, -⟩ := State.link_of_ledger (s.passed_ledger p f)
  have hseg := State.takeSegment_last ((s.passed_assembled p f).trans hb) hlast
  have htaken' : ((s.passed p f).dropAssembly f).link.taken = s.link.taken := htaken
  refine ⟨fun hagain => ?_, fun hagain => ?_⟩
  · rw [hseg]
    exact State.takeOnce_again (by rw [htaken']; exact hagain) _
  · rw [hseg]
    exact State.takeOnce_first (by rw [htaken']; exact hagain) _

/-- The kind of a PKT frame decides what takes it. -/
theorem State.takePktFrame_kind : (pktKind f = 0 → s.takePktFrame f = s.takeSegment f (fun s b => s.takeOnce f (fun s => s.takeCommand f b))) ∧
    (pktKind f = 1 → s.takePktFrame f = s.takeSegment f (fun s b => s.takeOnce f (fun s => s.takeReply b))) ∧
    (pktKind f = 2 → s.takePktFrame f = s.takeDelivery (pktIdOf f)) ∧
    (pktKind f = 3 → s.takePktFrame f = s.takeSegment f (fun s b => s.takeOnce f (fun s => s.takeSignal f b))) := by
  refine ⟨fun h => ?_, fun h => ?_, fun h => ?_, fun h => ?_⟩ <;> simp only [State.takePktFrame, h]

theorem State.Delivers.exec_segment (h : s.Delivers p f) (htyp : f.typ = tPKT) (hlen : 8 ≤ f.payload.length) (hkind : pktKind f ∈ [0, 1, 3])
    (hlast : pktLast f = false) (hb : s.assembled f = some b) : exec (.pkt p f) s = .next ((s.passed p f).keepSegment f b) := by
  have hmore := State.takeSegment_more ((s.passed_assembled p f).trans hb) hlast
  have htake : (s.passed p f).takePktFrame f = (s.passed p f).keepSegment f b := by
    obtain ⟨hcommand, hreply, -, hsignal⟩ := State.takePktFrame_kind (s := s.passed p f) (f := f)
    simp only [List.mem_cons, List.not_mem_nil, or_false] at hkind
    rcases hkind with hk | hk | hk
    · rw [hcommand hk, hmore]
    · rw [hreply hk, hmore]
    · rw [hsignal hk, hmore]
  have hon : s.linkOn p = true := h.1
  change execPkt p f s = _
  rw [execPkt, if_pos (by simp [hon, htyp, hlen, hlast]), h.receive, htake]

theorem State.DeliversPkt.exec_command (h : s.DeliversPkt p f 0) (hb : s.assembled f = some b) :
    (s.link.taken.contains (pktOrigin f, pktIdOf f) = true → exec (.relayCommand p f) s = .next ((s.passed p f).dropAssembly f)) ∧
    (s.link.taken.contains (pktOrigin f, pktIdOf f) = false → exec (.relayCommand p f) s = .next ((((s.passed p f).dropAssembly f).noted f).takeCommand f b)) := by
  have hexec : exec (.relayCommand p f) s = .next ((s.passed p f).takePktFrame f) := by
    change execRelayCommand p f s = _
    rw [execRelayCommand, if_pos h.isPkt, h.receive]
  rw [hexec, State.takePktFrame_kind.1 h.2.2.2.1]
  obtain ⟨hagain, hfirst⟩ := h.whole hb (fun s b => s.takeCommand f b)
  exact ⟨fun g => congrArg _ (hagain g), fun g => congrArg _ (hfirst g)⟩

theorem State.DeliversPkt.exec_reply (h : s.DeliversPkt p f 1) (hb : s.assembled f = some b) :
    (s.link.taken.contains (pktOrigin f, pktIdOf f) = true → exec (.relayReply p f) s = .next ((s.passed p f).dropAssembly f)) ∧
    (s.link.taken.contains (pktOrigin f, pktIdOf f) = false → exec (.relayReply p f) s = .next ((((s.passed p f).dropAssembly f).noted f).takeReply b)) := by
  have hexec : exec (.relayReply p f) s = .next ((s.passed p f).takePktFrame f) := by
    change execRelayReply p f s = _
    rw [execRelayReply, if_pos h.isPkt, h.receive]
  rw [hexec, State.takePktFrame_kind.2.1 h.2.2.2.1]
  obtain ⟨hagain, hfirst⟩ := h.whole hb (fun s b => s.takeReply b)
  exact ⟨fun g => congrArg _ (hagain g), fun g => congrArg _ (hfirst g)⟩

/-- The instruction that stands for a job signal. -/
def jobSignal (p : Side) (f : Frame) (k : Fin 4) : Instr :=
  match k with
  | 0 => .jobSignalLate p f
  | 1 => .jobSignalStopFiring p f
  | 2 => .jobSignalFifosFull p f
  | 3 => .jobSignalArm p f

theorem exec_jobSignal (k : Fin 4) (hsignal : s.isSignal p f k.val = true) :
    exec (jobSignal p f k) s = .next (s.receive p f (fun s => s.takePktFrame f)) := by
  fin_cases k
  · exact if_pos hsignal
  · exact if_pos hsignal
  · exact if_pos hsignal
  · exact if_pos hsignal

theorem State.DeliversPkt.exec_signal (h : s.DeliversPkt p f 3) (hb : s.assembled f = some b) (k : Fin 4) (hk : le (pktBody f) 0 1 = k.val) :
    (s.link.taken.contains (pktOrigin f, pktIdOf f) = true → exec (jobSignal p f k) s = .next ((s.passed p f).dropAssembly f)) ∧
    (s.link.taken.contains (pktOrigin f, pktIdOf f) = false → exec (jobSignal p f k) s = .next ((((s.passed p f).dropAssembly f).noted f).takeSignal f b)) := by
  have hsignal : s.isSignal p f k.val = true := by simp [State.isSignal, h.isPkt, hk]
  rw [exec_jobSignal k hsignal, h.receive, State.takePktFrame_kind.2.2.2 h.2.2.2.1]
  obtain ⟨hagain, hfirst⟩ := h.whole hb (fun s b => s.takeSignal f b)
  exact ⟨fun g => congrArg _ (hagain g), fun g => congrArg _ (hfirst g)⟩

/-! ### Replies -/

/-- The reply that a relayed one is. -/
def relayedReply (b : Bytes) : Reply :=
  { opcode := BitVec.ofNat 16 (le b 0 2), tag := BitVec.ofNat 16 (le b 4 2), status := BitVec.ofNat 16 (le b 8 2), params := b.drop 16, raw := b }

theorem leNat_lt (b : Bytes) : leNat b < 256 ^ b.length := by
  induction b with
  | nil => exact Nat.one_pos
  | cons x b ih =>
    have hx : x.toNat < 256 := x.isLt
    change x.toNat + 256 * leNat b < 256 ^ (b.length + 1)
    rw [Nat.pow_succ]
    omega

/-- A field holds no more than its bytes can. -/
theorem le_lt (b : Bytes) (off n : Nat) : le b off n < 256 ^ n := by
  rw [le_eq_leNat]
  exact (leNat_lt _).trans_le (Nat.pow_le_pow_right (by decide) (List.length_take_le _ _))

theorem State.takeReply_eq : (le b 8 2 = 1 → s.takeReply b = s.engineReply (relayedReply b)) ∧
    (le b 8 2 ≠ 1 → s.takeReply b = { (s.engineReply (relayedReply b)) with link := { (s.engineReply (relayedReply b)).link with
      awaiting := dropAnswered b s.link.awaiting } }) := by
  obtain ⟨-, -, -, hawaiting, -⟩ := State.link_of_ledger (s.engineReply_ledger (relayedReply b))
  refine ⟨fun h => ?_, fun h => ?_⟩
  · rw [State.takeReply]
    exact if_pos (by rw [h]; rfl)
  · rw [← hawaiting, State.takeReply]
    refine if_neg fun heq => h ?_
    have hnat := congrArg BitVec.toNat heq
    rw [BitVec.toNat_ofNat] at hnat
    exact (Nat.mod_eq_of_lt (le_lt b 8 2)).symm.trans hnat

end Sys2Proof.Machine
end

section
/-! SUPPORT. Job signals, acknowledgements of delivery, tile data (12 R390-R393). -/
namespace Sys2Proof.Machine
variable {s t : State} {p : Side} {f : Frame} {b : Bytes} {slot : Nat} {j : Job}

/-! ### Job signals -/

theorem State.signalLate_eq (hslot : s.jobSlot (BitVec.ofNat 16 (le b 2 2)) = some slot) (hjob : s.jobAt slot = some j) (origin : Nat) :
    (s.isMaster = false ∨ (j.state ≠ .running ∧ j.state ≠ .late) ∨ 8 ≤ j.feed → s.signalLate origin b = s) ∧
    (s.isMaster = true → j.state = .late → j.feed < 8 → s.signalLate origin b =
      s.modJob slot (fun x => { x with ringDevs := setBit x.ringDevs origin true })) ∧
    (s.isMaster = true → j.state = .running → j.feed < 8 → s.signalLate origin b =
      (s.lateStart slot (le b 4 4)).modJob slot (fun x => { x with ringDevs := setBit x.ringDevs origin true })) := by
  refine ⟨?_, fun hmaster hstate hfeed => ?_, fun hmaster hstate hfeed => ?_⟩
  · rintro (hmaster | ⟨hrunning, hlate⟩ | hfeed)
    · simp [State.signalLate, State.signalJob, hslot, hmaster]
    · simp [State.signalLate, State.signalJob, hslot, hjob, hrunning, hlate]
    · simp [State.signalLate, State.signalJob, hslot, hjob, Nat.not_lt.2 hfeed]
  · simp [State.signalLate, State.signalJob, hslot, hjob, hmaster, hstate, hfeed]
  · simp [State.signalLate, State.signalJob, hslot, hjob, hmaster, hstate, hfeed]

theorem State.signalStop_eq (hslot : s.jobSlot (BitVec.ofNat 16 (le b 2 2)) = some slot) (hjob : s.jobAt slot = some j) :
    (s.isMaster = true ∨ j.state ≠ .running ∨ s.ringForm j = false → s.signalStop b = s) ∧
    (s.isMaster = false → j.state = .running → s.ringForm j = true → s.signalStop b = s.enterLate slot (le b 4 4)) := by
  refine ⟨?_, fun hmaster hstate hring => ?_⟩
  · rintro (hmaster | hstate | hring)
    · simp [State.signalStop, State.signalJob, hslot, hmaster]
    · simp [State.signalStop, State.signalJob, hslot, hjob, hstate]
    · simp [State.signalStop, State.signalJob, hslot, hjob, hring]
  · simp [State.signalStop, State.signalJob, hslot, hjob, hmaster, hstate, hring]

theorem State.signalFull_eq (hslot : s.jobSlot (BitVec.ofNat 16 (le b 2 2)) = some slot) (origin : Nat) :
    (s.isMaster = false → s.signalFull origin b = s) ∧
    (s.isMaster = true → s.signalFull origin b = s.modJob slot (fun x => { x with fullFrom := setBit x.fullFrom origin true })) := by
  refine ⟨fun hmaster => ?_, fun hmaster => ?_⟩
  · simp [State.signalFull, State.signalJob, hslot, hmaster]
  · simp [State.signalFull, State.signalJob, hslot, hmaster]

theorem State.modJob_congr {f g : Job → Job} (hjob : s.jobAt slot = some j) (h : f j = g j) : s.modJob slot f = s.modJob slot g := by
  rw [State.modJob, State.modJob, hjob, Option.map_some, Option.map_some, h]

theorem State.signalArm_eq (hslot : s.jobSlot (BitVec.ofNat 16 (le b 2 2)) = some slot) (hjob : s.jobAt slot = some j) :
    (s.isMaster = true ∨ j.state ≠ .late → s.signalArm b = s) ∧
    (s.isMaster = false → j.state = .late → s.signalArm b =
      (s.modJob slot (fun x => { x with resumePending := some ((s.clock - j.waitFrom) / 400, 0) })).armJob slot false) := by
  refine ⟨?_, fun hmaster hstate => ?_⟩
  · rintro (hmaster | hstate)
    · simp [State.signalArm, State.signalJob, hslot, hjob, hmaster]
    · simp [State.signalArm, State.signalJob, hslot, hjob, hstate]
  · have hguard : (!s.isMaster && decide (j.state = .late)) = true := by simp [hmaster, hstate]
    simp only [State.signalArm, State.signalJob, hslot, hjob, hguard, if_true]
    exact congrArg (fun t : State => t.armJob slot false) (State.modJob_congr hjob rfl)

theorem State.takeSignal_kind : (le b 0 1 = 0 → s.takeSignal f b = s.signalLate (frameOrigin f) b) ∧ (le b 0 1 = 1 → s.takeSignal f b = s.signalStop b) ∧
    (le b 0 1 = 2 → s.takeSignal f b = s.signalFull (frameOrigin f) b) ∧ (le b 0 1 = 3 → s.takeSignal f b = s.signalArm b) := by
  refine ⟨fun h => ?_, fun h => ?_, fun h => ?_, fun h => ?_⟩ <;> simp only [State.takeSignal, h]

/-! ### Acknowledgements of delivery, and their absence -/

theorem State.DeliversPkt.exec_delivery (h : s.DeliversPkt p f 2) :
    exec (.deliveryAcknowledgement p f) s = .next ((s.passed p f).takeDelivery (pktIdOf f)) := by
  change execDeliveryAcknowledgement p f s = _
  rw [execDeliveryAcknowledgement, if_pos h.isPkt, h.receive, State.takePktFrame_kind.2.2.1 h.2.2.2.1]

/-- A command that is out without an acknowledgement given up, with its tile. -/
def State.giveUp (s : State) (k : BitVec 16) (r : Relayed) : State :=
  { s with link := { s.link with relayed := s.link.relayed.filter (fun x => x.pktId ≠ k) },
           tiles := s.tiles.filter (fun (t : Tile) => !(t.source = 3 && t.seq = r.seq)) }

theorem exec_relayTimeout_eq {k : BitVec 16} {r : Relayed} (hout : s.link.relayed.find? (fun x => x.pktId = k) = some r) (hrun : s.inRunIdle = true) :
    (s.clock < r.since + 400000 → exec (.relayTimeout k) s = .next s) ∧
    (r.since + 400000 ≤ s.clock → exec (.relayTimeout k) s = .next ((s.giveUp k r).reply false r.pkt r.src stTARGET_UNREACHABLE [])) := by
  refine ⟨fun h => ?_, fun h => ?_⟩
  · change execRelayTimeout k s = _
    have hguard : (!s.inRunIdle || decide (s.clock < r.since + tickMs)) = true := by rw [decide_eq_true (show s.clock < r.since + tickMs from h), Bool.or_true]
    simp only [execRelayTimeout, hout, hguard, if_true]
  · change execRelayTimeout k s = _
    have hguard : (!s.inRunIdle || decide (s.clock < r.since + tickMs)) = false := by
      rw [hrun, decide_eq_false (show ¬ s.clock < r.since + tickMs from not_lt.2 h)]
      rfl
    simp only [execRelayTimeout, hout, hguard, Bool.false_eq_true, if_false]
    rfl

/-! ### Tile data -/

theorem State.Delivers.exec_data (h : s.Delivers p f) (htyp : f.typ = tDATA) (hlen : 12 ≤ f.payload.length) :
    exec (.data p f) s = .next ((s.passed p f).takeData f) := by
  have hon : s.linkOn p = true := h.1
  change execData p f s = _
  rw [execData, if_pos (by simp [hon, htyp, hlen]), h.receive]

/-- The tile that a DATA frame belongs to. -/
def State.tileOf (s : State) (f : Frame) : Option Tile :=
  s.tiles.find? (fun t => t.source = 2 && !t.done && t.src = .relay (pktOrigin f) (BitVec.ofNat 16 (le f.payload 4 2)))

/-- The tile's TILE_POST waits in Kettle's queue. -/
def State.postWaits (s : State) (f : Frame) : Bool :=
  s.pe.queue.any (fun q => q.pkt.opcode = 0x0310 && q.src = .relay (pktOrigin f) (BitVec.ofNat 16 (le f.payload 4 2)))

theorem State.takeData_eq : (s.tileOf f = none → s.postWaits f = false → s.takeData f = s) ∧
    (s.tileOf f = none → s.postWaits f = true → s.takeData f = { s with link := { s.link with heldData := s.link.heldData ++ [f] } }) ∧
    (∀ t, s.tileOf f = some t → s.takeData f = s.landTile t (le f.payload 8 4) (f.payload.drop 12)) := by
  have hdata : s.takeData f = (s.tileOf f).elim
      (if s.postWaits f then { s with link := { s.link with heldData := s.link.heldData ++ [f] } } else s)
      (fun t => s.landTile t (le f.payload 8 4) (f.payload.drop 12)) := by
    unfold State.takeData
    change (match s.tileOf f with | some t => _ | none => _) = _
    cases s.tileOf f <;> rfl
  refine ⟨fun h hw => ?_, fun h hw => ?_, fun t h => ?_⟩
  · rw [hdata, h, hw]
    rfl
  · rw [hdata, h, hw]
    rfl
  · rw [hdata, h]
    rfl

end Sys2Proof.Machine
end

section
/-! SUPPORT. Commands of the ring that go out to other devices (12 R379, R380, R390). -/
namespace Sys2Proof.Machine
variable {s t : State} {p q : Side} {f : Frame} {b : Bytes} {c : Packet}

/-! ### Frames sent -/

/-- A port with a sequenced frame added to those that wait for their acknowledgement. -/
def Port.push (x : Port) (f : Frame) (now : Nat) : Port :=
  { x with txSeq := x.txSeq + 1, unacked := x.unacked ++ [{ f with seq := x.txSeq }], sentAt := (if x.unacked = [] then now else x.sentAt),
           lastFrame := some { f with seq := x.txSeq } }

theorem State.shot_modWport (k : Nat) (p : Side) (g : Port → Port) : (s.modWport p g).shot k = s.shot k := by
  cases p <;> rfl

/-- With no shot on the frame, a frame sent touches its own port alone. -/
theorem State.sendFrame_quiet (hshot : s.shot 113 = false) (p : Side) (f : Frame) : ∃ g, s.sendFrame p f = s.modWport p g := by
  have hid : s = s.modWport p id := by cases p <;> rfl
  unfold State.sendFrame
  extract_lets x g sent
  split
  · exact ⟨id, hid⟩
  split
  · split
    · rw [State.shot_modWport, hshot, Bool.false_and, if_neg Bool.false_ne_true]
      exact ⟨_, rfl⟩
    · exact ⟨_, rfl⟩
  · exact ⟨_, rfl⟩

/-- A sequenced frame sent out of a port that has room for it. -/
theorem State.sendFrame_pushed (hup : s.portUp p = true) (hroom : (s.wport p).unacked.length < 64) (hshot : s.shot 113 = false)
    (htyp : sequencedType f.typ = true) : (s.sendFrame p f).wport p = (s.wport p).push f s.clock := by
  unfold State.sendFrame
  extract_lets x g sent
  rw [if_neg (by rw [hup]; decide), if_pos htyp, if_pos hroom, State.shot_modWport, hshot, Bool.false_and, if_neg Bool.false_ne_true,
    State.wport_modWport]
  rfl

theorem State.pktId_modWport (p : Side) (g : Port → Port) : (s.modWport p g).link.pktId = s.link.pktId := by
  cases p <;> rfl

theorem State.deviceId_of_ledger (h : t.ledger = s.ledger) : t.deviceId = s.deviceId := by
  have hid : t.link.id = s.link.id := show t.ledger.id = s.ledger.id by rw [h]
  have hno : t.link.noId = s.link.noId := show t.ledger.noId = s.ledger.noId by rw [h]
  rw [State.deviceId, State.deviceId, hid, hno]

/-- What frames sent without a shot leave alone, and the port that they leave alone. -/
structure State.SentOut (s t : State) : Prop where
  frame : t = { s with link := t.link }
  ledger : t.ledger = s.ledger
  pktId : t.link.pktId = s.link.pktId

theorem State.modWport_sentOut (p : Side) (g : Port → Port) : s.SentOut (s.modWport p g) :=
  ⟨by cases p <;> rfl, s.modWport_ledger p g, State.pktId_modWport p g⟩

theorem State.SentOut.trans {u : State} (h : s.SentOut t) (g : t.SentOut u) : s.SentOut u := by
  refine ⟨?_, g.ledger.trans h.ledger, g.pktId.trans h.pktId⟩
  have hg := g.frame
  rw [h.frame] at hg
  exact hg

theorem State.SentOut.clock (h : s.SentOut t) : t.clock = s.clock := by rw [h.frame]

theorem State.SentOut.host (h : s.SentOut t) : t.host = s.host := by rw [h.frame]

theorem State.SentOut.tiles (h : s.SentOut t) : t.tiles = s.tiles := by rw [h.frame]

theorem State.SentOut.pe (h : s.SentOut t) : t.pe = s.pe := by rw [h.frame]

/-! ### Packets on the way -/

/-- The body of a packet that fits one frame. -/
def pktBodyOf (kind : Nat) (k : BitVec 16) (b : Bytes) : Bytes := toLe 1 kind ++ toLe 1 0x80 ++ toLe 2 k.toNat ++ b

theorem pktBodies_one (h : b.length ≤ 248) (kind : Nat) (k : BitVec 16) : pktBodies kind k b = [pktBodyOf kind k b] := by
  have hpieces : pieces 248 17 b = [b] := by rw [pieces, if_pos h]
  rw [pktBodies, hpieces]
  rfl

/-- A broadcast out of one port. -/
def State.sendCopy (s : State) (typ : BitVec 4) (body : Bytes) (p : Side) : State :=
  if s.broadcastHops p = 0 then s
  else s.sendFrame p { typ := typ, dest := 0xFF, seq := 0, payload := routeWord s.deviceId (s.broadcastHops p) ++ body }

theorem State.sendAll_eq (typ : BitVec 4) (body : Bytes) : s.sendAll typ body = (s.sendCopy typ body .east).sendCopy typ body .west := rfl

/-- A broadcast out of one port leaves the other alone. -/
theorem State.sendCopy_quiet (hshot : s.shot 113 = false) (typ : BitVec 4) (body : Bytes) (p : Side) :
    ∃ g, s.sendCopy typ body p = s.modWport p g := by
  unfold State.sendCopy
  split
  · exact ⟨id, by cases p <;> rfl⟩
  · exact State.sendFrame_quiet hshot _ _

/-- The frame of a broadcast out of a port. -/
def State.copyFrame (s : State) (typ : BitVec 4) (body : Bytes) (p : Side) : Frame :=
  { typ := typ, dest := 0xFF, seq := 0, payload := routeWord s.deviceId (s.broadcastHops p) ++ body }

theorem State.sendCopy_pushed (hup : s.portUp p = true) (hroom : (s.wport p).unacked.length < 64) (hshot : s.shot 113 = false)
    (hhops : s.broadcastHops p ≠ 0) {typ : BitVec 4} (htyp : sequencedType typ = true) (body : Bytes) :
    (s.sendCopy typ body p).wport p = (s.wport p).push (s.copyFrame typ body p) s.clock := by
  rw [State.sendCopy, if_neg hhops]
  exact State.sendFrame_pushed hup hroom hshot htyp

/-- A broadcast goes out of each port that has devices beyond it. -/
theorem State.sendAll_pushed (hup : s.portUp q = true) (hroom : (s.wport q).unacked.length < 64) (hshot : s.shot 113 = false)
    (hhops : s.broadcastHops q ≠ 0) {typ : BitVec 4} (htyp : sequencedType typ = true) (body : Bytes) :
    s.SentOut (s.sendAll typ body) ∧ (s.sendAll typ body).wport q = (s.wport q).push (s.copyFrame typ body q) s.clock := by
  rw [State.sendAll_eq]
  obtain ⟨g, hg⟩ := State.sendCopy_quiet hshot typ body .east
  obtain ⟨g', hg'⟩ := State.sendCopy_quiet (s := s.sendCopy typ body .east) (by rw [hg, State.shot_modWport]; exact hshot) typ body .west
  refine ⟨by rw [hg', hg]; exact (State.modWport_sentOut _ _).trans (State.modWport_sentOut _ _), ?_⟩
  cases q with
  | east =>
    rw [hg', ← State.sendCopy_pushed hup hroom hshot hhops htyp body]
    rfl
  | west =>
    have hpush := State.sendCopy_pushed (s := s.sendCopy typ body .east) (p := .west) (by rw [hg]; exact hup) (by rw [hg]; exact hroom)
      (by rw [hg, State.shot_modWport]; exact hshot) (by rw [hg]; exact hhops) htyp body
    rw [hpush, hg]
    rfl

/-- A packet that fits one frame goes out on the way with the fewer hops. -/
theorem State.sendPkt_pushed {id h : Nat} (hid : id ≠ 0xFF) (hroute : s.routeTo id = some (q, h)) (hup : s.portUp q = true)
    (hroom : (s.wport q).unacked.length < 64) (hshot : s.shot 113 = false) (hlen : b.length ≤ 248) (kind : Nat) (k : BitVec 16) :
    s.SentOut (s.sendPkt id kind k b) ∧ (s.sendPkt id kind k b).wport (other q) = s.wport (other q) ∧
      (s.sendPkt id kind k b).wport q = (s.wport q).push
        { typ := tPKT, dest := BitVec.ofNat 8 id, seq := 0, payload := routeWord s.deviceId h ++ pktBodyOf kind k b } s.clock := by
  have hsend : s.sendPkt id kind k b =
      s.sendFrame q { typ := tPKT, dest := BitVec.ofNat 8 id, seq := 0, payload := routeWord s.deviceId h ++ pktBodyOf kind k b } := by
    rw [State.sendPkt, pktBodies_one hlen, List.foldl_cons, List.foldl_nil, if_neg hid, State.sendTo, hroute]
  rw [hsend]
  refine ⟨?_, ?_, State.sendFrame_pushed hup hroom hshot (show sequencedType tPKT = true by decide)⟩
  · obtain ⟨g, hg⟩ := State.sendFrame_quiet hshot q { typ := tPKT, dest := BitVec.ofNat 8 id, seq := 0, payload := routeWord s.deviceId h ++ pktBodyOf kind k b }
    rw [hg]
    exact State.modWport_sentOut _ _
  · obtain ⟨g, hg⟩ := State.sendFrame_quiet hshot q { typ := tPKT, dest := BitVec.ofNat 8 id, seq := 0, payload := routeWord s.deviceId h ++ pktBodyOf kind k b }
    rw [hg]
    exact State.wport_modWport_other _ _ _

/-- A packet for all that fits one frame goes out of each port that has devices beyond it. -/
theorem State.sendPkt_all (hup : s.portUp q = true) (hroom : (s.wport q).unacked.length < 64) (hshot : s.shot 113 = false)
    (hhops : s.broadcastHops q ≠ 0) (hlen : b.length ≤ 248) (kind : Nat) (k : BitVec 16) :
    s.SentOut (s.sendPkt 0xFF kind k b) ∧
      (s.sendPkt 0xFF kind k b).wport q = (s.wport q).push (s.copyFrame tPKT (pktBodyOf kind k b) q) s.clock := by
  have hsend : s.sendPkt 0xFF kind k b = s.sendAll tPKT (pktBodyOf kind k b) := by
    rw [State.sendPkt, pktBodies_one hlen, List.foldl_cons, List.foldl_nil, if_pos rfl]
  rw [hsend]
  exact State.sendAll_pushed hup hroom hshot hhops (by decide) _

/-! ### The tile of a command that goes out -/

/-- The tile that is read here for a TILE_POST of another device. -/
def State.originTileOf (s : State) (p : Packet) (k : BitVec 16) (seq : Nat) : Tile :=
  { id := seq, job := BitVec.ofNat 16 (p.u 0 2), layer := p.u 2 1, source := 3, addr := p.u 4 8, line := p.u 16 4, ch := p.u 20 1, nozzle := p.u 22 2
    width := p.u 24 2, height := p.u 26 2, rowsDone := 0, landed := [], lateCounted := false, orphan := false, forceLate := false, done := false
    pkt := p, src := .relay (BitVec.ofNat 8 s.deviceId) k, seq := seq }

theorem State.originTile_eq (hbme : c.opcode = 0x0310 → s.host.bme = true) (k : BitVec 16) (seq : Nat) :
    s.originTile c k seq = { s with tiles := (s.originTile c k seq).tiles } ∧ (c.opcode ≠ 0x0310 → s.originTile c k seq = s) ∧
      (c.opcode = 0x0310 → c.u 3 1 = 0 → 4 ≤ c.u 24 2 → 0 < c.u 26 2 → (s.originTile c k seq).tiles = s.tiles ++ [s.originTileOf c k seq]) := by
  have horigin : s.originTile c k seq = if c.opcode ≠ 0x0310 || c.u 3 1 ≠ 0 || (s.originTileOf c k seq).bytes = 0 then s
      else if s.host.bme then { s with tiles := s.tiles ++ [s.originTileOf c k seq] } else s.failRead [s.originTileOf c k seq] (fun _ => 0) := rfl
  by_cases hop : c.opcode = 0x0310
  · have hread := hbme hop
    refine ⟨?_, fun h => absurd hop h, fun _ h3 hw hh => ?_⟩
    · rw [horigin, hread]
      split
      · rfl
      · rfl
    · have hbytes : (s.originTileOf c k seq).bytes ≠ 0 := by
        change c.u 26 2 * (c.u 24 2 / 4) ≠ 0
        exact Nat.mul_ne_zero (by omega) (by omega)
      rw [horigin, if_neg (by simp [hop, h3, hbytes]), if_pos hread]
  · have hnone : s.originTile c k seq = s := by
      rw [horigin, if_pos (by rw [decide_eq_true (p := c.opcode ≠ 0x0310) hop]; rfl)]
    exact ⟨by rw [hnone], fun _ => hnone, fun h => absurd h hop⟩

end Sys2Proof.Machine
end

section
/-! SUPPORT. Commands of the ring on their way, and the relay settled (12 R379, R380, R390-R393). -/
namespace Sys2Proof.Machine
variable {s t : State} {p q : Side} {f : Frame} {b : Bytes} {c : Packet}

/-! ### A command of the ring for another device -/

/-- A command on its way under the next PKT_ID. -/
def State.outgoing (s : State) (c : Packet) : State := s.takePktId.2.sendPkt c.target.toNat 0 s.link.pktId (packetBytes c)

/-- A command noted among those that wait for their acknowledgement. -/
def State.awaits (s : State) (r : Relayed) : State := { s with link := { s.link with relayed := s.link.relayed ++ [r] } }

theorem State.relayOut_one (htarget : c.target ≠ 0xFF) (src : Source) (seq : Nat) : s.relayOut c src seq =
    ((s.outgoing c).awaits { pktId := s.link.pktId, pkt := c, src := src, seq := seq, since := (s.outgoing c).clock }).originTile c s.link.pktId seq := by
  unfold State.relayOut
  extract_lets k sent l noted
  have hnoted : noted = sent.awaits { pktId := k.1, pkt := c, src := src, seq := seq, since := sent.clock } := if_neg htarget
  rw [hnoted]
  rfl

theorem State.relayOut_all (htarget : c.target = 0xFF) (src : Source) (seq : Nat) :
    s.relayOut c src seq = (s.outgoing c).originTile c s.link.pktId seq := by
  unfold State.relayOut
  extract_lets k sent l noted
  have hnoted : noted = sent := if_pos htarget
  rw [hnoted]
  rfl

theorem toNat_ne_all {x : Byte} (h : x ≠ 0xFF) : x.toNat ≠ 0xFF := fun heq => h (BitVec.eq_of_toNat_eq heq)

/-- A command for another device out of the port that leads there. -/
theorem State.outgoing_one {h : Nat} (htarget : c.target ≠ 0xFF) (hroute : s.routeTo c.target.toNat = some (q, h)) (hup : s.portUp q = true)
    (hroom : (s.wport q).unacked.length < 64) (hshot : s.shot 113 = false) (hlen : (packetBytes c).length ≤ 248) :
    s.takePktId.2.SentOut (s.outgoing c) ∧ (s.outgoing c).wport (other q) = s.wport (other q) ∧
      (s.outgoing c).wport q = (s.wport q).push
        { typ := tPKT, dest := c.target, seq := 0, payload := routeWord s.deviceId h ++ pktBodyOf 0 s.link.pktId (packetBytes c) } s.clock := by
  have hport (p : Side) : s.takePktId.2.wport p = s.wport p := by cases p <;> rfl
  obtain ⟨hout, hother, hself⟩ := State.sendPkt_pushed (s := s.takePktId.2) (toNat_ne_all htarget) hroute (by rw [State.portUp, hport]; exact hup)
    (by rw [hport]; exact hroom) hshot hlen 0 s.link.pktId
  rw [hport] at hother hself
  rw [BitVec.ofNat_toNat, BitVec.setWidth_eq] at hself
  exact ⟨hout, hother, hself⟩

/-- A command for all out of a port that has devices beyond it. -/
theorem State.outgoing_all (htarget : c.target = 0xFF) (hhops : s.broadcastHops q ≠ 0) (hup : s.portUp q = true)
    (hroom : (s.wport q).unacked.length < 64) (hshot : s.shot 113 = false) (hlen : (packetBytes c).length ≤ 248) :
    s.takePktId.2.SentOut (s.outgoing c) ∧
      (s.outgoing c).wport q = (s.wport q).push
        { typ := tPKT, dest := c.target, seq := 0, payload := routeWord s.deviceId (s.broadcastHops q) ++ pktBodyOf 0 s.link.pktId (packetBytes c) } s.clock := by
  have hport (p : Side) : s.takePktId.2.wport p = s.wport p := by cases p <;> rfl
  have hhops' : s.takePktId.2.broadcastHops q = s.broadcastHops q := by rw [State.broadcastHops, hport]; rfl
  obtain ⟨hout, hself⟩ := State.sendPkt_all (s := s.takePktId.2) (b := packetBytes c) (by rw [State.portUp, hport]; exact hup)
    (by rw [hport]; exact hroom) hshot (by rw [hhops']; exact hhops) hlen 0 s.link.pktId
  rw [hport, State.copyFrame, hhops', ← htarget] at hself
  have hid : c.target.toNat = 0xFF := by rw [htarget]; rfl
  rw [State.outgoing, hid]
  exact ⟨hout, hself⟩

theorem State.wport_of_link (h : t.link = s.link) (p : Side) : t.wport p = s.wport p := by
  cases p <;> simp only [State.wport, h]

theorem State.awaits_wport (r : Relayed) (p : Side) : (s.awaits r).wport p = s.wport p := by cases p <;> rfl

/-- The tile of a command that goes out, read here, changes the tiles alone. -/
theorem State.originTile_link (hbme : c.opcode = 0x0310 → s.host.bme = true) (k : BitVec 16) (seq : Nat) :
    (s.originTile c k seq).link = s.link := by
  obtain ⟨hframe, -, -⟩ := State.originTile_eq hbme k seq
  have hlink := congrArg State.link hframe
  exact hlink

theorem State.originTile_pe (hbme : c.opcode = 0x0310 → s.host.bme = true) (k : BitVec 16) (seq : Nat) :
    (s.originTile c k seq).pe = s.pe := by
  obtain ⟨hframe, -, -⟩ := State.originTile_eq hbme k seq
  have hpe := congrArg State.pe hframe
  exact hpe

/-- What a command for another device changes: the port that leads there, the relay's accounts, and the tiles where it posts one. -/
theorem State.relayOut_away {h : Nat} (htarget : c.target ≠ 0xFF) (hroute : s.routeTo c.target.toNat = some (q, h)) (hup : s.portUp q = true)
    (hroom : (s.wport q).unacked.length < 64) (hshot : s.shot 113 = false) (hlen : (packetBytes c).length ≤ 248)
    (hbme : c.opcode = 0x0310 → s.host.bme = true) (src : Source) (seq : Nat) :
    ((s.relayOut c src seq).wport q = (s.wport q).push
        { typ := tPKT, dest := c.target, seq := 0, payload := routeWord s.deviceId h ++ pktBodyOf 0 s.link.pktId (packetBytes c) } s.clock ∧
      (s.relayOut c src seq).wport (other q) = s.wport (other q)) ∧
    ((s.relayOut c src seq).link.pktId = s.link.pktId + 1 ∧
      (s.relayOut c src seq).link.relayed = s.link.relayed ++ [{ pktId := s.link.pktId, pkt := c, src := src, seq := seq, since := s.clock }]) ∧
    (s.relayOut c src seq).deviceId = s.deviceId ∧
    (c.opcode ≠ 0x0310 → s.relayOut c src seq = { s with link := (s.relayOut c src seq).link }) ∧
    (c.opcode = 0x0310 → c.u 3 1 = 0 → 4 ≤ c.u 24 2 → 0 < c.u 26 2 → ∃ d : State,
      (s.relayOut c src seq).tiles = s.tiles ++ [d.originTileOf c s.link.pktId seq]) := by
  obtain ⟨hout, hother, hself⟩ := State.outgoing_one htarget hroute hup hroom hshot hlen
  rw [State.relayOut_one htarget]
  generalize s.outgoing c = w at *
  have hclock : w.clock = s.clock := hout.clock
  have htiles : w.tiles = s.tiles := hout.tiles
  have hledger : w.ledger = s.ledger := hout.ledger
  rw [hclock]
  have hread : c.opcode = 0x0310 → (w.awaits { pktId := s.link.pktId, pkt := c, src := src, seq := seq, since := s.clock }).host.bme = true :=
    fun hop => by change w.host.bme = true; rw [hout.host]; exact hbme hop
  obtain ⟨-, hsame, htile⟩ := State.originTile_eq hread s.link.pktId seq
  have hlink := State.originTile_link hread s.link.pktId seq
  refine ⟨⟨?_, ?_⟩, ⟨?_, ?_⟩, ?_, fun hop => ?_, fun hop hsrc hwidth hheight => 
    ⟨w.awaits { pktId := s.link.pktId, pkt := c, src := src, seq := seq, since := s.clock }, ?_⟩⟩
  · rw [State.wport_of_link hlink, State.awaits_wport]
    exact hself
  · rw [State.wport_of_link hlink, State.awaits_wport]
    exact hother
  · rw [hlink]
    exact hout.pktId
  · rw [hlink]
    exact congrArg (· ++ [_]) (show w.ledger.relayed = s.ledger.relayed by rw [hledger])
  · rw [State.deviceId, hlink]
    change w.deviceId = s.deviceId
    exact State.deviceId_of_ledger hledger
  · rw [hsame hop]
    exact congrArg (State.awaits · { pktId := s.link.pktId, pkt := c, src := src, seq := seq, since := s.clock }) hout.frame
  · rw [htile hop hsrc hwidth hheight]
    exact congrArg (· ++ [_]) htiles

/-- What a command for all changes, of the ports, the relay's accounts and the packet engine. -/
theorem State.relayOut_everywhere (htarget : c.target = 0xFF) (hhops : s.broadcastHops q ≠ 0) (hup : s.portUp q = true)
    (hroom : (s.wport q).unacked.length < 64) (hshot : s.shot 113 = false) (hlen : (packetBytes c).length ≤ 248)
    (hbme : c.opcode = 0x0310 → s.host.bme = true) (src : Source) (seq : Nat) :
    (s.relayOut c src seq).wport q = (s.wport q).push
        { typ := tPKT, dest := c.target, seq := 0, payload := routeWord s.deviceId (s.broadcastHops q) ++ pktBodyOf 0 s.link.pktId (packetBytes c) } s.clock ∧
    (s.relayOut c src seq).link.pktId = s.link.pktId + 1 ∧ (s.relayOut c src seq).link.relayed = s.link.relayed ∧
    (s.relayOut c src seq).pe = s.pe := by
  obtain ⟨hout, hself⟩ := State.outgoing_all htarget hhops hup hroom hshot hlen
  rw [State.relayOut_all htarget]
  generalize s.outgoing c = w at *
  have hread : c.opcode = 0x0310 → w.host.bme = true := fun hop => by rw [hout.host]; exact hbme hop
  have hlink := State.originTile_link hread s.link.pktId seq
  refine ⟨?_, ?_, ?_, ?_⟩
  · rw [State.wport_of_link hlink]
    exact hself
  · rw [hlink]
    exact hout.pktId
  · rw [hlink]
    exact show w.ledger.relayed = s.ledger.relayed by rw [show w.ledger = s.ledger from hout.ledger]
  · rw [State.originTile_pe hread]
    exact hout.pe

/-! ### Commands of the ring, handled -/

theorem State.isRemote_ring (hid : s.link.id.isSome = true) (haway : c.target.toNat ≠ s.deviceId) : s.isRemote c .ring = true := by
  simp only [State.isRemote, Bool.true_and, Bool.and_eq_true, decide_eq_true_eq]
  exact ⟨hid, haway⟩

theorem State.isLocal_ring : s.isLocal c .ring = (decide (c.target = 0xFF) || decide (c.target.toNat = s.deviceId)) := rfl

/-- A packet for another device goes on its way; only one for all is executed here too. -/
theorem State.handlePacket_relayed (hcheck : s.packetCheck c .ring = none) (hid : s.link.id.isSome = true) (haway : c.target.toNat ≠ s.deviceId) :
    s.handlePacket c .ring = if (s.handled.relayOut c .ring s.pe.seq).isLocal c .ring = true then
      (s.handled.relayOut c .ring s.pe.seq).dispatch c .ring s.pe.seq else s.handled.relayOut c .ring s.pe.seq := by
  have hremote : s.handled.isRemote c .ring = true := State.isRemote_ring hid haway
  have hout : (if s.handled.isRemote c .ring = true then s.handled.relayOut c .ring s.pe.seq else s.handled) = s.handled.relayOut c .ring s.pe.seq :=
    if_pos hremote
  have hroute : s.route c .ring =
      if (if s.handled.isRemote c .ring = true then s.handled.relayOut c .ring s.pe.seq else s.handled).isLocal c .ring = true then
        (if s.handled.isRemote c .ring = true then s.handled.relayOut c .ring s.pe.seq else s.handled).dispatch c .ring s.pe.seq
      else (if s.handled.isRemote c .ring = true then s.handled.relayOut c .ring s.pe.seq else s.handled) := rfl
  rw [State.handlePacket, hcheck]
  exact hroute.trans (by rw [hout])

/-- A Kettle-bound packet joins the queue that takes it. -/
theorem State.dispatch_queued (hkettle : c.hardware = false) (hstalled : s.pe.stalled = false) (hrom : s.pe.romFail = false)
    (hroom : s.pe.queue.length < 64) (src : Source) (seq : Nat) : (s.dispatch c src seq).link = s.link ∧
      (s.dispatch c src seq).pe.queue = s.pe.queue ++ [{ pkt := c, src := src, seq := seq }] := by
  have hbusy : ¬ (s.pe.stalled || s.pe.romFail || decide (64 ≤ s.pe.queue.length)) = true := by
    rw [hstalled, hrom, decide_eq_false (Nat.not_le.2 hroom)]
    decide
  rw [State.dispatch, hkettle, if_neg Bool.false_ne_true, State.enqueue, if_neg hbusy]
  exact ⟨rfl, rfl⟩

end Sys2Proof.Machine
end

section
/-! SUPPORT. The relay settled (02 R67, 12 R379, R380, R390-R393). -/
namespace Sys2Proof.Machine
variable {s t : State} {p q : Side} {f : Frame} {b : Bytes} {c : Packet} {slot : Nat} {j : Job}

/-! ### Job signals on the state that takes them -/

/-- What frames that pass leave alone. -/
theorem State.SameButFrames.parts (h : s.SameButFrames t) :
    t.jobs = s.jobs ∧ t.otp = s.otp ∧ t.chans = s.chans ∧ t.clock = s.clock ∧ t.tiles = s.tiles ∧ t.pe = s.pe := by
  unfold State.SameButFrames at h
  rw [h]
  exact ⟨rfl, rfl, rfl, rfl, rfl, rfl⟩

/-- The state that a packet is handled on: its frame passed on, its segments dropped, and itself noted. -/
def State.taking (s : State) (p : Side) (f : Frame) : State := ((s.passed p f).dropAssembly f).noted f

theorem State.taking_frames (s : State) (p : Side) (f : Frame) : s.SameButFrames (s.taking p f) :=
  (s.passed_frames p f).trans rfl

theorem State.taking_id (s : State) (p : Side) (f : Frame) : (s.taking p f).link.id = s.link.id := by
  obtain ⟨-, -, -, -, -, hid⟩ := State.link_of_ledger (s.passed_ledger p f)
  exact hid

/-- A job signal speaks of the same job of the same device on the state that takes it. -/
theorem State.taking_signal (s : State) (p : Side) (f : Frame) : (∀ n, (s.taking p f).jobSlot n = s.jobSlot n) ∧
    (∀ n, (s.taking p f).jobAt n = s.jobAt n) ∧ (s.taking p f).isMaster = s.isMaster ∧ (∀ j, (s.taking p f).ringForm j = s.ringForm j) ∧
    (s.taking p f).clock = s.clock := by
  obtain ⟨hjobs, hotp, hchans, hclock, -⟩ := (s.taking_frames p f).parts
  have hid := s.taking_id p f
  generalize s.taking p f = v at *
  have hat (n : Nat) : v.jobAt n = s.jobAt n := by rw [State.jobAt, State.jobAt, hjobs]
  refine ⟨fun n => ?_, hat, ?_, fun j => ?_, hclock⟩
  · simp only [State.jobSlot, hat]
  · rw [State.isMaster, State.isMaster, hotp]
  · rw [State.ringForm, State.ringForm, State.chan, State.chan, hchans, hid]

/-- The four job signals (12 R392). -/
theorem State.DeliversPkt.signals (h : s.DeliversPkt p f 3) (hb : s.assembled f = some b)
    (hagain : s.link.taken.contains (pktOrigin f, pktIdOf f) = false) (hkind : le (pktBody f) 0 1 = le b 0 1)
    (hslot : s.jobSlot (BitVec.ofNat 16 (le b 2 2)) = some slot) (hjob : s.jobAt slot = some j) :
    (le b 0 1 = 0 →
      (s.isMaster = false ∨ (j.state ≠ .running ∧ j.state ≠ .late) ∨ 8 ≤ j.feed → exec (.jobSignalLate p f) s = .next (s.taking p f)) ∧
      (s.isMaster = true → j.state = .late → j.feed < 8 → exec (.jobSignalLate p f) s = .next
        ((s.taking p f).modJob slot (fun x => { x with ringDevs := setBit x.ringDevs (frameOrigin f) true }))) ∧
      (s.isMaster = true → j.state = .running → j.feed < 8 → exec (.jobSignalLate p f) s = .next
        (((s.taking p f).lateStart slot (le b 4 4)).modJob slot (fun x => { x with ringDevs := setBit x.ringDevs (frameOrigin f) true })))) ∧
    (le b 0 1 = 1 →
      (s.isMaster = true ∨ j.state ≠ .running ∨ s.ringForm j = false → exec (.jobSignalStopFiring p f) s = .next (s.taking p f)) ∧
      (s.isMaster = false → j.state = .running → s.ringForm j = true → exec (.jobSignalStopFiring p f) s = .next
        ((s.taking p f).enterLate slot (le b 4 4)))) ∧
    (le b 0 1 = 2 →
      (s.isMaster = false → exec (.jobSignalFifosFull p f) s = .next (s.taking p f)) ∧
      (s.isMaster = true → exec (.jobSignalFifosFull p f) s = .next
        ((s.taking p f).modJob slot (fun x => { x with fullFrom := setBit x.fullFrom (frameOrigin f) true })))) ∧
    (le b 0 1 = 3 →
      (s.isMaster = true ∨ j.state ≠ .late → exec (.jobSignalArm p f) s = .next (s.taking p f)) ∧
      (s.isMaster = false → j.state = .late → exec (.jobSignalArm p f) s = .next
        (((s.taking p f).modJob slot (fun x => { x with resumePending := some ((s.clock - j.waitFrom) / 400, 0) })).armJob slot false))) := by
  have hrun (k : Fin 4) (hk : le b 0 1 = k.val) : exec (jobSignal p f k) s = .next ((s.taking p f).takeSignal f b) :=
    (h.exec_signal hb k (hkind.trans hk)).2 hagain
  obtain ⟨hsame, hat, hmaster, hring, hclock⟩ := s.taking_signal p f
  have hslot' := (hsame _).trans hslot
  have hjob' := (hat slot).trans hjob
  obtain ⟨hlate, hstop, hfull, harm⟩ := State.takeSignal_kind (s := s.taking p f) (f := f) (b := b)
  generalize s.taking p f = v at *
  refine ⟨fun hk => ?_, fun hk => ?_, fun hk => ?_, fun hk => ?_⟩
  · have hlate' := State.signalLate_eq hslot' hjob' (frameOrigin f)
    have hexec : exec (.jobSignalLate p f) s = .next (v.takeSignal f b) := hrun 0 hk
    rw [hmaster] at hlate'
    rw [hexec, hlate hk, Host.Outcome.next.injEq, Host.Outcome.next.injEq, Host.Outcome.next.injEq]
    exact hlate'
  · have hstop' := State.signalStop_eq hslot' hjob'
    have hexec : exec (.jobSignalStopFiring p f) s = .next (v.takeSignal f b) := hrun 1 hk
    rw [hmaster, hring] at hstop'
    rw [hexec, hstop hk, Host.Outcome.next.injEq, Host.Outcome.next.injEq]
    exact hstop'
  · have hfull' := State.signalFull_eq hslot' (frameOrigin f)
    have hexec : exec (.jobSignalFifosFull p f) s = .next (v.takeSignal f b) := hrun 2 hk
    rw [hmaster] at hfull'
    rw [hexec, hfull hk, Host.Outcome.next.injEq, Host.Outcome.next.injEq]
    exact hfull'
  · have harm' := State.signalArm_eq hslot' hjob'
    have hexec : exec (.jobSignalArm p f) s = .next (v.takeSignal f b) := hrun 3 hk
    rw [hmaster, hclock] at harm'
    rw [hexec, harm hk, Host.Outcome.next.injEq, Host.Outcome.next.injEq]
    exact harm'

/-! ### Replies, acknowledgements and tile data -/

/-- What became of the wait for a reply, by the reply that came. -/
theorem State.taking_reply (s : State) (p : Side) (f : Frame) (b : Bytes) :
    (le b 8 2 = 1 → (s.taking p f).takeReply b = (s.taking p f).engineReply (relayedReply b)) ∧
    (le b 8 2 ≠ 1 → (s.taking p f).takeReply b = { ((s.taking p f).engineReply (relayedReply b)) with
      link := { ((s.taking p f).engineReply (relayedReply b)).link with awaiting := dropAnswered b s.link.awaiting } }) := by
  obtain ⟨-, -, -, hawaiting, -⟩ := State.link_of_ledger (s.passed_ledger p f)
  have hkept : (s.taking p f).link.awaiting = s.link.awaiting := hawaiting
  rw [← hkept]
  exact State.takeReply_eq

/-- A delivery acknowledgement ends the wait for it, and a command that wants a reply waits for that. -/
theorem State.DeliversPkt.delivery (h : s.DeliversPkt p f 2) : ∃ t, exec (.deliveryAcknowledgement p f) s = .next t ∧
    t.link.relayed = s.link.relayed.filter (fun r => r.pktId ≠ pktIdOf f) ∧
    t.link.awaiting = s.link.awaiting ++ (s.link.relayed.filter (fun r => r.pktId = pktIdOf f)).filter (fun r => r.pkt.wantReply) ∧
    t = { (s.passed p f) with link := { (s.passed p f).link with relayed := t.link.relayed, awaiting := t.link.awaiting } } := by
  obtain ⟨-, -, hrelayed, hawaiting, -⟩ := State.link_of_ledger (s.passed_ledger p f)
  refine ⟨_, h.exec_delivery, ?_, ?_, rfl⟩
  · rw [← hrelayed]
    rfl
  · rw [← hrelayed, ← hawaiting]
    rfl

/-- Tile data lands, waits for its TILE_POST in Kettle's queue, or is nobody's. -/
theorem State.Delivers.lands (h : s.Delivers p f) (htyp : f.typ = tDATA) (hlen : 12 ≤ f.payload.length) :
    (s.tileOf f = none → s.postWaits f = false → exec (.data p f) s = .next (s.passed p f)) ∧
    (s.tileOf f = none → s.postWaits f = true → exec (.data p f) s = .next
      { (s.passed p f) with link := { (s.passed p f).link with heldData := (s.passed p f).link.heldData ++ [f] } }) ∧
    (∀ t, s.tileOf f = some t → exec (.data p f) s = .next ((s.passed p f).landTile t (le f.payload 8 4) (f.payload.drop 12))) := by
  obtain ⟨-, -, -, -, htiles, hpe⟩ := (s.passed_frames p f).parts
  have htile : (s.passed p f).tileOf f = s.tileOf f := by rw [State.tileOf, State.tileOf, htiles]
  have hwaits : (s.passed p f).postWaits f = s.postWaits f := by rw [State.postWaits, State.postWaits, hpe]
  have htake := State.takeData_eq (s := s.passed p f) (f := f)
  rw [htile, hwaits] at htake
  rw [h.exec_data htyp hlen]
  simp only [Host.Outcome.next.injEq]
  exact htake

/-- A signal that came before is an instruction that changes nothing more. -/
theorem State.DeliversPkt.signal_again (h : s.DeliversPkt p f 3) (hb : s.assembled f = some b)
    (hagain : s.link.taken.contains (pktOrigin f, pktIdOf f) = true) (hkind : le (pktBody f) 0 1 < 4) :
    ∃ i, i ∈ [Instr.jobSignalLate p f, .jobSignalStopFiring p f, .jobSignalFifosFull p f, .jobSignalArm p f] ∧
      exec i s = .next ((s.passed p f).dropAssembly f) := by
  refine ⟨jobSignal p f ⟨le (pktBody f) 0 1, hkind⟩, ?_, (h.exec_signal hb ⟨le (pktBody f) 0 1, hkind⟩ rfl).1 hagain⟩
  generalize (⟨le (pktBody f) 0 1, hkind⟩ : Fin 4) = k
  fin_cases k <;> simp [jobSignal]

/-! ### Commands of the ring -/

/-- A command of the ring for one other device. -/
theorem State.handlePacket_away {h : Nat} (hcheck : s.packetCheck c .ring = none) (hid : s.link.id.isSome = true) (hup : s.portUp q = true)
    (hroom : (s.wport q).unacked.length < 64) (hshot : s.shot 113 = false) (hlen : (packetBytes c).length ≤ 248)
    (hbme : c.opcode = 0x0310 → s.host.bme = true) (htarget : c.target ≠ 0xFF) (haway : c.target.toNat ≠ s.deviceId)
    (hroute : s.routeTo c.target.toNat = some (q, h)) : s.handlePacket c .ring = s.handled.relayOut c .ring s.pe.seq := by
  obtain ⟨-, -, hdevice, -⟩ := State.relayOut_away (s := s.handled) htarget hroute hup hroom hshot hlen hbme .ring s.pe.seq
  have hdevice' : (s.handled.relayOut c .ring s.pe.seq).deviceId = s.deviceId := hdevice
  rw [State.handlePacket_relayed hcheck hid haway]
  refine if_neg ?_
  rw [State.isLocal_ring, hdevice', decide_eq_false htarget, decide_eq_false haway]
  decide

/-- A command of the ring for all. -/
theorem State.handlePacket_everywhere (hcheck : s.packetCheck c .ring = none) (hid : s.link.id.isSome = true) (htarget : c.target = 0xFF) :
    s.handlePacket c .ring = (s.handled.relayOut c .ring s.pe.seq).dispatch c .ring s.pe.seq := by
  have haway : c.target.toNat ≠ s.deviceId := by
    obtain ⟨i, hi⟩ := Option.isSome_iff_exists.1 hid
    rw [State.deviceId, hi, htarget]
    have hlt := i.isLt
    simp only [BitVec.reduceToNat]
    omega
  rw [State.handlePacket_relayed hcheck hid haway]
  refine if_pos ?_
  rw [State.isLocal_ring, decide_eq_true htarget]
  rfl

/-- Settles O58: a frame that comes in its turn passes on and is handled once by its kind, and a command of the ring for
another device goes out and is noted. -/
theorem ringRelay : Obligations.RingRelay := by
  intro s p f a u v again
  refine ⟨fun b h htyp hlen hkind hlast hb => h.exec_segment htyp hlen hkind hlast hb, fun b h hb => h.exec_command hb,
    fun b h hb hagain => (h.exec_reply hb).1 hagain, fun b h hb hagain => ?_, fun h => h.delivery, fun k r hout hrun => ?_,
    fun h htyp hlen => h.lands htyp hlen, fun b h hb hagain hkind => h.signal_again hb hagain hkind,
    fun b h hb hagain hkind slot j hslot hjob => h.signals hb hagain hkind hslot hjob,
    fun c q hcheck hid hup hroom hshot hlen hbme => ⟨fun h htarget haway hroute => ?_, fun htarget hkettle hstalled hrom hfree hhops => ?_⟩⟩
  · obtain ⟨hpending, hends⟩ := s.taking_reply p f b
    have hexec : exec (.relayReply p f) s = .next ((s.taking p f).takeReply b) := (h.exec_reply hb).2 hagain
    exact ⟨fun hstatus => hexec.trans (congrArg _ (hpending hstatus)), fun hstatus => hexec.trans (congrArg _ (hends hstatus))⟩
  · obtain ⟨hwait, hlate⟩ := exec_relayTimeout_eq hout hrun
    exact ⟨hwait, fun h => ⟨s.giveUp k r, hlate h, rfl, rfl⟩⟩
  · obtain ⟨⟨hself, hother⟩, ⟨hid', hrelayed⟩, -, hsame, htile⟩ :=
      State.relayOut_away (s := s.handled) htarget hroute hup hroom hshot hlen hbme .ring s.pe.seq
    dsimp only
    rw [State.handlePacket_away hcheck hid hup hroom hshot hlen hbme htarget haway hroute]
    refine ⟨congrArg Port.unacked hself, hother, hid', hrelayed, hsame, fun hop hsrc hwidth hheight => ?_⟩
    obtain ⟨d, hd⟩ := htile hop hsrc hwidth hheight
    exact ⟨_, hd, rfl, rfl, rfl, rfl, rfl, rfl⟩
  · obtain ⟨hself, hid', hrelayed, hpe⟩ :=
      State.relayOut_everywhere (s := s.handled) htarget hhops hup hroom hshot hlen hbme .ring s.pe.seq
    dsimp only
    rw [State.handlePacket_everywhere hcheck hid htarget]
    generalize s.handled.relayOut c .ring s.pe.seq = w at *
    obtain ⟨hlink, hqueue⟩ := State.dispatch_queued (s := w) (c := c) hkettle (by rw [hpe]; exact hstalled) (by rw [hpe]; exact hrom)
      (by rw [hpe]; exact hfree) .ring s.pe.seq
    rw [State.wport_of_link hlink, hlink, hqueue, hpe]
    exact ⟨congrArg Port.unacked hself, hrelayed, hid', rfl⟩

end Sys2Proof.Machine
end

section
/-! SUPPORT. What the operations on jobs and lines do to the jobs and to the channels (03 R112, 05 R189-R199). -/
namespace Sys2Proof.Machine
variable {s t u : State}

/-! ### Channels and jobs after a change of one -/

/-- A channel after a change of one channel: changed where it is that channel, and as it was elsewhere. -/
theorem State.chan_modChan_cases (s : State) (m n : Nat) (f : Chan → Chan) :
    (s.modChan m f).chan n = s.chan n ∨ n = m ∧ n < 48 ∧ (s.modChan m f).chan n = f (s.chan n) := by
  by_cases hn : n = m
  · subst hn
    by_cases h : n < 48
    · exact .inr ⟨rfl, h, State.chan_modChan s n f h⟩
    · left
      simp [State.chan, State.modChan, vget, vset, h]
  · exact .inl (State.chan_modChan_ne s m n f (Ne.symm hn))

/-- The job in a slot after a change of that job, whatever the slot. -/
theorem State.jobAt_modJob_self (s : State) (slot : Nat) (f : Job → Job) : (s.modJob slot f).jobAt slot = (s.jobAt slot).map f := by
  by_cases h : slot < 4
  · exact State.jobAt_modJob s slot f h
  · simp [State.jobAt, State.modJob, vget, vset, h]

theorem State.chan_of_chans (h : t.chans = s.chans) (n : Nat) : t.chan n = s.chan n := congrArg (fun v : Vector Chan 48 => vget v n {}) h
theorem State.jobAt_of_jobs (h : t.jobs = s.jobs) (k : Nat) : t.jobAt k = s.jobAt k :=
  congrArg (fun v : Vector (Option Job) 4 => vget v k none) h

theorem nodup_chans (j : Job) : j.chans.Nodup := nodup_maskChans j.channels
theorem lt_of_mem_chans {j : Job} {n : Nat} (h : n ∈ j.chans) : n < 48 := lt_of_mem_maskChans h

/-- The parts of the state that hold channels and jobs. -/
def State.lineParts (s : State) : Vector Chan 48 × Vector (Option Job) 4 := (s.chans, s.jobs)

theorem State.chan_of_lineParts (h : t.lineParts = s.lineParts) (n : Nat) : t.chan n = s.chan n := State.chan_of_chans (congrArg Prod.fst h) n
theorem State.jobAt_of_lineParts (h : t.lineParts = s.lineParts) (k : Nat) : t.jobAt k = s.jobAt k := State.jobAt_of_jobs (congrArg Prod.snd h) k

theorem State.SameButSent.lineParts (h : s.SameButSent t) : t.lineParts = s.lineParts := by
  unfold State.SameButSent at h
  rw [h]
  rfl

/-! ### Operations that touch neither channels nor jobs -/

theorem State.finishOps_lineParts (s : State) (sel : PendOp → Bool) (ans : PendOp → BitVec 16 × Bytes) :
    (s.finishOps sel ans).lineParts = s.lineParts := (s.finishOps_sent sel ans).lineParts

theorem State.answerStops_lineParts (s : State) (slot : Nat) : (s.answerStops slot).lineParts = s.lineParts := by
  unfold State.answerStops
  split
  · split
    · exact s.finishOps_lineParts _ _
    · rfl
  · rfl

theorem State.answerStarts_lineParts (s : State) (id : BitVec 16) : (s.answerStarts id).lineParts = s.lineParts := s.finishOps_lineParts _ _

theorem State.writeHeader_lineParts (s : State) (slot : Nat) : (s.writeHeader slot).lineParts = s.lineParts := by
  rw [State.writeHeader_mem]
  rfl

theorem State.raise_lineParts (s : State) (k : Nat) : (s.raise k).lineParts = s.lineParts := by simp [State.lineParts]

theorem State.endSurvey_lineParts (s : State) (result : Nat) : (s.endSurvey result).lineParts = s.lineParts := by
  obtain ⟨-, hchans, hjobs, -⟩ := State.endSurvey_eq (s := s) result
  exact Prod.ext hchans hjobs

theorem State.deviceEvent_lineParts (s : State) (code data : Nat) : (s.deviceEvent code data).lineParts = s.lineParts := by
  simp [State.lineParts]

theorem State.stopAxisMax_lineParts (s : State) (ax : Nat) : (s.stopAxisMax ax).lineParts = s.lineParts := by
  unfold State.stopAxisMax
  extract_lets u
  split
  · rfl
  · unfold State.endSurveyOn State.endSurveyIf
    split
    · split
      · exact u.endSurvey_lineParts _
      · rfl
    · rfl

theorem State.addEntry_chans (s : State) (slot : Nat) (e : Entry) : (s.addEntry slot e).chans = s.chans := by
  have hdetect : ∀ real, (s.detect 25 real).2.chans = s.chans := fun real => congrArg Prod.fst (s.detect_sent 25 real).lineParts
  unfold State.addEntry
  split
  · rfl
  · split
    · extract_lets e' u
      split <;> rfl
    · extract_lets d rest u
      split
      · split <;> exact hdetect _
      · exact hdetect _

/-! ### What lasts of a job while its lines run -/

/-- What the running of its lines leaves of a job. -/
def Job.lasting (j : Job) : BitVec 16 × ChMask × Nat × Nat × Nat × CompTable × JobState × Bool :=
  (j.id, j.channels, j.lines, j.feed, j.geometry, j.table, j.state, j.lastPass)

/-- The jobs as they were, but for the record of one of them. -/
structure State.SameJobs (s t : State) (slot : Nat) : Prop where
  other : ∀ k, k ≠ slot → t.jobAt k = s.jobAt k
  lasting : (t.jobAt slot).map Job.lasting = (s.jobAt slot).map Job.lasting

theorem State.SameJobs.refl (s : State) (slot : Nat) : s.SameJobs s slot := ⟨fun _ _ => rfl, rfl⟩

theorem State.SameJobs.trans {slot : Nat} (h : s.SameJobs t slot) (g : t.SameJobs u slot) : s.SameJobs u slot :=
  ⟨fun k hk => (g.other k hk).trans (h.other k hk), g.lasting.trans h.lasting⟩

theorem State.SameJobs.of_jobs {slot : Nat} (h : t.jobs = s.jobs) : s.SameJobs t slot :=
  ⟨fun k _ => State.jobAt_of_jobs h k, by rw [State.jobAt_of_jobs h]⟩

theorem State.modJob_sameJobs (s : State) (slot : Nat) {f : Job → Job} (hf : ∀ j, (f j).lasting = j.lasting) : s.SameJobs (s.modJob slot f) slot := by
  refine ⟨fun k hk => State.jobAt_modJob_ne s slot k f (Ne.symm hk), ?_⟩
  rw [State.jobAt_modJob_self, Option.map_map]
  exact congrArg (fun g => (s.jobAt slot).map g) (funext hf)

/-- The job in the slot, with what lasts of it. -/
theorem State.SameJobs.job {slot : Nat} {j : Job} (h : s.SameJobs t slot) (hjob : s.jobAt slot = some j) :
    ∃ j', t.jobAt slot = some j' ∧ j'.lasting = j.lasting := by
  have hlasting := h.lasting
  rw [hjob, Option.map_some] at hlasting
  exact Option.map_eq_some_iff.1 hlasting

theorem Job.chans_of_lasting {i j : Job} (h : i.lasting = j.lasting) : i.chans = j.chans :=
  congrArg (fun x : BitVec 16 × ChMask × Nat × Nat × Nat × CompTable × JobState × Bool => maskChans x.2.1) h

theorem State.addEntry_sameJobs (s : State) (slot : Nat) (e : Entry) : s.SameJobs (s.addEntry slot e) slot := by
  have hdetect : ∀ real, s.SameJobs (s.detect 25 real).2 slot := fun real =>
    State.SameJobs.of_jobs (congrArg Prod.snd (s.detect_sent 25 real).lineParts)
  have hstored : ∀ (v : State) a b, v.SameJobs (v.storeWrite a b) slot := fun _ _ _ => State.SameJobs.of_jobs rfl
  unfold State.addEntry
  split
  · exact State.SameJobs.refl s slot
  · split
    · extract_lets e' u
      have hu : s.SameJobs u slot := s.modJob_sameJobs slot fun _ => rfl
      split
      · exact hu.trans (hstored _ _ _)
      · exact hu
    · extract_lets d rest u
      have hfull : s.SameJobs u slot := (hdetect _).trans (State.modJob_sameJobs _ slot fun _ => rfl)
      split
      · split
        · exact hfull
        · exact hfull.trans (State.SameJobs.of_jobs rfl)
      · refine ((hdetect _).trans (State.modJob_sameJobs _ slot ?_)).trans (hstored _ _ _)
        exact fun _ => rfl

theorem Job.classify_lasting (j : Job) (line : Nat) (m : LineMark) : (j.classify line m).lasting = j.lasting := by
  unfold Job.classify
  extract_lets rest x
  have hx : x.lasting = j.lasting := by
    change Job.lasting (if _ then _ else _) = _
    split <;> rfl
  split
  · split
    · exact hx
    · split
      · exact hx
      · split <;> exact hx
  · exact hx

theorem Job.noteBar_lasting (j : Job) (n line clock : Nat) : (j.noteBar n line clock).lasting = j.lasting := by
  unfold Job.noteBar
  split <;> rfl

theorem Job.spoilBar_lasting (j : Job) (n line : Nat) : (j.spoilBar n line).lasting = j.lasting := by
  unfold Job.spoilBar
  split <;> rfl

/-! ### A line that a channel is done with -/

theorem State.lineDone_sameJobs (s : State) (slot n line : Nat) (k : LineEnd) : s.SameJobs (s.lineDone slot n line k) slot := by
  unfold State.lineDone
  extract_lets told classed noted left
  have htold : s.SameJobs told slot := by
    cases k
    · exact State.SameJobs.refl s slot
    · exact State.SameJobs.refl s slot
    · exact s.addEntry_sameJobs _ _
    · exact s.addEntry_sameJobs _ _
  have hclassed : told.SameJobs classed slot := told.modJob_sameJobs slot fun x => x.classify_lasting _ _
  have hnoted : classed.SameJobs noted slot := classed.modJob_sameJobs slot fun x => by
    split
    · exact x.noteBar_lasting _ _ _
    · exact x.spoilBar_lasting _ _
  have hleft : noted.SameJobs left slot := by
    cases k <;> exact State.SameJobs.of_jobs rfl
  exact (((htold.trans hclassed).trans hnoted).trans hleft).trans (State.SameJobs.of_jobs (congrArg Prod.snd (left.writeHeader_lineParts slot)))

/-- A channel that is done with a line forgets at most the set that governed it. -/
theorem State.lineDone_chan (s : State) (slot n line : Nat) (k : LineEnd) (m : Nat) :
    (s.lineDone slot n line k).chan m = s.chan m ∨ m = n ∧ (s.lineDone slot n line k).chan m = (s.chan m).leftLine line := by
  unfold State.lineDone
  extract_lets told classed noted left
  have hnoted : noted.chan m = s.chan m := by
    refine State.chan_of_chans (t := noted) ?_ m
    cases k
    · rfl
    · rfl
    · exact s.addEntry_chans _ _
    · exact s.addEntry_chans _ _
  rw [State.chan_of_lineParts (left.writeHeader_lineParts slot), ← hnoted]
  have hleft : (noted.modChan n (fun c => c.leftLine line)).chan m = noted.chan m ∨
      m = n ∧ (noted.modChan n (fun c => c.leftLine line)).chan m = (noted.chan m).leftLine line := by
    obtain h | ⟨hm, -, h⟩ := noted.chan_modChan_cases n m (fun c => c.leftLine line)
    · exact .inl h
    · exact .inr ⟨hm, h⟩
  cases k
  · exact hleft
  · exact hleft
  · exact .inl rfl
  · exact hleft

end Sys2Proof.Machine
end

section
/-! SUPPORT. Jobs that stop and end: which channels they touch, and what becomes of the job (05 R181, R189-R192, 09 R300). -/
namespace Sys2Proof.Machine
variable {s t u : State}

/-! ### Channels that an operation touches -/

/-- A relation that each operation of a fold keeps, on the elements that the fold is over. -/
theorem foldl_rel_mem {α : Type} {R : State → State → Prop} (hrefl : ∀ s, R s s) (htrans : ∀ {s t u}, R s t → R t u → R s u) {f : State → α → State}
    {l : List α} (hf : ∀ s x, x ∈ l → R s (f s x)) (s : State) : R s (l.foldl f s) := by
  induction l generalizing s with
  | nil => exact hrefl s
  | cons x l ih => exact htrans (hf s x List.mem_cons_self) (ih (fun s y hy => hf s y (List.mem_cons_of_mem _ hy)) _)

/-- Only some channels differ, and they as a relation says. -/
def State.Touches (s t : State) (ns : List Nat) (R : Chan → Chan → Prop) : Prop :=
  ∀ m, t.chan m = s.chan m ∨ m ∈ ns ∧ R (s.chan m) (t.chan m)

section
variable {ns : List Nat} {R : Chan → Chan → Prop}

theorem State.Touches.of_lineParts (h : t.lineParts = s.lineParts) : s.Touches t ns R := fun m => .inl (State.chan_of_lineParts h m)

theorem State.Touches.trans (htrans : ∀ a b c, R a b → R b c → R a c) (h : s.Touches t ns R) (g : t.Touches u ns R) : s.Touches u ns R := fun m => by
  obtain hst | ⟨hm, hst⟩ := h m <;> obtain htu | ⟨hm', htu⟩ := g m
  · exact .inl (htu.trans hst)
  · exact .inr ⟨hm', hst ▸ htu⟩
  · exact .inr ⟨hm, htu.symm ▸ hst⟩
  · exact .inr ⟨hm, htrans _ _ _ hst htu⟩

theorem State.Touches.mono {ms : List Nat} {Q : Chan → Chan → Prop} (h : s.Touches t ns R) (hns : ∀ n, n ∈ ns → n ∈ ms)
    (hR : ∀ {a b}, R a b → Q a b) : s.Touches t ms Q := fun m => (h m).imp_right fun ⟨hm, hr⟩ => ⟨hns m hm, hR hr⟩

theorem State.Touches.outside (h : s.Touches t ns R) {m : Nat} (hm : m ∉ ns) : t.chan m = s.chan m := (h m).resolve_right fun g => hm g.1

theorem State.Touches.everywhere (h : s.Touches t ns R) (hrefl : ∀ c, R c c) (m : Nat) : R (s.chan m) (t.chan m) := by
  obtain h | ⟨-, h⟩ := h m
  · exact h ▸ hrefl _
  · exact h

theorem State.modChan_touches {n : Nat} (hn : n ∈ ns) {f : Chan → Chan} (hf : ∀ c, R c (f c)) : s.Touches (s.modChan n f) ns R := fun m => by
  obtain h | ⟨rfl, -, h⟩ := s.chan_modChan_cases n m f
  · exact .inl h
  · exact .inr ⟨hn, h ▸ hf _⟩

theorem State.foldl_touches {α : Type} (htrans : ∀ a b c, R a b → R b c → R a c) {f : State → α → State} {l : List α}
    (hf : ∀ (s : State) x, x ∈ l → s.Touches (f s x) ns R) (s : State) : s.Touches (l.foldl f s) ns R :=
  foldl_rel_mem (R := fun s t => s.Touches t ns R) (fun _ _ => .inl rfl) (State.Touches.trans htrans) hf s
end

/-- Nothing of a channel differs but its applied level. -/
def Chan.SameButLevel (c d : Chan) : Prop := d = { c with applied := d.applied, riseSince := d.riseSince }

theorem Chan.SameButLevel.trans {a b c : Chan} (h : a.SameButLevel b) (g : b.SameButLevel c) : a.SameButLevel c := by
  unfold Chan.SameButLevel at *
  rw [g, h]

theorem Chan.SameButLevel.transitive (a b c : Chan) : a.SameButLevel b → b.SameButLevel c → a.SameButLevel c := .trans

/-- What the channel's head is driven with: the slot being fired, the frame and its latch clocks, and when a trip stops them (03 R88-R93, R112). -/
def Chan.pads (c : Chan) : Option Firing × List (BitVec 4) × Nat × Option Nat := (c.firing, c.frame, c.latClocks, c.ioStopAt)

/-- The pads of two channels agree. -/
def Chan.SamePads (c d : Chan) : Prop := d.pads = c.pads

theorem Chan.SamePads.trans {a b c : Chan} (h : a.SamePads b) (g : b.SamePads c) : a.SamePads c := Eq.trans g h

theorem Chan.SamePads.transitive (a b c : Chan) : a.SamePads b → b.SamePads c → a.SamePads c := .trans

theorem Chan.SameButLevel.samePads {c d : Chan} (h : c.SameButLevel d) : c.SamePads d := by
  unfold Chan.SameButLevel at h
  rw [h]
  rfl

/-! ### The level of the channels of a job that is no longer active -/

theorem State.setApplied_touches {n : Nat} {ns : List Nat} (hn : n ∈ ns) (s : State) (l : Nat) : s.Touches (s.setApplied n l) ns Chan.SameButLevel := by
  have hset : s.Touches (s.modChan n (fun c => { c with applied := l, riseSince := none })) ns Chan.SameButLevel := State.modChan_touches hn fun _ => rfl
  unfold State.setApplied
  extract_lets was u
  split
  · exact hset.trans Chan.SameButLevel.transitive (.of_lineParts rfl)
  · exact hset

theorem State.setApplied_jobs (s : State) (n l : Nat) : (s.setApplied n l).jobs = s.jobs := by
  unfold State.setApplied
  extract_lets was u
  split <;> rfl

theorem State.settleRises_touches (s : State) (ns : List Nat) : s.Touches (s.settleRises ns) ns Chan.SameButLevel := by
  unfold State.settleRises
  extract_lets ms u
  have hu : s.Touches u ns Chan.SameButLevel :=
    State.foldl_touches Chan.SameButLevel.transitive (fun t n hn => State.setApplied_touches (List.mem_filter.1 hn).1 t _) s
  split
  · exact hu.trans Chan.SameButLevel.transitive (.of_lineParts (u.raise_lineParts _))
  · exact hu

theorem State.settleRises_jobs (s : State) (ns : List Nat) : (s.settleRises ns).jobs = s.jobs := by
  unfold State.settleRises
  extract_lets ms u
  have hu : u.jobs = s.jobs := foldl_keeps (part := State.jobs) (fun t n => t.setApplied_jobs n _) ms s
  split
  · exact (u.raise_jobs _).trans hu
  · exact hu

/-! ### The state of a job set -/

theorem State.setJobState_jobs (s : State) (slot : Nat) (st : JobState) :
    (s.setJobState slot st).jobs = (s.modJob slot (fun x => { x with state := st })).jobs := by
  unfold State.setJobState
  extract_lets u
  have hu : u.jobs = (s.modJob slot (fun x => { x with state := st })).jobs := congrArg Prod.snd (State.writeHeader_lineParts _ slot)
  split
  · split
    · exact hu
    · exact (u.settleRises_jobs _).trans hu
  · exact hu

theorem State.setJobState_touches {slot : Nat} {j : Job} (hjob : s.jobAt slot = some j) (st : JobState) :
    s.Touches (s.setJobState slot st) j.chans Chan.SameButLevel := by
  unfold State.setJobState
  extract_lets u
  have hparts : u.lineParts = (s.modJob slot (fun x => { x with state := st })).lineParts := State.writeHeader_lineParts _ slot
  have hu : s.Touches u j.chans Chan.SameButLevel := fun m => .inl (State.chan_of_lineParts hparts m)
  split
  · next x hx =>
    have hchans : x.chans = j.chans := by
      rw [State.jobAt_of_lineParts hparts, State.jobAt_modJob_self, hjob] at hx
      cases hx
      rfl
    split
    · exact hu
    · exact hu.trans Chan.SameButLevel.transitive (hchans ▸ u.settleRises_touches x.chans)
  · exact hu

theorem State.jobAt_setJobState {slot : Nat} (st : JobState) :
    (s.setJobState slot st).jobAt slot = (s.jobAt slot).map (fun x => { x with state := st }) :=
  (State.jobAt_of_jobs (s.setJobState_jobs slot st) slot).trans (s.jobAt_modJob_self slot _)

theorem State.jobAt_setJobState_ne {slot k : Nat} (st : JobState) (hk : k ≠ slot) : (s.setJobState slot st).jobAt k = s.jobAt k :=
  (State.jobAt_of_jobs (s.setJobState_jobs slot st) k).trans (s.jobAt_modJob_ne slot k _ (Ne.symm hk))

/-! ### Lines put back -/

theorem State.foldl_modChan_jobs (f : State → Nat → Chan → Chan) (l : List Nat) (s : State) : (l.foldl (fun s n => s.modChan n (f s n)) s).jobs = s.jobs :=
  foldl_keeps (f := fun s n => s.modChan n (f s n)) (part := State.jobs) (fun _ _ => rfl) l s

theorem State.putBack_jobs (s : State) (j : Job) (ns : List Nat) (f : Chan → Chan) : (s.putBack j ns f).jobs = s.jobs := by
  unfold State.putBack
  extract_lets u
  exact (State.foldl_modChan_jobs (fun t n c => c.moveChanges (s.leadPack j n) (t.leadPack j n)) j.chans u).trans (State.foldl_modChan_jobs (fun _ _ => f) ns s)

/-- Nothing of a channel differs but the changes of its map that wait for a line. -/
def Chan.SameButMaps (c d : Chan) : Prop := d = { c with mapBase := d.mapBase, mapChanges := d.mapChanges }

theorem Chan.SameButMaps.trans {a b c : Chan} (h : a.SameButMaps b) (g : b.SameButMaps c) : a.SameButMaps c := by
  unfold Chan.SameButMaps at *
  rw [g, h]

theorem Chan.SameButMaps.transitive (a b c : Chan) : a.SameButMaps b → b.SameButMaps c → a.SameButMaps c := .trans

theorem Chan.moveChanges_maps (c : Chan) (was now : Nat) : c.SameButMaps (c.moveChanges was now) := rfl

/-- The lines of a job's own channels put back: the channels of the job alone change, and but for their maps as the operation on each says. -/
theorem State.putBack_chan (s : State) (j : Job) (f : Chan → Chan) (m : Nat) :
    (m ∉ j.chans → (s.putBack j j.chans f).chan m = s.chan m) ∧ (m ∈ j.chans → (f (s.chan m)).SameButMaps ((s.putBack j j.chans f).chan m)) := by
  obtain ⟨-, hfirst⟩ := State.foldl_modChan f j.chans (nodup_chans j) (fun _ => lt_of_mem_chans) s
  have hmoved : (j.chans.foldl (fun s n => s.modChan n f) s).Touches (s.putBack j j.chans f) j.chans Chan.SameButMaps :=
    State.foldl_touches Chan.SameButMaps.transitive (fun t n hn => State.modChan_touches hn fun c => c.moveChanges_maps _ _) _
  refine ⟨fun hm => ?_, fun hm => ?_⟩
  · rw [hmoved.outside hm, hfirst m, if_neg hm]
  · have h := hmoved.everywhere (fun _ => rfl) m
    rwa [hfirst m, if_pos hm] at h

theorem Chan.SameButMaps.samePads {c d : Chan} (h : c.SameButMaps d) : c.SamePads d := by
  unfold Chan.SameButMaps at h
  rw [h]
  rfl

theorem State.putBack_touches {j : Job} {f : Chan → Chan} (hf : ∀ c : Chan, c.SamePads (f c)) (s : State) :
    s.Touches (s.putBack j j.chans f) j.chans Chan.SamePads := fun m => by
  obtain ⟨hout, hin⟩ := s.putBack_chan j f m
  by_cases hm : m ∈ j.chans
  · exact .inr ⟨hm, (hf _).trans (hin hm).samePads⟩
  · exact .inl (hout hm)

theorem Chan.unprepare_samePads (c : Chan) : c.SamePads c.unprepare := rfl

theorem Chan.dropBeyond_samePads (c : Chan) (l : Nat) : c.SamePads (c.dropBeyond l) := by
  unfold Chan.dropBeyond
  split
  · rfl
  · split
    · split <;> rfl
    · rfl

/-! ### A job that stops -/

/-- A job whose lines, moves and signals under way are given up, with the feed speed that its resume takes up (05 R192). -/
def Job.halted (j : Job) (v : Rat) : Job :=
  { j with late := .none, stopV := v, fullSent := false, fullFrom := 0, rereg := false, resumeMove := false, resumePending := none }

/-- A job that has entered STOPPED (05 R189). -/
def Job.stopped (j : Job) (v : Rat) : Job := { j.halted v with state := .stopped }

/-- What is kept of a job's feed speed for its resume (05 R192). -/
def State.stopSpeed (s : State) (j : Job) : Rat := if j.feed < 8 then (s.axis j.feed).feedSpeed j else 0

/-- A job in its last steps before STOPPED: nothing not begun begins. -/
def State.stopping (s : State) (slot : Nat) (j : Job) : State :=
  ((s.putBack j j.chans Chan.unprepare).modJob slot (fun x => x.halted (s.stopSpeed j))).setJobState slot .stopped

theorem State.jobAt_halted {slot : Nat} {j : Job} (hjob : s.jobAt slot = some j) (v : Rat) :
    ((s.putBack j j.chans Chan.unprepare).modJob slot (fun x => x.halted v)).jobAt slot = some (j.halted v) := by
  rw [State.jobAt_modJob_self, State.jobAt_of_jobs (State.putBack_jobs _ _ _ _), hjob]
  rfl

theorem State.enterStopped_eq {slot : Nat} {j : Job} (hjob : s.jobAt slot = some j) :
    s.enterStopped slot = ((s.stopping slot j).answerStarts j.id).answerStops slot := by
  unfold State.enterStopped
  rw [hjob]
  rfl

theorem State.enterStopped_lineParts {slot : Nat} {j : Job} (hjob : s.jobAt slot = some j) :
    (s.enterStopped slot).lineParts = (s.stopping slot j).lineParts := by
  rw [State.enterStopped_eq hjob]
  exact (State.answerStops_lineParts _ _).trans (State.answerStarts_lineParts _ _)

/-- The job stands in STOPPED, and no other job differs. -/
theorem State.enterStopped_jobs {slot : Nat} {j : Job} (hjob : s.jobAt slot = some j) :
    (s.enterStopped slot).jobAt slot = some (j.stopped (s.stopSpeed j)) ∧ ∀ k, k ≠ slot → (s.enterStopped slot).jobAt k = s.jobAt k := by
  refine ⟨?_, fun k hk => ?_⟩
  · rw [State.jobAt_of_lineParts (State.enterStopped_lineParts hjob), State.stopping, State.jobAt_setJobState, State.jobAt_halted hjob]
    rfl
  · rw [State.jobAt_of_lineParts (State.enterStopped_lineParts hjob), State.stopping, State.jobAt_setJobState_ne _ hk,
      State.jobAt_modJob_ne _ _ _ _ (Ne.symm hk), State.jobAt_of_jobs (State.putBack_jobs _ _ _ _)]

/-- The channels of a job that stops hold no line that has not begun, and differ else in their maps and levels. -/
theorem State.enterStopped_chan {slot : Nat} {j : Job} (hjob : s.jobAt slot = some j) (m : Nat) :
    (m ∉ j.chans → (s.enterStopped slot).chan m = s.chan m) ∧
      (m ∈ j.chans → ∃ c, (s.chan m).unprepare.SameButMaps c ∧ c.SameButLevel ((s.enterStopped slot).chan m)) := by
  rw [State.chan_of_lineParts (State.enterStopped_lineParts hjob)]
  obtain ⟨hout, hin⟩ := s.putBack_chan j Chan.unprepare m
  have hset : (s.putBack j j.chans Chan.unprepare).Touches (s.stopping slot j) j.chans Chan.SameButLevel :=
    State.setJobState_touches (State.jobAt_halted hjob (s.stopSpeed j)) .stopped
  exact ⟨fun hm => (hset.outside hm).trans (hout hm), fun hm => ⟨_, hin hm, hset.everywhere (fun _ => rfl) m⟩⟩

theorem State.enterStopped_touches {slot : Nat} {j : Job} (hjob : s.jobAt slot = some j) :
    s.Touches (s.enterStopped slot) j.chans Chan.SamePads := fun m => by
  obtain ⟨hout, hin⟩ := State.enterStopped_chan hjob m
  by_cases hm : m ∈ j.chans
  · obtain ⟨c, hmaps, hlevel⟩ := hin hm
    exact .inr ⟨hm, ((s.chan m).unprepare_samePads.trans hmaps.samePads).trans hlevel.samePads⟩
  · exact .inl (hout hm)

/-! ### A job that ends, or goes on to its next pass -/

/-- Every line of a job is over on every channel (05 R189). -/
def State.linesOver (s : State) (j : Job) : Bool :=
  (match j.state with | .running | .stopped => true | _ => false) && j.lines ≠ 0 && s.jobQuiet j && j.chans.all (fun n => decide (j.lines ≤ (s.chan n).nextToFire))

theorem State.checkEnded_eq {slot : Nat} {j : Job} (hjob : s.jobAt slot = some j) : s.checkEnded slot =
    if s.linesOver j then
      if j.lastPass then ((s.setJobState slot .ended).deviceEvent 0x30 j.id.toNat).answerStops slot else s.nextPass slot
    else s := by
  unfold State.checkEnded
  rw [hjob]
  rfl

/-- What the end of a line may do to its job: nothing, the end of the job in its last pass, the next pass before that. -/
theorem State.checkEnded_cases {slot : Nat} {j : Job} (hjob : s.jobAt slot = some j) :
    s.checkEnded slot = s ∨
    j.lastPass = true ∧ s.checkEnded slot = ((s.setJobState slot .ended).deviceEvent 0x30 j.id.toNat).answerStops slot ∨
    j.lastPass = false ∧ s.checkEnded slot = s.nextPass slot := by
  rw [State.checkEnded_eq hjob]
  split
  · split
    · next hlast => exact .inr (.inl ⟨hlast, rfl⟩)
    · next hlast => exact .inr (.inr ⟨by simpa using hlast, rfl⟩)
  · exact .inl rfl

theorem State.checkEnded_of_none {slot : Nat} (hjob : s.jobAt slot = none) : s.checkEnded slot = s := by
  unfold State.checkEnded
  rw [hjob]

/-- A job ended. -/
theorem State.ended_lineParts (slot data : Nat) :
    (((s.setJobState slot .ended).deviceEvent 0x30 data).answerStops slot).lineParts = (s.setJobState slot .ended).lineParts :=
  (State.answerStops_lineParts _ _).trans (State.deviceEvent_lineParts _ _ _)

/-- A channel that begins the next pass of a shuttle job (05 R181). -/
def Chan.forPass (c : Chan) : Chan :=
  { c with nextLine := 0, nextCompose := 0, fifo := [], packed := none, prepared := none, dueEarly := 0, gone := [], heldMiss := none }

theorem Chan.forPass_samePads (c : Chan) : c.SamePads c.forPass := rfl

theorem State.nextPass_eq {slot : Nat} {j : Job} (hjob : s.jobAt slot = some j) : s.nextPass slot =
    (j.chans.foldl (fun s n => s.modChan n Chan.forPass) (s.modJob slot (fun x =>
      { x with pass := x.pass + 1, passWait := true, trigLine := 0, marks := x.carriedMarks, latest := [] }))).writeHeader slot := by
  unfold State.nextPass
  rw [hjob]
  rfl

theorem State.nextPass_touches {slot : Nat} {j : Job} (hjob : s.jobAt slot = some j) : s.Touches (s.nextPass slot) j.chans Chan.SamePads := by
  rw [State.nextPass_eq hjob]
  generalize hu : s.modJob slot _ = u
  have hsame : u.lineParts.1 = s.lineParts.1 := by
    rw [← hu]
    rfl
  have hpass : u.Touches (j.chans.foldl (fun s n => s.modChan n Chan.forPass) u) j.chans Chan.SamePads :=
    State.foldl_touches Chan.SamePads.transitive (fun t n hn => State.modChan_touches hn Chan.forPass_samePads) u
  intro m
  rw [State.chan_of_lineParts (State.writeHeader_lineParts _ slot), ← State.chan_of_chans hsame m]
  exact hpass m

theorem State.nextPass_jobs {slot : Nat} {j : Job} (hjob : s.jobAt slot = some j) (k : Nat) :
    (s.nextPass slot).jobAt k = (s.modJob slot (fun x =>
      { x with pass := x.pass + 1, passWait := true, trigLine := 0, marks := x.carriedMarks, latest := [] })).jobAt k := by
  rw [State.nextPass_eq hjob, State.jobAt_of_lineParts (State.writeHeader_lineParts _ slot)]
  exact State.jobAt_of_jobs (State.foldl_modChan_jobs (fun _ _ => Chan.forPass) _ _) k

theorem State.checkEnded_touches {slot : Nat} {j : Job} (hjob : s.jobAt slot = some j) : s.Touches (s.checkEnded slot) j.chans Chan.SamePads := by
  obtain h | ⟨-, h⟩ | ⟨-, h⟩ := State.checkEnded_cases hjob <;> rw [h]
  · exact .of_lineParts rfl
  · exact ((State.setJobState_touches hjob _).mono (fun _ => id) Chan.SameButLevel.samePads).trans Chan.SamePads.transitive (.of_lineParts (s.ended_lineParts _ _))
  · exact State.nextPass_touches hjob

theorem State.checkEnded_jobAt_ne {slot k : Nat} (hk : k ≠ slot) : (s.checkEnded slot).jobAt k = s.jobAt k := by
  cases hjob : s.jobAt slot with
  | none => rw [State.checkEnded_of_none hjob]
  | some j =>
    obtain h | ⟨-, h⟩ | ⟨-, h⟩ := State.checkEnded_cases hjob <;> rw [h]
    · rw [State.jobAt_of_lineParts (s.ended_lineParts _ _), State.jobAt_setJobState_ne _ hk]
    · rw [State.nextPass_jobs hjob, State.jobAt_modJob_ne _ _ _ _ (Ne.symm hk)]

/-- No job of a slot is active after its end was looked for, where none was before. -/
theorem State.checkEnded_inactive {slot : Nat} (hstill : ∀ j, s.jobAt slot = some j → j.active = false) {j : Job}
    (hj : (s.checkEnded slot).jobAt slot = some j) : j.active = false := by
  cases hjob : s.jobAt slot with
  | none =>
    rw [State.checkEnded_of_none hjob] at hj
    exact hstill j hj
  | some x =>
    obtain h | ⟨-, h⟩ | ⟨-, h⟩ := State.checkEnded_cases hjob <;> rw [h] at hj
    · exact hstill j hj
    · rw [State.jobAt_of_lineParts (s.ended_lineParts _ _), State.jobAt_setJobState, hjob] at hj
      cases hj
      rfl
    · rw [State.nextPass_jobs hjob, State.jobAt_modJob_self, hjob] at hj
      cases hj
      exact hstill x hjob

end Sys2Proof.Machine
end

section
/-! SUPPORT. Interlocks: what a trip cuts, and their release (03 R111-R113). -/
namespace Sys2Proof.Machine
variable {s t u : State}

/-! ### A channel that is cut -/

/-- A channel whose slots a trip ends: head I/O goes on to the end of a slot under way, and stops at once between slots (03 R112). -/
structure Chan.StopsAt (c d : Chan) : Prop where
  fires : d.firing = none
  underWay : ∀ f, c.firing = some f → f.ended = false →
    d.ioStopAt = some (f.start + c.slotLength f) ∧ d.frame = c.frame ∧ d.latClocks = c.latClocks
  between : (∀ f, c.firing = some f → f.ended = true) → c.ioStopAt = none → d.ioStopAt = none ∧ d.frame = [] ∧ d.latClocks = 0

theorem Chan.cut_stops (c : Chan) : c.StopsAt c.cut := by
  unfold Chan.cut
  cases hf : c.firing with
  | none =>
    dsimp only
    split
    · next hio => exact ⟨hf, fun f h => absurd (hf.symm.trans h) nofun, fun _ h => absurd hio (by simp [h])⟩
    · exact ⟨rfl, fun f h => absurd (hf.symm.trans h) nofun, fun _ _ => ⟨rfl, rfl, rfl⟩⟩
  | some f =>
    dsimp only
    split
    · next hended =>
      refine ⟨rfl, fun g hg hnot => ?_, fun _ _ => ⟨rfl, rfl, rfl⟩⟩
      obtain rfl : f = g := Option.some.inj (hf.symm.trans hg)
      exact absurd (hended.symm.trans hnot) nofun
    · next hended =>
      refine ⟨rfl, fun g hg _ => ?_, fun hall _ => absurd (hall f hf) hended⟩
      obtain rfl : f = g := Option.some.inj (hf.symm.trans hg)
      exact ⟨rfl, rfl, rfl⟩

theorem Chan.StopsAt.samePads {c d e : Chan} (h : c.StopsAt d) (hpads : d.SamePads e) : c.StopsAt e := by
  obtain ⟨hfiring, hframe, hlat, hio⟩ : e.firing = d.firing ∧ e.frame = d.frame ∧ e.latClocks = d.latClocks ∧ e.ioStopAt = d.ioStopAt :=
    ⟨congrArg Prod.fst hpads, congrArg (fun p : _ × _ × _ × _ => p.2.1) hpads, congrArg (fun p : _ × _ × _ × _ => p.2.2.1) hpads,
      congrArg (fun p : _ × _ × _ × _ => p.2.2.2) hpads⟩
  refine ⟨hfiring.trans h.fires, fun f hf hended => ?_, fun hall hnone => ?_⟩
  · rw [hio, hframe, hlat]
    exact h.underWay f hf hended
  · rw [hio, hframe, hlat]
    exact h.between hall hnone

/-- A channel that is cut already stays as it is. -/
theorem Chan.StopsAt.cut {c d : Chan} (h : c.StopsAt d) : c.StopsAt d.cut := by
  obtain ⟨hfires, hunder, hbetween⟩ := h
  unfold Chan.cut
  rw [hfires]
  dsimp only
  split
  · exact ⟨hfires, hunder, hbetween⟩
  · next hio =>
    refine ⟨rfl, fun f hf hended => ?_, fun _ _ => ⟨rfl, rfl, rfl⟩⟩
    exact absurd (by rw [(hunder f hf hended).1]; rfl) hio

theorem Chan.leftLine_samePads (c : Chan) (line : Nat) : c.SamePads (c.leftLine line) := rfl

/-! ### The lines of a tripped job -/

theorem State.lineDone_touches (s : State) (slot n line : Nat) (k : LineEnd) : s.Touches (s.lineDone slot n line k) [n] Chan.SamePads := fun m => by
  obtain h | ⟨rfl, h⟩ := s.lineDone_chan slot n line k m
  · exact .inl h
  · exact .inr ⟨List.mem_singleton_self _, h ▸ Chan.leftLine_samePads _ _⟩

/-- What is left of a channel's line once the channel is cut (03 R112). -/
theorem State.cutLine_touches (s : State) (slot n cause : Nat) : (s.modChan n Chan.cut).Touches (s.cutLine slot n cause) [n] Chan.SamePads := by
  unfold State.cutLine
  extract_lets p u
  cases p with
  | none => exact .of_lineParts rfl
  | some p =>
    exact (u.lineDone_touches slot n p.line _).trans Chan.SamePads.transitive
      (State.modChan_touches (List.mem_singleton_self n) fun c => c.leftLine_samePads p.line)

theorem State.cutLine_sameJobs (s : State) (slot n cause : Nat) : s.SameJobs (s.cutLine slot n cause) slot := by
  unfold State.cutLine
  extract_lets p u
  have hu : s.SameJobs u slot := .of_jobs rfl
  cases p with
  | none => exact hu
  | some p => exact (hu.trans (u.lineDone_sameJobs slot n p.line _)).trans (.of_jobs rfl)

/-- A channel is as it was, or its slots end. -/
def Chan.UncutOrStops (c d : Chan) : Prop := d = c ∨ c.StopsAt d

/-- The lines of some channels cut: each of the channels stops, and no other differs. -/
theorem State.foldl_cutLine_chan (slot cause : Nat) (l : List Nat) (hl : ∀ n, n ∈ l → n < 48) (s : State) (m : Nat) {c : Chan}
    (hc : c.UncutOrStops (s.chan m)) :
    (m ∉ l → (l.foldl (fun s n => s.cutLine slot n cause) s).chan m = s.chan m) ∧
      (m ∈ l → c.StopsAt ((l.foldl (fun s n => s.cutLine slot n cause) s).chan m)) := by
  have hcut {d : Chan} (h : c.UncutOrStops d) : c.StopsAt d.cut := by
    obtain rfl | h := h
    · exact d.cut_stops
    · exact h.cut
  induction l generalizing s with
  | nil => exact ⟨fun _ => rfl, fun h => absurd h List.not_mem_nil⟩
  | cons n l ih =>
    have hn : n < 48 := hl n List.mem_cons_self
    have hl' : ∀ k, k ∈ l → k < 48 := fun k hk => hl k (List.mem_cons_of_mem _ hk)
    rw [List.foldl_cons]
    by_cases hm : m = n
    · subst hm
      have hstop : c.StopsAt ((s.cutLine slot m cause).chan m) := by
        have hpads : ((s.modChan m Chan.cut).chan m).SamePads ((s.cutLine slot m cause).chan m) :=
          (s.cutLine_touches slot m cause).everywhere (fun _ => rfl) m
        rw [State.chan_modChan s m _ hn] at hpads
        exact (hcut hc).samePads hpads
      obtain ⟨hout, hin⟩ := ih hl' (s.cutLine slot m cause) (.inr hstop)
      refine ⟨fun h => absurd List.mem_cons_self h, fun _ => ?_⟩
      by_cases hml : m ∈ l
      · exact hin hml
      · rw [hout hml]
        exact hstop
    · have hsame : (s.cutLine slot n cause).chan m = s.chan m :=
        ((s.cutLine_touches slot n cause).outside (by simpa using hm)).trans (State.chan_modChan_ne s n m _ (Ne.symm hm))
      obtain ⟨hout, hin⟩ := ih hl' (s.cutLine slot n cause) (hsame ▸ hc)
      rw [List.mem_cons, or_iff_right hm]
      exact ⟨fun h => (hout h).trans hsame, hin⟩

/-! ### The jobs of a trip -/

theorem State.stopJob_cases {slot : Nat} {j : Job} (hjob : s.jobAt slot = some j) :
    j.active = false ∧ s.stopJob slot = s ∨ j.active = true ∧ (s.stopJob slot).lineParts = (s.enterStopped slot).lineParts := by
  unfold State.stopJob
  rw [hjob]
  dsimp only
  split
  · next hactive =>
    refine .inr ⟨hactive, ?_⟩
    split
    · exact State.stopAxisMax_lineParts _ _
    · rfl
  · next hactive => exact .inl ⟨by simpa using hactive, rfl⟩

theorem State.stopJob_touches {slot : Nat} {j : Job} (hjob : s.jobAt slot = some j) : s.Touches (s.stopJob slot) j.chans Chan.SamePads := by
  obtain ⟨-, h⟩ | ⟨-, h⟩ := State.stopJob_cases hjob
  · rw [h]
    exact .of_lineParts rfl
  · intro m
    rw [State.chan_of_lineParts h]
    exact State.enterStopped_touches hjob m

/-- A job stopped: it has the channels that it had, is not active, and no other job differs. -/
theorem State.stopJob_jobs {slot : Nat} {j : Job} (hjob : s.jobAt slot = some j) :
    (∃ j', (s.stopJob slot).jobAt slot = some j' ∧ j'.chans = j.chans ∧ j'.active = false) ∧
      ∀ k, k ≠ slot → (s.stopJob slot).jobAt k = s.jobAt k := by
  obtain ⟨hstill, h⟩ | ⟨-, h⟩ := State.stopJob_cases hjob
  · rw [h]
    exact ⟨⟨j, hjob, rfl, hstill⟩, fun _ _ => rfl⟩
  · obtain ⟨hstopped, hother⟩ := State.enterStopped_jobs hjob
    exact ⟨⟨_, (State.jobAt_of_lineParts h slot).trans hstopped, rfl, rfl⟩, fun k hk => (State.jobAt_of_lineParts h k).trans (hother k hk)⟩

/-- What a trip does to the job in a slot. -/
def State.tripJob (cause : Nat) (s : State) (slot : Nat) : State :=
  match s.jobAt slot with
  | some j => (((j.chans.foldl (fun s n => s.cutLine slot n cause) s).stopJob slot).checkEnded slot).answerStops slot
  | none => s

theorem State.tripJobs_eq (s : State) (cause : Nat) : s.tripJobs cause = (List.range 4).foldl (State.tripJob cause) s := rfl

/-- The job in a slot, its lines cut and the job stopped. -/
theorem State.tripJob_stopped {slot : Nat} {j : Job} (hjob : s.jobAt slot = some j) (cause : Nat) : ∃ u : State,
    (s.tripJob cause slot).lineParts = (u.checkEnded slot).lineParts ∧ (∃ j', u.jobAt slot = some j' ∧ j'.chans = j.chans ∧ j'.active = false) ∧
      (∀ k, k ≠ slot → u.jobAt k = s.jobAt k) ∧
      (j.chans.foldl (fun s n => s.cutLine slot n cause) s).Touches u j.chans Chan.SamePads := by
  have hcut : s.SameJobs (j.chans.foldl (fun s n => s.cutLine slot n cause) s) slot :=
    foldl_rel (R := fun s t => s.SameJobs t slot) (fun s => .refl s slot) State.SameJobs.trans (fun s n => s.cutLine_sameJobs slot n cause) j.chans s
  obtain ⟨i, hi, hlasting⟩ := hcut.job hjob
  have hchans : i.chans = j.chans := Job.chans_of_lasting hlasting
  obtain ⟨⟨j', hj', hjchans, hstill⟩, hother⟩ := State.stopJob_jobs hi
  have htouched := State.stopJob_touches hi
  rw [hchans] at htouched
  refine ⟨_, ?_, ⟨j', hj', hjchans.trans hchans, hstill⟩, fun k hk => (hother k hk).trans (hcut.other k hk), htouched⟩
  unfold State.tripJob
  rw [hjob]
  exact State.answerStops_lineParts _ _

theorem State.tripJob_jobs (s : State) (cause slot : Nat) :
    (∀ j, (s.tripJob cause slot).jobAt slot = some j → j.active = false) ∧ ∀ k, k ≠ slot → (s.tripJob cause slot).jobAt k = s.jobAt k := by
  cases hjob : s.jobAt slot with
  | none =>
    have hnone : s.tripJob cause slot = s := by
      unfold State.tripJob
      rw [hjob]
    rw [hnone]
    exact ⟨fun j hj => absurd (hjob.symm.trans hj) nofun, fun _ _ => rfl⟩
  | some j =>
    obtain ⟨u, hparts, ⟨i, hi, -, hstill⟩, hother, -⟩ := State.tripJob_stopped hjob cause
    refine ⟨fun x hx => ?_, fun k hk => ?_⟩
    · rw [State.jobAt_of_lineParts hparts] at hx
      refine State.checkEnded_inactive (fun y hy => ?_) hx
      rwa [← Option.some.inj (hi.symm.trans hy)]
    · rw [State.jobAt_of_lineParts hparts, State.checkEnded_jobAt_ne hk, hother k hk]

theorem State.tripJob_chan (s : State) (cause slot m : Nat) {c : Chan} (hc : c.UncutOrStops (s.chan m)) :
    c.UncutOrStops ((s.tripJob cause slot).chan m) := by
  cases hjob : s.jobAt slot with
  | none =>
    unfold State.tripJob
    rw [hjob]
    exact hc
  | some j =>
    obtain ⟨u, hparts, ⟨i, hi, hchans, -⟩, -, hu⟩ := State.tripJob_stopped hjob cause
    obtain ⟨hout, hin⟩ := State.foldl_cutLine_chan slot cause j.chans (fun _ => lt_of_mem_chans) s m hc
    have hended := State.checkEnded_touches hi
    rw [hchans] at hended
    have htouched := hu.trans Chan.SamePads.transitive hended
    rw [State.chan_of_lineParts hparts]
    by_cases hm : m ∈ j.chans
    · exact .inr ((hin hm).samePads (htouched.everywhere (fun _ => rfl) m))
    · rw [htouched.outside hm, hout hm]
      exact hc

/-- After a trip no job is active. -/
theorem State.tripJobs_inactive (s : State) (cause : Nat) {k : Nat} (hk : k < 4) {j : Job} (hj : (s.tripJobs cause).jobAt k = some j) :
    j.active = false := by
  have hfold (l : List Nat) (s : State) (h : k ∈ l ∨ ∀ j, s.jobAt k = some j → j.active = false) :
      ∀ j, (l.foldl (State.tripJob cause) s).jobAt k = some j → j.active = false := by
    induction l generalizing s with
    | nil => exact h.resolve_left List.not_mem_nil
    | cons slot l ih =>
      refine ih _ ?_
      obtain ⟨hself, hother⟩ := s.tripJob_jobs cause slot
      by_cases hslot : k = slot
      · subst hslot
        exact .inr hself
      · rw [hother k hslot]
        exact h.imp_left fun h => (List.mem_cons.1 h).resolve_left hslot
  exact hfold (List.range 4) s (.inl (List.mem_range.2 hk)) j hj

/-- After a trip every channel is as it was, or its slots end. -/
theorem State.tripJobs_chan (s : State) (cause m : Nat) : (s.chan m).UncutOrStops ((s.tripJobs cause).chan m) := by
  have hfold (l : List Nat) (t : State) (h : (s.chan m).UncutOrStops (t.chan m)) :
      (s.chan m).UncutOrStops ((l.foldl (State.tripJob cause) t).chan m) := by
    induction l generalizing t with
    | nil => exact h
    | cons slot l ih => exact ih _ (t.tripJob_chan cause slot m h)
  exact hfold _ s (.inl rfl)

/-! ### What a trip does -/

theorem State.tripActs_jobs (s : State) (classes : BitVec 4) : (s.tripActs classes).jobs = (s.tripJobs 1).jobs ∧
    (s.tripActs classes).chans = (s.tripJobs 1).chans.map Chan.cut := by
  unfold State.tripActs
  extract_lets stopped cut axes ended pulsed
  have haxes : axes.lineParts = cut.lineParts := by
    change (if classes.getLsbD 3 then (List.range 8).foldl State.stopAxisMax cut else cut).lineParts = _
    split
    · exact foldl_keeps (part := State.lineParts) State.stopAxisMax_lineParts _ cut
    · rfl
  have hpulsed : pulsed.lineParts = ended.lineParts := by
    change (if classes &&& 7 = 0 then ended else ended.raise 0x38).lineParts = _
    split
    · rfl
    · exact ended.raise_lineParts _
  have hlast : (if classes.getLsbD 3 then pulsed.raise 0x39 else pulsed).lineParts = pulsed.lineParts := by
    split
    · exact pulsed.raise_lineParts _
    · rfl
  have hall := (hlast.trans hpulsed).trans ((axes.endSurvey_lineParts 1).trans haxes)
  exact ⟨congrArg Prod.snd hall, congrArg Prod.fst hall⟩

/-- After what a trip does the slots of every channel end. -/
theorem State.tripActs_chan (s : State) (classes : BitVec 4) {n : Nat} (hn : n < 48) : (s.chan n).StopsAt ((s.tripActs classes).chan n) := by
  have hcut : (s.tripActs classes).chan n = ((s.tripJobs 1).chan n).cut := by
    obtain ⟨-, hchans⟩ := s.tripActs_jobs classes
    simp [State.chan, hchans, vget, hn]
  rw [hcut]
  obtain h | h := s.tripJobs_chan 1 n
  · rw [h]
    exact Chan.cut_stops _
  · exact h.cut

theorem State.stopAxisMax_senses (s : State) (ax : Nat) : (s.stopAxisMax ax).senses = s.senses := by
  unfold State.stopAxisMax
  extract_lets u
  split
  · rfl
  · exact (State.senses_of_drive (u.endSurveyIf_drive _ _)).trans rfl

theorem State.stopJob_senses (s : State) (slot : Nat) : (s.stopJob slot).senses = s.senses := by
  unfold State.stopJob
  split
  · rfl
  · split
    · extract_lets u
      have hu : u.senses = s.senses := State.senses_of_drive (s.enterStopped_drive slot)
      split
      · exact (u.stopAxisMax_senses _).trans hu
      · exact hu
    · rfl

theorem State.tripJob_senses (cause : Nat) (s : State) (slot : Nat) : (s.tripJob cause slot).senses = s.senses := by
  unfold State.tripJob
  split
  · next j _ =>
    calc _ = _ := State.senses_of_drive (State.answerStops_drive _ slot)
      _ = _ := State.senses_of_drive (State.checkEnded_drive _ slot)
      _ = (j.chans.foldl (fun s n => s.cutLine slot n cause) s).senses := State.stopJob_senses _ slot
      _ = s.senses := foldl_keeps (part := State.senses) (fun s n => State.senses_of_drive (s.cutLine_drive slot n cause)) _ s
  · rfl

/-- Power, interlocks and encoders stay as they are through what a trip does. -/
theorem State.tripActs_senses (s : State) (classes : BitVec 4) : (s.tripActs classes).senses = s.senses := by
  unfold State.tripActs
  extract_lets stopped cut axes ended pulsed
  have haxes : axes.senses = cut.senses := by
    change (if classes.getLsbD 3 then (List.range 8).foldl State.stopAxisMax cut else cut).senses = _
    split
    · exact foldl_keeps (part := State.senses) State.stopAxisMax_senses _ cut
    · rfl
  have hpulsed : pulsed.senses = ended.senses := by
    change (if classes &&& 7 = 0 then ended else ended.raise 0x38).senses = _
    split
    · rfl
    · exact State.senses_of_drive (ended.raise_drive _)
  have hlast : (if classes.getLsbD 3 then pulsed.raise 0x39 else pulsed).senses = pulsed.senses := by
    split
    · exact State.senses_of_drive (pulsed.raise_drive _)
    · rfl
  calc _ = pulsed.senses := hlast
    _ = ended.senses := hpulsed
    _ = axes.senses := State.senses_of_drive (axes.endSurvey_drive 1)
    _ = cut.senses := haxes
    _ = s.senses := foldl_keeps (part := State.senses) (State.tripJob_senses 1) _ s

/-- The latches of a trip set. -/
def Interlock.latched (l : Interlock) (classes : BitVec 4) (clock : Nat) : Interlock :=
  { l with
    trips := l.trips ||| classes
    assertedAt := Vector.ofFn (fun (k : Fin 4) => if classes.getLsbD k.val then clock else vget l.assertedAt k.val 0) }

/-- A trip latches its classes, ends the slots of every channel, leaves no job active, and neither power nor an encoder differs (03 R111, R112). -/
theorem State.trip_eq (s : State) (classes : BitVec 4) : (s.trip classes).ilk = s.ilk.latched classes s.clock ∧
    (s.trip classes).pwr = s.pwr ∧ (s.trip classes).enc = s.enc ∧ (∀ n, n < 48 → (s.chan n).StopsAt ((s.trip classes).chan n)) ∧
    ∀ k j, k < 4 → (s.trip classes).jobAt k = some j → j.active = false := by
  let l : State := { s with ilk := s.ilk.latched classes s.clock }
  have hacts : (l.tripActs classes).SameButFrames (s.trip classes) := State.reportLocal_frames (l.tripActs classes)
  have hsenses := l.tripActs_senses classes
  obtain ⟨hjobs, -⟩ := l.tripActs_jobs classes
  unfold State.SameButFrames at hacts
  rw [hacts]
  refine ⟨congrArg (fun x : Power × Interlock × Vector Encoder 8 => x.2.1) hsenses, congrArg Prod.fst hsenses,
    congrArg (fun x : Power × Interlock × Vector Encoder 8 => x.2.2) hsenses, fun n hn => l.tripActs_chan classes hn, fun k j hk hj => ?_⟩
  exact l.tripJobs_inactive 1 hk ((State.jobAt_of_jobs hjobs k).symm.trans hj)

end Sys2Proof.Machine
end

section
/-! SUPPORT. Interlock assertions and releases settled (03 R111-R113). -/
namespace Sys2Proof.Machine
variable {s t : State}

theorem State.tripped_of_trips {k : Nat} (h : s.ilk.trips.getLsbD k = true) : s.tripped = true := by
  have hne : s.ilk.trips ≠ 0 := fun h0 => by simp [h0] at h
  unfold State.tripped
  rw [decide_eq_true hne]
  rfl

/-- The class of trips with an index. -/
def classBit (k : Nat) : BitVec 4 := setBit 0 k true

/-- The state with an interlock input asserted, before the trip that it brings. -/
def State.asserted (s : State) (i : Fin 13) : State :=
  { s with ilk := { s.ilk with inputs := setBit s.ilk.inputs i.val true, inputAt := s.ilk.inputAt.set i.val s.clock } }

theorem exec_interlockAssert (hsupply : s.pwr.supply = true) (i : Fin 13) :
    exec (.interlockAssert i) s = .next ((s.asserted i).trip (classBit (i.val / 4))) := by
  change execInterlockAssert i s = _
  unfold execInterlockAssert State.aonOn
  rw [hsupply]
  rfl

theorem getLsbD_classBit {k b : Nat} (hb : b < 4) : (classBit k).getLsbD b = decide (b = k) := by
  rw [classBit, getLsbD_setBit _ _ _ _ hb]
  simp [eq_comm]

theorem Interlock.latched_class (l : Interlock) (k clock : Nat) : l.latched (classBit k) clock =
    { l with trips := setBit l.trips k true, assertedAt := (l.latched (classBit k) clock).assertedAt } := by
  simp [Interlock.latched, classBit, setBit]

/-- An assertion of an interlock input, in any state with the supply on. -/
theorem interlockAssert_trips (hsupply : s.pwr.supply = true) (i : Fin 13) : ∃ t, exec (.interlockAssert i) s = .next t ∧
    t.ilk = { s.ilk with
      inputs := setBit s.ilk.inputs i.val true, trips := setBit s.ilk.trips (i.val / 4) true, assertedAt := t.ilk.assertedAt, inputAt := t.ilk.inputAt } ∧
    (∀ k, k < 13 → vget t.ilk.inputAt k 0 = if k = i.val then s.clock else vget s.ilk.inputAt k 0) ∧
    (∀ k, k < 4 → vget t.ilk.assertedAt k 0 = if k = i.val / 4 then s.clock else vget s.ilk.assertedAt k 0) ∧ t.gateOpen = false ∧
    (∀ n, n < 48 → (s.chan n).StopsAt (t.chan n)) ∧ (∀ k j, k < 4 → t.jobAt k = some j → j.active = false) ∧ t.pwr = s.pwr ∧ t.enc = s.enc := by
  obtain ⟨hilk, hpwr, henc, hchans, hjobs⟩ := (s.asserted i).trip_eq (classBit (i.val / 4))
  refine ⟨_, exec_interlockAssert hsupply i, ?_, fun k hk => ?_, fun k hk => ?_, ?_, hchans, hjobs, hpwr, henc⟩
  · rw [hilk, Interlock.latched_class]
    rfl
  · rw [hilk]
    change vget (s.ilk.inputAt.set i.val s.clock) k 0 = _
    simp [vget, hk, Vector.getElem_set, eq_comm]
  · rw [hilk]
    change vget (Vector.ofFn _) k 0 = _
    rw [vget, Vector.getElem?_ofFn, dif_pos hk, Option.getD_some, getLsbD_classBit hk]
    simp only [decide_eq_true_eq]
    rfl
  · have htrip : ((s.asserted i).trip (classBit (i.val / 4))).tripped = true := by
      refine State.tripped_of_trips (k := i.val / 4) ?_
      rw [hilk]
      have h4 : i.val / 4 < 4 := by omega
      rw [Interlock.latched, BitVec.getLsbD_or, getLsbD_classBit h4, decide_eq_true rfl, Bool.or_true]
    unfold State.gateOpen
    rw [htrip]
    rfl

/-- The state with the inputs and the latch of a class released, before the report to the neighbours. -/
def State.released (s : State) (k : Nat) : State :=
  { s with ilk := { s.ilk with inputs := s.ilk.inputs &&& ~~~ (if k = 3 then 0x1000 else (0xF : BitVec 13) <<< (4 * k)), trips := setBit s.ilk.trips k false } }

theorem exec_interlockRelease (hsupply : s.pwr.supply = true) (k : TripClass) :
    exec (.interlockRelease k) s = .next (if s.releaseDue (tripIndex k) then (s.released (tripIndex k)).reportLocal else s) := by
  change execInterlockRelease k s = _
  unfold execInterlockRelease State.aonOn
  rw [hsupply]
  dsimp only
  cases s.releaseDue (tripIndex k) <;> rfl

/-- The inputs of a class are those of its mask. -/
theorem getLsbD_classInputs (v : BitVec 13) (k : TripClass) {i : Nat} (hi : i < 13) :
    (v &&& ~~~ (if tripIndex k = 3 then 0x1000 else (0xF : BitVec 13) <<< (4 * tripIndex k))).getLsbD i = (v.getLsbD i && decide (i / 4 ≠ tripIndex k)) := by
  rw [BitVec.getLsbD_and, BitVec.getLsbD_not]
  congr 1
  cases k <;> interval_cases i <;> decide

/-- Settles O33: a trip cuts every channel and stops every job; a release clears its class once the samples are read. -/
theorem interlocksTripAndRelease : Obligations.InterlocksTripAndRelease := by
  intro s hsupply
  refine ⟨fun i => ?_, fun k => ⟨fun hdue => ?_, fun hearly => ?_⟩⟩
  · obtain ⟨t, hexec, hilk, hinput, hasserted, hgate, hchans, hjobs, hpwr, henc⟩ := interlockAssert_trips hsupply i
    refine ⟨t, hexec, hilk, hinput, hasserted, hgate, fun n hn => ?_, hjobs, hpwr, henc⟩
    obtain ⟨hfires, hunder, hbetween⟩ := hchans n hn
    exact ⟨hfires, hunder, fun hall hio => (hbetween hall hio).2⟩
  · have hreport := (s.released (tripIndex k)).reportLocal_frames
    unfold State.SameButFrames at hreport
    have hilk : (s.released (tripIndex k)).reportLocal.ilk = (s.released (tripIndex k)).ilk := by rw [hreport]
    refine ⟨_, (exec_interlockRelease hsupply k).trans (congrArg _ (if_pos (decide_eq_true hdue))), ?_, ?_⟩
    · rw [hilk]
      exact hreport
    · rw [hilk]
      refine ⟨rfl, rfl, rfl, fun b hb => ?_, fun i hi => getLsbD_classInputs _ k hi⟩
      refine (getLsbD_setBit _ _ _ _ hb).trans ?_
      by_cases h : tripIndex k = b
      · simp [h]
      · simp [h, Ne.symm h]
  · refine (exec_interlockRelease hsupply k).trans (congrArg _ (if_neg ?_))
    simpa [State.releaseDue] using hearly

end Sys2Proof.Machine
end

section
/-! SUPPORT. The counters that frames and Kettle's replies leave alone: all but that of replays (12 R373, 15 R446). -/
namespace Sys2Proof.Machine
variable {s t : State} {i : Nat}

theorem State.modWport_counter (s : State) (p : Side) (f : Port → Port) : (s.modWport p f).counter i = s.counter i := by
  cases p <;> rfl

theorem State.freeThrough_counter (s : State) (p : Side) (seq : BitVec 12) : (s.freeThrough p seq).counter i = s.counter i := by
  unfold State.freeThrough
  split
  · exact s.modWport_counter _ _
  · rfl

theorem State.replay_counter (h : i ≠ 113) (s : State) (p : Side) : (s.replay p).counter i = s.counter i := by
  unfold State.replay
  extract_lets n
  split
  · rfl
  · exact (State.modWport_counter _ _ _).trans (vget_vset_ne _ _ _ _ _ (Ne.symm h))

theorem State.sendFrame_counter (h : i ≠ 113) (s : State) (p : Side) (f : Frame) : (s.sendFrame p f).counter i = s.counter i := by
  unfold State.sendFrame
  extract_lets q g sent
  have hsent : sent.counter i = s.counter i := s.modWport_counter _ _
  split
  · rfl
  split
  · split
    · split
      · exact ((State.replay_counter h _ _).trans (State.freeThrough_counter _ _ _)).trans hsent
      · exact hsent
    · exact s.modWport_counter _ _
  · exact s.modWport_counter _ _

theorem State.sendPkt_counter (h : i ≠ 113) (s : State) (id kind : Nat) (k : BitVec 16) (b : Bytes) :
    (s.sendPkt id kind k b).counter i = s.counter i := by
  have hall (s : State) (x : Bytes) : (s.sendAll tPKT x).counter i = s.counter i := by
    refine foldl_keeps (part := fun s => s.counter i) (fun s p => ?_) _ s
    dsimp only
    split
    · rfl
    · exact s.sendFrame_counter h _ _
  have hone (s : State) (x : Bytes) : (s.sendTo id tPKT x).counter i = s.counter i := by
    unfold State.sendTo
    split
    · rfl
    · exact s.sendFrame_counter h _ _
  refine foldl_keeps (part := fun s => s.counter i) (fun s x => ?_) _ s
  split
  · exact hall s x
  · exact hone s x

theorem State.kettleWrites_counter (h : i ≠ 113) (ht : s.kettleWrites = some t) : t.counter i = s.counter i := by
  unfold State.kettleWrites at ht
  split at ht
  · cases ht
  · split at ht
    · cases ht
    · split at ht
      · cases ht
        exact (State.sendPkt_counter h _ _ _ _ _).trans rfl
      · split at ht
        · cases ht
          rfl
        · cases ht

theorem State.counter_of_same (h : s.SameButReplies t) : t.counter i = s.counter i := by
  unfold State.SameButReplies at h
  rw [h]
  rfl

theorem State.drainReplies_counter (h : i ≠ 113) (n : Nat) (s : State) : (State.drainReplies n s).counter i = s.counter i := by
  induction n generalizing s with
  | zero => rfl
  | succ n ih =>
    have hnext : (match s.kettleWrites with | some t => State.drainReplies n t | none => s).counter i = s.counter i := by
      split
      · next t ht => exact (ih t).trans (State.kettleWrites_counter h ht)
      · rfl
    unfold State.drainReplies
    dsimp only
    split
    · next r rest _ =>
      split
      · exact (ih _).trans ((State.counter_of_same (State.writeReply_same _ _)).trans rfl)
      · exact hnext
    · exact hnext

theorem State.kettleReply_counter (h : i ≠ 113) (s : State) (r : Reply) : (s.kettleReply r).counter i = s.counter i :=
  (State.drainReplies_counter h _ _).trans rfl

/-- A reply of Kettle's. -/
theorem State.reply_counter (h : i ≠ 113) (s : State) (p : Packet) (src : Source) (st : BitVec 16) (params : Bytes) :
    (s.reply true p src st params).counter i = s.counter i := by
  unfold State.reply
  extract_lets r
  split
  · split
    · split
      · exact s.kettleReply_counter h r
      · exact s.kettleReply_counter h _
    · exact s.kettleReply_counter h r
  · rfl

theorem State.finishOps_counter (h : i ≠ 113) (s : State) (sel : PendOp → Bool) (ans : PendOp → BitVec 16 × Bytes) :
    (s.finishOps sel ans).counter i = s.counter i := by
  unfold State.finishOps
  exact foldl_keeps (part := fun s => s.counter i) (fun t p => t.reply_counter h _ _ _ _) _ _

end Sys2Proof.Machine
end

section
/-! SUPPORT. The identification of heads: frames on HDn_ID and what ends it (03 R103-R107). -/
namespace Sys2Proof.Machine
variable {s t u : State} {i : Ident} {f : Sys2Proof.IdFrame} {b : Bytes}

/-! ### Frames of the device -/

theorem idFrameTicks_idFrameOf (code : Nat) (payload : Bytes) : idFrameTicks (idFrameOf code payload) = (20 + 80 * (4 + payload.length)) * 400 := by
  have hlen : (idFrameOf code payload).length = 4 + payload.length := by
    simp only [idFrameOf, toBe, List.length_append, List.length_reverse, length_toLe]
    omega
  rw [idFrameTicks, hlen]
  rfl

/-- A channel that sends a frame once its line has been released for 100 µs, and waits for the answer. -/
def Chan.sends (clock : Nat) (i : Ident) (phase code : Nat) (payload : Bytes) (c : Chan) : Chan :=
  let start := max clock c.idFree
  let stop := start + (20 + 80 * (4 + payload.length)) * 400
  { c with idOut := idFrameOf code payload, idFree := stop + 100 * 400, ident := some { i with phase := phase, sentAt := start, waitEnd := stop + 400 * 400 } }

theorem State.sendId_eq (n : Nat) (i : Ident) (phase code : Nat) (payload : Bytes) :
    s.sendId n i phase code payload = s.modChan n (Chan.sends s.clock i phase code payload) := by
  simp only [State.sendId, idFrameTicks_idFrameOf]
  rfl

theorem State.sendIdent_eq (n : Nat) (i : Ident) : s.sendIdent n i = s.modChan n (Chan.sends s.clock i 0 0x3C []) := State.sendId_eq n i 0 0x3C []

theorem State.foldl_sendIdent {clock : Nat} (l : List Nat) (s : State) (hclock : s.clock = clock) :
    l.foldl (fun s n => s.sendIdent n (Ident.start s.clock)) s = l.foldl (fun t n => t.modChan n (Chan.sends clock (Ident.start clock) 0 0x3C [])) s := by
  induction l generalizing s with
  | nil => simp only [List.foldl_nil]
  | cons n l ih =>
    rw [List.foldl_cons, List.foldl_cons, State.sendIdent_eq, hclock]
    exact ih _ hclock

/-! ### The end of an identification -/

/-- Nothing of the channels, jobs, axes and interlocks differs but one channel. -/
structure State.OneChan (s t : State) (n : Nat) : Prop where
  chans : ∀ m, m < 48 → m ≠ n → t.chan m = s.chan m
  jobs : t.jobs = s.jobs
  axes : t.axes = s.axes
  ilk : t.ilk = s.ilk

/-- What the end of an identification leaves alone, but for the channel itself and its sensor. -/
def State.heads (s : State) : Vector Chan 48 × Vector (Option Job) 4 × Vector Axis 8 × Interlock × Thermal := (s.chans, s.jobs, s.axes, s.ilk, s.therm)

theorem State.finishAttach_heads (s : State) : s.finishAttach.heads = s.heads := by
  unfold State.finishAttach
  split
  · rfl
  · split
    · rfl
    · extract_lets u ids
      have hsent := u.finishOps_sent (fun q => match q.kind with | .attach => true | _ => false)
      have hheads {v w : State} (h : v.SameButSent w) : w.heads = v.heads := by
        unfold State.SameButSent at h
        rw [h]
        rfl
      exact (hheads (hsent _)).trans rfl

theorem State.injMoment_heads (s : State) : s.injMoment.heads = s.heads := by
  rw [State.injMoment_eq]
  rfl

/-- A channel changed, and nothing else of its like. -/
theorem State.oneChan_of_heads {n : Nat} (hn : n < 48) {g : Chan → Chan} {u : State} (hu : (u.chans, u.jobs, u.axes, u.ilk) = ((s.modChan n g).chans, s.jobs, s.axes, s.ilk))
    (ht : t.heads = u.heads) : t.chan n = g (s.chan n) ∧ s.OneChan t n := by
  simp only [State.heads, Prod.mk.injEq] at hu ht
  obtain ⟨hchans, hjobs, haxes, hilk, -⟩ := ht
  obtain ⟨hchans', hjobs', haxes', hilk'⟩ := hu
  refine ⟨?_, fun m _ hm => ?_, hjobs.trans hjobs', haxes.trans haxes', hilk.trans hilk'⟩
  · exact (State.chan_of_chans (hchans.trans hchans') n).trans (State.chan_modChan s n g hn)
  · exact (State.chan_of_chans (hchans.trans hchans') m).trans (State.chan_modChan_ne s n m g (Ne.symm hm))

theorem State.finishAttach_counter {k : Nat} (h : k ≠ 113) (s : State) : s.finishAttach.counter k = s.counter k := by
  unfold State.finishAttach
  split
  · rfl
  · split
    · rfl
    · exact (State.finishOps_counter h _ _ _).trans rfl

/-- A channel whose head is not there (03 R106). -/
def Chan.noHead (c : Chan) : Chan := { c with ident := none, attached := false, configured := false, headId := {}, authFail := false }

/-- A channel whose head is there (03 R106, R107). -/
def Chan.withHead (c : Chan) (id : HeadId) (fail : Bool) : Chan :=
  { c with ident := none, attached := true, headId := id, authFail := fail, configured := c.configured && decide (64 * id.size.toNat = c.nozzles) }

theorem State.notPresent_eq {n : Nat} (hn : n < 48) (s : State) :
    (s.notPresent n).chan n = (s.chan n).noHead ∧ s.OneChan (s.notPresent n) n :=
  State.oneChan_of_heads hn (u := s.modChan n Chan.noHead) rfl (State.finishAttach_heads _)

theorem State.isPresent_eq {n : Nat} (hn : n < 48) (s : State) (id : HeadId) (fail : Bool) :
    (s.isPresent n id fail).chan n = (s.chan n).withHead id fail ∧ ((s.isPresent n id fail).headSensor n).suspect = false ∧
      s.OneChan (s.isPresent n id fail) n := by
  unfold State.isPresent
  extract_lets c h a
  have hheads : a.injMoment.finishAttach.heads = a.heads := (State.finishAttach_heads _).trans a.injMoment_heads
  obtain ⟨hchan, hone⟩ := State.oneChan_of_heads (s := s) (g := fun x => x.withHead id fail) hn (u := a) rfl hheads
  refine ⟨hchan, ?_, hone⟩
  have htherm : a.injMoment.finishAttach.headSensor n = h.headSensor n :=
    congrArg (fun x : _ × _ × _ × _ × Thermal => vget x.2.2.2.2.heads n headDefault) hheads
  rw [htherm]
  exact congrArg SensorState.suspect (State.headSensor_modHead c n _ hn)

end Sys2Proof.Machine
end

section
/-! SUPPORT. The commands of an identification, phase by phase (03 R104, R106, R107). -/
namespace Sys2Proof.Machine
variable {s t u : State} {i : Ident} {f : Sys2Proof.IdFrame} {b : Bytes} {c : Cmd} {ch : Fin 48}

/-- Two changes of one channel. -/
theorem State.modChan_modChan {n : Nat} (hn : n < 48) (s : State) (g h : Chan → Chan) : (s.modChan n g).modChan n h = s.modChan n (fun c => h (g c)) := by
  unfold State.modChan
  rw [show State.chan { s with chans := vset s.chans n (g (s.chan n)) } n = g (s.chan n) from State.chan_modChan s n g hn, vset_vset]

/-! ### HEAD_ATTACH -/

theorem State.KettleTakes.exec_headAttach (h : s.KettleTakes 0x0200 c) :
    exec (.headAttach c) s = .next (s.taken.opHeadAttach (packetOfCmd 0x0200 c) .ring s.pe.seq) :=
  h.runs (f := fun t => t.opHeadAttach (packetOfCmd 0x0200 c) .ring s.pe.seq) (by decide) (by simp [Packet.hardware, packetOfCmd])
    fun t hlife => by simp [State.runKettle, hlife, packetOfCmd]

/-- The identification that HEAD_ATTACH begins. -/
def attachOf (m auth : Nat) : AttachRun := { channels := BitVec.ofNat 64 m, auth := auth = 1, present := 0, authFail := 0, ids := [] }

/-- The state in which HEAD_ATTACH sends its first frames. -/
def State.attaching (s : State) (r : AttachRun) : State := { s with attach := some r }

/-- HEAD_ATTACH of channels without a job, none under way. -/
theorem State.opHeadAttach_eq {p : Packet} (hok : channelsOk (p.u 0 8) = true) (hauth : p.u 8 4 ≤ 1) (hnone : s.attach = none)
    (hjobs : ∀ n, n < 48 → bit (p.u 0 8) n = true → s.jobOf n = none) (src : Source) (seq : Nat) : s.opHeadAttach p src seq =
    (maskChans (BitVec.ofNat 64 (p.u 0 8))).foldl (fun s n => s.sendIdent n (Ident.start s.clock))
      ((s.startOp true .attach p src seq).attaching (attachOf (p.u 0 8) (p.u 8 4))) := by
  have hany : (maskChans (BitVec.ofNat 64 (p.u 0 8))).any (fun n => (s.jobOf n).isSome) = false := by
    refine List.any_eq_false.2 fun n hn => ?_
    obtain ⟨hn, hbit⟩ := mem_maskChans_ofNat.1 hn
    simp [hjobs n hn hbit]
  have hrange : (!channelsOk (p.u 0 8) || 1 < p.u 8 4) = false := by
    rw [hok, decide_eq_false (by omega)]
    rfl
  simp only [State.opHeadAttach, hany, hnone, hrange, Option.isSome_none, Bool.false_eq_true, if_false]
  rfl

theorem State.KettleTakes.attaches (h : s.KettleTakes 0x0200 c) (hok : channelsOk (le c.params 0 8) = true) (hauth : le c.params 8 4 ≤ 1)
    (hnone : s.attach = none) (hjobs : ∀ n, n < 48 → bit (le c.params 0 8) n = true → s.jobOf n = none) : ∃ t, exec (.headAttach c) s = .next t ∧
      t = { s with pe := t.pe, host := t.host, chans := t.chans, attach := t.attach } ∧ t.attach = some (attachOf (le c.params 0 8) (le c.params 8 4)) ∧
      t.pe.ops = s.pe.ops ++ [{ kind := .attach, pkt := packetOfCmd 0x0200 c, src := .ring, seq := s.pe.seq }] ∧
      ∀ n, n < 48 → t.chan n =
        (if bit (le c.params 0 8) n then Chan.sends s.clock (Ident.start s.clock) 0 0x3C [] (s.chan n) else s.chan n) := by
  obtain ⟨hsame, hops⟩ := h.starts true .attach
  have hop : s.taken.opHeadAttach (packetOfCmd 0x0200 c) .ring s.pe.seq = (maskChans (BitVec.ofNat 64 (le c.params 0 8))).foldl
      (fun s n => s.sendIdent n (Ident.start s.clock)) ((s.taken.startOp true .attach (packetOfCmd 0x0200 c) .ring s.pe.seq).attaching
        (attachOf (le c.params 0 8) (le c.params 8 4))) := State.opHeadAttach_eq (s := s.taken) (p := packetOfCmd 0x0200 c) hok hauth hnone hjobs .ring s.pe.seq
  generalize s.taken.startOp true .attach (packetOfCmd 0x0200 c) .ring s.pe.seq = u at *
  unfold State.SameButReplies at hsame
  have hclock : u.clock = s.clock := by rw [hsame]
  rw [State.foldl_sendIdent (clock := s.clock) _ (u.attaching _) hclock] at hop
  obtain ⟨hframe, hchan⟩ := State.foldl_modChan (Chan.sends s.clock (Ident.start s.clock) 0 0x3C []) _
    (nodup_maskChans (BitVec.ofNat 64 (le c.params 0 8))) (fun _ => lt_of_mem_maskChans) (u.attaching (attachOf (le c.params 0 8) (le c.params 8 4)))
  refine ⟨_, h.exec_headAttach.trans (congrArg _ hop), ?_, ?_, ?_, fun n hn => ?_⟩
  · generalize State.chans _ = v at hframe
    rw [hframe, hsame]
    rfl
  · exact congrArg State.attach hframe
  · exact (congrArg (fun x : State => x.pe.ops) hframe).trans hops
  · have hsamechan : (u.attaching (attachOf (le c.params 0 8) (le c.params 8 4))).chan n = s.chan n := by
      refine State.chan_of_chans ?_ n
      change u.chans = s.chans
      rw [hsame]
    refine (hchan n).trans ?_
    rw [hsamechan]
    simp only [mem_maskChans_ofNat, hn, true_and]

/-! ### Answers on HDn_ID -/

/-- The device is in RUN, and the answer awaited on a channel comes: no earlier than the device's frame has ended, its start mark within 400 µs. -/
structure State.Answers (s : State) (ch : Fin 48) (i : Ident) (f : Sys2Proof.IdFrame) : Prop where
  run : s.inRun = true
  ident : (s.chan ch.val).ident = some i
  begun : i.waitEnd ≤ s.clock + 400 * 400
  inTime : s.clock ≤ i.waitEnd + (20 + 80 * f.bytes.length) * 400

/-- The line of a channel released now (03 R103). -/
def State.lineFreed (s : State) (n : Nat) : State := s.modChan n (fun c => c.released s.clock)

theorem State.Answers.early (h : s.Answers ch i f) : (!s.inRun || decide (s.clock + 400 * tickUs < i.waitEnd)) = false := by
  have hbegun : ¬ s.clock + 400 * tickUs < i.waitEnd := Nat.not_lt.2 h.begun
  rw [h.run, decide_eq_false hbegun]
  rfl

theorem State.Answers.late (h : s.Answers ch i f) : ¬ i.waitEnd + idFrameTicks f.bytes < s.clock := Nat.not_lt.2 h.inTime

/-- A good answer to IDENT (03 R106). -/
theorem State.Answers.identifies (h : s.Answers ch i f) (hphase : i.phase = 0) (htaken : IdFrame.taken f = some (0, b)) (hlen : b.length = 8)
    (hshot : s.shot 16 = false) : exec (.idAnswer ch f) s = .next ((s.lineFreed ch.val).identified ch.val i (headIdOf b)) := by
  have hdetect := State.detect_eq (s.lineFreed ch.val) 16 false hshot
  change execIdAnswer ch f s = _
  unfold execIdAnswer
  dsimp only
  rw [h.ident]
  dsimp only
  rw [h.early, if_neg Bool.false_ne_true, if_neg h.late, if_pos hphase, htaken]
  dsimp only
  change (if ((s.lineFreed ch.val).detect 16 (!decide (b.length = 8))).1 = true then _ else
    Host.Outcome.next (((s.lineFreed ch.val).detect 16 (!decide (b.length = 8))).2.identified ch.val i (headIdOf b))) = _
  rw [decide_eq_true hlen, Bool.not_true, hdetect]
  rfl

/-- An answer to IDENT that cannot be taken (03 R106). -/
theorem State.Answers.fails (h : s.Answers ch i f) (hphase : i.phase = 0) (htaken : IdFrame.taken f = none) (hshot : s.shot 16 = false) :
    exec (.idAnswer ch f) s = .next (((s.lineFreed ch.val).count 16).identMissed ch.val { i with failed := i.failed + 1 } 100) := by
  have hdetect := State.detect_eq (s.lineFreed ch.val) 16 true hshot
  change execIdAnswer ch f s = _
  unfold execIdAnswer
  dsimp only
  rw [h.ident]
  dsimp only
  rw [h.early, if_neg Bool.false_ne_true, if_neg h.late, if_pos hphase, htaken]
  dsimp only
  change (if ((s.lineFreed ch.val).detect 16 true).1 then Host.Outcome.next ((((s.lineFreed ch.val).detect 16 true).2.count 16).identMissed _ _ _) else _) = _
  rw [hdetect]
  rfl

/-- An answer to the CHALLENGE (03 R107). -/
theorem State.Answers.challenged (h : s.Answers ch i f) (hphase : i.phase = 2) (htaken : IdFrame.taken f = some (0, [])) :
    exec (.idAnswer ch f) s = .next (s.modChan ch.val (fun d => { d with
      idFree := s.clock + 100 * 400, ident := some { i with phase := 4, since := s.clock, readyAt := s.clock + 100 * 400 } })) := by
  change execIdAnswer ch f s = _
  unfold execIdAnswer
  dsimp only
  rw [h.ident]
  dsimp only
  rw [h.early, if_neg Bool.false_ne_true, if_neg h.late, if_neg (by omega), if_pos hphase, htaken]
  exact congrArg _ (State.modChan_modChan ch.isLt _ _ _)

/-- An answer to RESPONSE in time (03 R107). -/
theorem State.Answers.responds (h : s.Answers ch i f) (hphase : i.phase = 3) (htaken : IdFrame.taken f = some (0, b)) (hlen : b.length = 16)
    {k : Bytes} (hkey : s.mem.caddy = some k) (htime : s.clock < i.since + 50000 * 400) :
    exec (.idAnswer ch f) s = .next ((s.lineFreed ch.val).isPresent ch.val i.id (b ≠ expectedResponse k i)) := by
  have hlate : (s.lineFreed ch.val).authLate i = false := by
    refine decide_eq_false ?_
    change ¬ i.since + 20000000 ≤ s.clock
    omega
  change execIdAnswer ch f s = _
  unfold execIdAnswer
  dsimp only
  rw [h.ident]
  dsimp only
  rw [h.early, if_neg Bool.false_ne_true, if_neg h.late, if_neg (by omega), if_neg (by omega), if_pos hphase, htaken]
  change (if (s.lineFreed ch.val).authLate i = true then _ else _) = _
  rw [hlate, if_neg Bool.false_ne_true]
  change (if b.length = 16 then _ else _) = _
  rw [if_pos hlen]
  change Host.Outcome.next ((s.lineFreed ch.val).isPresent ch.val i.id (match s.mem.caddy with | some k => b ≠ expectedResponse k i | none => true)) = _
  rw [hkey]

end Sys2Proof.Machine
end

section
/-! SUPPORT. The identifications' ends, retries and polls, and O32 (03 R103-R107). -/
namespace Sys2Proof.Machine
variable {s t : State} {i : Ident} {f : Sys2Proof.IdFrame} {b : Bytes} {ch : Fin 48}

/-- An answer whose start mark comes more than 400 µs after the device's frame is a missing one. -/
theorem exec_idAnswer_late (hrun : s.inRun = true) (hident : (s.chan ch.val).ident = some i)
    (hlate : i.waitEnd + (20 + 80 * f.bytes.length) * 400 < s.clock) : exec (.idAnswer ch f) s = exec (.idAnswerMissing ch) s := by
  have hbegun : ¬ s.clock + 400 * tickUs < i.waitEnd := by omega
  change execIdAnswer ch f s = execIdAnswerMissing ch s
  unfold execIdAnswer
  dsimp only
  rw [hident]
  dsimp only
  rw [hrun, decide_eq_false hbegun, Bool.not_true, Bool.false_or, if_neg Bool.false_ne_true]
  exact if_pos hlate

/-- An answer that has begun before the device's frame ended is none. -/
theorem exec_idAnswer_early (hident : (s.chan ch.val).ident = some i) (hearly : s.clock + 400 * 400 < i.waitEnd) :
    exec (.idAnswer ch f) s = .next s := by
  have hbegun : s.clock + 400 * tickUs < i.waitEnd := hearly
  change execIdAnswer ch f s = _
  unfold execIdAnswer
  dsimp only
  rw [hident]
  dsimp only
  rw [decide_eq_true hbegun, Bool.or_true, if_pos rfl]

theorem exec_idAnswerMissing_early (hident : (s.chan ch.val).ident = some i) (hearly : s.clock < i.waitEnd) :
    exec (.idAnswerMissing ch) s = .next s := by
  change execIdAnswerMissing ch s = _
  unfold execIdAnswerMissing
  dsimp only
  rw [hident]
  dsimp only
  rw [decide_eq_true hearly, Bool.or_true, if_pos rfl]

/-- No answer to IDENT (03 R106). -/
theorem exec_idAnswerMissing_ident (hrun : s.inRun = true) (hident : (s.chan ch.val).ident = some i) (hover : i.waitEnd ≤ s.clock) (hphase : i.phase = 0) :
    exec (.idAnswerMissing ch) s = .next (s.identMissed ch.val { i with missing := i.missing + 1 } 1000) := by
  have hwait : ¬ s.clock < i.waitEnd := Nat.not_lt.2 hover
  change execIdAnswerMissing ch s = _
  unfold execIdAnswerMissing
  dsimp only
  rw [hident]
  dsimp only
  rw [hrun, decide_eq_false hwait, Bool.not_true, Bool.or_self, if_neg Bool.false_ne_true, if_pos hphase]

/-- A failed or missing IDENT is sent again after its guard time (03 R106). -/
theorem State.identMissed_again (hmissing : i.missing ≤ 1) (hboth : i.missing + i.failed ≤ 2) (s : State) (n us : Nat) :
    s.identMissed n i us = s.modChan n (fun c => { c with ident := some { i with phase := 1, readyAt := s.clock + us * 400 } }) := by
  have hfew : (decide (2 ≤ i.missing) || decide (3 ≤ i.missing + i.failed)) = false := by
    rw [decide_eq_false (by omega), decide_eq_false (by omega)]
    rfl
  unfold State.identMissed
  rw [hfew, if_neg Bool.false_ne_true]
  rfl

/-- A second missing IDENT, or a third failed or missing one, leaves the channel not present (03 R106). -/
theorem State.identMissed_notPresent (h : 2 ≤ i.missing ∨ 3 ≤ i.missing + i.failed) (s : State) (n us : Nat) :
    s.identMissed n i us = s.notPresent n := by
  unfold State.identMissed
  exact if_pos (by simpa using h)

theorem exec_identRetry_eq (hrun : s.inRun = true) (hident : (s.chan ch.val).ident = some i) (hphase : i.phase = 1) : exec (.identRetry ch) s =
    .next (if i.readyAt ≤ s.clock then s.modChan ch.val (Chan.sends s.clock i 0 0x3C []) else s) := by
  change execIdentRetry ch s = _
  unfold execIdentRetry
  rw [hident]
  dsimp only
  rw [hrun, decide_eq_true hphase, State.sendIdent_eq]
  by_cases hready : i.readyAt ≤ s.clock <;> simp [hready]

theorem exec_responsePoll_eq (hrun : s.inRun = true) (hident : (s.chan ch.val).ident = some i) (hphase : i.phase = 4) : exec (.responsePoll ch) s =
    .next (if i.readyAt ≤ s.clock then s.modChan ch.val (Chan.sends s.clock i 3 0x6C []) else s) := by
  change execResponsePoll ch s = _
  unfold execResponsePoll
  rw [hident]
  dsimp only
  rw [hrun, decide_eq_true hphase, State.sendResponse, State.sendId_eq]
  by_cases hready : i.readyAt ≤ s.clock <;> simp [hready]

theorem exec_authTimeout_eq (hrun : s.inRun = true) (hident : (s.chan ch.val).ident = some i) (hphase : i.phase = 3 ∨ i.phase = 4) : exec (.authTimeout ch) s =
    .next (if i.since + 50000 * 400 ≤ s.clock then s.isPresent ch.val i.id true else s) := by
  have hlate : s.authLate i = decide (i.since + 50000 * 400 ≤ s.clock) := rfl
  have hpolls : (decide (i.phase = 3) || decide (i.phase = 4)) = true := by simpa using hphase
  change execAuthTimeout ch s = _
  unfold execAuthTimeout
  rw [hident]
  dsimp only
  rw [hrun, hpolls, hlate]
  by_cases hready : i.since + 50000 * 400 ≤ s.clock <;> simp [hready]

/-! ### What an answer leads to -/

/-- A change of a channel whose line was released now. -/
theorem State.oneChan_of_freed {n : Nat} (h : (s.lineFreed n).OneChan t n) : s.OneChan t n where
  chans m hm hne := (h.chans m hm hne).trans (State.chan_modChan_ne s n m _ (Ne.symm hne))
  jobs := h.jobs.trans rfl
  axes := h.axes.trans rfl
  ilk := h.ilk.trans rfl

/-- A head identified without authentication is attached (03 R106). -/
theorem State.identified_present {n : Nat} {id : HeadId} (hauth : s.attach.any (fun r => r.auth) = false) :
    s.identified n i id = s.isPresent n id false := by
  unfold State.identified
  rw [hauth, if_neg Bool.false_ne_true]

/-- A head identified with authentication, and a key: the CHALLENGE is sent (03 R107). -/
theorem State.identified_challenge {n : Nat} {id : HeadId} (hauth : s.attach.any (fun r => r.auth) = true) (hkey : s.mem.caddy.isSome = true) :
    s.identified n i id = s.draw.2.sendChallenge n { i with id := id, challenge := toLe 16 s.draw.1 } := by
  obtain ⟨k, hk⟩ := Option.isSome_iff_exists.1 hkey
  unfold State.identified
  rw [hauth, if_pos rfl, hk]

/-- The CHALLENGE goes 100 µs after the answer (03 R103, R107). -/
theorem State.sends_challenge {n : Nat} (hn : n < 48) (s : State) (i : Ident) (hlen : i.challenge.length = 16) :
    let t := (s.lineFreed n).draw.2.sendChallenge n i
    (t.chan n).ident = some { i with phase := 2, sentAt := s.clock + 100 * 400, waitEnd := s.clock + 100 * 400 + (20 + 80 * 20) * 400 + 400 * 400 } ∧
      (t.chan n).idOut = idFrameOf 0x5C i.challenge ∧ (t.chan n).attached = (s.chan n).attached ∧ s.OneChan t n := by
  have hsend : (s.lineFreed n).draw.2.sendChallenge n i = (s.lineFreed n).draw.2.modChan n (Chan.sends s.clock i 2 0x5C i.challenge) :=
    State.sendId_eq n i 2 0x5C i.challenge
  have hchan : ((s.lineFreed n).draw.2.modChan n (Chan.sends s.clock i 2 0x5C i.challenge)).chan n =
      Chan.sends s.clock i 2 0x5C i.challenge ((s.chan n).released s.clock) :=
    (State.chan_modChan _ n _ hn).trans (congrArg _ (show (s.lineFreed n).draw.2.chan n = _ from State.chan_modChan s n (fun c => c.released s.clock) hn))
  have hstart : max s.clock (s.clock + 100 * 400) = s.clock + 100 * 400 := Nat.max_eq_right (Nat.le_add_right _ _)
  dsimp only
  rw [hsend, hchan]
  refine ⟨?_, rfl, rfl, State.oneChan_of_freed (n := n) ⟨fun m _ hm => State.chan_modChan_ne _ n m _ (Ne.symm hm), rfl, rfl, rfl⟩⟩
  change some { i with phase := 2, sentAt := max s.clock (s.clock + 100 * 400), waitEnd := max s.clock (s.clock + 100 * 400) + (20 + 80 * (4 + i.challenge.length)) * 400 + 400 * 400 } = _
  rw [hstart, hlen]

/-! ### The phases -/

theorem State.Answers.identified_attached (h : s.Answers ch i f) (hphase : i.phase = 0) (htaken : IdFrame.taken f = some (0, b)) (hlen : b.length = 8)
    (hshot : s.shot 16 = false) (hauth : s.attach.any (fun r => r.auth) = false) : ∃ t, exec (.idAnswer ch f) s = .next t ∧
      (t.chan ch.val).attached = true ∧ (t.chan ch.val).ident = none ∧ (t.chan ch.val).headId = headIdOf b ∧ (t.chan ch.val).authFail = false ∧
      (t.headSensor ch.val).suspect = false ∧ s.OneChan t ch.val := by
  obtain ⟨hchan, hsensor, hone⟩ := (s.lineFreed ch.val).isPresent_eq ch.isLt (headIdOf b) false
  refine ⟨_, (h.identifies hphase htaken hlen hshot).trans (congrArg _ (State.identified_present hauth)), ?_, ?_, ?_, ?_, hsensor,
    State.oneChan_of_freed hone⟩ <;> rw [hchan] <;> rfl

theorem State.Answers.identified_challenged (h : s.Answers ch i f) (hphase : i.phase = 0) (htaken : IdFrame.taken f = some (0, b)) (hlen : b.length = 8)
    (hshot : s.shot 16 = false) (hauth : s.attach.any (fun r => r.auth) = true) (hkey : s.mem.caddy.isSome = true) :
    ∃ t i', exec (.idAnswer ch f) s = .next t ∧ (t.chan ch.val).ident = some i' ∧ i'.phase = 2 ∧ i'.id = headIdOf b ∧ i'.challenge.length = 16 ∧
      (t.chan ch.val).idOut = idFrameOf 0x5C i'.challenge ∧ i'.sentAt = s.clock + 100 * 400 ∧
      i'.waitEnd = s.clock + 100 * 400 + (20 + 80 * 20) * 400 + 400 * 400 ∧ (t.chan ch.val).attached = (s.chan ch.val).attached ∧ s.OneChan t ch.val := by
  obtain ⟨hident, hout, hattached, hone⟩ := State.sends_challenge ch.isLt s
    { i with id := headIdOf b, challenge := toLe 16 (s.lineFreed ch.val).draw.1 } (length_toLe _ _)
  exact ⟨_, _, (h.identifies hphase htaken hlen hshot).trans (congrArg _ (State.identified_challenge hauth hkey)), hident, rfl, rfl, length_toLe _ _,
    hout, rfl, rfl, hattached, hone⟩

theorem State.Answers.fails_again (h : s.Answers ch i f) (hphase : i.phase = 0) (htaken : IdFrame.taken f = none) (hshot : s.shot 16 = false)
    (hmissing : i.missing ≤ 1) (hboth : i.missing + i.failed ≤ 1) : exec (.idAnswer ch f) s = .next ((s.count 16).modChan ch.val (fun d => { d with
      idFree := s.clock + 100 * 400, ident := some { i with phase := 1, failed := i.failed + 1, readyAt := s.clock + 100 * 400 } })) := by
  have hagain := State.identMissed_again (i := { i with failed := i.failed + 1 }) hmissing (show i.missing + (i.failed + 1) ≤ 2 by omega)
    ((s.lineFreed ch.val).count 16) ch.val 100
  rw [h.fails hphase htaken hshot, hagain]
  exact congrArg _ (State.modChan_modChan ch.isLt (s.count 16) (fun c => c.released s.clock)
    (fun c => { c with ident := some { i with phase := 1, failed := i.failed + 1, readyAt := s.clock + 100 * 400 } }))

theorem State.Answers.fails_notPresent (h : s.Answers ch i f) (hphase : i.phase = 0) (htaken : IdFrame.taken f = none) (hshot : s.shot 16 = false)
    (hboth : 2 ≤ i.missing + i.failed) : ∃ t, exec (.idAnswer ch f) s = .next t ∧ (t.chan ch.val).attached = false ∧
      (t.chan ch.val).configured = false ∧ (t.chan ch.val).ident = none ∧ t.counter 16 = (s.count 16).counter 16 ∧ s.OneChan t ch.val := by
  have hnone := State.identMissed_notPresent (i := { i with failed := i.failed + 1 }) (.inr (show 3 ≤ i.missing + (i.failed + 1) by omega))
    ((s.lineFreed ch.val).count 16) ch.val 100
  obtain ⟨hchan, hone⟩ := State.notPresent_eq ch.isLt ((s.lineFreed ch.val).count 16)
  refine ⟨_, (h.fails hphase htaken hshot).trans (congrArg _ hnone), ?_, ?_, ?_, (State.finishAttach_counter (by decide) _).trans rfl, ?_⟩
  · rw [hchan]; rfl
  · rw [hchan]; rfl
  · rw [hchan]; rfl
  · exact State.oneChan_of_freed ⟨hone.chans, hone.jobs, hone.axes, hone.ilk⟩

/-! ### O32 -/

/-- Settles O32: each phase's command is one lemma, and what ends an identification changes one channel only. -/
theorem headIdentification : Obligations.HeadIdentification := by
  unfold Obligations.HeadIdentification
  intro s ch us sent others
  refine ⟨fun c h hok hauth hnone hjobs => h.attaches hok hauth hnone hjobs, fun i hrun hident => ?_⟩
  have answers {f : IdFrame} (h : i.waitEnd ≤ s.clock + 400 * us ∧ s.clock ≤ i.waitEnd + (20 + 80 * f.bytes.length) * us) : s.Answers ch i f :=
    ⟨hrun, hident, h.1, h.2⟩
  have rest {t : State} (h : s.OneChan t ch.val) : others t := ⟨h.chans, h.jobs, h.axes, h.ilk⟩
  refine ⟨fun f => exec_idAnswer_early hident, fun f => exec_idAnswer_late hrun hident, fun f b hcomes hphase htaken hlen hshot => ⟨fun hauth => ?_, fun hauth hkey => ?_⟩,
    fun f hcomes hphase htaken hshot => ⟨fun hmissing hboth => ?_, fun hboth => ?_⟩, fun f hcomes hphase htaken => (answers hcomes).challenged hphase htaken,
    fun f k b hcomes hphase htaken hlen hkey htime => ?_, fun hearly => exec_idAnswerMissing_early hident hearly, fun hover => ⟨fun hphase hmissing hfailed => ?_,
    fun hphase hmissing => ?_⟩, fun hphase => ⟨fun hready => ?_, fun hready => ?_⟩, fun hphase => ⟨fun hready => ?_, fun hready => ?_⟩,
    fun hphase => ⟨fun hlate => ?_, fun hlate => ?_⟩⟩
  · obtain ⟨t, ht, hattached, hident', hid, hfail, hsensor, hone⟩ := (answers hcomes).identified_attached hphase htaken hlen hshot hauth
    exact ⟨t, ht, hattached, hident', hid, hfail, hsensor, rest hone⟩
  · obtain ⟨t, i', ht, hident', hphase', hid, hlen', hout, hsent, hwait, hattached, hone⟩ :=
      (answers hcomes).identified_challenged hphase htaken hlen hshot hauth hkey
    exact ⟨t, i', ht, hident', hphase', hid, hlen', hout, hsent, hwait, hattached, rest hone⟩
  · exact (answers hcomes).fails_again hphase htaken hshot hmissing hboth
  · obtain ⟨t, ht, hattached, hconfigured, hident', hcount, hone⟩ := (answers hcomes).fails_notPresent hphase htaken hshot hboth
    exact ⟨t, ht, hattached, hconfigured, hident', hcount, rest hone⟩
  · obtain ⟨hchan, -, hone⟩ := (s.lineFreed ch.val).isPresent_eq ch.isLt i.id (b ≠ expectedResponse k i)
    refine ⟨_, (answers hcomes).responds hphase htaken hlen hkey htime, ?_, ?_, rest (State.oneChan_of_freed hone), ?_⟩ <;> rw [hchan] <;> rfl
  · have hagain := State.identMissed_again (i := { i with missing := i.missing + 1 }) (show i.missing + 1 ≤ 1 by omega)
      (show i.missing + 1 + i.failed ≤ 2 by omega) s ch.val 1000
    rw [exec_idAnswerMissing_ident hrun hident hover hphase, hagain, hmissing]
  · have hnone := State.identMissed_notPresent (i := { i with missing := i.missing + 1 }) (.inl (show 2 ≤ i.missing + 1 by omega)) s ch.val 1000
    obtain ⟨hchan, hone⟩ := State.notPresent_eq ch.isLt s
    refine ⟨_, (exec_idAnswerMissing_ident hrun hident hover hphase).trans (congrArg _ hnone), ?_, ?_, ?_, rest hone⟩ <;> rw [hchan] <;> rfl
  · exact (exec_identRetry_eq hrun hident hphase).trans (congrArg _ (if_pos hready))
  · exact (exec_identRetry_eq hrun hident hphase).trans (congrArg _ (if_neg (Nat.not_le.2 hready)))
  · exact (exec_responsePoll_eq hrun hident hphase).trans (congrArg _ (if_pos hready))
  · exact (exec_responsePoll_eq hrun hident hphase).trans (congrArg _ (if_neg (Nat.not_le.2 hready)))
  · obtain ⟨hchan, -, hone⟩ := State.isPresent_eq ch.isLt s i.id true
    refine ⟨_, (exec_authTimeout_eq hrun hident hphase).trans (congrArg _ (if_pos hlate)), ?_, ?_, ?_, rest hone⟩ <;> rw [hchan] <;> rfl
  · exact (exec_authTimeout_eq hrun hident hphase).trans (congrArg _ (if_neg (Nat.not_le.2 hlate)))

end Sys2Proof.Machine
end

section
/-! SUPPORT. Replies leave the memory alone and do not read it (02 R58); the operands of JOB_START, which tell how its reads go (log entry 22). -/
namespace Sys2Proof.Machine
variable {s t : State} {c : Cmd}

/-- The state with another memory. -/
def State.withMem (s : State) (m : Memory) : State := { s with mem := m }

/-- A reply for the own ring leaves Kettle where the hold buffer has room. -/
theorem State.kettleWrites_own {k : Reply} {ks : List Reply} (hwait : s.pe.kettleWait = k :: ks) (hk : k.relayTo = none) : s.kettleWrites =
    if s.pe.stalled = true ∨ s.pe.rebooting = true ∨ 32 ≤ s.pe.hold.length then none
    else some { s with pe := { s.pe with hold := s.pe.hold ++ [k], kettleWait := ks } } := by
  simp only [State.kettleWrites, hwait, hk, Bool.or_eq_true]
  grind

theorem State.kettleWrites_withMem (own : ∀ r, r ∈ s.pe.kettleWait → r.relayTo = none) (m : Memory) :
    (s.withMem m).kettleWrites = s.kettleWrites.map (fun t => t.withMem m) := by
  cases hwait : s.pe.kettleWait with
  | nil => simp [State.kettleWrites, State.withMem, hwait]
  | cons k ks =>
    have hk : k.relayTo = none := own k (hwait ▸ List.mem_cons_self)
    rw [State.kettleWrites_own hwait hk]
    refine (State.kettleWrites_own (s := s.withMem m) hwait hk).trans ?_
    rw [show (s.withMem m).pe = s.pe from rfl]
    split <;> rfl

theorem State.writeReply_withMem (s : State) (b : Bytes) (m : Memory) : (s.withMem m).writeReply b = (s.writeReply b).withMem m := by
  have hslots (r : Ring) (n : Nat) (s : State) (i : Nat) (b : Bytes) : (s.withMem m).writeSlots r n i b = (s.writeSlots r n i b).withMem m := by
    induction n generalizing s i b with
    | zero => rfl
    | succ n ih => exact ih (s.hostWrite _ _) _ _
  have hraise (s : State) : (s.withMem m).raiseVector 0 = (s.raiseVector 0).withMem m := by
    unfold State.raiseVector
    rw [show (s.withMem m).vectorOpen 0 = s.vectorOpen 0 from rfl]
    split <;> rfl
  exact (congrArg (fun t : State => State.raiseVector { t with pe := { t.pe with rpl := { s.pe.rpl with tail := (s.pe.rpl.tail + b.length / 64) % s.pe.rpl.slots } } } 0)
    (hslots s.pe.rpl (b.length / 64) s s.pe.rpl.tail b)).trans (hraise { s.writeSlots s.pe.rpl (b.length / 64) s.pe.rpl.tail b with pe := { (s.writeSlots s.pe.rpl (b.length / 64) s.pe.rpl.tail b).pe with
      rpl := { s.pe.rpl with tail := (s.pe.rpl.tail + b.length / 64) % s.pe.rpl.slots } } })

/-- The state with other replies in the hold buffer. -/
def State.heldReplies (s : State) (rs : List Reply) : State := { s with pe := { s.pe with hold := rs } }

/-- The oldest held reply written first. -/
theorem State.drainReplies_held {r : Reply} {rest : List Reply} (hhold : s.pe.hold = r :: rest) (n : Nat) : State.drainReplies (n + 1) s =
    if s.replyFits ((s.replyBytes r).length / 64) then State.drainReplies n ((s.heldReplies rest).writeReply (s.replyBytes r))
    else s.kettleWrites.elim s (State.drainReplies n) := by
  rw [State.drainReplies, hhold]
  cases s.kettleWrites <;> rfl

theorem State.drainReplies_none (hhold : s.pe.hold = []) (n : Nat) : State.drainReplies (n + 1) s = s.kettleWrites.elim s (State.drainReplies n) := by
  rw [State.drainReplies, hhold]
  cases s.kettleWrites <;> rfl

theorem State.drainReplies_withMem (n : Nat) (s : State) (own : ∀ r, r ∈ s.pe.kettleWait → r.relayTo = none) (m : Memory) :
    State.drainReplies n (s.withMem m) = (State.drainReplies n s).withMem m := by
  induction n generalizing s with
  | zero => rfl
  | succ n ih =>
    have hnext : (s.withMem m).kettleWrites.elim (s.withMem m) (State.drainReplies n) = (s.kettleWrites.elim s (State.drainReplies n)).withMem m := by
      rw [State.kettleWrites_withMem own]
      cases ht : s.kettleWrites with
      | none => rfl
      | some t =>
        obtain ⟨-, hown⟩ := State.kettleWrites_same ht own
        exact ih t hown
    cases hhold : s.pe.hold with
    | nil => exact (State.drainReplies_none (s := s.withMem m) hhold n).trans (hnext.trans (congrArg (fun t : State => t.withMem m) (State.drainReplies_none hhold n).symm))
    | cons r rest =>
      have hwritten : State.drainReplies n (((s.withMem m).heldReplies rest).writeReply (s.replyBytes r)) =
          (State.drainReplies n ((s.heldReplies rest).writeReply (s.replyBytes r))).withMem m :=
        (congrArg _ ((s.heldReplies rest).writeReply_withMem _ m)).trans (ih _ (by rw [State.writeReply_wait]; exact own))
      have hheld := State.drainReplies_held (s := s.withMem m) hhold n
      rw [hnext, show (s.withMem m).replyBytes = s.replyBytes from rfl, show (s.withMem m).replyFits = s.replyFits from rfl, hwritten] at hheld
      rw [State.drainReplies_held hhold, hheld]
      exact (apply_ite (fun t : State => t.withMem m) _ _ _).symm

/-- A reply of Kettle's to the ring, in a state with another memory. -/
theorem State.reply_withMem (own : ∀ r, r ∈ s.pe.kettleWait → r.relayTo = none) (p : Packet) (st : BitVec 16) (b : Bytes) (m : Memory) :
    (s.withMem m).reply true p .ring st b = (s.reply true p .ring st b).withMem m := by
  have hdrain (r : Reply) (hr : r.relayTo = none) : (s.withMem m).kettleReply r = (s.kettleReply r).withMem m :=
    State.drainReplies_withMem _ { s with pe := { s.pe with kettleWait := s.pe.kettleWait ++ [r] } } (fun x hx => (List.mem_append.1 hx).elim (own x) fun h =>
      List.mem_singleton.1 h ▸ hr) m
  unfold State.reply
  dsimp only
  split
  · exact hdrain _ rfl
  · rfl

/-! ### JOB_START's operands -/

/-- The state with other outcomes of JOB_START's reads. -/
def State.withReads (s : State) (r : Option StartReads) : State := s.withMem { s.mem with startReads := r }

theorem State.KettleTakes.withReads {op : BitVec 16} (h : s.KettleTakes op c) (r : Option StartReads) : (s.withReads r).KettleTakes op c := h

theorem State.KettleTakes.exec_jobStart (h : s.KettleTakes 0x0302 c) (bad : Fin 3) (corrected : Nat) : exec (.jobStart ⟨c, bad, corrected⟩) s =
    .next (((s.withReads (some ⟨bad.val, corrected⟩)).taken.opJobStart (packetOfCmd 0x0302 c) .ring s.pe.seq).withReads none) := by
  have hrow : (s.withReads (some ⟨bad.val, corrected⟩)).packetRow 0x0302 c =
      (s.withReads (some ⟨bad.val, corrected⟩)).taken.runKettle (packetOfCmd 0x0302 c) .ring s.pe.seq :=
    State.packetRow_kettle _ 0x0302 c (by decide) (by simp [Packet.hardware, packetOfCmd]) (h.withReads _)
  obtain ⟨-, -, -, hlife, -⟩ := h
  refine congrArg (fun t : State => Host.Outcome.next (t.withReads none)) (hrow.trans ?_)
  exact State.runKettle_jobStart (s := (s.withReads (some ⟨bad.val, corrected⟩)).taken) (p := packetOfCmd 0x0302 c) hlife s.pe.seq rfl

theorem State.KettleTakes.jobStart_tripped (h : s.KettleTakes 0x0302 c) (htrip : s.tripped = true) (bad : Fin 3) (corrected : Nat) :
    exec (.jobStart ⟨c, bad, corrected⟩) s =
      .next { s.taken.reply true (packetOfCmd 0x0302 c) .ring stREFUSED_INTERLOCK [] with mem := { s.mem with startReads := none } } := by
  have own : ∀ r, r ∈ s.taken.pe.kettleWait → r.relayTo = none := fun r hr =>
    absurd (show r ∈ s.pe.kettleWait from hr) (by simp [h.noneWaits])
  have hreply : ((s.withReads (some ⟨bad.val, corrected⟩)).taken).reply true (packetOfCmd 0x0302 c) .ring stREFUSED_INTERLOCK [] =
      (s.taken.reply true (packetOfCmd 0x0302 c) .ring stREFUSED_INTERLOCK []).withMem { s.mem with startReads := some ⟨bad.val, corrected⟩ } :=
    State.reply_withMem own _ _ _ _
  rw [h.exec_jobStart, State.opJobStart_tripped (s := (s.withReads (some ⟨bad.val, corrected⟩)).taken) _ htrip, hreply]
  rfl

end Sys2Proof.Machine
end

section
/-! SUPPORT. JOB_START: what it sets, and what it leaves alone (05 R190, 10 R333). -/
namespace Sys2Proof.Machine
variable {s t u : State} {c : Cmd} {slot : Nat} {j : Job}

/-- Nothing of two states differs but the jobs and the memory. -/
def State.SameButJobs (s t : State) : Prop := t = { s with jobs := t.jobs, mem := t.mem }

theorem State.SameButJobs.refl (s : State) : s.SameButJobs s := rfl

theorem State.SameButJobs.trans (h : s.SameButJobs t) (g : t.SameButJobs u) : s.SameButJobs u := by
  unfold State.SameButJobs at *
  rw [h] at g
  exact g

theorem State.writeHeader_sameButJobs (s : State) (slot : Nat) : s.SameButJobs (s.writeHeader slot) := by
  have h := State.writeHeader_mem (s := s) slot
  unfold State.SameButJobs
  generalize s.writeHeader slot = t at *
  rw [h]

/-- A job that becomes active: its state and its header. -/
theorem State.setJobState_active {st : JobState} (hjob : s.jobAt slot = some j) (hactive : Job.active { j with state := st } = true) :
    s.setJobState slot st = (s.modJob slot (fun x => { x with state := st })).writeHeader slot := by
  have hx : ((s.modJob slot (fun x => { x with state := st })).writeHeader slot).jobAt slot = some { j with state := st } := by
    rw [State.jobAt_of_lineParts (State.writeHeader_lineParts _ slot), State.jobAt_modJob_self, hjob]
    rfl
  unfold State.setJobState
  extract_lets u
  rw [show u.jobAt slot = _ from hx]
  exact if_pos hactive

theorem State.setJobState_sameButJobs {st : JobState} (hjob : s.jobAt slot = some j) (hactive : Job.active { j with state := st } = true) :
    s.SameButJobs (s.setJobState slot st) := by
  rw [State.setJobState_active hjob hactive]
  exact State.SameButJobs.trans (t := s.modJob slot _) rfl (State.writeHeader_sameButJobs _ slot)

/-! ### JOB_START -/

/-- A job started, with the table that JOB_START reads (05 R190). -/
def Job.started (s : State) (t : CompTable) (start : Int) (wait : Bool) (j : Job) : Job :=
  { j.takeBar with
    table := t, masks := s.readMasks j t, start := start, waitCosy := wait, rereg := false, trigLine := 0, pass := 0, passWait := false
    substAtStart := (List.range 48).map (fun n => if j.channels.getLsbD n then (s.chan n).served.length else 0) }

theorem Job.started_layers (s : State) (t : CompTable) (start : Int) (wait : Bool) (j : Job) : (Job.started s t start wait j).layers = j.layers := by
  unfold Job.started Job.takeBar
  split <;> rfl

/-- JOB_START that finds nothing to refuse. -/
structure State.Starts (s : State) (p : Packet) (slot : Nat) (j : Job) (r : StartReads) : Prop where
  safe : s.tripped = false
  slotOf : s.jobSlot (BitVec.ofNat 16 (p.u 0 2)) = some slot
  job : s.jobAt slot = some j
  warm : s.tempBan j false (p.u 2 2 % 2 = 1) = false
  alone : s.link.conflict = false
  opened : j.state = .opened
  fires : s.badFire j false = false
  pairs : s.pairsOk j (tableOf (s.storeRead j.record 512)) = true
  free : s.surveyHolds j = false
  wait : p.u 2 2 ≤ 1
  table : s.tableOk j (s.storeRead j.record 512) = true
  reads : s.mem.startReads = some r
  read : r.failed ≤ 1

/-- The state in which a started job is written down, what its reads met counted (10 R333). -/
def State.starting (s : State) (p : Packet) (src : Source) (seq : Nat) (slot : Nat) (j : Job) (r : StartReads) : State :=
  let u := (((s.countN 84 r.corrected).countN 85 r.failed).startOp false (.jobStart j.id) p src seq)
  j.chans.foldl (fun s n => s.bankWrote (n / 4) 0)
    (u.modJob slot (Job.started u (tableOf (s.storeRead j.record 512)) (p.i 4 8) (decide (p.u 2 2 % 2 = 1))))

theorem State.Starts.opJobStart_eq {p : Packet} {r : StartReads} (h : s.Starts p slot j r) (src : Source) (seq : Nat) :
    s.opJobStart p src seq = (s.starting p src seq slot j r).setJobState slot .arming := by
  have hstart : s.startErrors = (r, s) := by
    unfold State.startErrors
    rw [h.reads]
  have hstate : ¬ (decide (j.state ≠ .opened) || s.badFire j false) = true := by simp [h.opened, h.fires]
  have hpairs : ¬ (decide (r.failed < 2) && !((s.countN 84 r.corrected).countN 85 r.failed).pairsOk j (tableOf (s.storeRead j.record 512))) = true := by
    rw [show ((s.countN 84 r.corrected).countN 85 r.failed).pairsOk j (tableOf (s.storeRead j.record 512)) = true from h.pairs]
    simp
  have hfree : ¬ ((s.countN 84 r.corrected).countN 85 r.failed).surveyHolds j = true := by
    rw [show ((s.countN 84 r.corrected).countN 85 r.failed).surveyHolds j = false from h.free]
    exact Bool.false_ne_true
  have hparam : ¬ (decide (1 < p.u 2 2) || decide (2 ≤ r.failed) || !((s.countN 84 r.corrected).countN 85 r.failed).tableOk j (s.storeRead j.record 512)) = true := by
    have hwait := h.wait
    have hread := h.read
    rw [show ((s.countN 84 r.corrected).countN 85 r.failed).tableOk j (s.storeRead j.record 512) = true from h.table]
    simp
    omega
  unfold State.opJobStart
  dsimp only
  rw [if_neg (by simp [h.safe]), h.slotOf]
  dsimp only
  rw [h.job]
  dsimp only
  rw [if_neg (by simp [h.warm]), if_neg (by simp [h.alone]), if_neg hstate, hstart]
  dsimp only
  rw [if_neg hpairs, if_neg hfree, if_neg hparam]
  rfl

/-- The state in which a started job is written down differs in the operation owed, the counts and the job. -/
theorem State.starting_eq (hjob : s.jobAt slot = some j) (p : Packet) (src : Source) (seq : Nat) (r : StartReads) :
    (((s.countN 84 r.corrected).countN 85 r.failed).startOp false (.jobStart j.id) p src seq).SameButJobs (s.starting p src seq slot j r) ∧
      (∃ x : Job, (s.starting p src seq slot j r).jobAt slot = some x ∧ x.start = p.i 4 8 ∧ x.table = tableOf (s.storeRead j.record 512) ∧
        x.waitCosy = decide (p.u 2 2 % 2 = 1) ∧ x.layers = j.layers) ∧
      ∀ k, k ≠ slot → (s.starting p src seq slot j r).jobAt k = s.jobAt k := by
  have hbanks (l : List Nat) (v : State) : (l.foldl (fun s n => s.bankWrote (n / 4) 0) v).jobs = v.jobs :=
    foldl_keeps (f := fun s n => s.bankWrote (n / 4) 0) (part := State.jobs) (fun _ _ => rfl) l v
  unfold State.starting
  extract_lets u
  refine ⟨?_, ⟨Job.started u (tableOf (s.storeRead j.record 512)) (p.i 4 8) (decide (p.u 2 2 % 2 = 1)) j, ?_, rfl, rfl, rfl, Job.started_layers u _ _ _ j⟩, fun k hk => ?_⟩
  · exact State.SameButJobs.trans (t := u.modJob slot _) rfl (foldl_rel (f := fun s n => s.bankWrote (n / 4) 0) State.SameButJobs.refl State.SameButJobs.trans (fun _ _ => rfl) _ _)
  · rw [State.jobAt_of_jobs (hbanks _ _), State.jobAt_modJob_self, show u.jobAt slot = some j from hjob]
    rfl
  · rw [State.jobAt_of_jobs (hbanks _ _), State.jobAt_modJob_ne _ _ _ _ (Ne.symm hk)]
    rfl

/-- JOB_START in its conditions: the job arms, its final reply owed, and nothing else changes but the counts of its reads. -/
theorem State.KettleTakes.jobStart_arms (h : s.KettleTakes 0x0302 c) {bad : Fin 3} {corrected : Nat}
    (hstarts : (s.withReads (some ⟨bad.val, corrected⟩)).taken.Starts (packetOfCmd 0x0302 c) slot j ⟨bad.val, corrected⟩) :
    ∃ t j', exec (.jobStart ⟨c, bad, corrected⟩) s = .next t ∧
      t = { (s.countN 84 corrected).countN 85 bad.val with pe := t.pe, jobs := t.jobs, mem := t.mem } ∧ t.jobAt slot = some j' ∧
      (∀ k, k ≠ slot → t.jobAt k = s.jobAt k) ∧ j'.state = .arming ∧ j'.start = leS c.params 4 8 ∧ j'.table = tableOf (s.storeRead j.record 512) ∧
      j'.waitCosy = decide (le c.params 2 2 % 2 = 1) ∧ j'.layers = j.layers ∧
      t.pe = { s.taken.pe with ops := s.pe.ops ++ [{ kind := .jobStart j.id, pkt := packetOfCmd 0x0302 c, src := .ring, seq := s.pe.seq }] } := by
  obtain ⟨hsame, ⟨x, hjob, hstart, htable, hwait, hlayers⟩, hother⟩ := State.starting_eq hstarts.job (packetOfCmd 0x0302 c) .ring s.pe.seq ⟨bad.val, corrected⟩
  have hop := hstarts.opJobStart_eq .ring s.pe.seq
  generalize (s.withReads (some ⟨bad.val, corrected⟩)).taken.starting (packetOfCmd 0x0302 c) .ring s.pe.seq slot j ⟨bad.val, corrected⟩ = v at *
  have harmed : v.SameButJobs (v.setJobState slot .arming) := State.setJobState_sameButJobs hjob rfl
  have hself : (v.setJobState slot .arming).jobAt slot = _ := State.jobAt_setJobState .arming
  have hothers (k : Nat) (hk : k ≠ slot) : (v.setJobState slot .arming).jobAt k = s.jobAt k := (State.jobAt_setJobState_ne .arming hk).trans (hother k hk)
  generalize v.setJobState slot .arming = t at *
  rw [hjob] at hself
  have hframe := hsame.trans harmed
  unfold State.SameButJobs at hframe
  have hpe : t.pe = { s.taken.pe with ops := s.pe.ops ++ [{ kind := .jobStart j.id, pkt := packetOfCmd 0x0302 c, src := .ring, seq := s.pe.seq }] } :=
    congrArg State.pe hframe
  refine ⟨t.withReads none, _, (h.exec_jobStart bad corrected).trans (congrArg (fun t : State => Host.Outcome.next (t.withReads none)) hop), ?_, hself, hothers,
    rfl, hstart, htable, hwait, hlayers, hpe⟩
  exact (congrArg (fun v : State => v.withReads none) hframe).trans (congrArg (fun x => ({ (s.countN 84 corrected).countN 85 bad.val with
      pe := x, jobs := t.jobs, mem := { t.mem with startReads := none } } : State)) hpe.symm)

end Sys2Proof.Machine
end

section
/-! SUPPORT. JOB_STOP and JOB_CLOSE (05 R189, R191). -/
namespace Sys2Proof.Machine
variable {s t u : State} {c : Cmd} {slot : Nat} {j : Job} {p : Packet}

theorem State.KettleTakes.exec_jobStop (h : s.KettleTakes 0x0303 c) :
    exec (.jobStop c) s = .next (s.taken.opJobStop (packetOfCmd 0x0303 c) .ring s.pe.seq) :=
  h.runs (f := fun t => t.opJobStop (packetOfCmd 0x0303 c) .ring s.pe.seq) (by decide) (by simp [Packet.hardware, packetOfCmd])
    fun t hlife => by simp [State.runKettle, hlife, packetOfCmd]

theorem State.KettleTakes.exec_jobResume (h : s.KettleTakes 0x0304 c) :
    exec (.jobResume c) s = .next (s.taken.opJobResume (packetOfCmd 0x0304 c) .ring s.pe.seq) :=
  h.runs (f := fun t => t.opJobResume (packetOfCmd 0x0304 c) .ring s.pe.seq) (by decide) (by simp [Packet.hardware, packetOfCmd])
    fun t hlife => by simp [State.runKettle, hlife, packetOfCmd]

theorem State.KettleTakes.exec_jobClose (h : s.KettleTakes 0x0305 c) :
    exec (.jobClose c) s = .next (s.taken.opJobClose (packetOfCmd 0x0305 c) .ring s.pe.seq) :=
  h.runs (f := fun t => t.opJobClose (packetOfCmd 0x0305 c) .ring s.pe.seq) (by decide) (by simp [Packet.hardware, packetOfCmd])
    fun t hlife => by simp [State.runKettle, hlife, packetOfCmd]

theorem mem_chans {n : Nat} : n ∈ j.chans ↔ n < 48 ∧ j.channels.getLsbD n = true := mem_maskChans

/-! ### JOB_STOP -/

/-- A job stopped after a line (05 R191). -/
def State.stopsAfter (s : State) (slot : Nat) (j : Job) (l : Nat) : State :=
  State.putBack (s.modJob slot (fun x => { x with stopAt := some l })) j j.chans (fun c => c.dropBeyond l)

/-- What JOB_STOP does to a job that runs, no other JOB_STOP waiting for it (05 R191). -/
theorem State.opJobStop_eq (hslot : s.jobSlot (BitVec.ofNat 16 (p.u 0 2)) = some slot) (hjob : s.jobAt slot = some j) (hactive : j.active = true)
    (hnone : ∀ o, o ∈ s.pe.ops → o.kind ≠ .jobStop (BitVec.ofNat 16 (p.u 0 2))) (hmode : p.u 2 2 ≤ 1) (src : Source) (seq : Nat) :
    s.opJobStop p src seq =
      let u := s.startOp false (.jobStop (BitVec.ofNat 16 (p.u 0 2))) p src seq
      if p.u 2 2 = 1 ∧ (j.state = .arming ∨ j.state = .running) then (u.stopsAfter slot j (p.u 4 4 + 1)).checkStopAt slot else u.enterStopped slot := by
  have hstate : ¬ (decide (j.state = .opened) || decide (j.state = .ended)) = true := by
    unfold Job.active at hactive
    cases hst : j.state <;> simp_all
  have hwaiting : s.pe.ops.any (fun q => match q.kind with | .jobStop i => i = BitVec.ofNat 16 (p.u 0 2) | _ => false) = false := by
    refine List.any_eq_false.2 fun q hq => ?_
    have hq := hnone q hq
    split
    · next i hi =>
      rw [hi] at hq
      simpa using hq
    · exact Bool.false_ne_true
  unfold State.opJobStop
  dsimp only
  rw [hslot]
  dsimp only
  rw [hjob]
  dsimp only
  rw [if_neg hstate]
  refine (if_neg (Bool.eq_false_iff.1 hwaiting)).trans ?_
  rw [if_neg (by omega), hactive]
  refine if_congr ?_ rfl (if_pos rfl)
  simp

theorem Job.active_of_state (h : j.state = .arming ∨ j.state = .running) : j.active = true := by
  unfold Job.active
  rcases h with h | h <;> rw [h]

/-- A stop without a line: the job stands, and the channels hold no line that has not begun. -/
theorem State.KettleTakes.jobStop_stops (h : s.KettleTakes 0x0303 c) (hslot : s.jobSlot (BitVec.ofNat 16 (le c.params 0 2)) = some slot)
    (hjob : s.jobAt slot = some j) (hactive : j.active = true) (hnone : ∀ o, o ∈ s.pe.ops → o.kind ≠ .jobStop (BitVec.ofNat 16 (le c.params 0 2)))
    (hmode : le c.params 2 2 = 0) : ∃ t j', exec (.jobStop c) s = .next t ∧ t.jobAt slot = some j' ∧ j'.state = .stopped ∧ t.axes = s.axes ∧ t.ilk = s.ilk ∧
      ∀ n, n < 48 → (t.chan n).firing = (s.chan n).firing ∧ (j.channels.getLsbD n = true → (t.chan n).prepared = none ∧ (t.chan n).packed = none) := by
  have hop : s.taken.opJobStop (packetOfCmd 0x0303 c) .ring s.pe.seq =
      (s.taken.startOp false (.jobStop (BitVec.ofNat 16 (le c.params 0 2))) (packetOfCmd 0x0303 c) .ring s.pe.seq).enterStopped slot :=
    (State.opJobStop_eq (s := s.taken) (p := packetOfCmd 0x0303 c) hslot hjob hactive hnone (show le c.params 2 2 ≤ 1 by omega) .ring s.pe.seq).trans
      (if_neg fun hone => absurd (show le c.params 2 2 = 1 from hone.1) (by omega))
  have hstart : (s.taken.startOp false (.jobStop (BitVec.ofNat 16 (le c.params 0 2))) (packetOfCmd 0x0303 c) .ring s.pe.seq).jobAt slot = some j := hjob
  have hchans (n : Nat) : (s.taken.startOp false (.jobStop (BitVec.ofNat 16 (le c.params 0 2))) (packetOfCmd 0x0303 c) .ring s.pe.seq).chan n = s.chan n := rfl
  have hdrive : (s.taken.startOp false (.jobStop (BitVec.ofNat 16 (le c.params 0 2))) (packetOfCmd 0x0303 c) .ring s.pe.seq).drive = s.drive := rfl
  generalize s.taken.startOp false (.jobStop (BitVec.ofNat 16 (le c.params 0 2))) (packetOfCmd 0x0303 c) .ring s.pe.seq = u at *
  have hkept : (u.enterStopped slot).drive = s.drive := (u.enterStopped_drive slot).trans hdrive
  obtain ⟨hstopped, -⟩ := State.enterStopped_jobs hstart
  refine ⟨_, _, h.exec_jobStop.trans (congrArg _ hop), hstopped, rfl, congrArg (fun x => x.2.2.2.1) hkept, congrArg (fun x => x.2.1) hkept, fun n hn => ⟨?_, fun hin => ?_⟩⟩
  · have hpads := (State.enterStopped_touches hstart).everywhere (fun _ => rfl) n
    exact (congrArg Prod.fst hpads).trans (congrArg Chan.firing (hchans n))
  · obtain ⟨-, hstands⟩ := State.enterStopped_chan hstart n
    obtain ⟨d, hmaps, hlevel⟩ := hstands (mem_chans.2 ⟨hn, hin⟩)
    unfold Chan.SameButMaps at hmaps
    unfold Chan.SameButLevel at hlevel
    rw [hlevel, hmaps]
    exact ⟨rfl, rfl⟩

theorem State.putBack_pe (s : State) (j : Job) (ns : List Nat) (f : Chan → Chan) : (s.putBack j ns f).pe = s.pe := by
  unfold State.putBack
  extract_lets u
  exact (foldl_keeps (f := fun t n => t.modChan n (fun c => c.moveChanges (s.leadPack j n) (t.leadPack j n))) (part := State.pe) (fun _ _ => rfl) j.chans u).trans
    (foldl_keeps (f := fun s n => s.modChan n f) (part := State.pe) (fun _ _ => rfl) ns s)

/-- No line at or beyond the stop stays prepared, and the next line stays. -/
theorem Chan.dropBeyond_lines (c : Chan) (l : Nat) : (c.dropBeyond l).nextToFire = c.nextToFire ∧ ∀ p, (c.dropBeyond l).prepared = some p → p.line < l := by
  unfold Chan.dropBeyond
  split
  · exact ⟨rfl, fun p hp => by cases hp⟩
  · next hany =>
    have hbelow (p : Period) (hp : c.prepared = some p) : p.line < l := by
      rw [hp] at hany
      simpa using hany
    split
    · split <;> exact ⟨rfl, hbelow⟩
    · exact ⟨rfl, hbelow⟩

/-- A channel of a job that stops after a line. -/
theorem State.stopsAfter_chan (l n : Nat) : ((s.stopsAfter slot j l).chan n).firing = (s.chan n).firing ∧
    (n ∈ j.chans → ((s.stopsAfter slot j l).chan n).nextToFire = (s.chan n).nextToFire ∧
      ∀ p, ((s.stopsAfter slot j l).chan n).prepared = some p → p.line < l) := by
  refine ⟨?_, fun hn => ?_⟩
  · exact congrArg Prod.fst ((State.putBack_touches (j := j) (fun c => c.dropBeyond_samePads l) (s.modJob slot _)).everywhere (fun _ => rfl) n)
  · obtain ⟨-, hmaps⟩ := State.putBack_chan (s.modJob slot (fun x => { x with stopAt := some l })) j (fun c => c.dropBeyond l) n
    have hmaps := hmaps hn
    obtain ⟨hnext, hbelow⟩ := (s.chan n).dropBeyond_lines l
    unfold Chan.SameButMaps at hmaps
    unfold State.stopsAfter
    rw [hmaps]
    exact ⟨hnext, hbelow⟩

theorem State.stopsAfter_jobs (hjob : s.jobAt slot = some j) (l : Nat) : (s.stopsAfter slot j l).jobAt slot = some { j with stopAt := some l } ∧
    ∀ k, k ≠ slot → (s.stopsAfter slot j l).jobAt k = s.jobAt k := by
  unfold State.stopsAfter
  refine ⟨?_, fun k hk => ?_⟩
  · rw [State.jobAt_of_jobs (State.putBack_jobs _ _ _ _), State.jobAt_modJob_self, hjob]
    rfl
  · rw [State.jobAt_of_jobs (State.putBack_jobs _ _ _ _), State.jobAt_modJob_ne _ _ _ _ (Ne.symm hk)]

/-- A job with lines still to fire before its stop goes on. -/
theorem State.checkStopAt_before {l n : Nat} (hjob : s.jobAt slot = some j) (hstop : j.stopAt = some l) (hn : n ∈ j.chans) (hbefore : (s.chan n).nextToFire < l) :
    s.checkStopAt slot = s := by
  have hall : (j.chans.all fun n => decide (l ≤ (s.chan n).nextToFire)) = false :=
    List.all_eq_false.2 ⟨n, hn, by simpa using hbefore⟩
  unfold State.checkStopAt
  rw [hjob]
  dsimp only
  rw [hstop]
  dsimp only
  rw [hall, Bool.and_false]
  exact if_neg Bool.false_ne_true

/-- A stop after a line that some channel has still to fire: the job goes on to it. -/
theorem State.KettleTakes.jobStop_at (h : s.KettleTakes 0x0303 c) (hslot : s.jobSlot (BitVec.ofNat 16 (le c.params 0 2)) = some slot)
    (hjob : s.jobAt slot = some j) (hstate : j.state = .arming ∨ j.state = .running)
    (hnone : ∀ o, o ∈ s.pe.ops → o.kind ≠ .jobStop (BitVec.ofNat 16 (le c.params 0 2))) (hmode : le c.params 2 2 = 1)
    (hleft : ∃ n, n ∈ j.chans ∧ (s.chan n).nextToFire ≤ le c.params 4 4) :
    ∃ t, exec (.jobStop c) s = .next t ∧ t.jobAt slot = some { j with stopAt := some (le c.params 4 4 + 1) } ∧ (∀ k, k ≠ slot → t.jobAt k = s.jobAt k) ∧
      t.axes = s.axes ∧ t.ilk = s.ilk ∧
      t.pe.ops = s.pe.ops ++ [{ kind := .jobStop (BitVec.ofNat 16 (le c.params 0 2)), pkt := packetOfCmd 0x0303 c, src := .ring, seq := s.pe.seq }] ∧
      ∀ n, n < 48 → (t.chan n).firing = (s.chan n).firing ∧
        ∀ p, (t.chan n).prepared = some p → j.channels.getLsbD n = true → p.line ≤ le c.params 4 4 := by
  have hop : s.taken.opJobStop (packetOfCmd 0x0303 c) .ring s.pe.seq =
      ((s.taken.startOp false (.jobStop (BitVec.ofNat 16 (le c.params 0 2))) (packetOfCmd 0x0303 c) .ring s.pe.seq).stopsAfter slot j (le c.params 4 4 + 1)).checkStopAt slot :=
    (State.opJobStop_eq (s := s.taken) (p := packetOfCmd 0x0303 c) hslot hjob (Job.active_of_state hstate) hnone (show le c.params 2 2 ≤ 1 by omega) .ring s.pe.seq).trans
      (if_pos ⟨hmode, hstate⟩)
  have hstart : (s.taken.startOp false (.jobStop (BitVec.ofNat 16 (le c.params 0 2))) (packetOfCmd 0x0303 c) .ring s.pe.seq).lineParts = s.lineParts := rfl
  have hdrive : (s.taken.startOp false (.jobStop (BitVec.ofNat 16 (le c.params 0 2))) (packetOfCmd 0x0303 c) .ring s.pe.seq).drive = s.drive := rfl
  have hops : (s.taken.startOp false (.jobStop (BitVec.ofNat 16 (le c.params 0 2))) (packetOfCmd 0x0303 c) .ring s.pe.seq).pe.ops = s.pe.ops ++
    [{ kind := .jobStop (BitVec.ofNat 16 (le c.params 0 2)), pkt := packetOfCmd 0x0303 c, src := .ring, seq := s.pe.seq }] := rfl
  generalize s.taken.startOp false (.jobStop (BitVec.ofNat 16 (le c.params 0 2))) (packetOfCmd 0x0303 c) .ring s.pe.seq = u at *
  obtain ⟨hself, hothers⟩ := State.stopsAfter_jobs ((State.jobAt_of_lineParts hstart slot).trans hjob) (le c.params 4 4 + 1)
  have hkept : (u.stopsAfter slot j (le c.params 4 4 + 1)).drive = s.drive := (State.putBack_drive _ j _ _).trans hdrive
  have hstays : (u.stopsAfter slot j (le c.params 4 4 + 1)).checkStopAt slot = u.stopsAfter slot j (le c.params 4 4 + 1) := by
    obtain ⟨n, hn, hbefore⟩ := hleft
    obtain ⟨-, hlines⟩ := State.stopsAfter_chan (s := u) (slot := slot) (j := j) (le c.params 4 4 + 1) n
    obtain ⟨hnext, -⟩ := hlines hn
    refine State.checkStopAt_before hself rfl hn ?_
    rw [hnext, State.chan_of_lineParts hstart n]
    omega
  refine ⟨_, h.exec_jobStop.trans (congrArg _ (hop.trans hstays)), hself, fun k hk => (hothers k hk).trans (State.jobAt_of_lineParts hstart k),
    congrArg (fun x => x.2.2.2.1) hkept, congrArg (fun x => x.2.1) hkept, (congrArg PacketEngine.ops (State.putBack_pe _ _ _ _)).trans hops, fun n hn => ?_⟩
  obtain ⟨hfiring, hlines⟩ := State.stopsAfter_chan (s := u) (slot := slot) (j := j) (le c.params 4 4 + 1) n
  refine ⟨hfiring.trans (congrArg Chan.firing (State.chan_of_lineParts hstart n)), fun p hp hin => ?_⟩
  obtain ⟨-, hbelow⟩ := hlines (mem_chans.2 ⟨hn, hin⟩)
  exact Nat.le_of_lt_succ (hbelow p hp)

/-! ### JOB_CLOSE -/

/-- A job that JOB_CLOSE takes out of its slot, its replies to JOB_STOP sent (05 R189, R191). -/
def State.closing (s : State) (j : Job) : State :=
  (s.storeWrite (j.record + 512) (s.recordHeader j 6)).finishOps (fun q => match q.kind with | .jobStop i => i = j.id | _ => false)
    (fun _ => (stOK, toLe 4 (State.lastLine (s.storeWrite (j.record + 512) (s.recordHeader j 6)) j)))

/-- What a closed job leaves (05 R174, R189). -/
def State.withoutJob (s : State) (slot : Nat) (id : BitVec 16) : State :=
  { s with jobs := vset s.jobs slot none, tiles := s.tiles.map (fun (t : Tile) => if t.job = id then { t with orphan := true } else t) }

theorem State.opJobClose_eq (hslot : s.jobSlot (BitVec.ofNat 16 (p.u 0 2)) = some slot) (hjob : s.jobAt slot = some j) (hidle : j.active = false)
    (hzeros : zeros p.params 2 2 = true) (src : Source) (seq : Nat) : s.opJobClose p src seq =
    (((j.chans.foldl (fun s n => s.modChan n (fun c => { c with prevSet := none })) (s.closing j.closed)).withoutJob slot j.id).answer p src stOK
      (toLe 4 j.completed ++ toLe 4 j.closed.skipped ++ toLe 4 j.incomplete ++ toLe 4 j.resumes)) := by
  unfold State.opJobClose
  rw [hslot]
  dsimp only
  rw [hjob]
  dsimp only
  rw [hidle, if_neg Bool.false_ne_true, hzeros, if_neg (by simp)]
  rfl

/-- The parts that a closing job's replies leave alone. -/
theorem State.closing_lineParts (s : State) (j : Job) : (s.closing j).lineParts = s.lineParts ∧ (s.closing j).tiles = s.tiles ∧ (s.closing j).drive = s.drive := by
  have hsent : State.SameButSent _ (s.closing j) := State.finishOps_sent _ _ _
  refine ⟨hsent.lineParts, ?_, hsent.drive⟩
  unfold State.SameButSent at hsent
  rw [hsent]
  rfl

theorem State.KettleTakes.jobClose_closes (h : s.KettleTakes 0x0305 c) (hslot : s.jobSlot (BitVec.ofNat 16 (le c.params 0 2)) = some slot)
    (hjob : s.jobAt slot = some j) (hidle : j.active = false) (hzeros : zeros c.params 2 2 = true) : ∃ t : State,
      exec (.jobClose c) s = .next (t.ok 0x0305 c (toLe 4 j.completed ++ toLe 4 j.closed.skipped ++ toLe 4 j.incomplete ++ toLe 4 j.resumes)) ∧
      t.jobAt slot = none ∧ (∀ k, k ≠ slot → t.jobAt k = s.jobAt k) ∧ t.axes = s.axes ∧
      (∀ n, n < 48 → t.chan n = (if j.channels.getLsbD n then { s.chan n with prevSet := none } else s.chan n)) ∧
      t.tiles = s.tiles.map (fun (x : Tile) => if x.job = j.id then { x with orphan := true } else x) := by
  have hop := State.opJobClose_eq (s := s.taken) (p := packetOfCmd 0x0305 c) hslot hjob hidle hzeros .ring s.pe.seq
  obtain ⟨hparts, htiles, hdrive⟩ := s.taken.closing_lineParts j.closed
  generalize s.taken.closing j.closed = u at *
  obtain ⟨hframe, hchan⟩ := State.foldl_modChan (fun c => { c with prevSet := none }) j.chans (nodup_chans j) (fun _ => lt_of_mem_chans) u
  generalize j.chans.foldl (fun s n => s.modChan n (fun c => { c with prevSet := none })) u = v at *
  have hjobs : v.jobs = s.jobs := (congrArg State.jobs hframe).trans (congrArg Prod.snd hparts)
  refine ⟨_, h.exec_jobClose.trans (congrArg _ hop), ?_, fun k hk => ?_, ?_, fun n hn => ?_, ?_⟩
  · by_cases hlt : slot < 4
    · exact vget_vset_self _ _ _ _ hlt
    · simp [State.jobAt, vget, hlt] at hjob
  · exact (vget_vset_ne _ _ _ _ _ (Ne.symm hk)).trans (State.jobAt_of_jobs hjobs k)
  · exact (congrArg State.axes hframe).trans (congrArg (fun x => x.2.2.2.1) hdrive)
  · refine (hchan n).trans ?_
    rw [State.chan_of_lineParts hparts n]
    refine if_congr ?_ rfl rfl
    simp [mem_chans, hn]
  · exact congrArg _ ((congrArg State.tiles hframe).trans htiles)

end Sys2Proof.Machine
end

section
/-! SUPPORT. JOB_RESUME: the lines below FROM are skipped, and the feed alone is set to move (05 R192, 07 R259); O35. -/
namespace Sys2Proof.Machine
variable {s t u : State} {c : Cmd} {slot n : Nat} {j : Job} {p : Packet}

/-! ### Lines skipped -/

/-- What the skipping of a channel's lines leaves alone: the job's record lasts, and the drive. -/
structure State.Lasts (s t : State) (slot : Nat) : Prop where
  jobs : s.SameJobs t slot
  drive : t.drive = s.drive

theorem State.Lasts.refl (s : State) (slot : Nat) : s.Lasts s slot := ⟨.refl s slot, rfl⟩
theorem State.Lasts.trans (h : s.Lasts t slot) (g : t.Lasts u slot) : s.Lasts u slot := ⟨h.jobs.trans g.jobs, g.drive.trans h.drive⟩

/-- The next line of each channel. -/
def State.nextLines (s : State) (m : Nat) : Nat := (s.chan m).nextLine

theorem State.lineDone_lasts (s : State) (slot n line : Nat) (k : LineEnd) : s.Lasts (s.lineDone slot n line k) slot :=
  ⟨s.lineDone_sameJobs slot n line k, s.lineDone_drive slot n line k⟩

theorem State.lineDone_nextLines (s : State) (slot n line : Nat) (k : LineEnd) : (s.lineDone slot n line k).nextLines = s.nextLines := by
  funext m
  obtain h | ⟨-, h⟩ := s.lineDone_chan slot n line k m <;> rw [State.nextLines, h] <;> rfl

/-- A channel's FIFO changed: the channel as its change says, and a source raised at most. -/
theorem State.modFifo_eq (s : State) (slot n : Nat) (f : Chan → Chan) : s.modFifo slot n f = s.modChan n f ∨ ∃ k, s.modFifo slot n f = (s.modChan n f).raise k := by
  unfold State.modFifo
  extract_lets was t d more
  split
  · exact .inr ⟨_, rfl⟩
  · exact .inl rfl

theorem State.modFifo_lineParts (s : State) (slot n : Nat) (f : Chan → Chan) : (s.modFifo slot n f).lineParts = (s.modChan n f).lineParts := by
  obtain h | ⟨k, h⟩ := s.modFifo_eq slot n f <;> rw [h]
  exact State.raise_lineParts _ k

theorem State.modFifo_drive (s : State) (slot n : Nat) (f : Chan → Chan) : (s.modFifo slot n f).drive = s.drive := by
  obtain h | ⟨k, h⟩ := s.modFifo_eq slot n f <;> rw [h]
  · rfl
  · exact State.raise_drive _ k

theorem State.modFifo_lasts (s : State) (slot n : Nat) (f : Chan → Chan) : s.Lasts (s.modFifo slot n f) slot :=
  ⟨.of_jobs (congrArg Prod.snd (s.modFifo_lineParts slot n f)), s.modFifo_drive slot n f⟩

theorem State.clearCover_eq (s : State) (slot n line : Nat) : s.clearCover slot n line = s ∨
    ∃ m, s.clearCover slot n line = s.modJob slot (fun j => { j with cover := m }) := by
  unfold State.clearCover
  split
  · exact .inl rfl
  · extract_lets pairDone cleared
    split
    · exact .inr ⟨_, rfl⟩
    · exact .inl rfl

theorem State.clearCover_lasts (s : State) (slot n line : Nat) : s.Lasts (s.clearCover slot n line) slot := by
  obtain h | ⟨m, h⟩ := s.clearCover_eq slot n line <;> rw [h]
  · exact .refl s slot
  · exact ⟨s.modJob_sameJobs slot fun _ => rfl, rfl⟩

theorem State.clearCover_chans (s : State) (slot n line : Nat) : (s.clearCover slot n line).chans = s.chans := by
  obtain h | ⟨m, h⟩ := s.clearCover_eq slot n line <;> rw [h]
  rfl

theorem State.composeFrom_lasts (s : State) (slot n line : Nat) : s.Lasts (s.composeFrom slot n line) slot := by
  unfold State.composeFrom
  extract_lets was line u
  exact State.Lasts.trans (t := u) ⟨.of_jobs rfl, rfl⟩ (foldl_rel (R := fun s t => s.Lasts t slot) (fun s => .refl s slot) .trans (fun s i => s.clearCover_lasts _ _ _) _ u)

theorem State.composeFrom_nextLines (s : State) (slot n line : Nat) : (s.composeFrom slot n line).nextLines = s.nextLines := by
  unfold State.composeFrom
  extract_lets was line u
  have hcleared : ((List.range (min 2048 (line - was))).foldl (fun s i => s.clearCover slot n (line - 1 - i)) u).chans = u.chans :=
    foldl_keeps (part := State.chans) (fun s i => s.clearCover_chans _ _ _) _ u
  funext m
  refine (congrArg Chan.nextLine (State.chan_of_chans hcleared m)).trans ?_
  obtain h | ⟨-, -, h⟩ := s.chan_modChan_cases n m (fun c => { c with nextCompose := line }) <;> exact (congrArg Chan.nextLine h).trans rfl

/-- A channel's next line moved on. -/
theorem State.skipTo_lasts (s : State) (slot n first cause : Nat) : s.Lasts (s.skipTo slot n first cause) slot := by
  unfold State.skipTo
  extract_lets c u v
  have hskipped : s.Lasts u slot := foldl_rel (R := fun s t => s.Lasts t slot) (fun s => .refl s slot) .trans (fun s i => by
    split
    · exact .refl s slot
    · exact s.lineDone_lasts _ _ _ _) _ s
  exact ((hskipped.trans (u.modFifo_lasts slot n _)).trans (v.composeFrom_lasts slot n first)).trans (State.composeFrom_lasts _ slot n _)

theorem State.skipTo_nextLines (hn : n < 48) (s : State) (slot first cause m : Nat) :
    (s.skipTo slot n first cause).nextLines m = if m = n then first else s.nextLines m := by
  unfold State.skipTo
  extract_lets c u v
  have hskipped : u.nextLines = s.nextLines := foldl_keeps (part := State.nextLines) (fun s i => by
    split
    · rfl
    · exact s.lineDone_nextLines _ _ _ _) _ s
  have hparts : v.lineParts = _ := u.modFifo_lineParts slot n _
  rw [State.composeOn, State.composeFrom_nextLines, State.composeFrom_nextLines, State.nextLines, State.chan_of_lineParts hparts m]
  by_cases hm : m = n
  · rw [if_pos hm, hm, State.chan_modChan u n _ hn]
  · rw [if_neg hm, State.chan_modChan_ne u n m _ (Ne.symm hm)]
    exact congrFun hskipped m

/-- The line that a resume takes a job up at: FROM, and LINES where that lies beyond (05 R192; log entry 20). -/
def Job.resumeLine (j : Job) (from_ : Nat) : Nat := if j.lines = 0 then from_ else min from_ j.lines

theorem State.skipBelow_eq (hjob : s.jobAt slot = some j) (n from_ : Nat) :
    s.skipBelow slot n from_ = s.skipTo slot n (max (s.chan n).nextLine (j.resumeLine from_)) 5 := by
  unfold State.skipBelow
  rw [hjob]
  rfl

theorem Job.resumeLine_of_lasting {i j : Job} (h : i.lasting = j.lasting) (from_ : Nat) : i.resumeLine from_ = j.resumeLine from_ := by
  have hlines : i.lines = j.lines := congrArg (fun x => x.2.2.1) h
  rw [Job.resumeLine, Job.resumeLine, hlines]

/-- The lines below FROM skipped on some channels of a job. -/
theorem State.foldl_skipBelow (from_ : Nat) {l : List Nat} (hnodup : l.Nodup) (hl : ∀ n, n ∈ l → n < 48) (hjob : s.jobAt slot = some j) :
    s.Lasts (l.foldl (fun s n => s.skipBelow slot n from_) s) slot ∧ ∀ m, (l.foldl (fun s n => s.skipBelow slot n from_) s).nextLines m =
      if m ∈ l then max (s.nextLines m) (j.resumeLine from_) else s.nextLines m := by
  induction l generalizing s j with
  | nil => exact ⟨.refl s slot, fun m => by simp⟩
  | cons n l ih =>
    obtain ⟨hnot, hnodup⟩ := List.nodup_cons.1 hnodup
    have hskip := State.skipBelow_eq hjob n from_
    have hfirst : s.Lasts (s.skipBelow slot n from_) slot := hskip ▸ s.skipTo_lasts slot n _ 5
    obtain ⟨i, hi, hlasting⟩ := hfirst.jobs.job hjob
    obtain ⟨hrest, hlines⟩ := ih hnodup (fun m hm => hl m (List.mem_cons_of_mem _ hm)) hi
    refine ⟨hfirst.trans hrest, fun m => ?_⟩
    rw [List.foldl_cons, hlines m, Job.resumeLine_of_lasting hlasting, hskip, State.skipTo_nextLines (hl n List.mem_cons_self)]
    by_cases hm : m = n
    · subst hm
      simp [hnot, State.nextLines]
    · simp [hm]

/-! ### The feed of a resume -/

/-- What the feed's move of a resume sets of its job. -/
def Job.resuming (v : Rat) (xT : Job → Int) (nStop : Job → Nat) (j : Job) : Job := { j with resumeMove := true, vR := v, xT := xT j, nStop := nStop j }

theorem State.startBackup_eq (hjob : s.jobAt slot = some j) (x : Int) (v : Rat) : ∃ f, s.startBackup slot x v = s.modAxis j.feed f := by
  unfold State.startBackup
  rw [hjob]
  exact ⟨_, rfl⟩

/-- The feed's move of a resume: none, a retained move discarded, or the backup begun (07 R259). -/
theorem State.resumeFeed_cases (hjob : s.jobAt slot = some j) : s.resumeFeed slot = s ∨ (∃ f, s.resumeFeed slot = s.modAxis j.feed f) ∨
    ∃ f g v x n, s.resumeFeed slot = ((s.modAxis j.feed f).modJob slot (Job.resuming v x n)).modAxis j.feed g := by
  unfold State.resumeFeed
  rw [hjob]
  dsimp -zeta only
  split
  · exact .inl rfl
  · extract_lets v a
    split
    · split
      · exact .inr (.inl ⟨_, rfl⟩)
      · extract_lets mv moved begun
        have hbegun : begun.jobAt slot = some (Job.resuming v (fun x => ((s.firstFire j : Rat) - x.margin).floor) moved.lowestLine j) := by
          refine (State.jobAt_modJob_self _ slot _).trans ?_
          rw [show moved.jobAt slot = some j from hjob]
          rfl
        obtain ⟨g, hg⟩ := State.startBackup_eq hbegun (s.firstFire j) v
        exact .inr (.inr ⟨_, g, v, _, _, hg⟩)
    · exact .inl rfl

/-- The resume of a job's feed touches no other axis, no channel, and of the job only its resume move (05 R192, 07 R259). -/
theorem State.resumeFeed_keeps (hjob : s.jobAt slot = some j) : (s.resumeFeed slot).chans = s.chans ∧ (∀ k, k ≠ j.feed → (s.resumeFeed slot).axis k = s.axis k) ∧
    ∃ x, (s.resumeFeed slot).jobAt slot = some x ∧ x.state = j.state ∧ x.stopAt = j.stopAt ∧ x.waitCosy = j.waitCosy := by
  obtain h | ⟨f, h⟩ | ⟨f, g, v, x, n, h⟩ := State.resumeFeed_cases hjob <;> rw [h]
  · exact ⟨rfl, fun _ _ => rfl, j, hjob, rfl, rfl, rfl⟩
  · exact ⟨rfl, fun k hk => State.axis_modAxis_ne s _ k _ (Ne.symm hk), j, hjob, rfl, rfl, rfl⟩
  · refine ⟨rfl, fun k hk => ?_, Job.resuming v x n j, ?_, rfl, rfl, rfl⟩
    · exact (State.axis_modAxis_ne _ _ k _ (Ne.symm hk)).trans (State.axis_modAxis_ne s _ k f (Ne.symm hk))
    · refine (State.jobAt_modJob_self _ slot _).trans ?_
      rw [show (s.modAxis j.feed f).jobAt slot = some j from hjob]
      rfl

/-! ### JOB_RESUME -/

/-- A job that a resume takes up (05 R192). -/
def Job.resumed (wait : Bool) (j : Job) : Job :=
  { j.takeBar with waitCosy := wait, stopAt := none, rereg := false, resumeMove := false, resumePending := none }

theorem Job.resumed_feed (wait : Bool) (j : Job) : (j.resumed wait).feed = j.feed := by
  unfold Job.resumed Job.takeBar
  split <;> rfl

/-- The job armed again, its lines below FROM skipped. -/
def State.resuming (s : State) (slot : Nat) (j : Job) (from_ : Nat) (wait : Bool) : State :=
  State.setJobState ((j.chans.foldl (fun s n => s.skipBelow slot n from_) s).modJob slot (Job.resumed wait)) slot .arming

/-- JOB_RESUME that finds nothing to refuse. -/
structure State.Resumes (s : State) (p : Packet) (slot : Nat) (j : Job) : Prop where
  safe : s.tripped = false
  slotOf : s.jobSlot (BitVec.ofNat 16 (p.u 0 2)) = some slot
  job : s.jobAt slot = some j
  warm : s.tempBan j true (p.u 2 2 % 2 = 1) = false
  alone : s.link.conflict = false
  stands : j.state = .stopped ∨ (j.state = .ended ∧ (j.lines = 0 ∨ ∃ n, n ∈ j.chans ∧ (s.chan n).nextToFire < j.lines))
  fires : s.badFire j true = false
  free : s.surveyHolds j = false
  feed : 8 ≤ j.feed ∨ (s.axis j.feed).standing = true
  wait : p.u 2 2 ≤ 1

theorem State.Resumes.opJobResume_eq (h : s.Resumes p slot j) (src : Source) (seq : Nat) :
    s.opJobResume p src seq = ((s.resuming slot j (p.u 4 4) (p.u 2 2 % 2 = 1)).resumeFeed slot).say p src stOK := by
  have hleft (hex : ∃ n, n ∈ j.chans ∧ (s.chan n).nextToFire < j.lines) : (j.chans.any fun n => decide ((s.chan n).nextToFire < j.lines)) = true := by
    obtain ⟨n, hn, hlt⟩ := hex
    exact List.any_eq_true.2 ⟨n, hn, decide_eq_true hlt⟩
  have hstands : (decide (j.state = .stopped) || (decide (j.state = .ended) && (decide (j.lines = 0) || j.chans.any fun n => decide ((s.chan n).nextToFire < j.lines)))) = true := by
    rcases h.stands with hst | ⟨hst, hl | hex⟩
    · simp [hst]
    · simp [hst, hl]
    · rw [hleft hex]
      simp [hst]
  have hbusy : ¬ (s.surveyHolds j || !(decide (8 ≤ j.feed) || (s.axis j.feed).standing)) = true := by
    rcases h.feed with hf | hf <;> simp [h.free, hf]
  have hwait := h.wait
  unfold State.opJobResume
  dsimp only
  rw [if_neg (by simp [h.safe]), h.slotOf]
  dsimp only
  rw [h.job]
  dsimp only
  rw [if_neg (by simp [h.warm]), if_neg (by simp [h.alone]), if_neg (by rw [hstands, h.fires]; simp), if_neg hbusy, if_neg (by omega)]
  rfl

/-- The state that a resume leaves, before the feed's move. -/
theorem State.resuming_eq (hjob : s.jobAt slot = some j) (from_ : Nat) (wait : Bool) : (s.resuming slot j from_ wait).drive = s.drive ∧
    (∃ x, (s.resuming slot j from_ wait).jobAt slot = some x ∧ x.feed = j.feed ∧ x.state = .arming ∧ x.stopAt = none ∧ x.waitCosy = wait) ∧
    ∀ m, m ∈ j.chans → ((s.resuming slot j from_ wait).chan m).nextLine = max (s.chan m).nextLine (j.resumeLine from_) := by
  obtain ⟨hlasts, hlines⟩ := State.foldl_skipBelow from_ (nodup_chans j) (fun _ => lt_of_mem_chans) hjob
  obtain ⟨i, hi, hlasting⟩ := hlasts.jobs.job hjob
  unfold State.resuming
  generalize j.chans.foldl (fun s n => s.skipBelow slot n from_) s = u at *
  have hx : (u.modJob slot (Job.resumed wait)).jobAt slot = some (i.resumed wait) := by
    rw [State.jobAt_modJob_self, hi]
    rfl
  refine ⟨(State.setJobState_drive _ _ _).trans (Eq.trans rfl hlasts.drive), ⟨{ i.resumed wait with state := .arming }, ?_, ?_, rfl, rfl, rfl⟩, fun m hm => ?_⟩
  · rw [State.jobAt_setJobState, hx]
    rfl
  · exact (i.resumed_feed wait).trans (congrArg (fun x => x.2.2.2.1) hlasting)
  · have harmed := (State.setJobState_sameButJobs (st := .arming) hx rfl)
    have hchans : ((u.modJob slot (Job.resumed wait)).setJobState slot .arming).chans = u.chans := by
      unfold State.SameButJobs at harmed
      exact (congrArg State.chans harmed).trans rfl
    have hm' := hlines m
    rw [if_pos hm] at hm'
    exact (congrArg Chan.nextLine (State.chan_of_chans hchans m)).trans hm'

theorem State.KettleTakes.jobResume_arms (h : s.KettleTakes 0x0304 c) (hres : s.taken.Resumes (packetOfCmd 0x0304 c) slot j) :
    ∃ (t : State) (j' : Job), exec (.jobResume c) s = .next (t.ok 0x0304 c []) ∧ t.jobAt slot = some j' ∧ j'.state = .arming ∧ j'.stopAt = none ∧
      j'.waitCosy = decide (le c.params 2 2 % 2 = 1) ∧ (∀ k, k ≠ j.feed → t.axis k = s.axis k) ∧
      ∀ n, n ∈ j.chans → (t.chan n).nextLine = max (s.chan n).nextLine (j.resumeLine (le c.params 4 4)) := by
  have hop : s.taken.opJobResume (packetOfCmd 0x0304 c) .ring s.pe.seq =
      (((s.taken.resuming slot j (le c.params 4 4) (le c.params 2 2 % 2 = 1)).resumeFeed slot).say (packetOfCmd 0x0304 c) .ring stOK) :=
    hres.opJobResume_eq .ring s.pe.seq
  obtain ⟨hdrive, ⟨x, hx, hfeed, hstate, hstop, hwait⟩, hlines⟩ := State.resuming_eq hres.job (le c.params 4 4) (le c.params 2 2 % 2 = 1)
  generalize s.taken.resuming slot j (le c.params 4 4) (le c.params 2 2 % 2 = 1) = u at *
  obtain ⟨hchans, haxes, y, hy, hstate', hstop', hwait'⟩ := State.resumeFeed_keeps hx
  refine ⟨u.resumeFeed slot, y, h.exec_jobResume.trans (congrArg _ hop), hy, hstate'.trans hstate, hstop'.trans hstop, hwait'.trans hwait, fun k hk => ?_, fun n hn => ?_⟩
  · exact (haxes k (hfeed ▸ hk)).trans (State.axis_of_drive hdrive k)
  · exact (congrArg Chan.nextLine (State.chan_of_chans hchans n)).trans (hlines n hn)

/-! ### O35 -/

/-- Settles O35: each command in its conditions runs one operation, whose effect on the job, the channels and the axes is one lemma. -/
theorem jobsStartStopClose : Obligations.JobsStartStopClose := by
  unfold Obligations.JobsStartStopClose
  intro c s slot j hslot hjob
  have hmod {w : Nat} (hw : w ≤ 1) : decide (w % 2 = 1) = decide (w = 1) := by
    rw [Nat.mod_eq_of_lt (by omega)]
  refine ⟨fun h bad corrected => ⟨fun htrip => h.jobStart_tripped htrip bad corrected, ?_⟩,
    fun h hnone => ⟨fun hactive hmode => h.jobStop_stops hslot hjob hactive hnone hmode, fun hstate hmode hleft => ?_⟩,
    fun h => ⟨fun htrip => ?_, ?_⟩, fun h hidle hzeros => ?_⟩
  · intro hsafe hwarm halone hopened hfires hpairs hfree hwait htable hread
    obtain ⟨t, j', hexec, hframe, hself, hother, hstate, hstart, htab, hcosy, hlayers, hpe⟩ := h.jobStart_arms (bad := bad) (corrected := corrected) (slot := slot) (j := j)
      ⟨hsafe, hslot, hjob, hwarm, halone, hopened, hfires, hpairs, hfree, hwait, htable, rfl, hread⟩
    exact ⟨t, j', hexec, hframe, hself, fun k _ => hother k, hstate, hstart, htab, hcosy.trans (hmod hwait), hlayers, hpe⟩
  · obtain ⟨t, hexec, hself, hother, haxes, hilk, hops, hchans⟩ := h.jobStop_at hslot hjob hstate hnone hmode hleft
    exact ⟨t, hexec, hself, fun k _ => hother k, haxes, hilk, hops, hchans⟩
  · exact h.exec_jobResume.trans (congrArg _ (State.opJobResume_tripped (s := s.taken) _ htrip))
  · intro hsafe hwarm halone hstands hfires hfree hfeed hwait
    obtain ⟨t, j', hexec, hself, hstate, hstop, hcosy, haxes, hlines⟩ := h.jobResume_arms (slot := slot) (j := j)
      ⟨hsafe, hslot, hjob, hwarm, halone, hstands, hfires, hfree, hfeed, hwait⟩
    exact ⟨t, j', hexec, hself, hstate, hstop, hcosy.trans (hmod hwait), fun k _ => haxes k, fun n hn hin => hlines n (mem_chans.2 ⟨hn, hin⟩)⟩
  · obtain ⟨t, hexec, hself, hother, haxes, hchans, htiles⟩ := h.jobClose_closes hslot hjob hidle hzeros
    exact ⟨t, hexec, hself, fun k _ => hother k, haxes, hchans, htiles⟩

end Sys2Proof.Machine
end

section
/-! SUPPORT. Slots of a fire period: SLOT_START and SLOT_END (03 R91-R93, R100, R101, 04 R129). -/
namespace Sys2Proof.Machine
variable {s t u : State} {ch : Fin 48} {slot n : Nat} {j : Job} {c : Chan} {f : Firing} {p : Period}

/-- A channel of a job that runs may be driven: RUN, no shutdown, its engine not held (03 R112, 04 R156). -/
structure State.Drives (s : State) (ch : Fin 48) (slot : Nat) (j : Job) : Prop where
  run : s.inRun = true
  jobOf : s.jobOf ch.val = some slot
  job : s.jobAt slot = some j
  safe : s.shutdownLatched ch.val = false
  stays : (s.chan ch.val).shutAtSlot = 0
  free : s.pwr.blockHeld.getLsbD (ch.val / 4) = false

theorem State.Drives.mem (h : s.Drives ch slot j) : ch.val ∈ j.chans := by
  have hany := List.find?_some h.jobOf
  simp only [h.job, Option.any_some] at hany
  exact mem_chans.2 ⟨ch.isLt, hany⟩

theorem State.Drives.off (h : s.Drives ch slot j) :
    (!s.inRun || decide ((s.chan ch.val).shutAtSlot ≠ 0) || s.shutdownLatched ch.val || s.pwr.blockHeld.getLsbD (ch.val / 4)) = false := by
  rw [h.run, h.safe, h.free, decide_eq_false (not_not.2 h.stays)]
  rfl

/-! ### The line in its fire period -/

/-- A line whose last slot has not ended is in its fire period. -/
theorem Chan.inPeriod_of_slots (hfiring : c.firing = some f) (hline : f.period.cosy = false) (hslots : f.slot + 1 < f.period.plan.length) :
    c.inPeriod = some f.period := by
  have hnot : ¬ (f.period.cosy || (f.ended && decide (f.period.plan.length ≤ f.slot + 1))) = true := by
    rw [hline, decide_eq_false (by omega), Bool.and_false]
    exact Bool.false_ne_true
  unfold Chan.inPeriod
  rw [hfiring]
  exact if_neg hnot

/-- A channel whose last slot has ended is in no fire period. -/
theorem Chan.inPeriod_of_ended (h : ∀ f, c.firing = some f → f.ended = true ∧ f.period.plan.length ≤ f.slot + 1 ∧ f.period.cosy = false) : c.inPeriod = none := by
  unfold Chan.inPeriod
  cases hfiring : c.firing with
  | none => rfl
  | some f =>
    obtain ⟨hended, hslots, -⟩ := h f hfiring
    refine if_pos ?_
    rw [hended, decide_eq_true hslots]
    simp

/-- No Cosy period is fired on the channel. -/
theorem State.cosyStop_of_line (h : ∀ f, (s.chan n).firing = some f → f.period.cosy = false) : s.cosyStop n = s := by
  have hany : ((s.chan n).firing.any fun f => f.period.cosy && f.ended) = false := by
    cases hfiring : (s.chan n).firing with
    | none => rfl
    | some f =>
      rw [Option.any_some, h f hfiring]
      rfl
  unfold State.cosyStop
  rw [hany, Bool.and_false]
  exact if_neg Bool.false_ne_true

theorem filter_cosy_none {o : Option Firing} {q : Firing → Bool} (h : ∀ f, o = some f → f.period.cosy = false) :
    o.filter (fun f => f.period.cosy && q f) = none := by
  cases o with
  | none => rfl
  | some f => simp [h f rfl]

/-! ### SLOT_START -/

/-- Slot k of a period begun on a channel, its pulses driven or not (03 R90-R93, R101). -/
def Chan.slotBegun (c : Chan) (p : Period) (k clock : Nat) (x : SlotPlan) (fires : Bool) : Chan :=
  let next := match p.plan[k + 1]? with
    | some y => frameOf c.nozzles (if p.held then [] else p.codes) y.groups
    | none => c.frame
  { c with
    firing := some { period := p, slot := k, start := clock, ended := false, mask := groupMask x.groups
                     fireA := if fires then x.fireA else [], fireB := if fires then x.fireB else [] }
    frame := next, latClocks := if next = [] then 0 else 8, ioStopAt := none
    pulses := if fires then c.pulses + slotPulses c.nozzles p.codes x.groups else c.pulses }

/-- The pulses of a period's slots are driven. -/
def State.firesPeriod (s : State) (p : Period) : Bool := s.gateOpen && !p.quiet && !p.held

theorem State.beginSlot_eq {k : Nat} {x : SlotPlan} (hx : p.plan[k]? = some x) (s : State) (n : Nat) :
    s.beginSlot n p k = s.modChan n (fun _ => (s.chan n).slotBegun p k s.clock x (s.firesPeriod p)) := by
  unfold State.beginSlot
  rw [hx]
  rfl

theorem Chan.SameButMaps.of_eq {c d : Chan} (h : d = c) : c.SameButMaps d := by
  subst h
  rfl

/-- A channel changed, and the axes, the interlocks and the other channels as they were. -/
structure State.Elsewhere (s t : State) (n : Nat) : Prop where
  axes : t.axes = s.axes
  ilk : t.ilk = s.ilk
  chans : ∀ m, m ≠ n → (s.chan m).SameButMaps (t.chan m)

theorem State.Elsewhere.of_drive (hdrive : t.drive = s.drive) (hchans : ∀ m, m ≠ n → (s.chan m).SameButMaps (t.chan m)) : s.Elsewhere t n :=
  ⟨congrArg (fun x => x.2.2.2.1) hdrive, congrArg (fun x => x.2.1) hdrive, hchans⟩

theorem State.modChan_elsewhere (s : State) (n : Nat) (g : Chan → Chan) : s.Elsewhere (s.modChan n g) n :=
  .of_drive rfl fun m hm => .of_eq (State.chan_modChan_ne s n m g (Ne.symm hm))

/-- A later slot of the line being fired begins at its position, once the slot before has had its length (03 R101). -/
theorem State.Drives.slotStart_next (h : s.Drives ch slot j) {x y : SlotPlan} (hfiring : (s.chan ch.val).firing = some f) (hline : f.period.cosy = false)
    (hx : f.period.plan[f.slot]? = some x) (hy : f.period.plan[f.slot + 1]? = some y) (hlen : f.start + x.len ≤ s.clock)
    (hpos : j.reached (s.chanPosition ch.val) (s.slotPos j ch.val f.period.line (f.slot + 1) f.period.plan.length) = true) :
    exec (.slotStart ch) s = .next (s.beginSlot ch.val f.period (f.slot + 1)) := by
  have hslots : f.slot + 1 < f.period.plan.length := (List.getElem?_eq_some_iff.1 hy).1
  have hcosy : ∀ g, (s.chan ch.val).firing = some g → g.period.cosy = false := fun g hg => by
    rw [hfiring] at hg
    cases hg
    exact hline
  change execSlotStart ch s = _
  unfold execSlotStart
  dsimp only
  rw [State.cosyStop_of_line hcosy, filter_cosy_none hcosy]
  dsimp only
  rw [h.jobOf]
  dsimp only
  rw [h.job]
  dsimp only
  rw [h.off, if_neg Bool.false_ne_true, Chan.inPeriod_of_slots hfiring hline hslots]
  dsimp only
  rw [hfiring]
  dsimp only
  rw [hx, hpos]
  refine if_pos ?_
  simp [hslots, hlen]

theorem State.noteResume_lineParts (s : State) (slot : Nat) : (s.noteResume slot).chans = s.chans ∧ (s.noteResume slot).drive = s.drive := by
  unfold State.noteResume
  split
  · exact ⟨rfl, rfl⟩
  · split
    · exact ⟨rfl, rfl⟩
    · extract_lets u
      refine ⟨?_, ?_⟩
      · exact (congrArg Prod.fst (State.writeHeader_lineParts _ slot)).trans ((State.raise_chans _ _).trans ((u.addEntry_chans _ _).trans rfl))
      · exact (State.writeHeader_drive _ slot).trans ((State.raise_drive _ _).trans ((u.addEntry_drive _ _).trans rfl))

/-- The next line is not one skipped ahead: none is passed over. -/
theorem State.passGone_none (h : (s.chan n).gone.contains (s.chan n).nextLine = false) (slot k : Nat) : s.passGone slot n k = s := by
  cases k with
  | zero => rfl
  | succ k =>
    unfold State.passGone
    split
    · rfl
    · dsimp only
      rw [h, Bool.false_and]
      exact if_neg Bool.false_ne_true

/-- A prepared line taken up by its slot 0 (04 R129). -/
def Chan.takesUp (c : Chan) (p : Period) (timebase : BitVec 64) : Chan :=
  { c with prepared := none, nextLine := p.line + 1, lastLine := p.line, lastTrig := timebase, lateUntil := 0 }

/-- A period that begins while its channel is held, or not (02 R77, 03 R91). -/
def Period.heldBy (p : Period) (hold : Bool) : Period := { p with held := hold }

/-- Slot 0 of a line that is due begins (03 R101, 04 R129). -/
theorem State.Drives.slotStart_first (h : s.Drives ch slot j) (hrunning : j.state = .running)
    (hover : ∀ f, (s.chan ch.val).firing = some f → f.ended = true ∧ f.period.plan.length ≤ f.slot + 1 ∧ f.period.cosy = false)
    (hprepared : (s.chan ch.val).prepared = some p) (hdue : p.due ≠ 0) (hsince : p.since < s.clock) (hlate : (s.chan ch.val).lateUntil ≤ s.clock) :
    exec (.slotStart ch) s = .next ((((s.modChan ch.val (fun c => c.takesUp (p.heldBy (s.chan ch.val).hold) s.timebase)).beginSlot ch.val
      (p.heldBy (s.chan ch.val).hold) 0).noteResume slot).passGone slot ch.val (s.chan ch.val).gone.length) := by
  have hcosy : ∀ g, (s.chan ch.val).firing = some g → g.period.cosy = false := fun g hg => by
    obtain ⟨-, -, hline⟩ := hover g hg
    exact hline
  have hwaits : ¬ (decide (p.due = 0) || decide (j.state ≠ .running) || decide (s.clock < (s.chan ch.val).lateUntil) || decide (s.clock ≤ p.since)) = true := by
    simp [hrunning, hdue]
    omega
  change execSlotStart ch s = _
  unfold execSlotStart
  dsimp only
  rw [State.cosyStop_of_line hcosy, filter_cosy_none hcosy]
  dsimp only
  rw [h.jobOf]
  dsimp only
  rw [h.job]
  dsimp only
  rw [h.off, if_neg Bool.false_ne_true, Chan.inPeriod_of_ended hover]
  dsimp only
  rw [hprepared]
  dsimp only
  rw [if_neg hwaits]
  rfl

/-- The channel as slot 0 of a line leaves it, and what it leaves alone. -/
theorem State.slotStart_first_eq {x : SlotPlan} (hn : n < 48) (hx : p.plan[0]? = some x) (hgone : (s.chan n).gone.contains (p.line + 1) = false) (slot k : Nat) :
    let t := ((((s.modChan n (fun c => c.takesUp p s.timebase)).beginSlot n p 0).noteResume slot).passGone slot n k)
    t.chan n = ((s.chan n).takesUp p s.timebase).slotBegun p 0 s.clock x (s.firesPeriod p) ∧ s.Elsewhere t n := by
  have hbegun := State.beginSlot_eq hx (s.modChan n (fun c => c.takesUp p s.timebase)) n
  rw [State.chan_modChan s n _ hn] at hbegun
  dsimp only
  generalize (s.modChan n (fun c => c.takesUp p s.timebase)).beginSlot n p 0 = u at *
  have hchan : u.chan n = ((s.chan n).takesUp p s.timebase).slotBegun p 0 s.clock x (s.firesPeriod p) := by
    rw [hbegun]
    exact State.chan_modChan _ n _ hn
  obtain ⟨hchans, hdrive⟩ := u.noteResume_lineParts slot
  have hsame (m : Nat) : (u.noteResume slot).chan m = u.chan m := State.chan_of_chans hchans m
  have hstays : (u.noteResume slot).passGone slot n k = u.noteResume slot := by
    refine State.passGone_none ?_ slot k
    rw [hsame, hchan]
    exact hgone
  rw [hstays, hsame]
  refine ⟨hchan, .of_drive (hdrive.trans ?_) fun m hm => ?_⟩
  · rw [hbegun]
    rfl
  · rw [hsame, hbegun, State.chan_modChan_ne _ n m _ (Ne.symm hm), State.chan_modChan_ne s n m _ (Ne.symm hm)]
    exact .of_eq rfl

/-! ### SLOT_END -/

/-- The slot being fired ended, its pads low (03 R100). -/
def Firing.over (f : Firing) : Firing := { f with ended := true, fireA := [], fireB := [] }

/-- What the end of a slot may do to its job: the stop line reached, the end of the job, the replies to its JOB_STOP (05 R189, R191). -/
def State.settles (s : State) (slot : Nat) : State := ((s.checkStopAt slot).checkEnded slot).answerStops slot

theorem State.checkStopAt_cases (s : State) (slot : Nat) : s.checkStopAt slot = s ∨ s.checkStopAt slot = s.enterStopped slot := by
  unfold State.checkStopAt
  split
  · exact .inl rfl
  · split
    · split
      · exact .inr rfl
      · exact .inl rfl
    · exact .inl rfl

/-- A job with a line in its fire period goes on. -/
theorem State.settles_of_busy (hjob : s.jobAt slot = some j) (hbusy : s.jobQuiet j = false) : s.settles slot = s := by
  have hstop : s.checkStopAt slot = s := by
    unfold State.checkStopAt
    rw [hjob]
    dsimp only
    split
    · rw [hbusy, Bool.and_false, Bool.false_and]
      exact if_neg Bool.false_ne_true
    · rfl
  have hend : s.checkEnded slot = s := by
    rw [State.checkEnded_eq hjob, State.linesOver, hbusy, Bool.and_false, Bool.false_and]
    exact if_neg Bool.false_ne_true
  have hanswers : s.answerStops slot = s := by
    unfold State.answerStops
    rw [hjob]
    dsimp only
    rw [hbusy, Bool.false_and]
    exact if_neg Bool.false_ne_true
  rw [State.settles, hstop, hend, hanswers]

theorem State.not_jobQuiet (hn : n ∈ j.chans) (hin : (s.chan n).inPeriod = some p) : s.jobQuiet j = false :=
  List.all_eq_false.2 ⟨n, hn, by simp [hin]⟩

/-- The end of a line in a job's last pass may stop or end the job: its counts stay, and only its own channels' levels and lines not begun change. -/
theorem State.settles_keeps (hjob : s.jobAt slot = some j) (hlast : j.lastPass = true) : (s.settles slot).drive = s.drive ∧
    s.Touches (s.settles slot) j.chans Chan.SamePads ∧ ∃ j', (s.settles slot).jobAt slot = some j' ∧ j'.completed = j.completed := by
  have hstop : (s.checkStopAt slot).drive = s.drive ∧ s.Touches (s.checkStopAt slot) j.chans Chan.SamePads ∧
      ∃ i, (s.checkStopAt slot).jobAt slot = some i ∧ i.completed = j.completed ∧ i.chans = j.chans ∧ i.lastPass = j.lastPass := by
    obtain h | h := s.checkStopAt_cases slot <;> rw [h]
    · exact ⟨rfl, .of_lineParts rfl, j, hjob, rfl, rfl, rfl⟩
    · obtain ⟨hi, -⟩ := State.enterStopped_jobs hjob
      exact ⟨s.enterStopped_drive slot, State.enterStopped_touches hjob, _, hi, rfl, rfl, rfl⟩
  unfold State.settles
  obtain ⟨hdrive, htouches, i, hi, hcount, hchans, hpass⟩ := hstop
  generalize s.checkStopAt slot = u at *
  have hended : (u.checkEnded slot).drive = u.drive ∧ u.Touches (u.checkEnded slot) j.chans Chan.SamePads ∧
      ∃ i', (u.checkEnded slot).jobAt slot = some i' ∧ i'.completed = i.completed := by
    refine ⟨u.checkEnded_drive slot, hchans ▸ State.checkEnded_touches hi, ?_⟩
    obtain h | ⟨-, h⟩ | ⟨hnot, -⟩ := State.checkEnded_cases hi
    · exact ⟨i, h.symm ▸ hi, rfl⟩
    · refine ⟨{ i with state := .ended }, ?_, rfl⟩
      rw [h, State.jobAt_of_lineParts (u.ended_lineParts _ _), State.jobAt_setJobState, hi]
      rfl
    · rw [hpass, hlast] at hnot
      cases hnot
  obtain ⟨hdrive', htouches', i', hi', hcount'⟩ := hended
  have hparts := (u.checkEnded slot).answerStops_lineParts slot
  refine ⟨((u.checkEnded slot).answerStops_drive slot).trans (hdrive'.trans hdrive), ?_, i', (State.jobAt_of_lineParts hparts slot).trans hi', hcount'.trans hcount⟩
  exact (htouches.trans Chan.SamePads.transitive htouches').trans Chan.SamePads.transitive (.of_lineParts hparts)

/-- A slot that ends, its line going on or over. -/
theorem State.Drives.slotEnd_eq (h : s.Drives ch slot j) (hfiring : (s.chan ch.val).firing = some f) (hline : f.period.cosy = false) (hbegun : f.ended = false)
    (hlen : f.start + (s.chan ch.val).slotLength f ≤ s.clock) : exec (.slotEnd ch) s = .next (State.settles
      (if f.period.plan.length ≤ f.slot + 1 then
        ((s.modChan ch.val (fun c => { c with firing := some f.over })).lineDone slot ch.val f.period.line
          (if f.period.held then .skipped 3 else if f.period.quiet then .dry else .fired)).modChan ch.val (fun c => c.leftLine f.period.line)
      else s.modChan ch.val (fun c => { c with firing := some f.over })) slot) := by
  have hnone : (s.chan ch.val).firing.filter (fun f => f.period.cosy) = none := by
    rw [hfiring]
    simp [hline]
  have hgo : ¬ (!s.inRun || f.ended || decide (s.clock < f.start + (s.chan ch.val).slotLength f)) = true := by
    rw [h.run, hbegun, decide_eq_false (by omega)]
    exact Bool.false_ne_true
  change execSlotEnd ch s = _
  unfold execSlotEnd
  dsimp only
  rw [hnone]
  dsimp only
  rw [h.jobOf]
  dsimp only
  rw [hfiring]
  dsimp only
  rw [if_neg hgo, if_pos h.stays]
  simp only [decide_eq_true_eq]
  rfl

end Sys2Proof.Machine
end

section
/-! SUPPORT. The end of a line on the only channel of its job (05 R189, R199). -/
namespace Sys2Proof.Machine
variable {s t u : State} {ch : Fin 48} {slot n line : Nat} {j : Job} {f : Firing}

theorem eq_of_mem_chans {m : Nat} (honly : j.channels = BitVec.ofNat 64 (2 ^ n)) (hm : m ∈ j.chans) : m = n := by
  obtain ⟨-, hbit⟩ := mem_chans.1 hm
  rw [honly, BitVec.getLsbD_ofNat, Nat.testBit_two_pow] at hbit
  simp at hbit
  omega

/-- The mark of a line that a channel fired. -/
def LineMark.firedOn (m : LineMark) (n : Nat) : LineMark := { m with fired := setBit m.fired n true }

/-- A line fired on the only channel of its job, in its last pass, is completed. -/
theorem Job.classify_completed (honly : j.channels = BitVec.ofNat 64 (2 ^ n)) (hlast : j.lastPass = true) (hmark : j.mark line = {}) :
    (j.classify line ((j.mark line).firedOn n)).completed = j.completed + 1 := by
  have hall : ((({} : LineMark).firedOn n).fired ||| (({} : LineMark).firedOn n).skipped ||| (({} : LineMark).firedOn n).incomplete) = j.channels := by
    simp [LineMark.firedOn, setBit, honly]
  rw [hmark]
  unfold Job.classify
  extract_lets rest x
  have hx : x = j := if_neg Bool.false_ne_true
  clear_value x
  subst hx
  rw [if_pos hall, hlast, Bool.not_true, if_neg Bool.false_ne_true]
  rfl

theorem Job.noteBar_completed (j : Job) (n line clock : Nat) : (j.noteBar n line clock).completed = j.completed := by
  unfold Job.noteBar
  split <;> rfl

theorem Job.spoilBar_completed (j : Job) (n line : Nat) : (j.spoilBar n line).completed = j.completed := by
  unfold Job.spoilBar
  split <;> rfl

/-- What a line fired, or fired with DRY, does to its job (05 R199, 04 R154). -/
theorem State.lineDone_fired (hjob : s.jobAt slot = some j) (dry : Bool) : ∃ x, (s.lineDone slot n line (if dry then .dry else .fired)).jobAt slot = some x ∧
    x.completed = (j.classify line ((j.mark line).firedOn n)).completed := by
  have hwritten (v : State) : (v.writeHeader slot).jobAt slot = v.jobAt slot := State.jobAt_of_lineParts (v.writeHeader_lineParts slot) slot
  have htwo (g h : Job → Job) : ((s.modJob slot g).modJob slot h).jobAt slot = some (h (g j)) := by
    rw [State.jobAt_modJob_self, State.jobAt_modJob_self, hjob]
    rfl
  cases dry with
  | true =>
    exact ⟨(j.classify line ((j.mark line).firedOn n)).spoilBar n line, (hwritten _).trans (htwo (fun x => x.classify line ((x.mark line).firedOn n))
      (fun x => x.spoilBar n line)), Job.spoilBar_completed _ _ _⟩
  | false =>
    exact ⟨(j.classify line ((j.mark line).firedOn n)).noteBar n line s.clock, (hwritten _).trans (htwo (fun x => x.classify line ((x.mark line).firedOn n))
      (fun x => x.noteBar n line s.clock)), Job.noteBar_completed _ _ _ _⟩

/-- The channel's only line ended: its job counts it, and but for that channel nothing moves. -/
theorem State.Drives.slotEnd_last (h : s.Drives ch slot j) (hfiring : (s.chan ch.val).firing = some f) (hline : f.period.cosy = false) (hbegun : f.ended = false)
    (hlen : f.start + (s.chan ch.val).slotLength f ≤ s.clock) (hover : f.period.plan.length ≤ f.slot + 1) (hheld : f.period.held = false)
    (honly : j.channels = BitVec.ofNat 64 (2 ^ ch.val)) (hlast : j.lastPass = true) (hmark : j.mark f.period.line = {}) :
    ∃ t j', exec (.slotEnd ch) s = .next t ∧ (t.chan ch.val).firing = some f.over ∧ t.jobAt slot = some j' ∧ j'.completed = j.completed + 1 ∧
      s.Elsewhere t ch.val := by
  have hexec := h.slotEnd_eq hfiring hline hbegun hlen
  rw [if_pos hover, hheld, if_neg Bool.false_ne_true] at hexec
  have hended : (s.modChan ch.val (fun c => { c with firing := some f.over })).jobAt slot = some j := h.job
  have hchan : ((s.modChan ch.val (fun c => { c with firing := some f.over })).chan ch.val).firing = some f.over := by
    rw [State.chan_modChan s ch.val _ ch.isLt]
  have helse := s.modChan_elsewhere ch.val (fun c => { c with firing := some f.over })
  have hdrive : (s.modChan ch.val (fun c => { c with firing := some f.over })).drive = s.drive := rfl
  generalize s.modChan ch.val (fun c => { c with firing := some f.over }) = u at *
  obtain ⟨x, hx, hcount⟩ := State.lineDone_fired (n := ch.val) (line := f.period.line) hended f.period.quiet
  have hdone := u.lineDone_sameJobs slot ch.val f.period.line (if f.period.quiet then .dry else .fired)
  have hchans := u.lineDone_chan slot ch.val f.period.line (if f.period.quiet then .dry else .fired)
  have hkept := u.lineDone_drive slot ch.val f.period.line (if f.period.quiet then .dry else .fired)
  generalize u.lineDone slot ch.val f.period.line (if f.period.quiet then .dry else .fired) = v at *
  obtain ⟨y, hy, hlasting⟩ := hdone.job hended
  obtain rfl : x = y := Option.some.inj (hx.symm.trans hy)
  have hpass : x.lastPass = true := (congrArg (fun z : BitVec 16 × ChMask × Nat × Nat × Nat × CompTable × JobState × Bool => z.2.2.2.2.2.2.2) hlasting).trans hlast
  have hleft : (v.modChan ch.val (fun c => c.leftLine f.period.line)).jobAt slot = some x := hx
  obtain ⟨hsettled, htouches, z, hz, hsum⟩ := State.settles_keeps hleft hpass
  have hfirings : ((v.modChan ch.val (fun c => c.leftLine f.period.line)).chan ch.val).firing = some f.over := by
    rw [State.chan_modChan v ch.val _ ch.isLt]
    obtain h | ⟨-, h⟩ := hchans ch.val <;> exact (congrArg Chan.firing h).trans hchan
  refine ⟨_, z, hexec, ?_, hz, hsum.trans (hcount.trans (Job.classify_completed honly hlast hmark)), .of_drive (hsettled.trans (Eq.trans rfl (hkept.trans hdrive))) fun m hm => ?_⟩
  · exact (congrArg Prod.fst (htouches.everywhere (fun _ => rfl) ch.val)).trans hfirings
  · have hout : m ∉ x.chans := fun hin => hm (eq_of_mem_chans honly (Job.chans_of_lasting hlasting ▸ hin))
    rw [htouches.outside hout, State.chan_modChan_ne v _ m _ (Ne.symm hm), (hchans m).resolve_right fun hg => hm hg.1]
    exact helse.chans m hm

/-- A slot of a line that goes on ends, and nothing else moves. -/
theorem State.Drives.slotEnd_next (h : s.Drives ch slot j) (hfiring : (s.chan ch.val).firing = some f) (hline : f.period.cosy = false) (hbegun : f.ended = false)
    (hlen : f.start + (s.chan ch.val).slotLength f ≤ s.clock) (hslots : f.slot + 1 < f.period.plan.length) :
    exec (.slotEnd ch) s = .next (s.modChan ch.val (fun d => { d with firing := some f.over })) := by
  have hexec := h.slotEnd_eq hfiring hline hbegun hlen
  rw [if_neg (by omega)] at hexec
  have hin : ((s.modChan ch.val (fun d => { d with firing := some f.over })).chan ch.val).inPeriod = some f.period := by
    rw [State.chan_modChan s ch.val _ ch.isLt]
    exact Chan.inPeriod_of_slots (f := f.over) rfl hline hslots
  rwa [State.settles_of_busy (s := s.modChan ch.val _) h.job (State.not_jobQuiet h.mem hin)] at hexec

end Sys2Proof.Machine
end

section
/-! SUPPORT. PREPARATION_POINT: the hand-over, the plan of the packed line, the packing pass of the next one (03 R97-R99, 04 R142, R143, 05 R161). -/
namespace Sys2Proof.Machine
variable {s t u : State} {ch : Fin 48} {slot n line clock : Nat} {j : Job} {c d : Chan} {f f2 : FifoLine} {rest : List FifoLine} {codes : List Code}

/-! ### The hand-over at a line's boundary -/

/-- Nothing of a channel differs but what commits and the taking of a set change (04 R142, R143, R145). -/
def Chan.SameButArm (c d : Chan) : Prop := d = { c with
  armed := d.armed, armedAt := d.armedAt, earlier := d.earlier, fixedSet := d.fixedSet, taken := d.taken, handoverClock := d.handoverClock, collide := d.collide }

theorem Chan.SameButArm.trans {e : Chan} (h : c.SameButArm d) (g : d.SameButArm e) : c.SameButArm e := by
  unfold Chan.SameButArm at *
  rw [g, h]

theorem Chan.takes_sameButArm (c : Chan) (set : ShadowSet) (line clock : Nat) : c.SameButArm (c.takes set line clock) := by
  unfold Chan.takes
  split <;> rfl

/-- A hand-over that begins on a channel: commits and the set taken, counters and pulses. -/
structure State.HandsOver (s t : State) (n : Nat) : Prop where
  rest : s.SameButHandOvers t
  self : (s.chan n).SameButArm (t.chan n)
  others : ∀ m, m ≠ n → t.chan m = s.chan m

theorem State.HandsOver.refl (s : State) (n : Nat) : s.HandsOver s n := ⟨rfl, rfl, fun _ _ => rfl⟩

theorem State.HandsOver.trans (h : s.HandsOver t n) (g : t.HandsOver u n) : s.HandsOver u n :=
  ⟨h.rest.trans g.rest, h.self.trans g.self, fun m hm => (g.others m hm).trans (h.others m hm)⟩

theorem State.modChan_handsOver {g : Chan → Chan} (hg : ∀ c : Chan, c.SameButArm (g c)) (s : State) (n : Nat) : s.HandsOver (s.modChan n g) n := by
  refine ⟨rfl, ?_, fun m hm => State.chan_modChan_ne s n m g (Ne.symm hm)⟩
  obtain h | ⟨-, -, h⟩ := s.chan_modChan_cases n n g <;> rw [h]
  · rfl
  · exact hg _

theorem State.collides_handsOver (s : State) (n : Nat) : s.HandsOver (s.collides n) n := by
  have harmed := State.modChan_handsOver (g := fun c => { c.arm .next s.clock with collide := true }) (fun _ => rfl) s n
  have hchan (m : Nat) : (s.collides n).chan m = (s.modChan n (fun c => { c.arm .next s.clock with collide := true })).chan m := State.chan_raise _ _ _
  refine ⟨?_, (hchan n).symm ▸ harmed.self, fun m hm => (hchan m).trans (harmed.others m hm)⟩
  exact harmed.rest.trans (State.SameButHandOvers.trans (State.raise_sameButHandOvers 0x1E) rfl)

theorem State.beginHandOver_handsOver (s : State) (n line : Nat) : s.HandsOver (s.beginHandOver n line) n := by
  unfold State.beginHandOver
  dsimp only
  split
  · next set _ =>
    refine (State.modChan_handsOver (fun c => c.takes_sameButArm set line s.clock) s n).trans ?_
    exact foldl_rel (R := fun s t => s.HandsOver t n) (fun s => .refl s n) .trans (fun s _ => s.collides_handsOver n) _ _
  · exact .refl s n

/-- No commit governs the boundary: no set is taken. -/
theorem State.beginHandOver_none (h : (s.chan n).armAt s.clock = none) (line : Nat) : s.beginHandOver n line = s := by
  have hnone : (s.chan n).takenAt line s.clock = none := by
    unfold Chan.takenAt
    rw [h]
  unfold State.beginHandOver
  dsimp only
  rw [hnone]

/-- A commit whose arm governs the boundary, no set fixed for it and no write landing now: the shadow set is taken (04 R142, R143). -/
theorem State.beginHandOver_takes {a : Arm} (harm : (s.chan n).armAt s.clock = some (a, none)) (hline : ∀ l, a = .line l → l ≤ line)
    (hwrites : ∀ x, (s.chan n).recent = some x → x.1 < s.clock) :
    s.beginHandOver n line = s.modChan n (fun c => c.takes (s.chan n).shadow line s.clock) := by
  have hnow : (s.chan n).shadowBefore s.clock = (s.chan n).shadow ∧ (s.chan n).writesAt s.clock = 0 := by
    unfold Chan.shadowBefore Chan.writesAt
    cases hrecent : (s.chan n).recent with
    | none => exact ⟨rfl, rfl⟩
    | some x =>
      have hx := hwrites x hrecent
      exact ⟨if_neg (by omega), if_neg (by omega)⟩
  obtain ⟨hshadow, hnone⟩ := hnow
  have htaken : (s.chan n).takenAt line s.clock = some (s.chan n).shadow := by
    unfold Chan.takenAt
    rw [harm]
    cases a with
    | line l => exact (if_pos (hline l rfl)).trans (congrArg some hshadow)
    | next => exact congrArg some hshadow
    | idle => exact congrArg some hshadow
  unfold State.beginHandOver
  dsimp only
  rw [htaken, hnone]
  rfl

theorem Chan.armAt_before (h : c.armedAt < clock) : c.armAt clock = c.armed.map (fun x => (x, c.fixedSet)) := if_pos h
theorem Chan.armAt_now (h : clock ≤ c.armedAt) : c.armAt clock = c.earlier := if_neg (Nat.not_lt.2 h)

/-! ### The plan of a line -/

theorem Chan.length_planSlots (c : Chan) (sel : ShadowSet) (k : Comp) (slots : List (List Nat)) (floor : Nat) : (c.planSlots sel k slots floor).length = slots.length := by
  simp [Chan.planSlots, Chan.lengths]

/-- The first slot planned drives the groups of the first slot. -/
theorem Chan.planSlots_groups {sel : ShadowSet} {k : Comp} {slots : List (List Nat)} {floor : Nat} {x : SlotPlan} {r : List SlotPlan}
    (h : c.planSlots sel k slots floor = x :: r) : x.groups = slots.headD [] := by
  cases slots with
  | nil => simp [Chan.planSlots] at h
  | cons g slots =>
    simp only [Chan.planSlots, Chan.lengths, List.zipIdx_cons, List.map_cons, List.zip_cons_cons, List.cons.injEq] at h
    rw [← h.1]
    rfl

/-- The period that a channel's packed line becomes (03 R97-R100). -/
def Chan.periodOf (c : Chan) (f : FifoLine) (codes : List Code) (tHead : Int) (clock : Nat) : Period :=
  let g := c.gEffAt (c.rotation c.live.rot) c.applied
  let slots := (c.rotation c.live.rot).derived g
  { line := f.line, raw := f.codes, codes := codes, quiet := c.dry, held := c.hold, due := c.dueEarly, since := clock, cosy := false
    plan := c.planSlots (c.selFor f.line) (Comp.at tHead) slots (tFloor c.applied c.rateMax slots.length) }

theorem Chan.prepare_prepared (c : Chan) (f : FifoLine) (codes : List Code) (tHead : Int) (clock : Nat) :
    (c.prepare f codes tHead clock).prepared = some (c.periodOf f codes tHead clock) := rfl

/-- The frame of slot 0 is shifted at the preparation point (03 R99). -/
theorem Chan.prepare_frame {tHead : Int} {x : SlotPlan} {r : List SlotPlan} (h : (c.periodOf f codes tHead clock).plan = x :: r) :
    (c.prepare f codes tHead clock).frame = frameOf c.nozzles (if c.hold then [] else codes) x.groups := by
  rw [Chan.planSlots_groups h]
  unfold Chan.prepare
  dsimp only
  cases (c.rotation c.live.rot).derived (c.gEffAt (c.rotation c.live.rot) c.applied) <;> rfl

theorem Chan.length_periodOf (c : Chan) (f : FifoLine) (codes : List Code) (tHead : Int) (clock : Nat) :
    (c.periodOf f codes tHead clock).plan.length = ((c.rotation c.live.rot).derived (c.gEffAt (c.rotation c.live.rot) c.applied)).length :=
  c.length_planSlots _ _ _ _

/-! ### The packing pass of the next line -/

theorem Chan.settleMaps_maps (c : Chan) (low : Nat) : c.SameButMaps (c.settleMaps low) := rfl

theorem State.pruneMaps_eq (s : State) (j : Job) (n : Nat) : (s.pruneMaps j n).drive = s.drive ∧ ∀ m, (s.chan m).SameButMaps ((s.pruneMaps j n).chan m) := by
  have hset (v : State) (k low m : Nat) : (v.chan m).SameButMaps ((v.modChan k (fun c => c.settleMaps low)).chan m) := by
    obtain h | ⟨-, -, h⟩ := v.chan_modChan_cases k m (fun c => c.settleMaps low) <;> rw [h]
    · exact .of_eq rfl
    · exact Chan.settleMaps_maps _ _
  unfold State.pruneMaps
  split
  · exact ⟨rfl, fun m => (hset s n _ m).trans (hset _ _ _ m)⟩
  · exact ⟨rfl, fun m => .of_eq rfl⟩

/-- A line taken from a channel's FIFO and packed (05 R161). -/
def Chan.packs (f : FifoLine) (rest : List FifoLine) (codes : List Code) (c : Chan) : Chan := { c with fifo := rest, packed := some (f, codes) }

/-- The packing pass of a line that stands first in its FIFO, its words good. -/
theorem State.packLine_packs (hjob : s.jobAt slot = some j) (hbeyond : j.beyond line = false) (hgone : (s.chan n).gone.contains line = false)
    (hfree : (s.chan n).packed = none) (hshot : s.shot 22 = false) (hfifo : (s.chan n).fifo = f :: rest) (hline : f.line = line) :
    ∃ codes, s.packLine slot n line [] = (s.modFifo slot n (Chan.packs f rest codes)).pruneMaps j n := by
  have hgo : ¬ (j.beyond line || (s.chan n).gone.contains line || (s.chan n).packed.isSome) = true := by
    rw [hbeyond, hgone, hfree]
    exact Bool.false_ne_true
  have hdetect : (if s.lowestRunning = some slot && !(s.chan n).hold && s.webAtSpeed j then s.detect 22 false else (false, s)) = (false, s) := by
    rw [State.detect_eq s 22 false hshot]
    exact ite_self _
  refine ⟨s.packedCodes j n line f.codes [], ?_⟩
  unfold State.packLine
  rw [hjob]
  dsimp only
  refine (if_neg hgo).trans ?_
  rw [hdetect, hfifo]
  dsimp only
  rw [hline, decide_eq_true rfl]
  exact if_pos rfl

/-! ### The preparation point -/

/-- The state in which the packing pass of the next line is made. -/
def State.prepares (s : State) (n : Nat) (f : FifoLine) (codes : List Code) : State :=
  (s.beginHandOver n f.line).modChan n (fun c => c.prepare f codes (s.headSensor n).shown s.clock)

/-- A preparation point of a packed line: what the packing pass leaves, where a line is packed. -/
theorem State.Drives.preparationPoint_eq (h : s.Drives ch slot j) (hrunning : j.state = .running) (hmay : (s.chan ch.val).mayPrepare = true)
    (hpacked : (s.chan ch.val).packed = some (f, codes)) (hnext : (((s.prepares ch.val f codes).packLine slot ch.val (f.line + 1) []).chan ch.val).packed.isSome = true) :
    exec (.preparationPoint ch ⟨[], [], []⟩) s = .next ((s.prepares ch.val f codes).packLine slot ch.val (f.line + 1) []) := by
  have hgo : ¬ (!s.inRun || decide (j.state ≠ .running) || !(s.chan ch.val).mayPrepare || s.shutdownLatched ch.val || decide ((s.chan ch.val).shutAtSlot ≠ 0) ||
      s.pwr.blockHeld.getLsbD (ch.val / 4)) = true := by
    rw [h.run, hmay, h.safe, h.free, decide_eq_false (not_not.2 h.stays), decide_eq_false (not_not.2 hrunning)]
    exact Bool.false_ne_true
  change execPreparationPoint ch ⟨[], [], []⟩ s = _
  unfold execPreparationPoint
  dsimp only
  rw [h.jobOf]
  dsimp only
  rw [h.job]
  dsimp only
  rw [if_neg hgo, hpacked]
  exact congrArg Host.Outcome.next (if_pos hnext)

/-- What a hand-over that begins leaves of the state and of its channel. -/
theorem State.HandsOver.parts (h : s.HandsOver t n) : t.drive = s.drive ∧ t.jobs = s.jobs ∧ t.shot 22 = s.shot 22 := by
  have hrest := h.rest
  unfold State.SameButHandOvers at hrest
  rw [hrest]
  exact ⟨rfl, rfl, rfl⟩

theorem Chan.SameButArm.lines (h : c.SameButArm d) : d.fifo = c.fifo ∧ d.gone = c.gone := by
  unfold Chan.SameButArm at h
  rw [h]
  exact ⟨rfl, rfl⟩

/-- A preparation point of a packed line, the next one in its FIFO: the line prepared, the next one packed, and nothing else but maps. -/
theorem State.Drives.preparationPoint_prepares (h : s.Drives ch slot j) (hrunning : j.state = .running) (hmay : (s.chan ch.val).mayPrepare = true)
    (hpacked : (s.chan ch.val).packed = some (f, codes)) (hfifo : (s.chan ch.val).fifo = f2 :: rest) (hnext : f2.line = f.line + 1) (hshot : s.shot 22 = false)
    (hbeyond : j.beyond (f.line + 1) = false) (hgone : (s.chan ch.val).gone.contains (f.line + 1) = false) :
    ∃ t codes2, exec (.preparationPoint ch ⟨[], [], []⟩) s = .next t ∧ s.Elsewhere t ch.val ∧
      ((((s.beginHandOver ch.val f.line).chan ch.val).prepare f codes (s.headSensor ch.val).shown s.clock).packs f2 rest codes2).SameButMaps (t.chan ch.val) := by
  have hexec := h.preparationPoint_eq hrunning hmay hpacked
  have hover := s.beginHandOver_handsOver ch.val f.line
  unfold State.prepares at hexec
  generalize s.beginHandOver ch.val f.line = u at *
  obtain ⟨hdrive, hjobs, hshots⟩ := hover.parts
  obtain ⟨hfifos, hgones⟩ := hover.self.lines
  have hprepared := State.chan_modChan u ch.val (fun c => c.prepare f codes (s.headSensor ch.val).shown s.clock) ch.isLt
  have hother (m : Nat) (hm : m ≠ ch.val) := (State.chan_modChan_ne u ch.val m (fun c => c.prepare f codes (s.headSensor ch.val).shown s.clock) (Ne.symm hm)).trans
    (hover.others m hm)
  have hjob : (u.modChan ch.val (fun c => c.prepare f codes (s.headSensor ch.val).shown s.clock)).jobAt slot = some j := (State.jobAt_of_jobs hjobs slot).trans h.job
  have hshot' : (u.modChan ch.val (fun c => c.prepare f codes (s.headSensor ch.val).shown s.clock)).shot 22 = false := hshots.trans hshot
  have hdrive' : (u.modChan ch.val (fun c => c.prepare f codes (s.headSensor ch.val).shown s.clock)).drive = s.drive := Eq.trans rfl hdrive
  generalize u.modChan ch.val (fun c => c.prepare f codes (s.headSensor ch.val).shown s.clock) = v at *
  have hgone' : (v.chan ch.val).gone.contains (f.line + 1) = false := by
    rw [hprepared, ← hgone, ← hgones]
    rfl
  have hfifo' : (v.chan ch.val).fifo = f2 :: rest := (congrArg Chan.fifo hprepared).trans (hfifos.trans hfifo)
  obtain ⟨codes2, hpacks⟩ := State.packLine_packs hjob hbeyond hgone' (congrArg Chan.packed hprepared) hshot' hfifo' hnext
  obtain ⟨hpruned, hmaps⟩ := (v.modFifo slot ch.val (Chan.packs f2 rest codes2)).pruneMaps_eq j ch.val
  have hchan : ((v.modFifo slot ch.val (Chan.packs f2 rest codes2)).chan ch.val) = (v.chan ch.val).packs f2 rest codes2 :=
    (State.chan_of_lineParts (v.modFifo_lineParts slot ch.val _) ch.val).trans (State.chan_modChan v ch.val _ ch.isLt)
  have hself := hmaps ch.val
  rw [hpacks] at hexec
  rw [hchan, hprepared] at hself
  refine ⟨_, codes2, hexec ?_, .of_drive (hpruned.trans ((v.modFifo_drive slot ch.val _).trans hdrive')) fun m hm => ?_, hself⟩
  · unfold Chan.SameButMaps at hself
    rw [hself]
    rfl
  · have hkept := hmaps m
    rwa [State.chan_of_lineParts (v.modFifo_lineParts slot ch.val _) m, State.chan_modChan_ne v _ m _ (Ne.symm hm), hother m hm] at hkept

end Sys2Proof.Machine
end

section
/-! SUPPORT. O38: preparation points, slots and their ends (03 R88-R101, 04 R142, R143, R154). -/
namespace Sys2Proof.Machine
variable {s t : State} {ch : Fin 48} {slot n line clock : Nat} {j : Job} {c d e : Chan} {f f2 : FifoLine} {rest : List FifoLine} {codes codes2 : List Code}

/-- A channel as a preparation point leaves it, but for the commits that govern it. -/
structure Chan.Prepared (c e : Chan) (f f2 : FifoLine) (codes : List Code) (rest : List FifoLine) (clock : Nat) : Prop where
  period : ∃ p, e.prepared = some p ∧ p.line = f.line ∧ p.codes = codes ∧ p.since = clock ∧ p.quiet = c.dry ∧ p.held = c.hold ∧ p.due = c.dueEarly ∧
    p.plan.length = ((c.rotation c.live.rot).derived e.gEff).length ∧
    ∀ x r, p.plan = x :: r → e.frame = frameOf c.nozzles (if c.hold then [] else codes) x.groups
  gEff : e.gEff = c.gEffAt (c.rotation c.live.rot) c.applied
  latClocks : e.latClocks = 8
  packed : ∃ codes2, e.packed = some (f2, codes2)
  fifo : e.fifo = rest
  live : e.live = c.live

theorem Chan.prepare_prepares (c : Chan) (tHead : Int) : c.Prepared ((c.prepare f codes tHead clock).packs f2 rest codes2) f f2 codes rest clock where
  period := ⟨c.periodOf f codes tHead clock, rfl, rfl, rfl, rfl, rfl, rfl, rfl, c.length_periodOf _ _ _ _, fun _ _ hplan => Chan.prepare_frame hplan⟩
  gEff := rfl
  latClocks := rfl
  packed := ⟨codes2, rfl⟩
  fifo := rfl
  live := rfl


/-- Maps that wait for a line are no part of what a preparation point does. -/
theorem Chan.Prepared.of_maps (h : c.Prepared d f f2 codes rest clock) (hmaps : d.SameButMaps e) : c.Prepared e f f2 codes rest clock := by
  obtain ⟨hperiod, hgEff, hlat, hpacked, hfifo, hlive⟩ := h
  unfold Chan.SameButMaps at hmaps
  rw [hmaps]
  exact ⟨hperiod, hgEff, hlat, hpacked, hfifo, hlive⟩

/-- The commits that a hand-over changes are no part of it either. -/
theorem Chan.Prepared.of_arm (h : d.Prepared e f f2 codes rest clock) (harm : c.SameButArm d) : c.Prepared e f f2 codes rest clock := by
  obtain ⟨hperiod, hgEff, hlat, hpacked, hfifo, hlive⟩ := h
  unfold Chan.SameButArm at harm
  rw [harm] at hperiod hgEff hlive
  exact ⟨hperiod, hgEff, hlat, hpacked, hfifo, hlive⟩

/-- The preparation point leaves the commits and the set taken as the hand-over left them. -/
theorem Chan.packs_taken {tHead : Int} (hmaps : ((c.prepare f codes tHead clock).packs f2 rest codes2).SameButMaps e) : e.taken = c.taken ∧ e.armed = c.armed := by
  unfold Chan.SameButMaps at hmaps
  rw [hmaps]
  exact ⟨rfl, rfl⟩

theorem Chan.takes_before {set : ShadowSet} (hbefore : c.armedAt < clock) (hfixed : c.fixedSet = none) :
    (c.takes set line clock).taken = some (set, line, clock) ∧ (c.takes set line clock).armed = none := by
  unfold Chan.takes
  rw [if_pos hbefore, hfixed]
  exact ⟨rfl, rfl⟩

theorem Chan.takes_now {set : ShadowSet} (hnow : clock ≤ c.armedAt) :
    (c.takes set line clock).taken = some (set, line, clock) ∧ (c.takes set line clock).armed = c.armed := by
  unfold Chan.takes
  rw [if_neg (Nat.not_lt.2 hnow)]
  exact ⟨rfl, rfl⟩

/-- The commits that govern a line's boundary: an arm of an earlier clock is taken, and so is the earlier arm where this clock has armed again; without one
the commits stay (04 R142, R143; log entry 31). -/
theorem State.beginHandOver_chan (hn : n < 48) (s : State) (line : Nat) :
    ((∃ a, (s.chan n).armed = some a ∧ ∀ l, a = .line l → l ≤ line) → (s.chan n).fixedSet = none → (s.chan n).armedAt < s.clock →
      (∀ x, (s.chan n).recent = some x → x.1 < s.clock) →
      ((s.beginHandOver n line).chan n).taken = some ((s.chan n).shadow, line, s.clock) ∧ ((s.beginHandOver n line).chan n).armed = none) ∧
    (s.clock ≤ (s.chan n).armedAt → (s.chan n).earlier = some (.next, none) → (∀ x, (s.chan n).recent = some x → x.1 < s.clock) →
      ((s.beginHandOver n line).chan n).taken = some ((s.chan n).shadow, line, s.clock) ∧ ((s.beginHandOver n line).chan n).armed = (s.chan n).armed) ∧
    (((s.chan n).armedAt < s.clock ∧ (s.chan n).armed = none) ∨ (s.clock ≤ (s.chan n).armedAt ∧ (s.chan n).earlier = none) →
      s.beginHandOver n line = s) := by
  refine ⟨fun ⟨a, harmed, hline⟩ hfixed hbefore hwrites => ?_, fun hnow hearlier hwrites => ?_, fun hnone => State.beginHandOver_none ?_ line⟩
  · have harm : (s.chan n).armAt s.clock = some (a, none) := by
      rw [Chan.armAt_before hbefore, harmed, hfixed]
      rfl
    rw [State.beginHandOver_takes harm hline hwrites, State.chan_modChan s n _ hn]
    exact Chan.takes_before hbefore hfixed
  · have harm : (s.chan n).armAt s.clock = some (.next, none) := (Chan.armAt_now hnow).trans hearlier
    rw [State.beginHandOver_takes harm (fun l hl => by cases hl) hwrites, State.chan_modChan s n _ hn]
    exact Chan.takes_now hnow
  · rcases hnone with ⟨hbefore, hnone⟩ | ⟨hnow, hnone⟩
    · rw [Chan.armAt_before hbefore, hnone]
      rfl
    · rw [Chan.armAt_now hnow, hnone]

/-- Slot 0 of a line taken up: its period, its pulses and its frame (03 R90-R93). -/
theorem Chan.slotBegun_first {p : Period} {x : SlotPlan} {fires : Bool} :
    ∃ g, (c.slotBegun p 0 clock x fires).firing = some g ∧ g.period.line = p.line ∧ g.slot = 0 ∧ g.start = clock ∧ g.ended = false ∧ g.mask = groupMask x.groups ∧
      (fires = true → g.fireA = x.fireA ∧ g.fireB = x.fireB) ∧ (fires = false → g.fireA = [] ∧ g.fireB = []) := by
  refine ⟨_, rfl, rfl, rfl, rfl, rfl, rfl, fun h => ?_, fun h => ?_⟩ <;> rw [h] <;> exact ⟨rfl, rfl⟩

theorem Chan.slotBegun_frame {p : Period} {x y : SlotPlan} {k : Nat} {fires : Bool} (hy : p.plan[k + 1]? = some y) :
    (c.slotBegun p k clock x fires).frame = frameOf c.nozzles (if p.held then [] else p.codes) y.groups := by
  unfold Chan.slotBegun
  rw [hy]

/-- Settles O38: the preparation point is a hand-over, a plan and a packing pass; a slot that begins changes its channel alone; a slot that ends may settle its job. -/
theorem periodsAndSlots : Obligations.PeriodsAndSlots := by
  unfold Obligations.PeriodsAndSlots
  intro s ch slot j hrun hjobOf hjob hsafe hstays hfree c others
  have h : s.Drives ch slot j := ⟨hrun, hjobOf, hjob, hsafe, hstays, hfree⟩
  have elsewhere {t : State} (ht : s.Elsewhere t ch.val) : others t := ⟨ht.axes, ht.ilk, fun m _ hm => ht.chans m hm⟩
  refine ⟨fun f codes f2 rest hrunning hmay hpacked hfifo hnext hshot hbeyond hgone => ?_,
    fun p x r hrunning hover hprepared hdue hsince hplan hlate hgone => ?_, fun f x y hfiring hline hx hy hlen hpos => ?_,
    fun f hfiring hline hbegun hlen => ⟨fun hslots => h.slotEnd_next hfiring hline hbegun hlen hslots, fun hover hheld honly hlast hmark => ?_⟩⟩
  · obtain ⟨t, codes2, hexec, helse, hmaps⟩ := h.preparationPoint_prepares hrunning hmay hpacked hfifo hnext hshot hbeyond hgone
    obtain ⟨hbefore, hnow, hnone⟩ := State.beginHandOver_chan ch.isLt s f.line
    obtain ⟨htaken, harmed⟩ := Chan.packs_taken hmaps
    have hprep : c.Prepared (t.chan ch.val) f f2 codes rest s.clock :=
      ((Chan.prepare_prepares _ _).of_maps hmaps).of_arm (s.beginHandOver_handsOver ch.val f.line).self
    obtain ⟨⟨p, hp, hpline, hpcodes, hpsince, hpquiet, hpheld, hpdue, hplan, hframe⟩, hgEff, hlat, hnextPacked, hrest, hlive⟩ := hprep
    rw [← htaken, ← harmed] at hbefore hnow
    refine ⟨t, p, hexec, hp, hpline, hpcodes, hpsince, hpquiet, hpheld, hpdue, hgEff, hplan, hframe, hlat, hnextPacked, hrest, hlive,
      fun harm hfixed hclock hwrites => hbefore ?_ hfixed hclock hwrites, fun x hclock hearlier hrecent hx => hnow hclock hearlier fun y hy => ?_,
      fun hunarmed => ?_, elsewhere helse⟩
    · rcases harm with harm | ⟨l, harm, hl⟩
      · exact ⟨_, harm, fun l hl => by cases hl⟩
      · exact ⟨_, harm, fun k hk => by cases hk; exact hl⟩
    · rw [hrecent] at hy
      cases hy
      exact hx
    · rw [htaken, harmed, hnone hunarmed]
      exact ⟨rfl, rfl⟩
  · have hx : (p.heldBy c.hold).plan[0]? = some x := by
      rw [show (p.heldBy c.hold).plan = x :: r from hplan]
      rfl
    obtain ⟨hchan, helse⟩ := State.slotStart_first_eq ch.isLt hx hgone slot c.gone.length
    obtain ⟨g, hg, hline, hslot, hstart, hended, hmask, hdriven, hlow⟩ := Chan.slotBegun_first (c := c.takesUp (p.heldBy c.hold) s.timebase) (p := p.heldBy c.hold)
      (clock := s.clock) (x := x) (fires := s.firesPeriod (p.heldBy c.hold))
    have hexec := h.slotStart_first hrunning hover hprepared hdue hsince hlate
    have hfires : s.firesPeriod (p.heldBy c.hold) = (s.gateOpen && !p.quiet && !c.hold) := rfl
    rw [hfires] at hdriven hlow
    refine ⟨_, g, hexec, (congrArg Chan.firing hchan).trans hg, hline, hslot, hstart, hended, hmask, fun hgate hquiet hhold => hdriven (by simp [hgate, hquiet, hhold]),
      fun hoff => hlow ?_, fun y r' hr => ?_, (congrArg Chan.prepared hchan).trans rfl, (congrArg Chan.nextLine hchan).trans rfl,
      (congrArg Chan.lastLine hchan).trans rfl, (congrArg Chan.lastTrig hchan).trans rfl, elsewhere helse⟩
    · rcases hoff with hoff | hoff | hoff <;> simp [hoff]
    · have hy : (p.heldBy c.hold).plan[0 + 1]? = some y := by
        rw [show (p.heldBy c.hold).plan = x :: r from hplan, hr]
        rfl
      exact (congrArg Chan.frame hchan).trans (Chan.slotBegun_frame hy)
  · have hbegin := State.beginSlot_eq hy s ch.val
    have hchan := State.chan_modChan s ch.val (fun _ => c.slotBegun f.period (f.slot + 1) s.clock y (s.firesPeriod f.period)) ch.isLt
    refine ⟨_, _, (h.slotStart_next hfiring hline hx hy hlen hpos).trans (congrArg _ hbegin), congrArg Chan.firing hchan, rfl, rfl, rfl, rfl,
      (congrArg Chan.prepared hchan).trans rfl,
      elsewhere (s.modChan_elsewhere _ _)⟩
  · obtain ⟨t, j', hexec, hfirings, hself, hcount, helse⟩ := h.slotEnd_last hfiring hline hbegun hlen hover hheld honly hlast hmark
    exact ⟨t, j', hexec, hfirings, hself, hcount, elsewhere helse⟩

end Sys2Proof.Machine
end

section
/-! SUPPORT. Encoders: the counts, the velocity estimate, the interpolator's holds (04 R117-R121). -/
namespace Sys2Proof.Machine
variable {s : State} {e : Fin 8} {x : Encoder} {a b up : Bool}

/-- Levels of which one changed: the input that leads gives the direction (04 R117). -/
theorem Encoder.moveTo_one (h : (a ≠ x.a ∧ b = x.b ∧ up = (a != b)) ∨ (a = x.a ∧ b ≠ x.b ∧ up = (a == b))) :
    x.moveTo a b = some (if up then .up else .down) := by
  unfold Encoder.moveTo
  rcases h with ⟨ha, rfl, rfl⟩ | ⟨rfl, hb, rfl⟩
  · simp [ha]
  · simp [hb]

/-- A transition of both inputs (04 R118). -/
theorem Encoder.moveTo_both (ha : a ≠ x.a) (hb : b ≠ x.b) : x.moveTo a b = some .both := by
  simp [Encoder.moveTo, ha, hb]

theorem Encoder.moveTo_same (x : Encoder) : x.moveTo x.a x.b = none := by
  simp [Encoder.moveTo]

/-- An encoder that holds stands where it was (04 R118, R121). -/
theorem Encoder.position_hold (x : Encoder) (moment now : Nat) : (x.hold moment).position now = x.position moment := by
  change x.position moment + x.base - x.base = x.position moment
  omega

/-- At the tick of a count nothing is interpolated (04 R120). -/
theorem Encoder.position_counts (x : Encoder) (now : Nat) (up : Bool) : (x.counts now up).position now = 64 * (x.counts now up).count - x.base := by
  simp [Encoder.counts, Encoder.position]

/-- Four counts before it in its direction: v is the mean over them (04 R119). -/
theorem Encoder.counts_velocity {now t1 t2 t3 t4 : Nat} {r : List (Nat × Bool)} (h : x.hist = (t1, up) :: (t2, up) :: (t3, up) :: (t4, up) :: r) :
    (x.counts now up).vNum = 256 ∧ (x.counts now up).vDen = now - t4 := by
  simp [Encoder.counts, h, velocityEstimate]

/-- The levels accepted (04 R117). -/
def Encoder.accepts (x : Encoder) (l : EncLevels) : Encoder := { x with a := l.a, b := l.b }

theorem State.modEncoder_modEncoder {n : Nat} (hn : n < 8) (s : State) (g h : Encoder → Encoder) :
    (s.modEncoder n g).modEncoder n h = s.modEncoder n (fun x => h (g x)) := by
  unfold State.modEncoder
  rw [show State.encoder { s with enc := vset s.enc n (g (s.encoder n)) } n = g (s.encoder n) from State.encoder_modEncoder s n g hn, vset_vset]

theorem State.encoder_count (s : State) (k n : Nat) : (s.count k).encoder n = s.encoder n := rfl

/-- Levels that change in RUN or IDLE, no shot on detector 17: a transition of both inputs holds and is counted, one of one input counts. -/
theorem exec_encCount_moves {l : EncLevels} {m : EncMove} (hrun : s.inRunIdle = true) (hshot : s.shot 17 = false)
    (hmove : (s.encoder e.val).moveTo l.a l.b = some m) : exec (.encCount e l) s = .next (
      if m = .both then (s.modEncoder e.val (fun x => (x.accepts l).hold s.now)).count 17
      else s.modEncoder e.val (fun x => (x.accepts l).counts s.now (m = .up))) := by
  change execEncCount e l s = _
  unfold execEncCount
  rw [hmove]
  dsimp -zeta only
  rw [if_neg (by rw [hrun]; decide)]
  extract_lets u lowest d
  have hd : d = (decide (m = EncMove.both), u) := by
    change ite _ _ _ = _
    rw [State.detect_eq (s := u) 17 _ hshot, ite_self]
  rw [hd]
  dsimp only
  by_cases hm : m = EncMove.both
  · rw [if_pos hm, if_pos (decide_eq_true hm)]
    exact congrArg (fun t : State => Host.Outcome.next (t.count 17)) (s.modEncoder_modEncoder e.isLt _ _)
  · rw [if_neg hm, if_neg (by simpa using hm)]
    exact congrArg Host.Outcome.next (s.modEncoder_modEncoder e.isLt _ _)

/-- Settles O40: the move that the levels are, then the laws of a count and of a hold. -/
theorem encodersCount : Obligations.EncodersCount := by
  unfold Obligations.EncodersCount
  intro s e hrun x others
  have hself (f : Encoder → Encoder) : (s.modEncoder e.val f).encoder e.val = f x := State.encoder_modEncoder s e.val f e.isLt
  have helse (f : Encoder → Encoder) : others (s.modEncoder e.val f) := fun k _ hk => State.encoder_modEncoder_ne s e.val k f (Ne.symm hk)
  refine ⟨fun a b up hshot hone => ?_, fun a b hshot ha hb => ?_, ?_, fun t0 u r hhist => ⟨fun hlong => ?_, fun hshort => ?_⟩⟩
  · have hexec := exec_encCount_moves (l := ⟨a, b⟩) hrun hshot (Encoder.moveTo_one hone)
    have hdir : (if up then EncMove.up else .down) ≠ .both ∧ decide ((if up then EncMove.up else .down) = .up) = up := by cases up <;> decide
    rw [if_neg hdir.1, hdir.2] at hexec
    refine ⟨_, hexec, rfl, helse _, ?_⟩
    rw [hself]
    exact ⟨rfl, rfl, rfl, rfl, Encoder.position_counts _ _ _, fun t1 t2 t3 t4 r h => Encoder.counts_velocity h⟩
  · have hexec := exec_encCount_moves (l := ⟨a, b⟩) hrun hshot (Encoder.moveTo_both ha hb)
    rw [if_pos rfl] at hexec
    refine ⟨_, hexec, rfl, fun k hk hne => (State.encoder_count _ _ k).trans (helse _ k hk hne), rfl, ?_⟩
    rw [State.encoder_count, hself]
    exact ⟨rfl, fun now => Encoder.position_hold _ _ _⟩
  · change execEncCount e ⟨x.a, x.b⟩ s = _
    unfold execEncCount
    rw [Encoder.moveTo_same]
  · refine ⟨s.modEncoder e.val (fun x => x.hold s.now), ?_, rfl, helse _, ?_⟩
    · change execInterpolatorTimeout e s = _
      unfold execInterpolatorTimeout
      rw [hhist]
      exact if_pos (by rw [hrun, decide_eq_true hlong]; rfl)
    · rw [hself]
      exact ⟨rfl, fun now => Encoder.position_hold _ _ _⟩
  · change execInterpolatorTimeout e s = _
    unfold execInterpolatorTimeout
    rw [hhist]
    exact if_neg (by rw [decide_eq_false (by omega), Bool.and_false]; exact Bool.false_ne_true)

end Sys2Proof.Machine
end

section
/-! SUPPORT. Fire configuration registers (04 R122, R139-R141, R154). -/
namespace Sys2Proof.Machine
variable {s : State} {n : Fin 48} {k : Nat}

/-! ### Writes to a channel block -/

/-- The host may write a channel's block: RUN, no access error injected, Kettle not rebooting, the line engine not held in reset (14 R425, 13 R417). -/
structure State.Opens (s : State) (n : Fin 48) : Prop where
  awake : s.Awake
  access : s.shot 4 = false
  booted : s.pe.rebooting = false
  free : s.pwr.blockHeld.getLsbD (n.val / 4) = false

/-- A whole dword written to a register of the channel block. -/
theorem State.Opens.hostWriteReg (h : s.Opens n) {r : Nat} (hr : r < 0x100) (hal : r % 4 = 0) (hk : k < 2 ^ 32) :
    s.hostWriteReg .bar2 (chanOff n r) k = s.writeChan n.val r k := by
  obtain ⟨hlo, hhi, hn, hreg, hblock⟩ := chanOff_block n r hr
  have hword : (w32 k).toNat = k := Nat.mod_eq_of_lt hk
  rw [s.hostWriteReg_awake _ _ _ h.awake h.access]
  dsimp only
  rw [chanOff_dword n r hal, s.writeBar2_chan _ _ hlo hhi, hn, hreg, hblock, h.booted, h.free, hword]
  rfl

theorem State.Opens.exec_fireConfigWrite (h : s.Opens n) {r : Nat} (hr : r = 0x1C ∨ r = 0x20 ∨ r = 0x24) (v : Word) :
    exec (.fireConfigWrite n r v) s = .next (s.writeChan n.val r v.toNat) := by
  have hwrite : s.hostWriteReg .bar2 (chanOff n r) v.toNat = s.writeChan n.val r v.toNat := h.hostWriteReg (by omega) (by omega) v.isLt
  rw [← hwrite]
  change execFireConfigWrite n r v s = _
  unfold execFireConfigWrite
  exact if_pos (by simpa [or_assoc] using hr)

/-- Changes of a channel that agree on it. -/
theorem State.modChan_congr {n : Nat} {f g : Chan → Chan} (s : State) (h : f (s.chan n) = g (s.chan n)) : s.modChan n f = s.modChan n g := by
  unfold State.modChan
  rw [h]

/-! ### The laws of the registers -/

/-- A fire configuration register of a channel without an open job is written (04 R141). -/
theorem State.fireConfig_free {n : Nat} (hshot : s.shot 18 = false) (hfree : s.jobOf n = none) (set : Chan → Chan) : s.fireConfig n set = s.modChan n set := by
  simp [State.fireConfig, hshot, hfree]

/-- That of a channel of an open job is not, and the write is counted (04 R141). -/
theorem State.fireConfig_frozen {n : Nat} (hshot : s.shot 18 = false) (hjob : s.jobOf n ≠ none) (set : Chan → Chan) : s.fireConfig n set = s.count 18 := by
  simp [State.fireConfig, hshot, Option.isSome_iff_ne_none.2 hjob]

theorem State.fireConfig_otp (s : State) (n : Nat) (set : Chan → Chan) : (s.fireConfig n set).otp = s.otp := by
  unfold State.fireConfig
  extract_lets d
  have hd : d.2.otp = s.otp := by
    change (s.detect 18 _).2.otp = _
    rw [s.detect_same]
  split <;> exact hd

/-- HEAD_OFFSET with its halves taken at the write of the high word (04 R140). -/
def Chan.offsetAt (c : Chan) (v : Word) : Int := (join64 (c.heldLo.getD (loWord (i64 c.headOffset))) v).toInt

theorem State.Opens.exec_headOffsetHiWrite (h : s.Opens n) (v : Word) : exec (.headOffsetHiWrite n v) s =
    .next ((s.modChan n.val (fun c => { c with heldLo := none })).fireConfig n.val (fun c => { c with headOffset := (s.chan n.val).offsetAt v })) := by
  change Host.Outcome.next (s.hostWriteReg .bar2 (chanOff n 0x2C) v.toNat) = _
  rw [h.hostWriteReg (by decide) (by decide) v.isLt, State.writeChan, w32_toNat, Chan.offsetAt]
  cases (s.chan n.val).heldLo <;> rfl

/-- RATE_MAX of 1 to 64,000 (04 R139). -/
theorem State.writeChan_rateMax {n : Nat} (hpos : 0 < k % 2 ^ 17) (hmax : k % 2 ^ 17 ≤ 64000) :
    s.writeChan n 0x20 k = s.fireConfig n (fun c => { c with rateMax := k % 2 ^ 17 }) := by
  have hok : (decide (1 ≤ k % 2 ^ 17) && decide (k % 2 ^ 17 ≤ 64000)) = true := by
    rw [decide_eq_true hmax, Bool.and_true]
    exact decide_eq_true hpos
  simp only [State.writeChan, hok, if_true]

theorem sext_toNat (v : Word) : sext 32 v.toNat = v.toInt := by
  rw [BitVec.toInt_eq_toNat_cond]
  unfold sext
  split <;> split <;> omega

theorem State.writeChan_rowOffset {n : Nat} (s : State) (v : Word) : s.writeChan n 0x24 v.toNat = s.fireConfig n (fun c => { c with rowOffset := v.toInt }) := by
  rw [State.writeChan, sext_toNat]

/-- Outside PRODUCTION injection is not discarded (15 R456). -/
theorem State.injMoment_elsewhere (h : s.otp.wires.lifecycle ≠ 2) : s.injMoment = s := by
  simp [State.injMoment, h]

/-- CH_CFG with the source that the channel has: DRY alone is written, at any time (04 R154). -/
theorem State.writeChan_dry {n : Nat} (hn : n < 48) (hlife : s.otp.wires.lifecycle ≠ 2) (hsrc : k % 16 = (s.chan n).posSrc) :
    s.writeChan n 0x1C k = s.modChan n (fun c => { c with dry := bit k 8 }) := by
  simp only [State.writeChan, State.writeChCfg]
  rw [State.chan_modChan s n _ hn, if_pos (by simp [hsrc])]
  exact State.injMoment_elsewhere hlife

/-- CH_CFG with another source: POS_SRC is a fire configuration register (04 R122, R141). -/
theorem State.writeChan_posSrc {n : Nat} (hn : n < 48) (hlife : s.otp.wires.lifecycle ≠ 2) (hsrc : k % 16 ≠ (s.chan n).posSrc) (hmax : k % 16 ≤ 8) :
    s.writeChan n 0x1C k = (s.modChan n (fun c => { c with dry := bit k 8 })).fireConfig n (fun c => { c with posSrc := k % 16 }) := by
  simp only [State.writeChan, State.writeChCfg]
  rw [State.chan_modChan s n _ hn, if_neg (by simp [hsrc, hmax])]
  exact State.injMoment_elsewhere (by rwa [State.fireConfig_otp])

/-- Settles O16: each register's law, then the freeze of a channel of an open job. -/
theorem fireConfiguration : Obligations.FireConfiguration := by
  unfold Obligations.FireConfiguration
  intro n v s hawake h4 h18 hboot hheld
  have h : s.Opens n := ⟨hawake, h4, hboot, hheld⟩
  have hcfg := h.exec_fireConfigWrite (r := 0x1C) (by decide) v
  have hrate := h.exec_fireConfigWrite (r := 0x20) (by decide) v
  have hrow := (h.exec_fireConfigWrite (r := 0x24) (by decide) v).trans (congrArg _ (s.writeChan_rowOffset v))
  have hoffset := h.exec_headOffsetHiWrite v
  have hdry (hlife : s.otp.wires.lifecycle ≠ 2) (hsrc : v.toNat % 16 = (s.chan n.val).posSrc) :
      exec (.fireConfigWrite n 0x1C v) s = .next (s.modChan n.val (fun c => { c with dry := v.getLsbD 8 })) := by
    rw [hcfg, State.writeChan_dry n.isLt hlife hsrc, bit_toNat]
  have hset (g : Chan → Chan) : (s.modChan n.val g).shot 18 = false := h18
  refine ⟨fun hfree => ?_, fun hjob => ?_, hdry⟩
  · have hnone (g : Chan → Chan) : (s.modChan n.val g).jobOf n.val = none := hfree
    refine ⟨⟨_, hoffset, ?_⟩, fun hpos hmax => ?_, ?_, fun hlife hmax => ?_⟩
    · rw [State.fireConfig_free (hset _) (hnone _), State.modChan_modChan n.isLt, State.chan_modChan s n.val _ n.isLt]
      exact ⟨rfl, rfl⟩
    · rw [hrate, State.writeChan_rateMax hpos hmax, State.fireConfig_free h18 hfree]
    · rw [hrow, State.fireConfig_free h18 hfree]
    · by_cases hsrc : v.toNat % 16 = (s.chan n.val).posSrc
      · rw [hdry hlife hsrc, hsrc]
        exact congrArg _ (s.modChan_congr rfl)
      · rw [hcfg, State.writeChan_posSrc n.isLt hlife hsrc hmax, State.fireConfig_free (hset _) (hnone _), State.modChan_modChan n.isLt, bit_toNat]
  · have hopen (g : Chan → Chan) : (s.modChan n.val g).jobOf n.val ≠ none := hjob
    refine ⟨?_, ?_, ?_, fun hlife hmax hsrc => ?_⟩
    · rw [hoffset, State.fireConfig_frozen (hset _) (hopen _)]
    · rw [hrate]
      exact congrArg _ (State.fireConfig_frozen h18 hjob _)
    · rw [hrow, State.fireConfig_frozen h18 hjob]
    · rw [hcfg, State.writeChan_posSrc n.isLt hlife hsrc hmax, State.fireConfig_frozen (hset _) (hopen _), bit_toNat]

end Sys2Proof.Machine
end

section
/-! SUPPORT. The shadow set: writes, commits, and the hand-overs of a tick (04 R142-R148; log entry 31). -/
namespace Sys2Proof.Machine
variable {s t : State} {n k m clock : Nat} {c : Chan} {ch : Fin 48}

/-! ### Writes into the shadow set -/

/-- A write into the shadow set of a channel (04 R145). -/
def Chan.writesShadow (c : Chan) (set : ShadowSet → ShadowSet) (clock : Nat) : Chan :=
  { c with shadow := set c.shadow, recent := some (clock, c.shadowBefore clock, c.writesAt clock + 1) }

/-- The clock is one of the two of the channel's last hand-over (04 R145). -/
def Chan.handsOverIn (c : Chan) (clock : Nat) : Bool := c.handoverClock.any (fun h => decide (h ≤ clock) && decide (clock ≤ h + 1))

theorem Chan.handsOverIn_false (h : ∀ h, c.handoverClock = some h → h + 1 < clock) : c.handsOverIn clock = false := by
  unfold Chan.handsOverIn
  cases hlast : c.handoverClock with
  | none => rfl
  | some x =>
    have hafter := h x hlast
    rw [Option.any_some, decide_eq_false (by omega : ¬ clock ≤ x + 1), Bool.and_false]

theorem Chan.handsOverIn_true {h : Nat} (hlast : c.handoverClock = some h) (hfrom : h ≤ clock) (hto : clock ≤ h + 1) : c.handsOverIn clock = true := by
  rw [Chan.handsOverIn, hlast, Option.any_some, decide_eq_true hfrom, decide_eq_true hto]
  rfl

/-- A shadow write, no shot on detector 19: in a hand-over it collides. -/
theorem State.writeShadow_eq (hshot : s.shot 19 = false) (n : Nat) (set : ShadowSet → ShadowSet) : s.writeShadow n set =
    if (s.chan n).handsOverIn s.clock then (s.modChan n (fun c => c.writesShadow set s.clock)).collides n
    else s.modChan n (fun c => c.writesShadow set s.clock) := by
  unfold State.writeShadow
  extract_lets c lands put
  have hlands : lands = c.handsOverIn s.clock := by
    change (match c.handoverClock with | some _ => _ | none => _) = _
    unfold Chan.handsOverIn
    cases c.handoverClock <;> rfl
  rw [hshot, Bool.false_and, Bool.false_and, if_neg Bool.false_ne_true, hlands]
  rfl

/-- A pulse counts the same whatever stands on the channels. -/
theorem State.raise_tc_modChan (s : State) (n k : Nat) (f : Chan → Chan) : ((s.modChan n f).raise k).tc = (s.raise k).tc := by
  have hrun : (s.modChan n f).inRunIdle = s.inRunIdle := rfl
  unfold State.raise
  rw [hrun, State.modChan_fab]
  split
  · split
    · split <;> rfl
    · rfl
  · split <;> rfl

theorem State.count_tc_congr (h : t.tc = s.tc) (k : Nat) : (t.count k).tc = (s.count k).tc := by
  unfold State.count State.countN
  rw [h]

/-- A collision: COLLIDE, the next boundary armed, source 0x1E and the counter, and no other channel (04 R145, R148). -/
theorem State.modChan_collides (hn : n < 48) (hrun : s.inRunIdle = true) (f : Chan → Chan) : ∃ t, (s.modChan n f).collides n = t ∧
    t.chan n = { (f (s.chan n)).arm .next s.clock with collide := true } ∧ t.tc = ((s.raise 0x1E).count 19).tc ∧ 0x1E ∈ t.fab.raised ∧
    ∀ m, m ≠ n → t.chan m = s.chan m := by
  have heq : (s.modChan n f).collides n = ((s.modChan n (fun c => { (f c).arm .next s.clock with collide := true })).raise 0x1E).count 19 := by
    unfold State.collides
    rw [State.modChan_modChan hn]
    rfl
  refine ⟨_, heq, ?_, State.count_tc_congr (s.raise_tc_modChan _ _ _) 19, State.mem_raise _ _ hrun, fun m hm => ?_⟩
  · rw [State.chan_count, State.chan_raise, State.chan_modChan s n _ hn]
  · rw [State.chan_count, State.chan_raise, State.chan_modChan_ne s n m _ (Ne.symm hm)]

/-- SH_SEL as a word of 32 bits gives it (04 R139). -/
def ShadowSet.selected (u : ShadowSet) (v : Nat) : ShadowSet := { u with rot := v / 4096 % 4, brewL := v / 256 % 8, brewM := v / 16 % 8, brewS := v % 8 }

theorem State.writeChan_shSel (s : State) (n v : Nat) : s.writeChan n 0x00 v = s.writeShadow n (fun u => u.selected v) := by
  simp only [State.writeChan, bits, pow_zero, Nat.div_one]
  rfl

theorem State.Opens.exec_shadowWrite (h : s.Opens ch) {r : Nat} (hr : r = 0x00 ∨ r = 0x04) (v : Word) :
    exec (.shadowWrite ch r v) s = .next (s.writeChan ch.val r v.toNat) := by
  have hwrite : s.hostWriteReg .bar2 (chanOff ch r) v.toNat = s.writeChan ch.val r v.toNat := h.hostWriteReg (by omega) (by omega) v.isLt
  rw [← hwrite]
  change execShadowWrite ch r v s = _
  unfold execShadowWrite
  exact if_pos (by simpa using hr)

/-! ### Commits -/

theorem State.modChan_self {f : Chan → Chan} (s : State) (h : f (s.chan n) = s.chan n) : s.modChan n f = s := by
  unfold State.modChan
  rw [h, State.chan, vset_vget]

/-- A write of SH_CTL that clears no flag leaves them (04 R139). -/
theorem State.writeShCtl_flags {v : Nat} (hlate : bit v 4 = false) (hcollide : bit v 2 = false) (s : State) (n : Nat) :
    s.modChan n (fun c => { c with atLate := c.atLate && !bit v 4, collide := c.collide && !bit v 2 }) = s := by
  refine s.modChan_self ?_
  rw [hlate, hcollide, Bool.not_false, Bool.and_true, Bool.and_true]

theorem State.Opens.exec_commit (h : s.Opens ch) : exec (.commit ch) s =
    .next (s.modChan ch.val (fun c => c.arm (if s.started ch.val then .next else .idle) s.clock)) := by
  change Host.Outcome.next (s.hostWriteReg .bar2 (chanOff ch 0x0C) 1) = _
  rw [h.hostWriteReg (by decide) (by decide) (by decide)]
  simp only [State.writeChan, State.writeShCtl, State.writeShCtl_flags (v := 1) rfl rfl]
  rfl

/-- COMMIT_AT arms line SH_LINE, or the next boundary where that line's boundary has passed (04 R146). -/
theorem State.Opens.exec_commitAt (h : s.Opens ch) : exec (.commitAt ch) s = .next (
    if s.started ch.val && (s.chan ch.val).boundary.any (fun l => decide ((s.chan ch.val).shLine ≤ l)) then
      s.modChan ch.val (fun c => { c.arm .next s.clock with atLate := true })
    else s.modChan ch.val (fun c => c.arm (.line c.shLine) s.clock)) := by
  change Host.Outcome.next (s.hostWriteReg .bar2 (chanOff ch 0x0C) 2) = _
  rw [h.hostWriteReg (by decide) (by decide) (by decide)]
  simp only [State.writeChan, State.writeShCtl, State.writeShCtl_flags (v := 2) rfl rfl]
  rfl

/-! ### Hand-overs of a tick -/

/-- A channel after the hand-overs of a clock (04 R143, R147). -/
def Chan.handedOver (c : Chan) (clock : Nat) : Chan :=
  let d := if c.liveDue clock then c.goLive else c
  if d.idleDue clock then d.goIdle else d

/-- The hand-over of a set taken, on a channel. -/
def State.handOverTaken (s : State) (n : Nat) : State :=
  if (s.chan n).liveDue s.clock then (s.modChan n Chan.goLive).raise 0x1D else s

theorem State.handOver_eq (s : State) (n : Nat) : s.handOver n =
    if ((s.handOverTaken n).chan n).idleDue (s.handOverTaken n).clock then ((s.handOverTaken n).modChan n Chan.goIdle).raise 0x1D else s.handOverTaken n := rfl

theorem State.handOverTaken_chan (hn : n < 48) (s : State) :
    (s.handOverTaken n).chan n = (if (s.chan n).liveDue s.clock then (s.chan n).goLive else s.chan n) ∧ (s.handOverTaken n).clock = s.clock ∧
      (s.handOverTaken n).inRunIdle = s.inRunIdle := by
  unfold State.handOverTaken
  split
  · have hpwr := State.raise_pwr (s.modChan n Chan.goLive) 0x1D
    refine ⟨?_, State.raise_clock _ _, ?_⟩
    · rw [State.chan_raise, State.chan_modChan s n _ hn]
    · unfold State.inRunIdle
      rw [hpwr]
      rfl
  · exact ⟨rfl, rfl, rfl⟩

theorem State.handOver_chan (hn : n < 48) (s : State) : (s.handOver n).chan n = (s.chan n).handedOver s.clock := by
  obtain ⟨hchan, hclock, -⟩ := s.handOverTaken_chan hn
  rw [State.handOver_eq]
  unfold Chan.handedOver
  dsimp only
  rw [← hchan, ← hclock]
  split
  · rw [State.chan_raise, State.chan_modChan _ n _ hn]
  · rfl

theorem State.handOver_chan_ne (h : m ≠ n) (s : State) : (s.handOver n).chan m = s.chan m := by
  have hgo (u : State) (f : Chan → Chan) : ((u.modChan n f).raise 0x1D).chan m = u.chan m := by
    rw [State.chan_raise, State.chan_modChan_ne u n m f (Ne.symm h)]
  have htaken : (s.handOverTaken n).chan m = s.chan m := by
    unfold State.handOverTaken
    split
    · exact hgo _ _
    · rfl
  rw [State.handOver_eq]
  split
  · exact (hgo _ _).trans htaken
  · exact htaken

/-- A pulse on its way stays there. -/
theorem State.raised_raise (h : k ∈ s.fab.raised) (i : Nat) : k ∈ (s.raise i).fab.raised := by
  unfold State.raise
  split
  · split
    · split <;> exact h
    · exact List.mem_append_left _ h
  · split <;> exact h

theorem State.raised_handOver (h : k ∈ s.fab.raised) (n : Nat) : k ∈ (s.handOver n).fab.raised := by
  have htaken : k ∈ (s.handOverTaken n).fab.raised := by
    unfold State.handOverTaken
    split
    · exact State.raised_raise (s := s.modChan n Chan.goLive) h _
    · exact h
  rw [State.handOver_eq]
  split
  · exact State.raised_raise (s := (s.handOverTaken n).modChan n Chan.goIdle) htaken _
  · exact htaken

/-- Each hand-over pulses source 0x1D (04 R148). -/
theorem State.handOver_pulses (hn : n < 48) (hrun : s.inRunIdle = true) (hdue : (s.chan n).liveDue s.clock || (s.chan n).idleDue s.clock) :
    0x1D ∈ (s.handOver n).fab.raised := by
  obtain ⟨hchan, hclock, hruns⟩ := s.handOverTaken_chan hn
  rw [State.handOver_eq]
  split
  · exact State.mem_raise _ _ (hruns.trans hrun)
  · next hidle =>
    have hlive : (s.chan n).liveDue s.clock = true := by
      by_contra hnot
      rw [hchan, if_neg hnot, hclock] at hidle
      simp [hidle, hnot] at hdue
    unfold State.handOverTaken
    rw [if_pos hlive]
    exact State.mem_raise _ _ hrun

/-- The hand-overs of a tick on a channel that has one due. -/
theorem State.handOvers_due (hn : n < 48) (hrun : s.inRunIdle = true) (hdue : (s.chan n).liveDue s.clock || (s.chan n).idleDue s.clock) :
    s.handOvers.chan n = (s.chan n).handedOver s.clock ∧ 0x1D ∈ s.handOvers.fab.raised := by
  have hmem : n ∈ (List.range 48).filter (fun n => (s.chan n).liveDue s.clock || (s.chan n).idleDue s.clock) :=
    List.mem_filter.2 ⟨List.mem_range.2 hn, hdue⟩
  have hnodup := (List.nodup_range (n := 48)).filter (fun n => (s.chan n).liveDue s.clock || (s.chan n).idleDue s.clock)
  unfold State.handOvers
  generalize (List.range 48).filter _ = l at *
  obtain ⟨before, after, rfl⟩ := List.append_of_mem hmem
  have hout : n ∉ before ∧ n ∉ after := by
    simp [List.nodup_append, List.nodup_cons] at hnodup
    grind
  have hother (l : List Nat) (hl : n ∉ l) (u : State) : (l.foldl State.handOver u).chan n = u.chan n :=
    foldl_rel_mem (R := fun s t => t.chan n = s.chan n) (fun _ => rfl) (fun h g => g.trans h)
      (fun u m hm => u.handOver_chan_ne (by rintro rfl; exact hl hm)) u
  have hsame := foldl_rel (R := State.SameButHandOvers) (fun _ => rfl) (fun h g => h.trans g) (fun u m => u.handOver_same m) before s
  have hfirst := hother before hout.1 s
  rw [List.foldl_append, List.foldl_cons]
  generalize before.foldl State.handOver s = u at *
  have hclock : u.clock = s.clock := by rw [hsame]
  have hruns : u.inRunIdle = true := by rw [hsame]; exact hrun
  refine ⟨?_, ?_⟩
  · rw [hother after hout.2, State.handOver_chan hn, hfirst, hclock]
  · refine List.foldlRecOn after _ (motive := fun (t : State) => 0x1D ∈ t.fab.raised) (State.handOver_pulses hn hruns ?_) fun t ht m _ => State.raised_handOver ht m
    rw [hfirst, hclock]
    exact hdue

/-- The next clock, before anything acts in it. -/
def State.nextClock (s : State) : State := ({ s with clock := s.clock + 1 } : State).advanceTime

/-- A tick in RUN or IDLE with no pulse under way, no consumer due and no shot released: the hand-overs of the clock. -/
theorem tick_handsOver (hrun : s.inRunIdle = true) (hraised : s.fab.raised = []) (hdue : s.fab.due = []) (hshot : s.inj.released = none) :
    tick s = s.nextClock.handOvers.waitUpkeep := by
  have hpulse : s.nextClock.pulseRaised = s.nextClock := if_pos hraised
  have hact : s.nextClock.consumersAct = s.nextClock := by
    have hnext : s.nextClock.fab.due = [] := hdue
    unfold State.consumersAct
    rw [hnext, List.foldl_nil, ← hnext]
  have hno : s.nextClock.handOvers.actNow = s.nextClock.handOvers := by
    have hnone : s.nextClock.handOvers.inj.released = none := by
      rw [s.nextClock.handOvers_same]
      exact hshot
    unfold State.actNow
    rw [hnone]
  have hidle : State.inRunIdle { s with clock := s.clock + 1 } = true := hrun
  unfold tick
  dsimp only
  rw [if_pos hidle]
  change (s.nextClock.pulseRaised.consumersAct.handOvers.actNow).waitUpkeep = _
  rw [hpulse, hact, hno]

theorem State.waitUpkeep_eq (s : State) : s.waitUpkeep = { s with pe := s.waitUpkeep.pe } := by
  unfold State.waitUpkeep
  split
  · split <;> rfl
  · rfl

/-- A step on the empty queue with a hand-over due on a channel (04 R143, R147, R148). -/
theorem step_handsOver (hn : n < 48) (hrun : s.inRunIdle = true) (hempty : s.pending = []) (hraised : s.fab.raised = []) (hdue : s.fab.due = [])
    (hshot : s.inj.released = none) (hover : (s.chan n).liveDue (s.clock + 1) || (s.chan n).idleDue (s.clock + 1)) :
    ∃ t, step s = .next t ∧ t.chan n = (s.chan n).handedOver (s.clock + 1) ∧ 0x1D ∈ t.fab.raised ∧ t.jobs = s.jobs ∧ t.axes = s.axes := by
  obtain ⟨hchan, hpulse⟩ := State.handOvers_due (s := s.nextClock) hn hrun hover
  have hsame := s.nextClock.handOvers_same
  refine ⟨s.nextClock.handOvers.waitUpkeep, ?_, ?_⟩
  · unfold step
    rw [hempty]
    exact congrArg Host.Outcome.next (tick_handsOver hrun hraised hdue hshot)
  · rw [State.waitUpkeep_eq]
    refine ⟨hchan, hpulse, ?_, ?_⟩
    · change s.nextClock.handOvers.jobs = _
      rw [hsame]
      rfl
    · change s.nextClock.handOvers.axes = _
      rw [hsame]
      rfl

/-- A set taken in an earlier clock is due, and becomes live (04 R143). -/
theorem Chan.handedOver_taken {set : ShadowSet} {l h : Nat} (htaken : c.taken = some (set, l, h)) (hh : h < clock) (hnot : c.armed ≠ some .idle) :
    c.liveDue clock = true ∧ c.handedOver clock = { c with live := set, prevSet := some (c.live, l), handoverLine := l, taken := none } := by
  have hlive : c.liveDue clock = true := by simp [Chan.liveDue, htaken, hh]
  have hgo : c.goLive = { c with live := set, prevSet := some (c.live, l), handoverLine := l, taken := none } := by
    unfold Chan.goLive
    rw [htaken]
  refine ⟨hlive, ?_⟩
  unfold Chan.handedOver
  dsimp only
  rw [if_pos hlive, hgo]
  exact if_neg (by simp [Chan.idleDue, hnot])

/-- A COMMIT on an idle channel of an earlier clock is due, and makes the shadow set live (04 R147). -/
theorem Chan.handedOver_idle (htaken : c.taken = none) (harmed : c.armed = some .idle) (hat : c.armedAt < clock) :
    c.idleDue clock = true ∧ c.handedOver clock = c.goIdle := by
  have hlive : ¬ c.liveDue clock = true := by simp [Chan.liveDue, htaken]
  have hidle : c.idleDue clock = true := by simp [Chan.idleDue, harmed, hat]
  refine ⟨hidle, ?_⟩
  unfold Chan.handedOver
  dsimp only
  rw [if_neg hlive, if_pos hidle]

/-- Settles O17: shadow writes by the clock in which they land, commits by the job of the channel, a tick by the hand-over due. -/
theorem shadowAndCommit : Obligations.ShadowAndCommit := by
  unfold Obligations.ShadowAndCommit
  intro n s c only arms
  have honly (f : Chan → Chan) : only (s.modChan n.val f) ∧ (s.modChan n.val f).chan n.val = f c := by
    have hself : (s.modChan n.val f).chan n.val = f c := State.chan_modChan s n.val f n.isLt
    refine ⟨?_, hself⟩
    change s.modChan n.val f = s.modChan n.val (fun _ => (s.modChan n.val f).chan n.val)
    rw [hself]
    exact s.modChan_congr rfl
  refine ⟨fun hawake h4 h19 hboot hheld => ?_, fun hrun hempty hraised hdue hshot => ?_⟩
  · have h : s.Opens n := ⟨hawake, h4, hboot, hheld⟩
    have hsel (v : Word) := (h.exec_shadowWrite (r := 0x00) (.inl rfl) v).trans (congrArg _ ((s.writeChan_shSel _ _).trans (State.writeShadow_eq h19 _ _)))
    have hstitch (v : Word) := (h.exec_shadowWrite (r := 0x04) (.inr rfl) v).trans
      (congrArg _ (State.writeShadow_eq h19 n.val (fun u => { u with stitch := v.toNat % 16 })))
    have hcommit := h.exec_commit
    have hcommitAt := h.exec_commitAt
    refine ⟨fun v => ⟨fun houtside => ?_, fun x hlast hfrom hto => ?_⟩, fun hidle => ?_, fun hstarted => ?_, fun hahead => ?_, fun l hstarted hpassed hline => ?_⟩
    · have hlands : ¬ (s.chan n.val).handsOverIn s.clock = true := Bool.eq_false_iff.1 (Chan.handsOverIn_false houtside)
      obtain ⟨hselOnly, hselSelf⟩ := honly (fun c => c.writesShadow (fun u => u.selected v.toNat) s.clock)
      obtain ⟨hstitchOnly, hstitchSelf⟩ := honly (fun c => c.writesShadow (fun u => { u with stitch := v.toNat % 16 }) s.clock)
      refine ⟨⟨_, (hsel v).trans (congrArg _ (if_neg hlands)), hselOnly, ?_⟩, ⟨_, (hstitch v).trans (congrArg _ (if_neg hlands)), hstitchOnly, ?_⟩⟩
      · rw [hselSelf]
        rfl
      · rw [hstitchSelf]
        rfl
    · obtain ⟨t, ht, hself, htc, hpulse, helse⟩ :=
        State.modChan_collides n.isLt hawake.inRunIdle (fun c => c.writesShadow (fun u => u.selected v.toNat) s.clock)
      refine ⟨t, (hsel v).trans (congrArg _ ((if_pos (Chan.handsOverIn_true hlast hfrom hto)).trans ht)), ?_, ?_, ?_, ?_, htc, hpulse, fun m _ hm => helse m hm⟩ <;>
        rw [hself] <;> rfl
    · rw [hcommit, hidle]
      rfl
    · rw [hcommit, hstarted]
      rfl
    · rw [hcommitAt]
      refine congrArg _ (if_neg ?_)
      rcases hahead with hidle | hahead
      · rw [hidle, Bool.false_and]
        exact Bool.false_ne_true
      · have hnot : (s.chan n.val).boundary.any (fun l => decide ((s.chan n.val).shLine ≤ l)) = false := by
          cases hlast : (s.chan n.val).boundary with
          | none => rfl
          | some l => exact decide_eq_false (Nat.not_le.2 (hahead l hlast))
        rw [hnot, Bool.and_false]
        exact Bool.false_ne_true
    · rw [hcommitAt]
      exact congrArg _ (if_pos (by simp [hstarted, show (s.chan n.val).boundary = some l from hpassed, show (s.chan n.val).shLine ≤ l from hline]))
  · refine ⟨fun htaken harmed hat => ?_, fun set l x htaken hx hnot => ?_⟩
    · obtain ⟨hidle, hgo⟩ := Chan.handedOver_idle (clock := s.clock + 1) htaken harmed (by omega)
      obtain ⟨t, hstep, hchan, hrest⟩ := step_handsOver n.isLt hrun hempty hraised hdue hshot (by simp [c, hidle])
      exact ⟨t, hstep, hchan.trans hgo, hrest⟩
    · obtain ⟨hlive, hgo⟩ := Chan.handedOver_taken (clock := s.clock + 1) htaken (by omega) hnot
      obtain ⟨t, hstep, hchan, hrest⟩ := step_handsOver n.isLt hrun hempty hraised hdue hshot (by simp [c, hlive])
      exact ⟨t, hstep, hchan.trans hgo, hrest⟩

end Sys2Proof.Machine
end

section
/-! SUPPORT. What a line skipped, late or suppressed leaves of the lines under way (04 R150, R151, 05 R193-R199). -/
namespace Sys2Proof.Machine
variable {s t : State} {slot n line : Nat} {j : Job}

/-- The course of a job's lines: the interlocks, the counter of suppressed lines, each channel's slot being fired and next line, and which channels the
job has. -/
def State.course (s : State) (slot : Nat) : Interlock × BitVec 16 × (Nat → Option Firing × Nat) × Option (List Nat) :=
  (s.ilk, s.counter 21, fun m => ((s.chan m).firing, (s.chan m).nextLine), (s.jobAt slot).map Job.chans)

/-! ### The parts -/

theorem State.course_ilk (h : t.course slot = s.course slot) : t.ilk = s.ilk := congrArg Prod.fst h
theorem State.course_counter (h : t.course slot = s.course slot) : t.counter 21 = s.counter 21 := congrArg (fun x => x.2.1) h
theorem State.course_firing (h : t.course slot = s.course slot) (m : Nat) : (t.chan m).firing = (s.chan m).firing :=
  congrArg (fun x => (x.2.2.1 m).1) h
theorem State.course_nextLine (h : t.course slot = s.course slot) (m : Nat) : (t.chan m).nextLine = (s.chan m).nextLine :=
  congrArg (fun x => (x.2.2.1 m).2) h

/-- The job in the slot, with its channels. -/
theorem State.course_job (h : t.course slot = s.course slot) (hjob : s.jobAt slot = some j) : ∃ j', t.jobAt slot = some j' ∧ j'.chans = j.chans := by
  have hchans : (t.jobAt slot).map Job.chans = (s.jobAt slot).map Job.chans := congrArg (fun x => x.2.2.2) h
  rw [hjob] at hchans
  exact Option.map_eq_some_iff.1 hchans

theorem State.course_of_lineParts (hparts : t.lineParts = s.lineParts) (hilk : t.ilk = s.ilk) (hcounter : t.counter 21 = s.counter 21) :
    t.course slot = s.course slot := by
  have hchans : t.chans = s.chans := congrArg Prod.fst hparts
  have hjobs : t.jobs = s.jobs := congrArg Prod.snd hparts
  unfold State.course State.chan State.jobAt
  rw [hilk, hcounter, hchans, hjobs]

/-! ### Changes of one channel or job -/

/-- A change of a channel that leaves its slot being fired and its next line. -/
theorem State.modChan_course (s : State) (n : Nat) {f : Chan → Chan} (hf : ∀ c, (f c).firing = c.firing ∧ (f c).nextLine = c.nextLine) :
    (s.modChan n f).course slot = s.course slot := by
  have hchan (m : Nat) : (((s.modChan n f).chan m).firing, ((s.modChan n f).chan m).nextLine) = ((s.chan m).firing, (s.chan m).nextLine) := by
    obtain ⟨hfiring, hnext⟩ := hf (s.chan m)
    obtain h | ⟨-, -, h⟩ := s.chan_modChan_cases n m f <;> rw [h]
    rw [hfiring, hnext]
  unfold State.course
  rw [funext hchan]
  rfl

theorem State.modJob_course (s : State) {f : Job → Job} (hf : ∀ j, (f j).chans = j.chans) : (s.modJob slot f).course slot = s.course slot := by
  unfold State.course
  rw [State.jobAt_modJob_self, Option.map_map, show Job.chans ∘ f = Job.chans from funext hf]
  rfl

theorem State.raise_course (s : State) (k : Nat) : (s.raise k).course slot = s.course slot :=
  State.course_of_lineParts (s.raise_lineParts k) (s.raise_ilk k) (s.counter_raise k 21 (by decide))

theorem State.count_course {k : Nat} (h : k ≠ 21) (s : State) : (s.count k).course slot = s.course slot :=
  State.course_of_lineParts rfl rfl (s.counter_count_ne k 21 (Ne.symm h))

theorem State.detect_course (s : State) (k : Nat) (real : Bool) : (s.detect k real).2.course slot = s.course slot := by
  unfold State.detect
  split <;> rfl

theorem State.storeWrite_course (s : State) (a : Nat) (b : Bytes) : (s.storeWrite a b).course slot = s.course slot := rfl

/-- A choice between two states of one course. -/
theorem State.course_ite {c : Prop} [Decidable c] {u v : State} (hu : u.course slot = s.course slot) (hv : v.course slot = s.course slot) :
    (if c then u else v).course slot = s.course slot := by
  split
  · exact hu
  · exact hv

theorem State.writeHeader_course (s : State) (k : Nat) : (s.writeHeader k).course slot = s.course slot := by
  rw [State.writeHeader_mem]
  rfl

theorem State.modFifo_course (s : State) (k n : Nat) {f : Chan → Chan} (hf : ∀ c, (f c).firing = c.firing ∧ (f c).nextLine = c.nextLine) :
    (s.modFifo k n f).course slot = s.course slot := by
  obtain h | ⟨i, h⟩ := s.modFifo_eq k n f <;> rw [h]
  · exact s.modChan_course n hf
  · exact (State.raise_course _ i).trans (s.modChan_course n hf)

/-! ### The record, composition, lines left ahead -/

theorem State.addEntry_course (s : State) (e : Entry) : (s.addEntry slot e).course slot = s.course slot := by
  unfold State.addEntry
  split
  · rfl
  · split
    · extract_lets e' u
      have hu : u.course slot = s.course slot := s.modJob_course fun _ => rfl
      split
      · exact (u.storeWrite_course _ _).trans hu
      · exact hu
    · extract_lets d rest u
      have hd : d.2.course slot = s.course slot := s.detect_course 25 _
      have hu : u.course slot = d.2.course slot := d.2.modJob_course fun _ => rfl
      replace hu := hu.trans hd
      split
      · split
        · exact hu
        · exact (u.count_course (by decide)).trans hu
      · refine (State.storeWrite_course _ _ _).trans (Eq.trans (State.modJob_course d.2 ?_) hd)
        exact fun _ => rfl

theorem State.lineDone_course (s : State) (n line : Nat) (k : LineEnd) : (s.lineDone slot n line k).course slot = s.course slot := by
  unfold State.lineDone
  extract_lets told classed noted left
  have htold : told.course slot = s.course slot := by
    cases k
    · rfl
    · rfl
    · exact s.addEntry_course _
    · exact s.addEntry_course _
  have hclassed : classed.course slot = told.course slot := told.modJob_course fun x => Job.chans_of_lasting (x.classify_lasting _ _)
  have hnoted : noted.course slot = classed.course slot := classed.modJob_course fun x => by
    split
    · exact Job.chans_of_lasting (x.noteBar_lasting _ _ _)
    · exact Job.chans_of_lasting (x.spoilBar_lasting _ _)
  have hleft : left.course slot = noted.course slot := by
    have hforget : (noted.modChan n (fun c => c.leftLine line)).course slot = noted.course slot := noted.modChan_course n fun _ => ⟨rfl, rfl⟩
    cases k
    · exact hforget
    · exact hforget
    · rfl
    · exact hforget
  calc (left.writeHeader slot).course slot = left.course slot := left.writeHeader_course slot
    _ = noted.course slot := hleft
    _ = classed.course slot := hnoted
    _ = told.course slot := hclassed
    _ = s.course slot := htold

theorem State.clearCover_course (s : State) (n line : Nat) : (s.clearCover slot n line).course slot = s.course slot := by
  obtain h | ⟨m, h⟩ := s.clearCover_eq slot n line <;> rw [h]
  exact s.modJob_course fun _ => rfl

theorem State.composeFrom_course (s : State) (n line : Nat) : (s.composeFrom slot n line).course slot = s.course slot := by
  unfold State.composeFrom
  extract_lets was line u
  have hu : u.course slot = s.course slot := s.modChan_course n fun _ => ⟨rfl, rfl⟩
  exact (foldl_keeps (part := fun s => s.course slot) (fun s i => s.clearCover_course n _) _ u).trans hu

theorem State.composeOn_course (s : State) (n : Nat) : (s.composeOn slot n).course slot = s.course slot := s.composeFrom_course n _

theorem State.dropLine_course (s : State) (n line : Nat) : (s.dropLine slot n line).course slot = s.course slot := by
  refine (State.composeOn_course _ n).trans (s.modFifo_course slot n fun c => ?_)
  dsimp only
  split
  · split <;> exact ⟨rfl, rfl⟩
  · exact ⟨rfl, rfl⟩

/-! ### Data late (05 R193-R198) -/

theorem State.externalSkip_course (s : State) (line : Nat) : (s.externalSkip slot line).course slot = s.course slot := by
  unfold State.externalSkip
  split
  · rfl
  · extract_lets notBegun partial_ uncovered told dropped
    have huncovered : uncovered.course slot = s.course slot := s.modJob_course fun _ => rfl
    have htold : told.course slot = uncovered.course slot := uncovered.addEntry_course _
    have hdropped : dropped.course slot = told.course slot := foldl_keeps (part := fun s => s.course slot) (fun s n =>
      (State.modJob_course _ fun x => (Job.chans_of_lasting (Job.spoilBar_lasting _ _ _)).trans (Job.chans_of_lasting (Job.classify_lasting _ _ _))).trans
        (s.dropLine_course n line)) _ told
    calc ((dropped.count 22).writeHeader slot).course slot = (dropped.count 22).course slot := State.writeHeader_course _ slot
      _ = dropped.course slot := dropped.count_course (by decide)
      _ = told.course slot := hdropped
      _ = uncovered.course slot := htold
      _ = s.course slot := huncovered

theorem State.settleRises_course (s : State) (ns : List Nat) : (s.settleRises ns).course slot = s.course slot := by
  have happlied (s : State) (n l : Nat) : (s.setApplied n l).course slot = s.course slot := by
    unfold State.setApplied
    extract_lets was u
    have hu : u.course slot = s.course slot := s.modChan_course n fun _ => ⟨rfl, rfl⟩
    split
    · exact (u.count_course (by decide)).trans hu
    · exact hu
  unfold State.settleRises
  extract_lets ms u
  have hu : u.course slot = s.course slot := foldl_keeps (part := fun s => s.course slot) (fun t n => happlied t n _) ms s
  split
  · exact (u.raise_course _).trans hu
  · exact hu

theorem State.setJobState_course (s : State) (st : JobState) : (s.setJobState slot st).course slot = s.course slot := by
  unfold State.setJobState
  extract_lets u
  have hu : u.course slot = s.course slot := (State.writeHeader_course _ slot).trans (s.modJob_course fun _ => rfl)
  split
  · split
    · exact hu
    · exact (u.settleRises_course _).trans hu
  · exact hu

theorem State.unprepared_course (s : State) (i : Job) (ns : List Nat) : (s.putBack i ns Chan.unprepare).course slot = s.course slot := by
  unfold State.putBack
  extract_lets u
  have hu : u.course slot = s.course slot :=
    foldl_keeps (f := fun s n => s.modChan n Chan.unprepare) (part := fun s => s.course slot) (fun s n => s.modChan_course n fun _ => ⟨rfl, rfl⟩) ns s
  exact (foldl_keeps (f := fun t n => t.modChan n (fun c => c.moveChanges (s.leadPack i n) (t.leadPack i n))) (part := fun s => s.course slot)
    (fun t n => t.modChan_course n fun _ => ⟨rfl, rfl⟩) i.chans u).trans hu

theorem State.enterLate_course (s : State) (line : Nat) : (s.enterLate slot line).course slot = s.course slot := by
  unfold State.enterLate
  split
  · rfl
  · next i _ =>
    extract_lets x v back late
    calc (((late.setJobState slot .late).raise 0x3E).count 22).course slot = ((late.setJobState slot .late).raise 0x3E).course slot :=
        State.count_course (by decide) _
      _ = (late.setJobState slot .late).course slot := State.raise_course _ _
      _ = late.course slot := late.setJobState_course _
      _ = back.course slot := back.modJob_course fun _ => rfl
      _ = s.course slot := s.unprepared_course i i.chans

theorem State.sendNewPkt_course (s : State) (id kind : Nat) (b : Bytes) : (s.sendNewPkt id kind b).course slot = s.course slot := by
  have hsame : s.takePktId.2.SameButFrames (s.sendNewPkt id kind b) := State.sendPkt_frames _ _ _ _ _
  have hcounter : (s.sendNewPkt id kind b).counter 21 = s.counter 21 := (State.sendPkt_counter (by decide) _ _ _ _ _).trans rfl
  refine State.course_of_lineParts hsame.sent.lineParts ?_ hcounter
  unfold State.SameButFrames at hsame
  rw [hsame]
  rfl

theorem State.lateStart_course (s : State) (line : Nat) : (s.lateStart slot line).course slot = s.course slot := by
  unfold State.lateStart
  split
  · rfl
  · next i _ =>
    extract_lets late web d
    have hlate : late.course slot = s.course slot := s.enterLate_course line
    have hweb : web.course slot = late.course slot := by
      change State.course (if _ then _ else _) slot = _
      split <;> rfl
    split
    · refine (State.sendNewPkt_course _ _ _ _).trans ?_
      refine Eq.trans (State.modJob_course d.2 ?_) (hweb.trans hlate)
      exact fun _ => rfl
    · exact hweb.trans hlate

theorem State.ringFed_course (s : State) (i : Job) : (s.ringFed i).2.course slot = s.course slot := by
  unfold State.ringFed
  split <;> rfl

theorem State.lineLate_course (s : State) (n line : Nat) : (s.lineLate slot n line).course slot = s.course slot := by
  unfold State.lineLate
  split
  · rfl
  · next i _ =>
    split
    · rfl
    · split
      · exact s.modChan_course n fun _ => ⟨rfl, rfl⟩
      · split
        · exact s.lateStart_course line
        · extract_lets r
          have hr : r.2.course slot = s.course slot := s.ringFed_course i
          clear_value r
          split
          · exact (State.sendNewPkt_course _ _ _ _).trans ((r.2.enterLate_course line).trans hr)
          · exact (r.2.externalSkip_course line).trans hr

/-! ### The packing pass, and a line passed over -/

theorem State.pruneMaps_course (s : State) (i : Job) (n : Nat) : (s.pruneMaps i n).course slot = s.course slot := by
  unfold State.pruneMaps
  split
  · extract_lets low
    refine Eq.trans (State.modChan_course _ _ ?_) (State.modChan_course _ _ ?_) <;>
      exact fun _ => ⟨rfl, rfl⟩
  · rfl

theorem State.packLine_course (s : State) (n line : Nat) : (s.packLine slot n line []).course slot = s.course slot := by
  unfold State.packLine
  split
  · rfl
  · next i _ =>
    extract_lets c d u
    have hd : d.2.course slot = s.course slot := by
      change State.course (Prod.snd (if _ then _ else _)) slot = _
      split
      · exact s.detect_course 22 _
      · rfl
    clear_value d
    have hlate : (d.2.lineLate slot n line).course slot = s.course slot := (d.2.lineLate_course n line).trans hd
    refine State.course_ite rfl ?_
    split
    · refine State.course_ite ((State.pruneMaps_course _ i n).trans ((State.modFifo_course d.2 slot n ?_).trans hd)) hlate
      exact fun _ => ⟨rfl, rfl⟩
    · exact hlate

end Sys2Proof.Machine
end

section
/-! SUPPORT. Fire positions: a line on time, late or suppressed (04 R129, R150, R151). -/
namespace Sys2Proof.Machine
variable {s t : State} {ch : Fin 48} {slot n line : Nat} {j : Job} {c : Chan} {f : Firing} {p : Period}

/-! ### Lines passed over and lines dropped -/

/-- A job with a line in its fire period goes on, whatever of its other lines is passed over (05 R189, R191). -/
theorem State.settled_of_busy (hjob : s.jobAt slot = some j) (hbusy : s.jobQuiet j = false) : (s.checkStopAt slot).checkEnded slot = s := by
  have hstop : s.checkStopAt slot = s := by
    unfold State.checkStopAt
    rw [hjob]
    dsimp only
    split
    · rw [hbusy, Bool.and_false, Bool.false_and]
      exact if_neg Bool.false_ne_true
    · rfl
  rw [hstop, State.checkEnded_eq hjob, State.linesOver, hbusy, Bool.and_false, Bool.false_and]
  exact if_neg Bool.false_ne_true

theorem State.modFifo_counter {i : Nat} (h : i ≠ 3) (s : State) (slot n : Nat) (g : Chan → Chan) : (s.modFifo slot n g).counter i = s.counter i := by
  obtain hfifo | ⟨k, hfifo⟩ := s.modFifo_eq slot n g <;> rw [hfifo]
  · rfl
  · exact State.counter_raise _ k i h

/-- A channel whose next line is passed over (04 R151). -/
def Chan.passesOver (c : Chan) (line : Nat) : Chan :=
  { c.leftLine line with
    nextLine := line + 1, dueEarly := 0, heldMiss := none
    prepared := c.prepared.filter (fun p => p.line ≠ line), packed := c.packed.filter (fun x => x.1.line ≠ line)
    fifo := c.fifo.filter (fun f => f.line ≠ line), gone := c.gone.filter (fun l => l ≠ line) }

/-- A line passed over while a slot of the line before it goes on: that slot, the interlocks and the counter of suppressed lines stay. -/
theorem State.passOver_busy (hn : n < 48) (hjob : s.jobAt slot = some j) (hmem : n ∈ j.chans) (hfiring : (s.chan n).firing = some f)
    (hline : f.period.cosy = false) (hslots : f.slot + 1 < f.period.plan.length) (line : Nat) :
    (s.passOver slot n line).counter 21 = s.counter 21 ∧ (s.passOver slot n line).ilk = s.ilk ∧
      ((s.passOver slot n line).chan n).firing = some f ∧ ((s.passOver slot n line).chan n).nextLine = line + 1 := by
  let u := s.modFifo slot n (fun c => c.passesOver line)
  let v := ((u.composeFrom slot n (line + 1)).composeOn slot n).packLine slot n (line + 1) []
  have hparts : u.lineParts = (s.modChan n (fun c => c.passesOver line)).lineParts := s.modFifo_lineParts slot n _
  have hcounter : u.counter 21 = s.counter 21 := s.modFifo_counter (by decide) slot n _
  have hilk : u.ilk = s.ilk := congrArg (fun x => x.2.1) (s.modFifo_drive slot n _)
  have hself : u.chan n = (s.chan n).passesOver line := (State.chan_of_lineParts hparts n).trans (State.chan_modChan s n _ hn)
  have hv : v.course slot = u.course slot :=
    (State.packLine_course _ n (line + 1)).trans ((State.composeOn_course _ n).trans (u.composeFrom_course n (line + 1)))
  obtain ⟨i, hi, hchans⟩ := State.course_job hv (show u.jobAt slot = some j from (State.jobAt_of_lineParts hparts slot).trans hjob)
  have hfires : (v.chan n).firing = some f := (State.course_firing hv n).trans ((congrArg Chan.firing hself).trans hfiring)
  have hover : s.passOver slot n line = v :=
    State.settled_of_busy hi (State.not_jobQuiet (hchans ▸ hmem) (Chan.inPeriod_of_slots hfires hline hslots))
  rw [hover]
  exact ⟨(State.course_counter hv).trans hcounter, (State.course_ilk hv).trans hilk, hfires, (State.course_nextLine hv n).trans (congrArg Chan.nextLine hself)⟩

/-- A channel of which composition has come to a line (05 R171). -/
def Chan.composedTo (c : Chan) (line : Nat) : Chan := { c with nextCompose := max c.nextCompose line }

theorem State.composeFrom_chans (s : State) (slot n line : Nat) : (s.composeFrom slot n line).chans = (s.modChan n (fun c => c.composedTo line)).chans := by
  unfold State.composeFrom
  extract_lets was line' u
  have hu : u = s.modChan n (fun c => c.composedTo line) := s.modChan_congr rfl
  rw [← hu]
  exact foldl_keeps (part := State.chans) (fun s i => s.clearCover_chans _ _ _) _ u

theorem State.composeFrom_chan (hn : n < 48) (s : State) (slot line : Nat) : (s.composeFrom slot n line).chan n = (s.chan n).composedTo line :=
  (State.chan_of_chans (s.composeFrom_chans slot n line) n).trans (State.chan_modChan s n _ hn)

theorem State.composeFrom_chan_ne {m : Nat} (h : m ≠ n) (s : State) (slot line : Nat) : (s.composeFrom slot n line).chan m = s.chan m :=
  (State.chan_of_chans (s.composeFrom_chans slot n line) m).trans (State.chan_modChan_ne s n m _ (Ne.symm h))

/-- A line ahead of a channel's next one that the channel leaves out (04 R151, 05 R198). -/
def Chan.drops (c : Chan) (line : Nat) : Chan :=
  let c := match c.prepared with
    | some p => if p.line = line then { c with prepared := none, dueEarly := 0 } else c
    | none => c
  { c with packed := c.packed.filter (fun x => x.1.line ≠ line), fifo := c.fifo.filter (fun f => f.line ≠ line), gone := c.gone ++ [line] }

theorem Chan.drops_gone (c : Chan) (line : Nat) : (c.drops line).gone = c.gone ++ [line] := by
  unfold Chan.drops
  dsimp only
  split
  · split <;> rfl
  · rfl

theorem State.dropLine_gone (hn : n < 48) (s : State) (slot line : Nat) : ((s.dropLine slot n line).chan n).gone = (s.chan n).gone ++ [line] := by
  have hparts : (s.modFifo slot n (fun c => c.drops line)).lineParts = (s.modChan n (fun c => c.drops line)).lineParts := s.modFifo_lineParts slot n _
  have hself := (State.chan_of_lineParts hparts n).trans (State.chan_modChan s n _ hn)
  have hdrop : s.dropLine slot n line = (s.modFifo slot n (fun c => c.drops line)).composeOn slot n := rfl
  rw [hdrop, State.composeOn, State.composeFrom_chan hn, hself]
  exact (s.chan n).drops_gone line

/-! ### FIRE_POSITION_REACHED -/

/-- The job of a channel runs, and nothing keeps the channel's lines from coming due (04 R129, 03 R112). -/
structure State.Travels (s : State) (ch : Fin 48) (slot : Nat) (j : Job) : Prop where
  run : s.inRun = true
  jobOf : s.jobOf ch.val = some slot
  job : s.jobAt slot = some j
  running : j.state = .running
  goes : j.passWait = false
  safe : s.shutdownLatched ch.val = false
  stays : (s.chan ch.val).shutAtSlot = 0

theorem State.Travels.mem (h : s.Travels ch slot j) : ch.val ∈ j.chans := by
  have hany := List.find?_some h.jobOf
  simp only [h.job, Option.any_some] at hany
  exact mem_chans.2 ⟨ch.isLt, hany⟩

/-- The channel's next line is due and has not begun. -/
def Chan.lineDue (c : Chan) : Bool := decide (c.dueEarly ≠ 0) || (match c.prepared with | some p => decide (p.due ≠ 0) | none => false)

/-- Every slot before the last one of the line before has begun, at the place where it should (04 R150). -/
def Chan.lastSlotBegun (c : Chan) (line : Nat) : Bool :=
  !c.stitchBack line && (match c.firing with | some f => f.period.cosy || decide (f.period.plan.length ≤ f.slot + 1) | none => true)

/-- The channel's next line due, late or not (04 R150). -/
def Chan.comesDue (c : Chan) (late : Bool) : Chan :=
  let due := if late then 2 else 1
  { c with prepared := c.prepared.map (fun p => { p with due := due }), dueEarly := if c.prepared.isSome then 0 else due }

/-- What FIRE_POSITION_REACHED does on such a channel: after a line that is due, before the next line's position, and at it with the line packed or
prepared. -/
theorem State.Travels.exec_cases (h : s.Travels ch slot j) :
    let c := s.chan ch.val
    let reached := s.reaches j ch.val (s.slotPos j ch.val c.nextLine 0 1)
    (c.lineDue = true → exec (.firePositionReached ch) s = .next (s.overtaken slot ch.val (c.following (c.nextLine + 1)))) ∧
    (c.lineDue = false → reached = false → exec (.firePositionReached ch) s = .next s) ∧
    (c.lineDue = false → reached = true → j.beyond c.nextLine = false → c.gone.contains c.nextLine = false → s.shot 20 = false → s.shot 21 = false →
      c.prepared.isSome = true ∨ c.packed.isSome = true → exec (.firePositionReached ch) s = .next (
        if c.lastSlotBegun c.nextLine then (if c.inPeriod.isSome then s.count 20 else s).modChan ch.val (fun d => d.comesDue c.inPeriod.isSome)
        else ((s.count 21).lineDone slot ch.val c.nextLine (.skipped 2)).passOver slot ch.val c.nextLine)) := by
  have hgo : ¬ (!s.inRun || decide (j.state ≠ .running) || j.passWait || s.shutdownLatched ch.val || decide ((s.chan ch.val).shutAtSlot ≠ 0)) = true := by
    rw [h.run, h.goes, h.safe, decide_eq_false (not_not.2 h.stays), decide_eq_false (not_not.2 h.running)]
    exact Bool.false_ne_true
  intro c reached
  change (_ → execFirePositionReached ch s = _) ∧ (_ → _ → execFirePositionReached ch s = _) ∧ (_ → _ → _ → _ → _ → _ → _ → execFirePositionReached ch s = _)
  unfold execFirePositionReached
  extract_lets n d line due begun lowest d21 s21 late d20 s20 dueAs first
  rw [show s.jobOf n = some slot from h.jobOf]
  dsimp -zeta only
  rw [h.job]
  dsimp -zeta only
  rw [if_neg hgo]
  have hdue : due = c.lineDue := by
    change (_ || match c.prepared with | some _ => _ | none => _) = _
    unfold Chan.lineDue
    cases c.prepared <;> rfl
  have hbegun : begun = c.lastSlotBegun c.nextLine := by
    change (_ && match c.firing with | some _ => _ | none => _) = _
    unfold Chan.lastSlotBegun
    cases c.firing <;> rfl
  have hreached : s.reaches j n (s.slotPos j n line 0 1) = reached := rfl
  rw [hdue, hreached]
  clear_value due reached
  refine ⟨fun hc => if_pos hc, fun hc hr => ?_, fun hc hr hbeyond hgone h20 h21 hready => ?_⟩
  · rw [hc, hr, if_neg Bool.false_ne_true, Bool.not_false, Bool.or_true]
    exact if_pos rfl
  · have h21' : d21 = (!begun, s) := by
      change (if lowest then _ else _) = _
      rw [State.detect_eq s 21 _ h21, ite_self]
    have h20' : d20 = (c.inPeriod.isSome, s) := by
      change (if lowest then State.detect d21.2 20 c.inPeriod.isSome else _) = _
      rw [h21', State.detect_eq s 20 _ h20, ite_self]
    have hpast : ¬ (j.beyond line || !reached) = true := by
      rw [show j.beyond line = false from hbeyond, hr]
      exact Bool.false_ne_true
    have hmissed : ¬ ((d.hold || decide (d.heldMiss = some line)) && d.prepared.isNone && d.packed.isNone) = true := by
      have hd : d = c := rfl
      rw [hd]
      rcases hready with hsome | hsome <;> rw [← Option.not_isSome, ← Option.not_isSome, hsome] <;> simp
    rw [hc, if_neg Bool.false_ne_true, if_neg hpast, if_neg (Bool.eq_false_iff.1 hgone), if_neg hmissed]
    cases hlast : c.lastSlotBegun c.nextLine with
    | false =>
      have hs21 : s21 = s.count 21 := by
        change d21.2.count 21 = _
        rw [h21']
      rw [if_pos (by rw [h21', hbegun, hlast]; rfl), if_neg Bool.false_ne_true, hs21]
    | true =>
      have hs20 : s20 = if c.inPeriod.isSome then s.count 20 else s := by
        change (if d20.1 = true then d20.2.count 20 else d20.2) = _
        rw [h20']
      have hlate : (d20.1 && !late) = false := by
        rw [h20']
        exact Bool.and_not_self _
      have hdueAs : dueAs = if c.inPeriod.isSome then 2 else 1 := by
        change (if d20.1 = true then 2 else 1) = _
        rw [h20']
      rw [if_neg (by rw [h21', hbegun, hlast]; exact Bool.false_ne_true), if_pos rfl, hs20, hlate, hdueAs]
      refine congrArg Host.Outcome.next (State.modChan_congr _ ?_)
      generalize State.chan _ n = x
      unfold Chan.comesDue
      cases x.prepared <;> simp

/-! ### A line on time, late, suppressed -/

theorem Chan.lineDue_false (hearly : c.dueEarly = 0) (h : ∀ p, c.prepared = some p → p.due = 0) : c.lineDue = false := by
  unfold Chan.lineDue
  rw [decide_eq_false (not_not.2 hearly)]
  cases hprepared : c.prepared with
  | none => rfl
  | some p => exact decide_eq_false (not_not.2 (h p hprepared))

theorem Chan.lineDue_true (hprepared : c.prepared = some p) (hdue : p.due ≠ 0) : c.lineDue = true := by
  unfold Chan.lineDue
  rw [hprepared, Bool.or_eq_true]
  exact .inr (decide_eq_true hdue)

theorem Chan.stitchBack_idle (h : c.firing = none) (line : Nat) : c.stitchBack line = false := by
  unfold Chan.stitchBack
  rw [h]

theorem Chan.lastSlotBegun_idle (h : c.firing = none) (line : Nat) : c.lastSlotBegun line = true := by
  unfold Chan.lastSlotBegun
  rw [Chan.stitchBack_idle h, h]
  rfl

theorem Chan.inPeriod_idle (h : c.firing = none) : c.inPeriod = none := by
  unfold Chan.inPeriod
  rw [h]

theorem Chan.lastSlotBegun_firing (hfiring : c.firing = some f) (hline : f.period.cosy = false) (hstitch : c.stitchBack line = false) :
    c.lastSlotBegun line = decide (f.period.plan.length ≤ f.slot + 1) := by
  unfold Chan.lastSlotBegun
  rw [hstitch, hfiring, Bool.not_false, Bool.true_and]
  dsimp only
  rw [hline, Bool.false_or]

theorem Chan.lastSlotBegun_false (hfiring : c.firing = some f) (hline : f.period.cosy = false) (hslots : f.slot + 1 < f.period.plan.length) (line : Nat) :
    c.lastSlotBegun line = false := by
  unfold Chan.lastSlotBegun
  rw [hfiring]
  dsimp only
  rw [hline, decide_eq_false (by omega), Bool.or_false, Bool.and_false]

/-- The last slot of a line is being fired. -/
theorem Chan.inPeriod_lastSlot (hfiring : c.firing = some f) (hline : f.period.cosy = false) (hended : f.ended = false) : c.inPeriod = some f.period := by
  unfold Chan.inPeriod
  rw [hfiring]
  dsimp only
  rw [hline, hended]
  rfl

/-- A line that waits to be prepared comes due. -/
theorem Chan.comesDue_early (h : c.prepared = none) (late : Bool) : c.comesDue late = { c with dueEarly := if late then 2 else 1 } := by
  unfold Chan.comesDue
  simp [h]

/-- A prepared line comes due. -/
theorem Chan.comesDue_prepared (h : c.prepared = some p) (hearly : c.dueEarly = 0) (late : Bool) :
    c.comesDue late = { c with prepared := some { p with due := if late then 2 else 1 } } := by
  unfold Chan.comesDue
  simp [h, hearly]

theorem State.counter_count_congr {k : Nat} (hk : k < 128) (h : t.counter k = s.counter k) : (t.count k).counter k = (s.count k).counter k := by
  have hcount (u : State) : (u.count k).counter k = BitVec.ofNat 16 (min 0xFFFF ((u.counter k).toNat + 1)) := vget_vset_self _ _ _ _ hk
  rw [hcount, hcount, h]

/-- No line comes due after one that is due where there is none, or before its position (04 R129). -/
theorem State.overtaken_none (hjob : s.jobAt slot = some j) (h : j.beyond line = true ∨ s.reaches j n (s.slotPos j n line 0 1) = false) :
    s.overtaken slot n line = s := by
  have hnot : (j.beyond line || !s.reaches j n (s.slotPos j n line 0 1)) = true := by
    rcases h with h | h <;> rw [h] <;> simp
  unfold State.overtaken
  rw [hjob]
  exact if_pos hnot

/-- The line after one that is due and has not begun is suppressed at its position: counted, and left out (04 R151; log entry 21). -/
theorem State.overtaken_suppresses (hn : n < 48) (hjob : s.jobAt slot = some j) (hbeyond : j.beyond line = false)
    (hreach : s.reaches j n (s.slotPos j n line 0 1) = true) : let t := s.overtaken slot n line
    t.counter 21 = (s.count 21).counter 21 ∧ (t.chan n).gone = (s.chan n).gone ++ [line] ∧ (t.chan n).nextLine = (s.chan n).nextLine ∧
      (t.chan n).firing = (s.chan n).firing ∧ t.ilk = s.ilk := by
  let u := if s.lowestRunningChan = some n then (s.detect 21 true).2 else s
  let v := u.lineDone slot n line (.skipped 2)
  have hover : s.overtaken slot n line = (v.count 21).dropLine slot n line := by
    unfold State.overtaken
    rw [hjob]
    exact if_neg (by rw [hbeyond, hreach]; exact Bool.false_ne_true)
  have hu : u.course slot = s.course slot := State.course_ite (s.detect_course 21 true) rfl
  have hchans : u.chans = s.chans := by
    change State.chans (if _ then _ else _) = _
    split
    · exact congrArg Prod.fst (s.detect_sent 21 true).lineParts
    · rfl
  have hv : v.course slot = s.course slot := (u.lineDone_course n line _).trans hu
  have hgone : (v.chan n).gone = (s.chan n).gone := by
    obtain h | ⟨-, h⟩ := u.lineDone_chan slot n line (.skipped 2) n <;> rw [h, State.chan_of_chans hchans]
    rfl
  have hdrop := (v.count 21).dropLine_course (slot := slot) n line
  rw [hover]
  refine ⟨(State.course_counter hdrop).trans (State.counter_count_congr (by decide) (State.course_counter hv)), ?_,
    (State.course_nextLine hdrop n).trans (State.course_nextLine hv n), (State.course_firing hdrop n).trans (State.course_firing hv n),
    (State.course_ilk hdrop).trans ((v.count_ilk 21).trans (State.course_ilk hv))⟩
  rw [State.dropLine_gone hn, State.chan_count, hgone]

/-- A line whose position is reached before the last slot of the line before has begun is suppressed (04 R151). -/
theorem State.Travels.suppresses (h : s.Travels ch slot j) (hfiring : (s.chan ch.val).firing = some f) (hline : f.period.cosy = false)
    (hslots : f.slot + 1 < f.period.plan.length) (line : Nat) :
    let t := ((s.count 21).lineDone slot ch.val line (.skipped 2)).passOver slot ch.val line
    t.counter 21 = (s.count 21).counter 21 ∧ (t.chan ch.val).nextLine = line + 1 ∧ (t.chan ch.val).firing = some f ∧ t.ilk = s.ilk := by
  have hdone := (s.count 21).lineDone_course (slot := slot) ch.val line (.skipped 2)
  obtain ⟨i, hi, hchans⟩ := State.course_job hdone (show (s.count 21).jobAt slot = some j from h.job)
  obtain ⟨hcounter, hilk, hfires, hnext⟩ := State.passOver_busy ch.isLt hi (hchans ▸ h.mem) ((State.course_firing hdone ch.val).trans hfiring) hline hslots line
  exact ⟨hcounter.trans (State.course_counter hdone), hnext, hfires, hilk.trans ((State.course_ilk hdone).trans (s.count_ilk 21))⟩

end Sys2Proof.Machine
end

section
/-! SUPPORT. LINE_COMPOSED: the line in its FIFO, its posted and coverage bits given up (05 R160, R171, R177, 10 R333). -/
namespace Sys2Proof.Machine
variable {s t u : State} {slot n line : Nat} {j : Job} {c : Chan}

/-! ### Posted and coverage bits -/

/-- Posted and coverage bits without those of a line on a channel (05 R171). -/
def State.uncoverLine (s : State) (j : Job) (n line : Nat) : List (Nat × BitVec 33) :=
  (List.range 4).foldl (fun (m : List (Nat × BitVec 33)) (k : Nat) =>
    match vget j.layers k none with
    | some d => sput 0 m (coverKey k (s.layerCh j n) (layerLine k d line)) 0
    | none => m) j.cover

/-- Bits without those of one layer: well formed, what was 0 stays 0, and those of the layer are 0. -/
theorem uncoverLayer_zeros {m : List (Nat × BitVec 33)} (h : swf 0 m = true) (o : Option Layer) (key : Layer → Nat) :
    let r := match o with | some d => sput 0 m (key d) 0 | none => m
    swf 0 r = true ∧ (∀ a, sget 0 m a = 0 → sget 0 r a = 0) ∧ ∀ d, o = some d → sget 0 r (key d) = 0 := by
  cases o with
  | none => exact ⟨h, fun _ => id, fun d hd => by cases hd⟩
  | some d =>
    have hself := sget_sput_self 0 m (key d) 0 h
    refine ⟨swf_sput 0 m _ 0 h, fun a ha => ?_, fun e he => ?_⟩
    · by_cases hkey : a = key d
      · rw [hkey, hself]
      · exact (sget_sput_ne 0 m (key d) a 0 h hkey).trans ha
    · cases he
      exact hself

theorem State.uncoverLine_zeros (h : swf 0 j.cover = true) (s : State) (n line : Nat) : swf 0 (s.uncoverLine j n line) = true ∧
    (∀ a, sget 0 j.cover a = 0 → sget 0 (s.uncoverLine j n line) a = 0) ∧
      ∀ k d, k < 4 → vget j.layers k none = some d → sget 0 (s.uncoverLine j n line) (coverKey k (s.layerCh j n) (layerLine k d line)) = 0 := by
  have hlayer (k : Nat) {m : List (Nat × BitVec 33)} (hm : swf 0 m = true) :=
    uncoverLayer_zeros hm (vget j.layers k none) (fun d => coverKey k (s.layerCh j n) (layerLine k d line))
  have hfold (l : List Nat) (m : List (Nat × BitVec 33)) (hm : swf 0 m = true) :
      let r := l.foldl (fun (m : List (Nat × BitVec 33)) (k : Nat) =>
        match vget j.layers k none with
        | some d => sput 0 m (coverKey k (s.layerCh j n) (layerLine k d line)) 0
        | none => m) m
      swf 0 r = true ∧ (∀ a, sget 0 m a = 0 → sget 0 r a = 0) ∧
        ∀ k d, k ∈ l → vget j.layers k none = some d → sget 0 r (coverKey k (s.layerCh j n) (layerLine k d line)) = 0 := by
    induction l generalizing m with
    | nil => exact ⟨hm, fun _ => id, fun k d hk => by cases hk⟩
    | cons i l ih =>
      obtain ⟨hswf, hkeep, hzero⟩ := hlayer i hm
      obtain ⟨hswf', hkeep', hzero'⟩ := ih _ hswf
      refine ⟨hswf', fun a ha => hkeep' a (hkeep a ha), fun k d hk hd => ?_⟩
      rcases List.mem_cons.1 hk with rfl | hk
      · exact hkeep' _ (hzero d hd)
      · exact hzero' k d hk hd
  obtain ⟨hswf, hkeep, hzero⟩ := hfold (List.range 4) j.cover h
  exact ⟨hswf, hkeep, fun k d hk => hzero k d (List.mem_range.2 hk)⟩

theorem State.clearCover_cases (hjob : s.jobAt slot = some j) (n line : Nat) : s.clearCover slot n line = s ∨
    s.clearCover slot n line = s.modJob slot (fun x => { x with cover := s.uncoverLine j n line }) := by
  unfold State.clearCover
  rw [hjob]
  dsimp -zeta only
  extract_lets pairDone cleared
  split
  · exact .inr rfl
  · exact .inl rfl

/-- A channel without a partner gives up the bits of a line at once (05 R171). -/
theorem State.clearCover_alone (hjob : s.jobAt slot = some j) (halone : s.partnerIn j n = none) (hgeo : j.geometry ≠ 2) (line : Nat) :
    s.clearCover slot n line = s.modJob slot (fun x => { x with cover := s.uncoverLine j n line }) := by
  unfold State.clearCover
  rw [hjob]
  dsimp only
  rw [halone]
  exact if_pos (by simp [hgeo])

/-- Nothing differs but channels and the bits of one job, of which those that were 0 stay 0. -/
structure State.GivesUp (s t : State) (slot : Nat) : Prop where
  rest : t = { s with chans := t.chans, jobs := t.jobs }
  others : ∀ k, k ≠ slot → t.jobAt k = s.jobAt k
  job : ∀ j, s.jobAt slot = some j → ∃ cov, t.jobAt slot = some { j with cover := cov } ∧
    (swf 0 j.cover = true → swf 0 cov = true ∧ ∀ a, sget 0 j.cover a = 0 → sget 0 cov a = 0)

theorem State.GivesUp.of_jobs (hrest : t = { s with chans := t.chans, jobs := t.jobs }) (hjobs : t.jobs = s.jobs) : s.GivesUp t slot :=
  ⟨hrest, fun k _ => State.jobAt_of_jobs hjobs k, fun j hj => ⟨j.cover, (State.jobAt_of_jobs hjobs slot).trans hj, fun h => ⟨h, fun _ => id⟩⟩⟩

theorem State.GivesUp.trans (h : s.GivesUp t slot) (g : t.GivesUp u slot) : s.GivesUp u slot := by
  refine ⟨?_, fun k hk => (g.others k hk).trans (h.others k hk), fun j hj => ?_⟩
  · have hrest := g.rest
    rw [h.rest] at hrest
    exact hrest
  · obtain ⟨cov, ht, hcov⟩ := h.job j hj
    obtain ⟨cov', hu, hcov'⟩ := g.job _ ht
    refine ⟨cov', hu, fun hswf => ?_⟩
    obtain ⟨hswf', hzeros⟩ := hcov hswf
    obtain ⟨hswf'', hzeros'⟩ := hcov' hswf'
    exact ⟨hswf'', fun a ha => hzeros' a (hzeros a ha)⟩

theorem State.clearCover_givesUp (s : State) (slot n line : Nat) : s.GivesUp (s.clearCover slot n line) slot := by
  cases hjob : s.jobAt slot with
  | none =>
    have hnone : s.clearCover slot n line = s := by
      unfold State.clearCover
      rw [hjob]
    rw [hnone]
    exact .of_jobs rfl rfl
  | some j =>
    obtain h | h := State.clearCover_cases hjob n line <;> rw [h]
    · exact .of_jobs rfl rfl
    · refine ⟨rfl, fun k hk => State.jobAt_modJob_ne s slot k _ (Ne.symm hk), fun i hi => ⟨s.uncoverLine j n line, ?_, fun hswf => ?_⟩⟩
      · rw [State.jobAt_modJob_self, hi]
        rfl
      · rw [hjob] at hi
        cases hi
        obtain ⟨hswf', hzeros, -⟩ := State.uncoverLine_zeros hswf s n line
        exact ⟨hswf', hzeros⟩

theorem State.composeFrom_givesUp (s : State) (slot n line : Nat) : s.GivesUp (s.composeFrom slot n line) slot := by
  unfold State.composeFrom
  extract_lets was line' u
  have hu : s.GivesUp u slot := .of_jobs rfl rfl
  exact hu.trans (foldl_rel (R := fun s t => s.GivesUp t slot) (fun _ => .of_jobs rfl rfl) .trans (fun s i => s.clearCover_givesUp slot n _) _ u)

/-! ### A line composed -/

theorem Chan.le_following (c : Chan) (line : Nat) : line ≤ c.following line := by
  have hfrom (gone : List Nat) (k line : Nat) : line ≤ Chan.followingIn gone k line := by
    induction k generalizing line with
    | zero => exact Nat.le_refl line
    | succ k ih =>
      unfold Chan.followingIn
      split
      · exact Nat.le_of_succ_le (ih (line + 1))
      · exact Nat.le_refl line
  exact hfrom c.gone c.gone.length line

/-- Composition goes on from a line to the next that the channel has not skipped ahead. -/
def State.composeNext (s : State) (slot n : Nat) : State := (s.composeFrom slot n ((s.chan n).nextCompose + 1)).composeOn slot n

theorem State.composeNext_givesUp (s : State) (slot n : Nat) : s.GivesUp (s.composeNext slot n) slot :=
  (s.composeFrom_givesUp slot n _).trans (State.composeFrom_givesUp _ slot n _)

theorem State.composeNext_chan (hn : n < 48) (s : State) (slot : Nat) :
    (s.composeNext slot n).chan n = { s.chan n with nextCompose := (s.chan n).following ((s.chan n).nextCompose + 1) } := by
  have hfrom : max (s.chan n).nextCompose ((s.chan n).nextCompose + 1) = (s.chan n).nextCompose + 1 := by omega
  have hon := (s.chan n).le_following ((s.chan n).nextCompose + 1)
  unfold State.composeNext State.composeOn
  rw [State.composeFrom_chan hn, State.composeFrom_chan hn]
  unfold Chan.composedTo
  dsimp only
  rw [hfrom]
  exact congrArg (fun l => { s.chan n with nextCompose := l }) (Nat.max_eq_right hon)

theorem State.composeNext_chan_ne {m : Nat} (h : m ≠ n) (s : State) (slot : Nat) : (s.composeNext slot n).chan m = s.chan m :=
  (State.composeFrom_chan_ne h _ slot _).trans (s.composeFrom_chan_ne h slot _)

theorem State.partnerIn_congr (h : ∀ m, (t.chan m).partner = (s.chan m).partner) (j : Job) (n : Nat) : t.partnerIn j n = s.partnerIn j n := by
  unfold State.partnerIn
  simp only [h]

/-- Who is whose partner does not hang on a change of a channel that leaves its partner. -/
theorem State.partnerIn_modChan (s : State) (m : Nat) {g : Chan → Chan} (j : Job) (n : Nat) (hg : ∀ c, (g c).partner = c.partner) :
    (s.modChan m g).partnerIn j n = s.partnerIn j n := by
  refine State.partnerIn_congr (fun i => ?_) j n
  obtain h | ⟨-, -, h⟩ := s.chan_modChan_cases m i g <;> rw [h]
  exact hg _

/-- The line composed gives up its bits on a channel without a partner (05 R171). -/
theorem State.composeNext_uncovers (hjob : s.jobAt slot = some j) (halone : s.partnerIn j n = none) (hgeo : j.geometry ≠ 2) (hswf : swf 0 j.cover = true)
    {cov : List (Nat × BitVec 33)} (hcov : (s.composeNext slot n).jobAt slot = some { j with cover := cov }) {k : Nat} {d : Layer} (hk : k < 4)
    (hd : vget j.layers k none = some d) : sget 0 cov (coverKey k n (layerLine k d (s.chan n).nextCompose)) = 0 := by
  let line := (s.chan n).nextCompose
  let u := s.modChan n (fun c => { c with nextCompose := line + 1 })
  have hfirst : s.composeFrom slot n (line + 1) = u.clearCover slot n line := by
    have hmax : max line (line + 1) = line + 1 := by omega
    unfold State.composeFrom
    change (List.range (min 2048 (max line (line + 1) - line))).foldl _ _ = _
    rw [show (s.chan n).nextCompose = line from rfl, hmax, show min 2048 (line + 1 - line) = 1 by omega]
    rfl
  have halone' : u.partnerIn j n = none := (s.partnerIn_modChan n (g := fun c => { c with nextCompose := line + 1 }) j n fun _ => rfl).trans halone
  have hch : u.layerCh j n = n := by
    unfold State.layerCh
    rw [halone']
  have hcleared : (s.composeFrom slot n (line + 1)).jobAt slot = some { j with cover := u.uncoverLine j n line } := by
    rw [hfirst, State.clearCover_alone (s := u) hjob halone' hgeo, State.jobAt_modJob_self, show u.jobAt slot = some j from hjob]
    rfl
  obtain ⟨hswf', -, hzeros⟩ := State.uncoverLine_zeros hswf u n line
  have hzero := hzeros k d hk hd
  rw [hch] at hzero
  obtain ⟨cov', hcov', hkeep⟩ := ((s.composeFrom slot n (line + 1)).composeFrom_givesUp slot n _).job _ hcleared
  obtain ⟨-, hkept⟩ := hkeep hswf'
  have hsame : cov = cov' := congrArg Job.cover (Option.some.inj (hcov.symm.trans hcov'))
  rw [hsame]
  exact hkept _ hzero

/-- A line with its codes enters a channel's FIFO (05 R160). -/
def Chan.stores (c : Chan) (codes : List Code) : Chan := { c with fifo := c.fifo ++ [{ line := c.nextCompose, codes := codes }] }

/-- The next line of a channel composed and in its FIFO, the store's words read with errors counted (05 R177, 10 R333). -/
def State.lineStored (s : State) (j : Job) (n corrected : Nat) (bad : List (Nat × Nat)) : State :=
  ((s.countN 84 corrected).countN 85 bad.length).modChan n (fun c => c.stores (s.composed j n (s.chan n).nextCompose bad))

/-- LINE_COMPOSED of a line that the channel may compose, no word of a bank bad and no shot on detectors 84 and 85. -/
theorem exec_lineComposed_eq {ch : Fin 48} (hrun : s.inRun = true) (hjobOf : s.jobOf ch.val = some slot) (hjob : s.jobAt slot = some j)
    (hmay : s.canCompose j ch.val = true) (h84 : s.shot 84 = false) (h85 : s.shot 85 = false) (corrected : Nat) (bad : List (Nat × Nat)) :
    exec (.lineComposed ch corrected ⟨bad, [], []⟩) s = .next ((s.lineStored j ch.val corrected bad).composeNext slot ch.val) := by
  have hgo : ¬ (!s.inRun || !s.canCompose j ch.val) = true := by
    rw [hrun, hmay]
    exact Bool.false_ne_true
  change execLineComposed ch corrected ⟨bad, [], []⟩ s = _
  unfold execLineComposed
  rw [hjobOf]
  dsimp -zeta only
  rw [hjob]
  dsimp -zeta only
  rw [if_neg hgo]
  extract_lets u i line first d84 n84 d85 words v codes w
  have hu : u = s := rfl
  have hi : i = j := by
    change (s.jobAt slot).getD j = j
    rw [hjob]
    rfl
  have h84' : d84 = (false, s) := by
    change (if _ then State.detect u 84 false else (false, u)) = _
    rw [hu, State.detect_eq s 84 false h84, ite_self]
  have h85' : d85 = (false, s) := by
    change (if _ then State.detect d84.2 85 false else (false, d84.2)) = _
    rw [h84', State.detect_eq s 85 false h85, ite_self]
  have hn84 : n84 = corrected := by
    change corrected + (if d84.1 then 1 else 0) = _
    rw [h84']
    rfl
  have hwords : words = bad := by
    change (if d85.1 = true then _ else bad) = _
    rw [h85']
    exact if_neg Bool.false_ne_true
  have hv : v = (s.countN 84 corrected).countN 85 bad.length := by
    change (d85.2.countN 84 n84).countN 85 words.length = _
    rw [h85', hn84, hwords]
  have hcodes : codes = s.composed j ch.val line bad := by
    change v.composed i ch.val line words = _
    rw [hv, hi, hwords]
    rfl
  have hw : w = s.lineStored j ch.val corrected bad := by
    change v.modChan ch.val _ = _
    rw [hv, hcodes]
    exact State.modChan_congr _ rfl
  have hnext : (w.chan ch.val).nextCompose = line := by
    rw [hw, State.lineStored, State.chan_modChan _ ch.val _ ch.isLt]
    rfl
  have hnow : w.composeNext slot ch.val = (w.composeFrom slot ch.val (line + 1)).composeOn slot ch.val := by
    rw [State.composeNext, hnext]
  rw [← hnow, hw]

/-- A line composed: in its FIFO, its bits given up, and nothing else but the counters. -/
theorem State.lineStored_composed (hn : n < 48) (hjob : s.jobAt slot = some j) (corrected : Nat) (bad : List (Nat × Nat)) :
    let t := (s.lineStored j n corrected bad).composeNext slot n
    ∃ cov, t = { s with chans := t.chans, jobs := t.jobs, tc := t.tc } ∧ t.tc = ((s.countN 84 corrected).countN 85 bad.length).tc ∧
      t.jobAt slot = some { j with cover := cov } ∧ (∀ k, k ≠ slot → t.jobAt k = s.jobAt k) ∧ (∀ m, m ≠ n → t.chan m = s.chan m) ∧
      t.chan n = { (s.chan n).stores (s.composed j n (s.chan n).nextCompose bad) with nextCompose := (s.chan n).following ((s.chan n).nextCompose + 1) } ∧
      (s.partnerIn j n = none → j.geometry ≠ 2 → swf 0 j.cover = true → ∀ k d, k < 4 → vget j.layers k none = some d →
        sget 0 cov (coverKey k n (layerLine k d (s.chan n).nextCompose)) = 0) := by
  have hself : (s.lineStored j n corrected bad).chan n = (s.chan n).stores (s.composed j n (s.chan n).nextCompose bad) := State.chan_modChan _ n _ hn
  have helse (m : Nat) (hm : m ≠ n) : (s.lineStored j n corrected bad).chan m = s.chan m := State.chan_modChan_ne _ n m _ (Ne.symm hm)
  have hrest : s.lineStored j n corrected bad = { s with chans := (s.lineStored j n corrected bad).chans, tc := (s.lineStored j n corrected bad).tc } := rfl
  have htc : (s.lineStored j n corrected bad).tc = ((s.countN 84 corrected).countN 85 bad.length).tc := rfl
  have hpartner : (s.lineStored j n corrected bad).partnerIn j n = s.partnerIn j n := State.partnerIn_modChan _ n j n fun _ => rfl
  generalize s.lineStored j n corrected bad = u at *
  have hjobs : u.jobs = s.jobs := by rw [hrest]
  have hjob' : u.jobAt slot = some j := (State.jobAt_of_jobs hjobs slot).trans hjob
  have hgives := u.composeNext_givesUp slot n
  obtain ⟨cov, hcov, -⟩ := hgives.job j hjob'
  have hchan : (u.composeNext slot n).chan n = _ := u.composeNext_chan hn slot
  have hzero := State.composeNext_uncovers (slot := slot) (n := n) (cov := cov) hjob'
  have hkept := hgives.rest
  have hother (m : Nat) (hm : m ≠ n) : (u.composeNext slot n).chan m = u.chan m := u.composeNext_chan_ne hm slot
  rw [hself] at hchan hzero
  rw [hpartner] at hzero
  have hjobs' := hgives.others
  generalize u.composeNext slot n = t at *
  have htc' : t.tc = u.tc := by rw [hkept]
  refine ⟨cov, ?_, htc'.trans htc, hcov, fun k hk => (hjobs' k hk).trans (State.jobAt_of_jobs hjobs k), fun m hm => (hother m hm).trans (helse m hm),
    hchan, fun halone hgeo hswf k d hk hd => hzero halone hgeo hswf hcov hk hd⟩
  rw [hrest] at hkept
  rw [htc']
  exact hkept

/-- Settles O37: composition gives a line's bits up as it passes it; a fire position finds its line on time, late or too early by the slot of the line
before, and a line that it suppresses is passed over or left out without touching the slot being fired. -/
theorem linesComposeAndComeDue : Obligations.LinesComposeAndComeDue := by
  unfold Obligations.LinesComposeAndComeDue
  intro s ch slot j hrun hjobOf hjob c
  refine ⟨fun corrected bad hmay h84 h85 => ?_, fun k hk hrunning hgoes hleft => ?_, fun hrunning hgoes hsafe hstays => ?_⟩
  · obtain ⟨cov, hrest, htc, hself, hothers, hchans, hchan, hzero⟩ := State.lineStored_composed ch.isLt hjob corrected bad
    exact ⟨_, cov, exec_lineComposed_eq hrun hjobOf hjob hmay h84 h85 corrected bad, hrest, htc, hself, fun k _ => hothers k, fun m _ => hchans m, hchan, hzero⟩
  · subst hk
    have hmoves : (s.inRun && decide (j.state = .running) && !j.passWait && (decide (j.lines = 0) || decide (j.trigLine < j.lines))) = true := by
      rw [hrun, hgoes, decide_eq_true hrunning]
      simpa using hleft
    change (_ → execLineTrigger k s = _) ∧ (_ → execLineTrigger k s = _)
    unfold execLineTrigger
    rw [hjob]
    dsimp only
    rw [hmoves, Bool.true_and]
    exact ⟨fun hreach => if_pos hreach, fun hreach => if_neg (Bool.eq_false_iff.1 hreach)⟩
  · have h : s.Travels ch slot j := ⟨hrun, hjobOf, hjob, hrunning, hgoes, hsafe, hstays⟩
    obtain ⟨hafter, hbefore, hat⟩ := h.exec_cases
    refine ⟨fun hearly hnone hreach => hbefore (Chan.lineDue_false hearly hnone) hreach, fun hearly hbeyond hgone h20 h21 hreach => ⟨fun hnone hpacked hidle => ?_, fun p hprepared hdue => ?_⟩,
      fun p hprepared hdue => ?_⟩
    · have hexec := hat (Chan.lineDue_false hearly fun p hp => by cases hnone.symm.trans hp) hreach hbeyond hgone h20 h21 (.inr hpacked)
      rw [Chan.lastSlotBegun_idle hidle, Chan.inPeriod_idle hidle, if_pos rfl, Option.isSome_none, if_neg Bool.false_ne_true] at hexec
      refine hexec.trans (congrArg Host.Outcome.next (s.modChan_congr ?_))
      exact Chan.comesDue_early hnone false
    · have hcomes := hat (Chan.lineDue_false hearly fun q hq => by cases hprepared.symm.trans hq; exact hdue) hreach hbeyond hgone h20 h21
        (.inl (by rw [hprepared]; rfl))
      refine ⟨fun hidle => ?_, fun f hfiring hline hended hslot hstitch => ?_, fun f hfiring hline hslots => ?_⟩
      · rw [Chan.lastSlotBegun_idle hidle, Chan.inPeriod_idle hidle, if_pos rfl, Option.isSome_none, if_neg Bool.false_ne_true] at hcomes
        refine hcomes.trans (congrArg Host.Outcome.next (s.modChan_congr ?_))
        exact Chan.comesDue_prepared hprepared hearly false
      · rw [Chan.lastSlotBegun_firing hfiring hline hstitch, Chan.inPeriod_lastSlot hfiring hline hended, decide_eq_true (by omega), if_pos rfl,
          Option.isSome_some, if_pos rfl] at hcomes
        refine hcomes.trans (congrArg Host.Outcome.next ((s.count 20).modChan_congr ?_))
        exact Chan.comesDue_prepared hprepared hearly true
      · rw [Chan.lastSlotBegun_false hfiring hline hslots, if_neg Bool.false_ne_true] at hcomes
        exact ⟨_, hcomes, h.suppresses hfiring hline hslots c.nextLine⟩
    · have hexec := hafter (Chan.lineDue_true hprepared hdue)
      intro next
      refine ⟨fun hnot => ?_, fun hbeyond hreach => ?_⟩
      · exact hexec.trans (congrArg _ (State.overtaken_none hjob hnot))
      · obtain ⟨hcounter, hgone, hnext, hfires, hilk⟩ := State.overtaken_suppresses ch.isLt hjob hbeyond hreach
        exact ⟨_, hexec, hcounter, hgone, hnext, hfires, hilk⟩

end Sys2Proof.Machine
end

section
/-! SUPPORT. The channels of a job armed, each with its next line first in its FIFO (04 R130, 05 R183, R190). -/
namespace Sys2Proof.Machine
variable {s t u : State} {slot n line : Nat} {j : Job} {c d : Chan}

/-! ### Channels whose next line stands ready -/

/-- A channel's next line stands first in its FIFO, with nothing packed and no line skipped ahead (05 R190). -/
structure Job.Ready (j : Job) (c : Chan) : Prop where
  free : c.packed = none
  none_gone : c.gone = []
  within : j.beyond c.nextLine = false
  first : ∃ f r, c.fifo = f :: r ∧ f.line = c.nextLine ∧ ∀ x, x ∈ r → f.line ≤ x.line

/-- A channel's next line is packed, with no line skipped ahead. -/
structure Chan.Packed (c : Chan) (line : Nat) : Prop where
  none_gone : c.gone = []
  next : c.nextLine = line
  packed : ∃ f codes, c.packed = some (f, codes) ∧ f.line = line

theorem Chan.following_nil (h : c.gone = []) (line : Nat) : c.following line = line := by
  rw [Chan.following, h]
  rfl

theorem Job.Ready.of_maps (h : j.Ready c) (g : c.SameButMaps d) : j.Ready d := by
  rw [g]
  exact ⟨h.free, h.none_gone, h.within, h.first⟩

theorem Job.Ready.congr {i : Job} (h : j.Ready c) (hlines : i.lines = j.lines) (hstop : i.stopAt = j.stopAt) : i.Ready c := by
  have hbeyond : i.beyond c.nextLine = j.beyond c.nextLine := by rw [Job.beyond, Job.beyond, hlines, hstop]
  exact ⟨h.free, h.none_gone, hbeyond.trans h.within, h.first⟩

theorem Chan.Packed.of_maps (h : c.Packed line) (g : c.SameButMaps d) : d.Packed line := by
  rw [g]
  exact ⟨h.none_gone, h.next, h.packed⟩

/-- A job with a line still to fire on some channel goes on (05 R189, R191). -/
theorem State.settled_of_line (hjob : s.jobAt slot = some j) (hn : n ∈ j.chans) (hline : j.beyond (s.chan n).nextToFire = false) :
    (s.checkStopAt slot).checkEnded slot = s := by
  have hall (l : Nat) (hl : ¬ l ≤ (s.chan n).nextToFire) : j.chans.all (fun n => decide (l ≤ (s.chan n).nextToFire)) = false :=
    List.all_eq_false.2 ⟨n, hn, by rwa [decide_eq_true_eq]⟩
  obtain ⟨hlines, hstops⟩ := Bool.or_eq_false_iff.1 hline
  have hstop : s.checkStopAt slot = s := by
    unfold State.checkStopAt
    rw [hjob]
    dsimp only
    split
    · next l hl =>
      rw [hl] at hstops
      rw [hall l (of_decide_eq_false hstops), Bool.and_false]
      exact if_neg Bool.false_ne_true
    · rfl
  have hover : s.linesOver j = false := by
    unfold State.linesOver
    by_cases hzero : j.lines = 0
    · simp [hzero]
    · have hbelow : ¬ j.lines ≤ (s.chan n).nextToFire := by simpa [hzero] using hlines
      rw [hall _ hbelow, Bool.and_false]
  rw [hstop, State.checkEnded_eq hjob, hover]
  exact if_neg Bool.false_ne_true

/-- The channels of a job wait with lines that lie within it, and no shot makes one of them late (15 R452). -/
structure State.Ahead (s : State) (j : Job) : Prop where
  shot : s.shot 22 = false
  some_chan : j.chans ≠ []
  ready : ∀ n, n ∈ j.chans → j.Ready (s.chan n)

theorem State.Ahead.congr {i : Job} (h : s.Ahead j) (hshot : t.shot 22 = false) (hchans : t.chans = s.chans)
    (hi : i.channels = j.channels ∧ i.lines = j.lines ∧ i.stopAt = j.stopAt) : t.Ahead i := by
  obtain ⟨hmask, hlines, hstop⟩ := hi
  have hmem : i.chans = j.chans := congrArg maskChans hmask
  exact ⟨hshot, hmem ▸ h.some_chan, fun n hn => State.chan_of_chans hchans n ▸ (h.ready n (hmem ▸ hn)).congr hlines hstop⟩

/-! ### What arming leaves alone -/

/-- Nothing differs but what the arming of channels can touch. -/
def State.SameButArmed (s t : State) : Prop := t = { s with chans := t.chans, jobs := t.jobs, fab := t.fab, tc := t.tc }

theorem State.SameButArmed.refl (s : State) : s.SameButArmed s := rfl

theorem State.SameButArmed.trans (h : s.SameButArmed t) (g : t.SameButArmed u) : s.SameButArmed u := by
  unfold State.SameButArmed at *
  rw [h] at g
  exact g

theorem State.raise_armed (s : State) (k : Nat) : s.SameButArmed (s.raise k) := by
  unfold State.raise
  split
  · split
    · split <;> rfl
    · rfl
  · split <;> rfl

theorem State.modFifo_armed (s : State) (slot n : Nat) (f : Chan → Chan) : s.SameButArmed (s.modFifo slot n f) := by
  obtain h | ⟨k, h⟩ := s.modFifo_eq slot n f <;> rw [h]
  · rfl
  · exact State.SameButArmed.trans (t := s.modChan n f) rfl (State.raise_armed _ k)

theorem State.GivesUp.armed (h : s.GivesUp t slot) : s.SameButArmed t := by
  unfold State.SameButArmed
  rw [h.rest]

theorem State.pruneMaps_armed (s : State) (j : Job) (n : Nat) : s.SameButArmed (s.pruneMaps j n) ∧ (s.pruneMaps j n).jobs = s.jobs := by
  unfold State.pruneMaps
  split <;> exact ⟨rfl, rfl⟩

/-- One channel armed: its line packed, the other channels as they were but for map changes given up, the job but for its coverage bits. -/
structure State.Arms (s t : State) (slot n : Nat) (j : Job) : Prop where
  rest : s.SameButArmed t
  job : ∃ cov, t.jobAt slot = some { j with cover := cov }
  self : (t.chan n).Packed (s.chan n).nextLine
  others : ∀ m, m ≠ n → (s.chan m).SameButMaps (t.chan m)

/-- A channel moved on to a line (04 R130, 05 R192). -/
def Chan.startsAt (c : Chan) (first : Nat) : Chan := { c with
  nextLine := first, fifo := c.fifo.filter (fun f => decide (first ≤ f.line)), gone := c.gone.filter (fun l => decide (first ≤ l)), heldMiss := none }

theorem Job.Ready.startsAt (h : j.Ready c) : c.startsAt c.nextLine = { c with heldMiss := none } := by
  obtain ⟨-, hgone, -, f, r, hfifo, hline, hr⟩ := h
  have hfilter : c.fifo.filter (fun f => decide (c.nextLine ≤ f.line)) = c.fifo := by
    refine List.filter_eq_self.2 fun x hx => decide_eq_true ?_
    rw [hfifo] at hx
    rw [← hline]
    obtain rfl | hx := List.mem_cons.1 hx
    · exact Nat.le_refl _
    · exact hr x hx
  unfold Chan.startsAt
  rw [hfilter, hgone]
  rfl

/-- A skip of no line is a change of the FIFO alone, after which composition goes on. -/
theorem State.skipTo_nextLine (s : State) (slot n cause : Nat) : s.skipTo slot n (s.chan n).nextLine cause =
    ((s.modFifo slot n (fun c => c.startsAt (s.chan n).nextLine)).composeFrom slot n (s.chan n).nextLine).composeOn slot n := by
  have hnone : List.range ((s.chan n).nextLine - (s.chan n).nextLine) = [] := by rw [Nat.sub_self, List.range_zero]
  unfold State.skipTo
  extract_lets c u v
  have hu : u = s := by
    change List.foldl _ s (List.range ((s.chan n).nextLine - (s.chan n).nextLine)) = s
    rw [hnone]
    rfl
  change ((u.modFifo slot n (fun c => c.startsAt (s.chan n).nextLine)).composeFrom slot n _).composeOn slot n = _
  rw [hu]

/-- A skip of no line: the lines in the FIFO stay. -/
theorem State.skipTo_here (hn : n < 48) (hready : j.Ready (s.chan n)) (hjob : s.jobAt slot = some j) (cause : Nat) :
    let t := s.skipTo slot n (s.chan n).nextLine cause
    s.SameButArmed t ∧ (∃ cov, t.jobAt slot = some { j with cover := cov }) ∧
      (∃ l, t.chan n = { s.chan n with nextCompose := l, heldMiss := none }) ∧ ∀ m, m ≠ n → t.chan m = s.chan m := by
  let g : Chan → Chan := fun c => c.startsAt (s.chan n).nextLine
  intro t
  have ht : t = ((s.modFifo slot n g).composeFrom slot n (s.chan n).nextLine).composeOn slot n := s.skipTo_nextLine slot n cause
  have hparts := s.modFifo_lineParts slot n g
  have hself : (s.modFifo slot n g).chan n = { s.chan n with heldMiss := none } :=
    (State.chan_of_lineParts hparts n).trans ((State.chan_modChan s n g hn).trans hready.startsAt)
  have hgives : (s.modFifo slot n g).GivesUp t slot := by
    rw [ht]
    exact (State.composeFrom_givesUp _ slot n _).trans (State.composeFrom_givesUp _ slot n _)
  obtain ⟨cov, hcov, -⟩ := hgives.job j ((State.jobAt_of_lineParts hparts slot).trans hjob)
  refine ⟨(s.modFifo_armed slot n g).trans hgives.armed, ⟨cov, hcov⟩, ⟨(t.chan n).nextCompose, ?_⟩, fun m hm => ?_⟩
  · rw [ht, State.composeOn, State.composeFrom_chan hn, State.composeFrom_chan hn, hself]
    rfl
  · rw [ht, State.composeOn, State.composeFrom_chan_ne hm, State.composeFrom_chan_ne hm, State.chan_of_lineParts hparts m]
    exact State.chan_modChan_ne s n m g (Ne.symm hm)

/-- The packing pass of a channel's next line, which stands first in its FIFO. -/
theorem State.packLine_arms (hn : n < 48) (hready : j.Ready (s.chan n)) (hjob : s.jobAt slot = some j) (hshot : s.shot 22 = false) :
    s.Arms (s.packLine slot n (s.chan n).nextLine []) slot n j := by
  obtain ⟨hfree, hgone, hwithin, f, r, hfifo, hline, -⟩ := hready
  obtain ⟨codes, hpack⟩ := State.packLine_packs hjob hwithin (by rw [hgone]; rfl) hfree hshot hfifo hline
  obtain ⟨hrest, hjobs⟩ := (s.modFifo slot n (Chan.packs f r codes)).pruneMaps_armed j n
  obtain ⟨-, hmaps⟩ := (s.modFifo slot n (Chan.packs f r codes)).pruneMaps_eq j n
  have hparts := s.modFifo_lineParts slot n (Chan.packs f r codes)
  rw [hpack]
  refine ⟨(s.modFifo_armed slot n _).trans hrest, ⟨j.cover, ?_⟩, ?_, fun m hm => ?_⟩
  · exact (State.jobAt_of_jobs hjobs slot).trans ((State.jobAt_of_lineParts hparts slot).trans hjob)
  · refine Chan.Packed.of_maps ?_ (hmaps n)
    rw [State.chan_of_lineParts hparts, State.chan_modChan s n _ hn]
    exact ⟨hgone, rfl, f, codes, rfl, hline⟩
  · have h := hmaps m
    rwa [State.chan_of_lineParts hparts, State.chan_modChan_ne s n m _ (Ne.symm hm)] at h

/-! ### A channel armed -/

/-- The position has not passed a channel's next line (04 R130). -/
def State.NotPassed (s : State) (j : Job) (n : Nat) : Prop := j.passed (s.chanPosition n) (s.slotPos j n (s.chan n).nextLine 0 1) = false

theorem State.NotPassed.passedLines (h : s.NotPassed j n) (fuel : Nat) : s.passedLines j n fuel (s.chan n).nextLine = (s.chan n).nextLine := by
  cases fuel with
  | zero => rfl
  | succ fuel =>
    unfold State.passedLines
    split
    · rfl
    · exact if_neg (by rw [h]; exact Bool.false_ne_true)

theorem State.SameButArmed.shot (h : s.SameButArmed t) (k : Nat) : t.shot k = s.shot k := by
  rw [h]
  rfl

theorem State.armChan_arms (hn : n < 48) (hready : j.Ready (s.chan n)) (hjob : s.jobAt slot = some j) (hshot : s.shot 22 = false) {skip : Bool}
    (hpos : skip = true → s.NotPassed j n) : s.Arms (s.armChan slot n skip) slot n j := by
  obtain ⟨hrest, ⟨cov, hcov⟩, ⟨l, hself⟩, hothers⟩ := State.skipTo_here hn hready hjob 4
  have hfirst : (s.chan n).following (if skip then s.passedLines j n (s.passBound j n) (s.chan n).nextLine else (s.chan n).nextLine) =
      (s.chan n).nextLine := by
    rw [Chan.following_nil hready.none_gone]
    split
    · next h => exact (hpos h).passedLines _
    · rfl
  have harm : s.armChan slot n skip = (s.skipTo slot n (s.chan n).nextLine 4).packLine slot n (s.chan n).nextLine [] := by
    unfold State.armChan
    rw [hjob]
    dsimp only
    rw [hfirst]
  generalize s.skipTo slot n (s.chan n).nextLine 4 = v at *
  have hnext : (v.chan n).nextLine = (s.chan n).nextLine := by rw [hself]
  have hready' : j.Ready (v.chan n) := by
    rw [hself]
    exact ⟨hready.free, hready.none_gone, hready.within, hready.first⟩
  have hpack := State.packLine_arms (j := { j with cover := cov }) hn (hready'.congr rfl rfl) hcov ((hrest.shot 22).trans hshot)
  rw [hnext, ← harm] at hpack
  obtain ⟨hrest', ⟨cov', hcov'⟩, hself', hothers'⟩ := hpack
  refine ⟨hrest.trans hrest', ⟨cov', hcov'⟩, hnext ▸ hself', fun m hm => ?_⟩
  rw [← hothers m hm]
  exact hothers' m hm

/-! ### The channels of a job armed -/

theorem Chan.SameButMaps.nextLine (h : c.SameButMaps d) : d.nextLine = c.nextLine := by rw [h]

theorem State.slotPos_congr (h : (s.chan n).SameButMaps (t.chan n)) (j : Job) (cov : List (Nat × BitVec 33)) (line : Nat) :
    t.slotPos { j with cover := cov } n line 0 1 = s.slotPos j n line 0 1 := by
  unfold State.slotPos State.firePos16
  rw [h]
  rfl

theorem State.chanPosition_congr (hrest : s.SameButArmed t) (h : (s.chan n).SameButMaps (t.chan n)) : t.chanPosition n = s.chanPosition n := by
  have hsrc : (t.chan n).posSrc = (s.chan n).posSrc := by rw [h]
  unfold State.chanPosition State.sourcePosition
  rw [hsrc, hrest]
  rfl

theorem State.NotPassed.congr (h : s.NotPassed j n) (hrest : s.SameButArmed t) (hmaps : (s.chan n).SameButMaps (t.chan n))
    (cov : List (Nat × BitVec 33)) : t.NotPassed { j with cover := cov } n := by
  unfold State.NotPassed
  rw [State.chanPosition_congr hrest hmaps, hmaps.nextLine, State.slotPos_congr hmaps]
  exact h

/-- Channels armed one after the other. -/
structure State.ArmsAll (s t : State) (slot : Nat) (ns : List Nat) (j : Job) : Prop where
  rest : s.SameButArmed t
  job : ∃ cov, t.jobAt slot = some { j with cover := cov }
  armed : ∀ n, n ∈ ns → (t.chan n).Packed (s.chan n).nextLine
  others : ∀ n, n ∉ ns → (s.chan n).SameButMaps (t.chan n)

theorem State.foldl_armChan {ns : List Nat} (hnodup : ns.Nodup) (hns : ∀ n, n ∈ ns → n < 48) {skip : Bool} (hjob : s.jobAt slot = some j)
    (hready : ∀ n, n ∈ ns → j.Ready (s.chan n)) (hshot : s.shot 22 = false) (hpos : skip = true → ∀ n, n ∈ ns → s.NotPassed j n) :
    s.ArmsAll (ns.foldl (fun s n => s.armChan slot n skip) s) slot ns j := by
  induction ns generalizing s j with
  | nil => exact ⟨.refl s, ⟨j.cover, hjob⟩, nofun, fun n _ => .of_eq rfl⟩
  | cons n ns ih =>
    obtain ⟨hnot, hnodup⟩ := List.nodup_cons.1 hnodup
    have hmem {m : Nat} (hm : m ∈ ns) : m ∈ n :: ns := List.mem_cons_of_mem n hm
    have hne {m : Nat} (hm : m ∈ ns) : m ≠ n := fun h => hnot (h ▸ hm)
    obtain ⟨hrest, ⟨cov, hcov⟩, hself, hothers⟩ := State.armChan_arms (hns n List.mem_cons_self) (hready n List.mem_cons_self) hjob hshot
      (fun h => hpos h n List.mem_cons_self)
    obtain ⟨hrest', hjob', harmed, hothers'⟩ := ih hnodup (fun m hm => hns m (hmem hm)) hcov
      (fun m hm => ((hready m (hmem hm)).of_maps (hothers m (hne hm))).congr rfl rfl) ((hrest.shot 22).trans hshot)
      (fun h m hm => (hpos h m (hmem hm)).congr hrest (hothers m (hne hm)) cov)
    refine ⟨hrest.trans hrest', hjob', fun m hm => ?_, fun m hm => ?_⟩
    · obtain rfl | hm := List.mem_cons.1 hm
      · exact hself.of_maps (hothers' m hnot)
      · exact (hothers m (hne hm)).nextLine ▸ harmed m hm
    · obtain ⟨hm, hm'⟩ := not_or.1 (mt List.mem_cons.2 hm)
      exact (hothers m hm).trans (hothers' m hm')

/-! ### A job armed -/

/-- A job runs, every channel with its next line packed. -/
structure State.Runs (s t : State) (slot : Nat) (j : Job) : Prop where
  job : ∃ cov, t.jobAt slot = some { j with cover := cov }
  packed : ∀ n, n ∈ j.chans → (t.chan n).Packed (s.chan n).nextLine

theorem State.Runs.of_chans (h : t.Runs u slot j) (hchans : t.chans = s.chans) : s.Runs u slot j :=
  ⟨h.job, fun n hn => State.chan_of_chans hchans n ▸ h.packed n hn⟩

theorem State.Runs.of_lineParts (h : s.Runs t slot j) (hparts : u.lineParts = t.lineParts) : s.Runs u slot j := by
  obtain ⟨⟨cov, hcov⟩, hpacked⟩ := h
  exact ⟨⟨cov, (State.jobAt_of_lineParts hparts slot).trans hcov⟩, fun n hn => (State.chan_of_lineParts hparts n).symm ▸ hpacked n hn⟩

/-- With every channel's next line packed and within the job, no stop and no end follows (05 R189, R191). -/
theorem State.Runs.settled (h : s.Runs t slot j) (hahead : s.Ahead j) : (t.checkStopAt slot).checkEnded slot = t := by
  obtain ⟨⟨cov, hcov⟩, hpacked⟩ := h
  obtain ⟨n, hn⟩ := List.exists_mem_of_ne_nil _ hahead.some_chan
  refine State.settled_of_line hcov hn ?_
  rw [Chan.nextToFire, Chan.following_nil (hpacked n hn).none_gone, (hpacked n hn).next]
  exact (hahead.ready n hn).within

/-- The channels of a job armed with their next lines ahead. -/
theorem State.Ahead.arms (h : s.Ahead j) (hjob : s.jobAt slot = some j) {skip : Bool} (hpos : skip = true → ∀ n, n ∈ j.chans → s.NotPassed j n) :
    let t := j.chans.foldl (fun s n => s.armChan slot n skip) s
    s.SameButArmed t ∧ s.Runs t slot j :=
  have hall := State.foldl_armChan (nodup_chans j) (fun _ hn => lt_of_mem_chans hn) hjob h.ready h.shot hpos
  ⟨hall.rest, hall.job, hall.armed⟩

/-- What the job is when it has armed: RUNNING, out of a data-late sequence (05 R190, R194). -/
def Job.armed (j : Job) : Job := { j with late := .none, fullSent := false, fullFrom := 0, state := .running }

theorem State.answerStarts_ops (s : State) (id : BitVec 16) : ∀ o, o ∈ (s.answerStarts id).pe.ops → o.kind ≠ .jobStart id := by
  intro o ho hkind
  obtain ⟨-, hsel⟩ := State.mem_finishOps.1 ho
  rw [hkind] at hsel
  simp at hsel

theorem State.SameButJobs.notPassed (h : s.SameButJobs t) (hpos : s.NotPassed j n) : t.NotPassed j n := by
  rw [h]
  exact hpos

theorem State.SameButArmed.drive (h : s.SameButArmed t) : t.drive = s.drive := by
  rw [h]
  rfl

/-- The job arms with its FIFOs' first lines ahead of the position (05 R190, R194). -/
theorem State.Ahead.armJob (h : s.Ahead j) (hjob : s.jobAt slot = some j) (hwait : j.passWait = false) {skip : Bool}
    (hpos : skip = true → ∀ n, n ∈ j.chans → s.NotPassed j n) :
    s.Runs (s.armJob slot skip) slot j.armed ∧ (s.armJob slot skip).drive = s.drive ∧
      ∀ o, o ∈ (s.armJob slot skip).pe.ops → o.kind ≠ .jobStart j.id := by
  let v := s.modJob slot (fun j => { j with late := .none, fullSent := false, fullFrom := 0 })
  have hv : v.jobAt slot = some { j with late := .none, fullSent := false, fullFrom := 0 } := by
    rw [State.jobAt_modJob_self, hjob]
    rfl
  have hw : (v.setJobState slot .running).jobAt slot = some j.armed := by
    rw [State.jobAt_setJobState, hv]
    rfl
  have hsame : s.SameButJobs (v.setJobState slot .running) := State.SameButJobs.trans (t := v) rfl (State.setJobState_sameButJobs hv rfl)
  have harm : s.armJob slot skip =
      (((j.chans.foldl (fun s n => s.armChan slot n skip) (v.setJobState slot .running)).answerStarts j.id).checkStopAt slot).checkEnded slot := by
    unfold State.armJob
    rw [hjob]
    dsimp only
    rw [hwait]
    rfl
  generalize v.setJobState slot .running = w at *
  have hchans : w.chans = s.chans := by rw [hsame]
  have hahead : w.Ahead j.armed := h.congr (by rw [hsame]; exact h.shot) hchans ⟨rfl, rfl, rfl⟩
  obtain ⟨hrest, hruns⟩ := hahead.arms hw (fun h n hn => hsame.notPassed (j := j.armed) (hpos h n hn))
  have hanswered := hruns.of_lineParts (State.answerStarts_lineParts _ j.id)
  have hall : s.armJob slot skip = (j.chans.foldl (fun s n => s.armChan slot n skip) w).answerStarts j.id := harm.trans (hanswered.settled hahead)
  rw [hall]
  refine ⟨hanswered.of_chans hchans, ?_, State.answerStarts_ops _ _⟩
  refine (State.finishOps_drive _ _ _).trans (hrest.drive.trans ?_)
  rw [hsame]
  rfl

end Sys2Proof.Machine
end

section
/-! SUPPORT. JOB_ARMED, SHUTTLE_PASS_ARM and the legs of the data-late sequence, and O39 (05 R183, R190-R194, 12 R393, 13 R408). -/
namespace Sys2Proof.Machine
variable {s t u : State} {slot n line : Nat} {j : Job} {k : Fin 4}

/-! ### The legs of the feed -/

/-- The feed stands on a leg. -/
def Axis.standsOn (a : Axis) (leg : Leg) : Prop := a.leg = leg ∧ a.segs = [] ∧ a.speed = 0

theorem Axis.standsOn.atRest {a : Axis} {leg : Leg} (h : a.standsOn leg) : (decide (a.leg = leg) && a.atRest) = true := by
  obtain ⟨hleg, hsegs, hspeed⟩ := h
  simp [Axis.atRest, hleg, hsegs, hspeed]

/-- One axis begins a leg of a data-late sequence; nothing else changes (07 R257, R259). -/
structure State.BeginsLeg (s t : State) (n : Nat) (leg : Leg) (x : Int) (v : Rat) : Prop where
  rest : t = { s with axes := t.axes }
  leg : (t.axis n).leg = leg
  moving : (t.axis n).state = .moving
  x : (t.axis n).legX = x
  v : (t.axis n).legV = v
  others : ∀ a, a ≠ n → t.axis a = s.axis a

theorem State.modAxis_beginsLeg {n : Nat} (hn : n < 8) {f : Axis → Axis} {leg : Leg} {x : Int} {v : Rat}
    (hf : ∀ a, (f a).leg = leg ∧ (f a).state = .moving ∧ (f a).legX = x ∧ (f a).legV = v) : s.BeginsLeg (s.modAxis n f) n leg x v := by
  obtain ⟨hleg, hmoving, hx, hv⟩ := hf (s.axis n)
  rw [← State.axis_modAxis s n f hn] at hleg hmoving hx hv
  exact ⟨rfl, hleg, hmoving, hx, hv, fun a ha => State.axis_modAxis_ne s n a f (Ne.symm ha)⟩

/-- The re-register leg: to v_R, then constant to X_T (05 R194 step 5, 07 R257). -/
theorem State.startRereg_begins (hjob : s.jobAt slot = some j) (hfeed : j.feed < 8) (resume : Bool) :
    s.BeginsLeg (s.startRereg slot resume) j.feed .rereg j.xT j.vR := by
  unfold State.startRereg
  rw [hjob]
  dsimp only
  rw [if_pos hfeed]
  exact State.modAxis_beginsLeg hfeed fun a => ⟨rfl, rfl, rfl, rfl⟩

/-- The backup leg: an absolute move to X_B (05 R194 step 3, 07 R257). -/
theorem State.startBackup_begins (hjob : s.jobAt slot = some j) (hfeed : j.feed < 8) (x : Int) (v : Rat) :
    s.BeginsLeg (s.startBackup slot x v) j.feed .backup (s.backupTarget j x v) v := by
  unfold State.startBackup
  rw [hjob]
  exact State.modAxis_beginsLeg hfeed fun a => ⟨rfl, rfl, rfl, rfl⟩

theorem State.BeginsLeg.lineParts {leg : Leg} {x : Int} {v : Rat} (h : s.BeginsLeg t n leg x v) : t.lineParts = s.lineParts := by
  rw [h.rest]
  rfl

/-! ### JOB_ARMED and SHUTTLE_PASS_ARM -/

/-- What a job that runs shows: its state, and the next line of each of its channels packed. -/
theorem State.Runs.shows {i : Job} (h : s.Runs t slot i) (hstate : i.state = .running) (hlate : i.late = .none) (hwait : i.passWait = false) :
    (∃ j', t.jobAt slot = some j' ∧ j'.state = .running ∧ j'.late = .none ∧ j'.passWait = false) ∧
      ∀ n, n ∈ i.chans → (t.chan n).nextLine = (s.chan n).nextLine ∧
        ∃ f codes, (t.chan n).packed = some (f, codes) ∧ f.line = (s.chan n).nextLine := by
  obtain ⟨⟨cov, hcov⟩, hpacked⟩ := h
  exact ⟨⟨_, hcov, hstate, hlate, hwait⟩, fun n hn => ⟨(hpacked n hn).next, (hpacked n hn).packed⟩⟩

/-- A shuttle pass with the wait for its arming over (05 R183). -/
def Job.onPass (j : Job) : Job := { j with passWait := false }

/-- What JOB_ARMED does to the job before it arms: a resume move is over (05 R192). -/
def Job.moved (j : Job) : Job :=
  { j with resumeMove := false, resumePending := if j.resumeMove then some (0, 1) else j.resumePending }

/-- A job in ARMING that may arm (05 R190). -/
structure State.MayArm (s : State) (slot : Nat) (j : Job) : Prop where
  run : s.inRun = true
  job : s.jobAt slot = some j
  arming : j.state = .arming
  full : s.fifosFull j = true
  warm : s.cosyMet j = true
  stepped : s.stepMade = true
  goes : s.pe.stalled = false

theorem State.MayArm.exec_jobArmed (h : s.MayArm k.val j) (hmoved : j.resumeMove = false ∨ (s.axis j.feed).standsOn .backup) :
    exec (.jobArmed k) s = .next (if j.resumeMove then ((s.modJob k.val Job.moved).armJob k.val true).startRereg k.val true
      else (s.modJob k.val Job.moved).armJob k.val true) := by
  have hmove : (!j.resumeMove || (decide ((s.axis j.feed).leg = .backup) && (s.axis j.feed).atRest)) = true := by
    obtain h | hstands := hmoved
    · rw [h]
      rfl
    · rw [hstands.atRest, Bool.or_true]
  obtain ⟨hrun, hjob, harming, hfull, hwarm, hstepped, hgoes⟩ := h
  change execJobArmed k s = _
  unfold execJobArmed
  rw [hjob]
  refine if_pos ?_
  rw [hrun, harming, hfull, hwarm, hmove, hstepped, hgoes]
  rfl

theorem State.MayArm.armJob (h : s.MayArm k.val j) (hahead : s.Ahead j) (hwait : j.passWait = false)
    (hpos : ∀ n, n ∈ j.chans → s.NotPassed j n) :
    let t := (s.modJob k.val Job.moved).armJob k.val true
    s.Runs t k.val j.moved.armed ∧ t.drive = s.drive ∧ ∀ o, o ∈ t.pe.ops → o.kind ≠ .jobStart j.id := by
  have hjob : (s.modJob k.val Job.moved).jobAt k.val = some j.moved := by
    rw [State.jobAt_modJob_self, h.job]
    rfl
  have hahead' : (s.modJob k.val Job.moved).Ahead j.moved := hahead.congr hahead.shot rfl ⟨rfl, rfl, rfl⟩
  obtain ⟨hruns, hdrive, hops⟩ := hahead'.armJob (skip := true) hjob hwait (fun _ => hpos)
  exact ⟨hruns.of_chans rfl, hdrive, hops⟩

/-- A follower that holds an ID arms no job before it has stepped its timebase (13 R408). -/
theorem exec_jobArmed_unstepped (hjob : s.jobAt k.val = some j) (hfollower : s.isMaster = false) (hid : s.link.id.isSome = true)
    (hstep : s.link.stepped = false) : exec (.jobArmed k) s = .next s := by
  have hmade : s.stepMade = false := by rw [State.stepMade, hfollower, hstep, Option.isNone_eq_false_iff.2 hid]; rfl
  change execJobArmed k s = _
  unfold execJobArmed
  rw [hjob]
  dsimp only
  rw [hmade, Bool.and_false, Bool.false_and]
  exact if_neg Bool.false_ne_true

/-- The position lies before line 0 in the direction of the pass that waits (05 R183). -/
def State.beforePass (s : State) (j : Job) (n : Nat) : Bool :=
  if j.reverse then decide (s.slotPos j n 0 0 1 < s.chanPosition n) else decide (s.chanPosition n < s.slotPos j n 0 0 1)

theorem State.beforePass_iff :
    s.beforePass j n = true ↔ if j.reverse then s.slotPos j n 0 0 1 < s.chanPosition n else s.chanPosition n < s.slotPos j n 0 0 1 := by
  unfold State.beforePass
  split <;> exact decide_eq_true_iff

theorem State.not_beforePass_iff :
    s.beforePass j n = false ↔ if j.reverse then s.chanPosition n ≤ s.slotPos j n 0 0 1 else s.slotPos j n 0 0 1 ≤ s.chanPosition n := by
  unfold State.beforePass
  split <;> exact decide_eq_false_iff_not.trans Int.not_lt

theorem exec_shuttlePassArm_eq (hrun : s.inRun = true) (hjob : s.jobAt k.val = some j) (hstate : j.state = .running) (hwait : j.passWait = true) :
    exec (.shuttlePassArm k) s = if j.chans.all (s.beforePass j) then
      .next (((j.chans.foldl (fun s n => s.armChan k.val n false) (s.modJob k.val Job.onPass)).checkStopAt k.val).checkEnded k.val)
    else .next s := by
  change execShuttlePassArm k s = _
  unfold execShuttlePassArm
  rw [hjob]
  dsimp only
  rw [hrun, hstate, hwait]
  rfl

/-- A pass armed (05 R183). -/
theorem State.Ahead.shuttlePassArm (h : s.Ahead j) (hjob : s.jobAt k.val = some j) :
    let t := j.chans.foldl (fun s n => s.armChan k.val n false) (s.modJob k.val Job.onPass)
    (t.checkStopAt k.val).checkEnded k.val = t ∧ s.Runs t k.val j.onPass ∧ t.axes = s.axes := by
  let v := s.modJob k.val Job.onPass
  have hv : v.jobAt k.val = some j.onPass := by
    rw [State.jobAt_modJob_self, hjob]
    rfl
  have hahead : v.Ahead j.onPass := h.congr h.shot rfl ⟨rfl, rfl, rfl⟩
  obtain ⟨hrest, hruns⟩ := hahead.arms (skip := false) hv nofun
  exact ⟨hruns.settled hahead, hruns.of_chans rfl, congrArg (fun x => x.2.2.2.1) hrest.drive⟩

/-! ### The legs of the data-late sequence -/

/-- The feed that stands at X_S turns back (05 R194 step 3). -/
theorem exec_lateWebStopped_turns (hrun : s.inRun = true) (hjob : s.jobAt k.val = some j) (hstate : j.state = .late) (hlate : j.late = .stopping)
    (hstands : (s.axis j.feed).standsOn .stopWeb) :
    exec (.lateWebStopped k) s = .next ((s.startBackup k.val j.xT j.vR).modJob k.val (fun x => { x with late := .backing })) := by
  change execLateWebStopped k s = _
  unfold execLateWebStopped
  rw [hjob]
  refine if_pos ?_
  rw [hrun, hstate, hlate, Bool.and_assoc, hstands.atRest]
  rfl

/-- The feed that stands at X_B waits (05 R194 step 4). -/
theorem exec_lateBackupDone_waits (hrun : s.inRun = true) (hjob : s.jobAt k.val = some j) (hstate : j.state = .late) (hlate : j.late = .backing)
    (hstands : (s.axis j.feed).standsOn .backup) :
    exec (.lateBackupDone k) s = .next (s.modJob k.val (fun x => { x with late := .waiting, waitFrom := s.clock })) := by
  change execLateBackupDone k s = _
  unfold execLateBackupDone
  rw [hjob]
  refine if_pos ?_
  rw [hrun, hstate, hlate, Bool.and_assoc, hstands.atRest]
  rfl

/-! ### Re-registration -/

/-- A job in LATE with full FIFOs: LATE_REREGISTER by where its feed is. -/
theorem exec_lateReregister_eq (hrun : s.inRun = true) (hjob : s.jobAt k.val = some j) (hstate : j.state = .late) (hfull : s.fifosFull j = true) :
    exec (.lateReregister k) s =
      if j.feed < 8 then (if j.late = .waiting && s.ringFull j && s.stepMade then .next (s.reregister k.val) else .next s)
      else if j.fullSent then .next s
      else .next ((s.modJob k.val (fun x => { x with fullSent := true, waitFrom := s.clock })).sendNewPkt 0 3 (signalBody 2 j.id j.nStop)) := by
  change execLateReregister k s = _
  unfold execLateReregister
  rw [hjob]
  refine if_neg ?_
  rw [hrun, hstate, hfull]
  decide

/-- No shot of a detector is released that was not (15 R455). -/
def State.FewerShots (s t : State) : Prop := ∀ k, s.shot k = false → t.shot k = false

theorem State.FewerShots.refl (s : State) : s.FewerShots s := fun _ => id
theorem State.FewerShots.trans (h : s.FewerShots t) (g : t.FewerShots u) : s.FewerShots u := fun k hk => g k (h k hk)
theorem State.FewerShots.of_inj (h : t.inj = s.inj) : s.FewerShots t := fun k hk => (State.shot_congr h k).trans hk

theorem State.modWport_fewerShots (s : State) (p : Side) (f : Port → Port) : s.FewerShots (s.modWport p f) := by
  cases p <;> exact .of_inj rfl

theorem State.freeThrough_fewerShots (s : State) (p : Side) (seq : BitVec 12) : s.FewerShots (s.freeThrough p seq) := by
  unfold State.freeThrough
  split
  · exact s.modWport_fewerShots _ _
  · exact .refl s

theorem State.replay_fewerShots (s : State) (p : Side) : s.FewerShots (s.replay p) := by
  unfold State.replay
  extract_lets n
  split
  · exact .refl s
  · exact State.FewerShots.trans (t := s.countReplays n) (.of_inj rfl) (State.modWport_fewerShots _ _ _)

theorem State.sendFrame_fewerShots (s : State) (p : Side) (f : Frame) : s.FewerShots (s.sendFrame p f) := by
  unfold State.sendFrame
  extract_lets q g sent
  have hsent : s.FewerShots sent := s.modWport_fewerShots _ _
  have htaken : sent.FewerShots sent.shotTaken := fun k _ => rfl
  split
  · exact .refl s
  split
  · split
    · split
      · exact hsent.trans (htaken.trans ((State.freeThrough_fewerShots _ _ _).trans (State.replay_fewerShots _ _)))
      · exact hsent
    · exact s.modWport_fewerShots _ _
  · exact s.modWport_fewerShots _ _

theorem State.sendNewPkt_fewerShots (s : State) (id kind : Nat) (b : Bytes) : s.FewerShots (s.sendNewPkt id kind b) := by
  have hall (s : State) (x : Bytes) : s.FewerShots (s.sendAll tPKT x) := by
    refine foldl_rel State.FewerShots.refl .trans (fun s p => ?_) _ s
    dsimp only
    split
    · exact .refl s
    · exact s.sendFrame_fewerShots _ _
  have hto (s : State) (x : Bytes) : s.FewerShots (s.sendTo id tPKT x) := by
    unfold State.sendTo
    split
    · exact .refl s
    · exact s.sendFrame_fewerShots _ _
  refine State.FewerShots.trans (t := s.takePktId.2) (.of_inj rfl) (foldl_rel State.FewerShots.refl .trans (fun s x => ?_) _ _)
  split
  · exact hall s x
  · exact hto s x

/-- The master tells the ring that a sequence is over (12 R393). -/
def State.tellRing (s : State) (j : Job) : State :=
  if j.feed < 8 && s.link.id = some 0 then s.sendNewPkt 0xFF 3 (signalBody 3 j.id j.nStop) else s

theorem State.tellRing_frames (s : State) (j : Job) : s.SameButFrames (s.tellRing j) ∧ s.FewerShots (s.tellRing j) := by
  unfold State.tellRing
  split
  · exact ⟨State.SameButFrames.trans (t := s.takePktId.2) rfl (State.sendPkt_frames _ _ _ _ _), s.sendNewPkt_fewerShots _ _ _⟩
  · exact ⟨.refl s, .refl s⟩

/-- The wait of a data-late sequence, noted for its RESUME entry (05 R201). -/
def Job.waited (wait : Nat) (j : Job) : Job := { j with resumePending := some (wait, 0) }

/-- A sequence ends: the job arms and its feed re-registers (05 R194 step 5). -/
theorem State.Ahead.reregister (h : s.Ahead j) (hjob : s.jobAt slot = some j) (hfeed : j.feed < 8) (hwait : j.passWait = false) :
    s.Runs (s.reregister slot) slot (j.waited ((s.clock - j.waitFrom) / tickUs)).armed ∧
      ∃ t : State, t.BeginsLeg (s.reregister slot) j.feed .rereg j.xT j.vR := by
  let i := j.waited ((s.clock - j.waitFrom) / tickUs)
  let v := (s.tellRing j).modJob slot (Job.waited ((s.clock - j.waitFrom) / tickUs))
  obtain ⟨hframes, hshots⟩ := s.tellRing_frames j
  have hv : v.jobAt slot = some i := by
    rw [State.jobAt_modJob_self, State.jobAt_of_lineParts hframes.sent.lineParts, hjob]
    rfl
  have hchans : v.chans = s.chans := congrArg Prod.fst hframes.sent.lineParts
  have heq : s.reregister slot = (v.armJob slot false).startRereg slot false := by
    unfold State.reregister
    rw [hjob]
    rfl
  have hahead : v.Ahead i := h.congr (hshots 22 h.shot) hchans ⟨rfl, rfl, rfl⟩
  obtain ⟨hruns, -, -⟩ := hahead.armJob (skip := false) hv hwait nofun
  obtain ⟨cov, hcov⟩ := hruns.job
  have hleg := State.startRereg_begins hcov hfeed false
  rw [heq]
  exact ⟨(hruns.of_lineParts hleg.lineParts).of_chans hchans, _, hleg⟩

/-! ### O39 -/

theorem State.ringFull_iff : s.ringFull j = true ↔ (s.link.id = some 0 → j.ringDevs &&& ~~~ j.fullFrom = 0) := by
  rw [State.ringFull, Bool.or_eq_true, decide_eq_true_iff, decide_eq_true_iff, ← Decidable.imp_iff_not_or]

theorem State.stepMade_iff : s.stepMade = true ↔ s.isMaster = true ∨ s.link.id = none ∨ s.link.stepped = true := by
  simp [State.stepMade, or_assoc]

/-- Settles O39: a job whose channels' next lines are ahead arms channel by channel, and its legs begin one after the other. -/
theorem armingAndLateLegs : Obligations.ArmingAndLateLegs := by
  unfold Obligations.ArmingAndLateLegs
  intro s k j hrun hjob ahead runs
  have hahead (h : ahead) : s.Ahead j := by
    obtain ⟨hshot, hne, hready⟩ := h
    refine ⟨hshot, hne, fun n hn => ?_⟩
    obtain ⟨hfree, hgone, hwithin, hfirst⟩ := hready n hn
    exact ⟨hfree, hgone, hwithin, hfirst⟩
  refine ⟨fun h harming hfull hwarm hwait hgoes hstep hpos => ?_, fun hfollower hid hstep => ?_,
    fun hrunning hwait => ⟨fun h hlate hpos => ?_, fun hpos => ?_⟩,
    fun hlate hfeed => ⟨fun hstopping hleg hsegs hspeed => ?_, fun hbacking hleg hsegs hspeed => ?_, fun h hwaiting hfull hring hwait hstep => ?_⟩,
    fun hlate hfeed hfull hsent => ?_⟩
  · have hmay : s.MayArm k.val j := ⟨hrun, hjob, harming, hfull, hwarm, State.stepMade_iff.2 hstep, hgoes⟩
    obtain ⟨hruns, hdrive, hops⟩ := hmay.armJob (hahead h) hwait hpos
    refine ⟨fun hmove => ?_, fun hmove hfeed hleg hsegs hspeed => ?_⟩
    · have hexec := hmay.exec_jobArmed (.inl hmove)
      rw [hmove, if_neg Bool.false_ne_true] at hexec
      exact ⟨_, hexec, hruns.shows rfl rfl hwait, hops, congrArg (fun x => x.2.2.2.1) hdrive⟩
    · have hexec := hmay.exec_jobArmed (.inr ⟨hleg, hsegs, hspeed⟩)
      rw [hmove, if_pos rfl] at hexec
      obtain ⟨cov, hcov⟩ := hruns.job
      have hbegins := State.startRereg_begins hcov hfeed true
      refine ⟨_, hexec, (hruns.of_lineParts hbegins.lineParts).shows rfl rfl hwait, hbegins.leg, hbegins.moving, hbegins.x, hbegins.v,
        fun a _ ha => ?_⟩
      exact (hbegins.others a ha).trans (State.axis_of_drive hdrive a)
  · exact exec_jobArmed_unstepped hjob hfollower hid hstep
  · obtain ⟨hsettled, hruns, haxes⟩ := (hahead h).shuttlePassArm hjob
    have hexec := exec_shuttlePassArm_eq hrun hjob hrunning hwait
    rw [if_pos (List.all_eq_true.2 fun n hn => State.beforePass_iff.2 (hpos n hn)), hsettled] at hexec
    exact ⟨_, hexec, hruns.shows hrunning hlate rfl, haxes⟩
  · obtain ⟨n, hn, hbehind⟩ := hpos
    have hnot : j.chans.all (s.beforePass j) = false := List.all_eq_false.2 ⟨n, hn, Bool.eq_false_iff.1 (State.not_beforePass_iff.2 hbehind)⟩
    have hexec := exec_shuttlePassArm_eq hrun hjob hrunning hwait
    rwa [hnot, if_neg Bool.false_ne_true] at hexec
  · have hbegins := State.startBackup_begins hjob hfeed j.xT j.vR
    refine ⟨_, exec_lateWebStopped_turns hrun hjob hlate hstopping ⟨hleg, hsegs, hspeed⟩, ?_, hbegins.leg, hbegins.moving, hbegins.x, ?_,
      fun a _ => hbegins.others a⟩
    · rw [State.jobAt_modJob_self, State.jobAt_of_lineParts hbegins.lineParts, hjob]
      rfl
    · exact congrArg Prod.fst hbegins.lineParts
  · exact exec_lateBackupDone_waits hrun hjob hlate hbacking ⟨hleg, hsegs, hspeed⟩
  · obtain ⟨hruns, t, hbegins⟩ := (hahead h).reregister hjob hfeed hwait
    have hexec := exec_lateReregister_eq hrun hjob hlate hfull
    rw [if_pos hfeed, hwaiting, State.ringFull_iff.2 hring, State.stepMade_iff.2 hstep] at hexec
    obtain ⟨cov, hcov⟩ := hruns.job
    exact ⟨_, hexec, hruns.shows rfl rfl hwait, hbegins.leg, hbegins.moving, _, hcov, rfl⟩
  · have hexec := exec_lateReregister_eq hrun hjob hlate hfull
    rwa [if_neg (Nat.not_lt.2 hfeed), hsent, if_neg Bool.false_ne_true] at hexec

end Sys2Proof.Machine
end

section
/-! SUPPORT. TILE_POST (05 R169-R172, 02 R70). -/
namespace Sys2Proof.Machine
variable {s t : State} {c : Cmd} {slot : Nat} {j : Job} {d : Layer} {p : Packet}

/-- The table's copy of a job that is not started changes its place in the store alone (05 R166). -/
theorem State.jobPlaced_eq (s : State) (j : Job) : ∃ tab, s.jobPlaced j = { j with table := tab } := by
  unfold State.jobPlaced
  split
  · exact ⟨_, rfl⟩
  · exact ⟨j.table, rfl⟩

theorem State.jobPlaced_imageRows (s : State) (h : j.state = .opened) :
    (s.jobPlaced j).table.imageRows = le (s.storeRead (j.record + 10) 2) 0 2 := by
  unfold State.jobPlaced
  rw [if_pos h]

/-- The tile of a TILE_POST of the command ring (05 R169). -/
def Packet.tileOf (p : Packet) (j : Job) (late : Bool) (seq : Nat) : Tile := {
  id := seq, job := j.id, layer := p.u 2 1, source := p.u 3 1, addr := p.u 4 8, line := p.u 16 4, ch := p.u 20 1, nozzle := p.u 22 2, width := p.u 24 2
  height := p.u 26 2, rowsDone := 0, landed := [], lateCounted := late, orphan := false, forceLate := late, done := false, pkt := p, src := .ring, seq := seq }

/-- Row 0 of a web tile lies below C (05 R172). -/
def State.tileLate (s : State) (j : Job) (p : Packet) : Bool := decide (j.geometry ≠ 2) && decide (p.u 16 4 < s.tileC j (p.u 20 1))

/-- The tile on its way, counted where its first rows are late (05 R172). -/
def State.withTile (s : State) (j : Job) (p : Packet) (seq : Nat) : State :=
  let t := if s.tileLate j p then s.count 23 else s
  { t with tiles := t.tiles ++ [p.tileOf j (s.tileLate j p) seq] }

theorem State.withTile_eq (s : State) (j : Job) (p : Packet) (seq : Nat) : s.withTile j p seq =
    { (if s.tileLate j p then s.count 23 else s) with tiles := s.tiles ++ [p.tileOf j (s.tileLate j p) seq] } := by
  unfold State.withTile
  split <;> rfl

/-- A TILE_POST that is accepted (05 R169, R170, R172). -/
structure State.TakesTile (s : State) (p : Packet) (slot : Nat) (j : Job) (d : Layer) : Prop where
  shot : s.shot 23 = false
  slotOf : s.jobSlot (BitVec.ofNat 16 (p.u 0 2)) = some slot
  job : s.jobAt slot = some j
  open_ : if j.geometry = 2 then j.state = .opened else j.state ≠ .ended
  layer : vget j.layers (p.u 2 1) none = some d
  layerPos : 0 < p.u 2 1
  source : p.u 3 1 ≤ 1
  host : p.u 3 1 = 0 → s.host.bme = true
  inStore : p.u 3 1 = 1 → p.u 4 8 + p.u 12 4 ≤ s.storeBytes
  ch : p.u 20 1 < 48
  ours : j.channels.getLsbD (p.u 20 1) = true
  owner : s.layerCh j (p.u 20 1) = p.u 20 1
  nozzle : p.u 22 2 % 64 = 0
  width : p.u 24 2 % 64 = 0
  widthPos : 0 < p.u 24 2
  reach : p.u 22 2 + p.u 24 2 ≤ (if j.geometry = 2 then le (s.storeRead (j.record + 10) 2) 0 2 else (s.chan (p.u 20 1)).nozzles)
  heightPos : 0 < p.u 26 2
  height : (if j.geometry = 2 then p.u 16 4 + p.u 26 2 else p.u 26 2) ≤ d.lines
  bytes : p.u 12 4 = p.u 26 2 * (p.u 24 2 / 4)
  addr : p.u 4 8 % 4 = 0
  reserved : p.u 21 1 = 0
  band : j.geometry ≠ 2 → s.tileC j (p.u 20 1) < p.u 16 4 + p.u 26 2 ∧ p.u 16 4 + p.u 26 2 ≤ s.tileC j (p.u 20 1) + d.lines

theorem State.TakesTile.opTilePost (h : s.TakesTile p slot j d) (seq : Nat) : s.opTilePost p .ring seq = s.withTile j p seq := by
  obtain ⟨tab, htab⟩ := s.jobPlaced_eq j
  have hreach : ¬ (if j.geometry = 2 then tab.imageRows else (s.chan (p.u 20 1)).nozzles) < p.u 22 2 + p.u 24 2 := by
    have hreach := h.reach
    by_cases hgeo : j.geometry = 2
    · have hopen := h.open_
      rw [if_pos hgeo] at hopen hreach ⊢
      have hrows := s.jobPlaced_imageRows hopen
      rw [htab] at hrows
      change tab.imageRows = _ at hrows
      omega
    · rw [if_neg hgeo] at hreach ⊢
      omega
  unfold State.opTilePost
  extract_lets answer layer relayed
  rw [h.slotOf]
  dsimp -zeta only
  rw [h.job]
  dsimp -zeta only
  rw [htab]
  extract_lets i tile open_ reach low q u t w
  have hlate : q = (s.tileLate j p, s) := by
    change (if j.geometry = 2 then (false, s) else s.detect 23 (decide (p.u 16 4 < s.tileC j (p.u 20 1)))) = _
    rw [State.detect_eq s 23 _ h.shot, State.tileLate]
    split
    · next hgeo => rw [decide_eq_false (not_not_intro hgeo), Bool.false_and]
    · next hgeo => rw [decide_eq_true hgeo, Bool.true_and]
  have hw : w = s.withTile j p seq := by
    clear_value q
    subst hlate
    rfl
  have hopen : (!decide open_) = false := by rw [decide_eq_true h.open_, Bool.not_true]
  have hhost : (decide (t.source = 0) && !w.host.bme) = false := by
    by_cases hsource : p.u 3 1 = 0
    · have hbme : w.host.bme = true := by
        rw [hw, State.withTile_eq]
        split <;> exact h.host hsource
      rw [hbme, Bool.not_true, Bool.and_false]
    · exact Bool.and_eq_false_iff.2 (.inl (decide_eq_false hsource))
  have hband (hgeo : j.geometry ≠ 2) := h.band hgeo
  rw [hopen, if_neg Bool.false_ne_true, show vget i.layers layer none = some d from h.layer]
  dsimp -zeta only
  rw [if_neg, if_neg, if_neg, if_neg (Nat.ne_of_gt h.widthPos), hhost, if_neg Bool.false_ne_true, hw]
  · simp only [Bool.and_eq_true, decide_eq_true_eq]
    rintro ⟨hgeo, hover⟩
    exact absurd (hband hgeo).2 (Nat.not_le.2 hover)
  · simp only [Bool.and_eq_true, decide_eq_true_eq]
    rintro ⟨hgeo, hunder⟩
    exact absurd (hband hgeo).1 (Nat.not_lt.2 hunder)
  · have hours : ¬ j.channels.getLsbD (p.u 20 1) = false := by
      rw [h.ours]
      decide
    have hfits (hsource : p.u 3 1 = 1) : ¬ s.storeBytes < p.u 4 8 + p.u 26 2 * (p.u 24 2 / 4) := by
      rw [← h.bytes]
      exact Nat.not_lt.2 (h.inStore hsource)
    simp only [Bool.or_eq_true, Bool.and_eq_true, decide_eq_true_eq, Bool.not_eq_true', not_or, not_and, not_not, and_assoc]
    exact ⟨Nat.ne_of_gt h.layerPos, Nat.not_lt.2 h.source, Nat.not_lt.2 (Nat.le_of_lt_succ h.ch), hours, h.owner, h.nozzle, h.width, hreach,
      Nat.ne_of_gt h.heightPos, Nat.not_lt.2 h.height, h.bytes, h.addr, hfits, h.reserved⟩

/-- Of the packet engine TILE_POST changes nothing. -/
theorem State.TakesTile.of_pe (h : s.TakesTile p slot j d) (ht : t = { s with pe := t.pe }) : t.TakesTile p slot j d := by
  rw [ht]
  exact ⟨h.shot, h.slotOf, h.job, h.open_, h.layer, h.layerPos, h.source, h.host, h.inStore, h.ch, h.ours, h.owner, h.nozzle, h.width, h.widthPos, h.reach,
    h.heightPos, h.height, h.bytes, h.addr, h.reserved, h.band⟩

theorem State.withTile_pe (s : State) (j : Job) (p : Packet) (seq : Nat) : (s.withTile j p seq).pe = s.pe := by
  rw [State.withTile_eq]
  split <;> rfl

/-- A TILE_POST that is not ORDERED is the packet engine's (02 R70). -/
theorem State.TakesTile.exec_direct (h : s.TakesTile (packetOfCmd 0x0310 c) slot j d) (ha : s.Awake) (haddr : s.Addressed 0x0310 c)
    (hdirect : c.flags.getLsbD 1 = false) : exec (.tilePost c) s = .next (s.handled.withTile j (packetOfCmd 0x0310 c) s.pe.seq) := by
  have hpost := (h.of_pe (t := s.handled) rfl).opTilePost s.pe.seq
  refine (ha.packetRow_hardware haddr (f := fun t => t.opTilePost (packetOfCmd 0x0310 c) .ring s.pe.seq) (by decide) ?_ (fun _ => rfl) ?_).trans ?_
  · rw [Packet.hardware, show (packetOfCmd 0x0310 c).ordered = false from hdirect]
    rfl
  · rw [hpost, State.withTile_pe]
  · rw [hpost]

theorem State.landHeld_none (h : s.link.heldData = []) : s.landHeld = s := by
  have hlink : ({ s.link with heldData := [] } : Link) = s.link := by rw [← h]
  unfold State.landHeld
  rw [h, hlink]
  rfl

/-- An ORDERED TILE_POST is Kettle's, which then writes the data held for it (02 R70, 12 R392). -/
theorem State.TakesTile.exec_ordered (h : s.TakesTile (packetOfCmd 0x0310 c) slot j d) (hk : s.KettleTakes 0x0310 c) (hordered : c.flags.getLsbD 1 = true)
    (hheld : s.link.heldData = []) : exec (.tilePost c) s = .next (s.taken.withTile j (packetOfCmd 0x0310 c) s.pe.seq) := by
  have hpost := (h.of_pe (t := s.taken) rfl).opTilePost s.pe.seq
  refine (hk.runs (f := fun t => (t.opTilePost (packetOfCmd 0x0310 c) .ring s.pe.seq).landHeld) (by decide) ?_ fun t hlife => ?_).trans ?_
  · rw [Packet.hardware, show (packetOfCmd 0x0310 c).ordered = true from hordered]
    rfl
  · simp [State.runKettle, hlife, packetOfCmd]
  · rw [hpost, State.landHeld_none]
    rw [State.withTile_eq]
    split <;> exact hheld

end Sys2Proof.Machine
end

section
/-! SUPPORT. Replies leave HP_ERR, AER and most counters alone; the end of a tile (02 R58, 05 R171-R174). -/
namespace Sys2Proof.Machine
variable {s t u : State} {i : Nat}

/-! ### Replies -/

/-- What the errors of the host port and a counter show. -/
def State.troubles (s : State) (i : Nat) : BitVec 6 × List AerError × BitVec 16 := (s.host.err, s.host.aer, s.counter i)

theorem State.raiseVector_troubles (s : State) (v : Nat) : (s.raiseVector v).troubles i = s.troubles i := by
  unfold State.raiseVector
  split <;> rfl

theorem State.writeReply_troubles (s : State) (b : Bytes) : (s.writeReply b).troubles i = s.troubles i := by
  unfold State.writeReply
  refine (State.raiseVector_troubles _ 0).trans ?_
  rw [State.writeSlots_eq]
  rfl

theorem State.sendReply_troubles (h : i ≠ 113) (s : State) (dest : Byte) (r : Reply) : (s.sendReply dest r).troubles i = s.troubles i := by
  have hcounter : (s.sendReply dest r).counter i = s.counter i := (State.sendPkt_counter h _ _ _ _ _).trans rfl
  have hframes := s.sendReply_frames dest r
  have hhost : (s.sendReply dest r).host = s.host := by rw [hframes]
  rw [State.troubles, hcounter, hhost]
  rfl

theorem State.kettleWrites_troubles (h : i ≠ 113) (ht : s.kettleWrites = some t) : t.troubles i = s.troubles i := by
  unfold State.kettleWrites at ht
  split at ht
  · cases ht
  · split at ht
    · cases ht
    · split at ht
      · cases ht
        exact (State.sendReply_troubles h _ _ _).trans rfl
      · split at ht
        · cases ht
          rfl
        · cases ht

theorem State.drainReplies_troubles (h : i ≠ 113) (n : Nat) (s : State) : (State.drainReplies n s).troubles i = s.troubles i := by
  induction n generalizing s with
  | zero => rfl
  | succ n ih =>
    have hnext : (s.kettleWrites.elim s (State.drainReplies n)).troubles i = s.troubles i := by
      cases ht : s.kettleWrites with
      | none => rfl
      | some t => exact (ih t).trans (State.kettleWrites_troubles h ht)
    cases hhold : s.pe.hold with
    | nil =>
      rw [State.drainReplies_none hhold]
      exact hnext
    | cons r rest =>
      rw [State.drainReplies_held hhold]
      split
      · exact (ih _).trans ((State.writeReply_troubles _ _).trans rfl)
      · exact hnext

theorem State.engineReply_troubles (h : i ≠ 1 ∧ i ≠ 113) (s : State) (r : Reply) : (s.engineReply r).troubles i = s.troubles i := by
  unfold State.engineReply
  extract_lets d
  have hd : d.2.troubles i = s.troubles i := by
    change (s.detect 1 _).2.troubles i = _
    unfold State.detect
    split <;> rfl
  split
  · refine Eq.trans ?_ hd
    unfold State.setRplLost
    have hcount : (d.2.count 1).troubles i = d.2.troubles i := congrArg (fun x => (d.2.host.err, d.2.host.aer, x)) (State.counter_count_ne _ 1 i h.1)
    split
    · exact hcount
    · exact (State.raiseVector_troubles _ 2).trans hcount
  · exact (State.drainReplies_troubles h.2 _ _).trans hd

/-- A reply, whoever makes it and wherever it goes. -/
theorem State.reply_troubles (h : i ≠ 1 ∧ i ≠ 113) (s : State) (kettle : Bool) (p : Packet) (src : Source) (st : BitVec 16) (params : Bytes) :
    (s.reply kettle p src st params).troubles i = s.troubles i := by
  have hkettle (r : Reply) : (s.kettleReply r).troubles i = s.troubles i := (State.drainReplies_troubles h.2 _ _).trans rfl
  have hboth (r : Reply) : (if kettle then s.kettleReply r else s.engineReply r).troubles i = s.troubles i := by
    split
    · exact hkettle r
    · exact s.engineReply_troubles h r
  unfold State.reply
  extract_lets r
  split
  · split
    · split
      · exact hboth r
      · split
        · exact hkettle _
        · exact s.sendReply_troubles h.2 _ _
    · exact hboth r
  · rfl

/-! ### The end of a tile -/

/-- One tile is on its way, with a given number and source. -/
def State.OneTile (s : State) (t : Tile) : Prop := ∃ x, s.tiles = [x] ∧ x.id = t.id ∧ x.source = t.source

theorem State.OneTile.modTile {x : Tile} {f : Tile → Tile} (h : s.OneTile x)
    (hf : ∀ y, y.id = x.id → y.source = x.source → (f y).id = x.id ∧ (f y).source = x.source) (id : Nat) : (s.modTile id f).OneTile x := by
  obtain ⟨y, htiles, hid, hsource⟩ := h
  unfold State.modTile State.OneTile
  rw [htiles]
  refine ⟨_, rfl, ?_⟩
  dsimp only
  split
  · exact hf y hid hsource
  · exact ⟨hid, hsource⟩

/-- The only tile is answered and gone (05 R173). -/
theorem State.endTile_only {x : Tile} (h : s.OneTile x) (hsource : x.source ≠ 3) (st : BitVec 16) :
    (s.endTile x st).tiles = [] ∧ (s.endTile x st).chans = s.chans ∧ (s.endTile x st).axes = s.axes ∧ (s.endTile x st).mem = s.mem ∧
      ∀ i, i ≠ 1 ∧ i ≠ 113 → (s.endTile x st).troubles i = s.troubles i := by
  obtain ⟨y, htiles, hid, hy⟩ := h
  have hend : s.endTile x st = ({ s with tiles := [] } : State).reply x.pkt.ordered x.pkt x.src st [] := by
    unfold State.endTile State.modTile
    dsimp only
    rw [htiles]
    simp [hid, hy, hsource]
  have hsent := State.reply_sent { s with tiles := [] } x.pkt.ordered x.pkt x.src st []
  have htroubles (i : Nat) (hi : i ≠ 1 ∧ i ≠ 113) := State.reply_troubles hi { s with tiles := [] } x.pkt.ordered x.pkt x.src st []
  rw [← hend] at hsent htroubles
  refine ⟨?_, ?_, ?_, ?_, htroubles⟩ <;> rw [hsent]

end Sys2Proof.Machine
end

section
/-! SUPPORT. The rows of a tile, marked or dropped (05 R171, R172). -/
namespace Sys2Proof.Machine
variable {s t u : State} {slot : Nat} {x : Tile}

/-- Nothing differs but what rows marked or dropped can touch: posted and coverage bits, the note of what a bank holds, the count of late tiles. -/
structure State.Marks (s t : State) (x : Tile) : Prop where
  rest : t = { s with jobs := t.jobs, tiles := t.tiles, tc := t.tc, mem := { s.mem with banks := t.mem.banks } }
  counter : ∀ i, i ≠ 23 → t.counter i = s.counter i
  one : s.OneTile x → t.OneTile x

theorem State.Marks.refl (s : State) (x : Tile) : s.Marks s x := ⟨rfl, fun _ _ => rfl, id⟩

theorem State.Marks.trans (h : s.Marks t x) (g : t.Marks u x) : s.Marks u x := by
  refine ⟨?_, fun i hi => (g.counter i hi).trans (h.counter i hi), fun hone => g.one (h.one hone)⟩
  have hg := g.rest
  rw [h.rest] at hg
  exact hg

theorem State.markRow_marks (s : State) (slot : Nat) (y : Tile) (row : Nat) (x : Tile) : s.Marks (s.markRow slot y row) x :=
  ⟨rfl, fun _ _ => rfl, fun h => h⟩

theorem State.lateTile_marks (s : State) (y x : Tile) : s.Marks (s.lateTile y) x := by
  unfold State.lateTile
  split
  · exact .refl s x
  · refine ⟨rfl, fun i hi => State.counter_count_ne s 23 i hi, fun h => ?_⟩
    exact State.OneTile.modTile (s := s.count 23) (f := fun t => { t with lateCounted := true }) h (fun _ hid hsource => ⟨hid, hsource⟩) y.id

theorem State.markOrDrop_marks (s : State) (slot id row : Nat) (x : Tile) : s.Marks (s.markOrDrop slot id row) x := by
  unfold State.markOrDrop
  split
  · split
    · exact s.markRow_marks slot _ row x
    · exact s.lateTile_marks _ x
  · exact .refl s x

end Sys2Proof.Machine
end

section
/-! SUPPORT. The bytes of a web tile land in the rows of its layer (05 R166, R171-R174). -/
namespace Sys2Proof.Machine
variable {s t u : State} {slot : Nat} {j : Job} {d : Layer} {x : Tile} {data : Bytes}

/-! ### Bytes written one by one -/

/-- Bytes put each at the address of its place. -/
def putBytes (addr : Nat → Nat) (m : List Host.Cell) (l : List (Byte × Nat)) : List Host.Cell := l.foldl (fun m b => sput 0 m (addr b.2) b.1) m

theorem mget_putBytes_outside {addr : Nat → Nat} {m : List Host.Cell} {l : List (Byte × Nat)} (h : swf 0 m = true) {a : Nat}
    (ha : ∀ b, b ∈ l → a ≠ addr b.2) : mget (putBytes addr m l) a = mget m a := by
  induction l generalizing m with
  | nil => rfl
  | cons b l ih =>
    have hb : mget (sput 0 m (addr b.2) b.1) a = mget m a := sget_sput_ne 0 m (addr b.2) a b.1 h (ha b List.mem_cons_self)
    exact (ih (swf_sput 0 m _ _ h) (fun c hc => ha c (List.mem_cons_of_mem b hc))).trans hb

/-- Each byte of bytes that go to different addresses is read back. -/
theorem mget_putBytes {addr : Nat → Nat} {m : List Host.Cell} (h : swf 0 m = true) {k : Nat}
    (hinj : ∀ a b, k ≤ a → a < b → b < k + data.length → addr a ≠ addr b) {i : Nat} (hi : i < data.length) :
    mget (putBytes addr m (data.zipIdx k)) (addr (k + i)) = data.getD i 0 := by
  induction data generalizing m k i with
  | nil => exact absurd hi (Nat.not_lt_zero i)
  | cons b data ih =>
    have hlen : (b :: data).length = data.length + 1 := rfl
    have hswf := swf_sput 0 m (addr k) b h
    change mget (putBytes addr (sput 0 m (addr k) b) (data.zipIdx (k + 1))) _ = _
    cases i with
    | zero =>
      rw [mget_putBytes_outside hswf]
      · exact sget_sput_self 0 m (addr k) b h
      · intro c hc
        obtain ⟨hlow, hhigh, -⟩ := List.mem_zipIdx hc
        exact hinj k c.2 (Nat.le_refl k) hlow (by omega)
    | succ i =>
      have hrest := ih hswf (k := k + 1) (i := i) (fun a c ha hac hc => hinj a c (by omega) hac (by omega)) (by omega)
      rw [show k + (i + 1) = k + 1 + i by omega]
      exact hrest

/-! ### Where a tile's bytes go -/

/-- Lines less than a band apart have different layer lines (05 R166). -/
theorem layerLine_inj {layer line a b : Nat} (ha : a < d.lines) (hb : b < d.lines)
    (h : layerLine layer d (line + a) = layerLine layer d (line + b)) : a = b := by
  have hmod (base : Nat) (hsame : (base + a) % d.lines = (base + b) % d.lines) : a = b := by
    have hab : a % d.lines = b % d.lines := Nat.ModEq.add_left_cancel' base hsame
    rwa [Nat.mod_eq_of_lt ha, Nat.mod_eq_of_lt hb] at hab
  have hpos : d.lines ≠ 0 := by omega
  unfold layerLine at h
  rw [if_neg hpos, if_neg hpos] at h
  split at h
  · rw [Nat.add_right_comm line a, Nat.add_right_comm line b] at h
    exact hmod (line + d.phase) h
  · exact hmod line h

/-- The store address of byte `o` of a tile (05 R166, R170). -/
def State.tileAddr (s : State) (j : Job) (d : Layer) (x : Tile) (o : Nat) : Nat :=
  s.layerAddr j d x.ch (layerLine x.layer d (x.line + o / x.rowBytes)) + (x.nozzle / 4 + o % x.rowBytes)

/-- A web tile alone on its way, all of its rows still to be composed (05 R170, R172). -/
structure State.LoneTile (s : State) (x : Tile) (slot : Nat) (j : Job) (d : Layer) : Prop where
  web : j.geometry ≠ 2
  run : s.inRun = true
  tiles : s.tiles = [x]
  slotOf : s.jobSlot x.job = some slot
  job : s.jobAt slot = some j
  ours : x.orphan = false
  undone : x.done = false
  unforced : x.forceLate = false
  landed : x.landed = []
  rowsDone : x.rowsDone = 0
  layer : vget j.layers x.layer none = some d
  widthPos : 0 < x.width
  width : x.width % 4 = 0
  nozzle : x.nozzle % 4 = 0
  reach : x.nozzle + x.width ≤ 2048
  heightPos : 0 < x.height
  height : x.height ≤ d.lines
  stride : 512 ≤ d.stride
  ahead : s.tileC j x.ch ≤ x.line
  store : swf 0 s.mem.store = true

theorem State.LoneTile.rowBytes_pos (h : s.LoneTile x slot j d) : 0 < x.rowBytes := by
  have hpos := h.widthPos
  have hmod := h.width
  unfold Tile.rowBytes
  omega

theorem State.LoneTile.oneTile (h : s.LoneTile x slot j d) : s.OneTile x := ⟨x, h.tiles, rfl, rfl⟩

/-- Two bytes of a tile never go to one address. -/
theorem State.LoneTile.tileAddr_inj (h : s.LoneTile x slot j d) {a b : Nat} (ha : a < x.bytes) (hb : b < x.bytes)
    (hab : s.tileAddr j d x a = s.tileAddr j d x b) : a = b := by
  have hpos := h.rowBytes_pos
  have hrow {o : Nat} (ho : o < x.bytes) : o / x.rowBytes < d.lines :=
    Nat.lt_of_lt_of_le (Nat.div_lt_of_lt_mul (by rwa [Nat.mul_comm])) h.height
  have hcol (o : Nat) : x.nozzle / 4 + o % x.rowBytes < d.stride := by
    have hmod := Nat.mod_lt o hpos
    have hreach := h.reach
    have hstride := h.stride
    unfold Tile.rowBytes at *
    omega
  unfold State.tileAddr State.layerAddr at hab
  rw [if_neg h.web, if_neg h.web] at hab
  have hsum : layerLine x.layer d (x.line + a / x.rowBytes) * d.stride + (x.nozzle / 4 + a % x.rowBytes) =
      layerLine x.layer d (x.line + b / x.rowBytes) * d.stride + (x.nozzle / 4 + b % x.rowBytes) := by omega
  have hstride : 0 < d.stride := Nat.lt_of_lt_of_le (by decide) h.stride
  have hline := congrArg (· / d.stride) hsum
  have hmod := congrArg (· % d.stride) hsum
  simp only [Nat.mul_comm _ d.stride, Nat.mul_add_div hstride, Nat.mul_add_mod, Nat.div_eq_of_lt (hcol a), Nat.div_eq_of_lt (hcol b),
    Nat.mod_eq_of_lt (hcol a), Nat.mod_eq_of_lt (hcol b), Nat.add_zero] at hline hmod
  have hrows := layerLine_inj (hrow ha) (hrow hb) hline
  rw [← Nat.div_add_mod a x.rowBytes, ← Nat.div_add_mod b x.rowBytes, hrows, Nat.add_left_cancel hmod]

/-! ### The bytes written -/

/-- The store replaced. -/
def State.withStore (s : State) (m : List Host.Cell) : State := { s with mem := { s.mem with store := m } }

/-- Steps that each write one byte write them all. -/
theorem State.foldl_withStore {addr : Nat → Nat} {f : State → Byte × Nat → State} (hf : ∀ m b, f (s.withStore m) b = s.withStore (sput 0 m (addr b.2) b.1))
    (l : List (Byte × Nat)) (m : List Host.Cell) : l.foldl f (s.withStore m) = s.withStore (putBytes addr m l) := by
  induction l generalizing m with
  | nil => rfl
  | cons b l ih =>
    rw [List.foldl_cons, hf]
    exact ih (sput 0 m (addr b.2) b.1)

/-- The bytes of a lone tile from its first one on are all written (05 R173). -/
theorem State.LoneTile.writeTile (h : s.LoneTile x slot j d) (data : Bytes) :
    s.writeTile (s.jobPlaced j) x 0 data = s.withStore (putBytes (s.tileAddr j d x) s.mem.store data.zipIdx) := by
  obtain ⟨tab, htab⟩ := s.jobPlaced_eq j
  have hlive (m : List Host.Cell) (row : Nat) : (s.withStore m).rowLive { j with table := tab } x row = true := by
    have hahead : (s.withStore m).tileC { j with table := tab } x.ch ≤ x.line + row := Nat.le_add_right_of_le h.ahead
    unfold State.rowLive
    rw [h.unforced, decide_eq_true hahead, Bool.false_and, Bool.not_false, Bool.and_self, Bool.or_true]
  have haddr (m : List Host.Cell) (l : Nat) : (s.withStore m).layerAddr { j with table := tab } d x.ch l = s.layerAddr j d x.ch l := by
    unfold State.layerAddr
    rw [if_neg h.web, if_neg h.web]
    rfl
  have hlater : (s.tiles.dropWhile (fun (u : Tile) => u.id ≠ x.id)).drop 1 = [] := by
    rw [h.tiles]
    simp
  unfold State.writeTile
  rw [hlater, htab]
  dsimp only
  rw [h.layer]
  refine State.foldl_withStore (fun m b => ?_) data.zipIdx s.mem.store
  rw [hlive, haddr, if_neg h.web, Nat.zero_add]
  rfl

/-- Rows of a tile marked or dropped, from one row on. -/
def State.markTo (s : State) (slot id from_ rows : Nat) : State := (List.range rows).foldl (fun s i => s.markOrDrop slot id (from_ + i)) s

theorem State.markTo_marks (s : State) (slot id from_ rows : Nat) (x : Tile) : s.Marks (s.markTo slot id from_ rows) x :=
  foldl_rel (R := fun s t => s.Marks t x) (fun s => .refl s x) .trans (fun s _ => s.markOrDrop_marks slot id _ x) _ s

/-- A tile with bytes that have landed, and the rows done with them. -/
def Tile.withRows (x : Tile) (off len rows : Nat) : Tile := { x with landed := x.landed ++ [(off, len)], rowsDone := rows }

/-- Bytes of a tile of an open job land (05 R171-R174). -/
theorem State.landTile_eq (hours : x.orphan = false) (hslot : s.jobSlot x.job = some slot) (hjob : s.jobAt slot = some j) {off : Nat} {rows : Nat}
    (hrows : (x.withRows off (data.take (x.bytes - off)).length x.rowsDone).frontier 0 / x.rowBytes = rows) :
    let v := (s.writeTile (s.jobPlaced j) x off (data.take (x.bytes - off))).modTile x.id fun _ =>
      x.withRows off (data.take (x.bytes - off)).length rows
    let w := v.markTo slot x.id x.rowsDone (rows - x.rowsDone)
    s.landTile x off data = if x.height ≤ rows then w.endTile x stOK else w := by
  subst hrows
  unfold State.landTile
  extract_lets v w data' x'
  rw [if_neg (by rw [hours]; exact Bool.false_ne_true), hslot]
  dsimp -zeta only
  rw [hjob]
  rfl

/-- The first rows of a lone tile land: the bytes are written, the rows marked, and the tile ends with its last row (05 R171, R173). -/
theorem State.LoneTile.landTile_eq (h : s.LoneTile x slot j d) {k : Nat} (hk : 0 < k) (hheight : k ≤ x.height)
    (hlen : data.length = k * x.rowBytes) :
    let v := (s.withStore (putBytes (s.tileAddr j d x) s.mem.store data.zipIdx)).modTile x.id (fun _ => x.withRows 0 data.length k)
    let w := v.markTo slot x.id 0 k
    s.landTile x 0 data = if x.height ≤ k then w.endTile x stOK else w := by
  have hpos := h.rowBytes_pos
  have htake : data.take (x.bytes - 0) = data := List.take_of_length_le (hlen ▸ Nat.mul_le_mul_right _ hheight)
  have hfront : (x.withRows 0 data.length x.rowsDone).frontier 0 = data.length := by
    have hsome : 0 < data.length := hlen ▸ Nat.mul_pos hk hpos
    unfold Tile.frontier Tile.withRows
    rw [h.landed]
    simp [landedTo, hsome]
  have hland := State.landTile_eq (data := data) (off := 0) (rows := k) h.ours h.slotOf h.job
    (by rw [htake, hfront, hlen, Nat.mul_div_cancel _ hpos])
  rwa [htake, h.writeTile, h.rowsDone] at hland

/-- The bytes of a lone tile are read back from the rows of its layer (05 R166, R173). -/
theorem State.LoneTile.mget_tileBytes (h : s.LoneTile x slot j d) {k r i : Nat} (hheight : k ≤ x.height) (hlen : data.length = k * x.rowBytes)
    (hr : r < k) (hi : i < x.rowBytes) : mget (putBytes (s.tileAddr j d x) s.mem.store data.zipIdx)
      (s.layerAddr j d x.ch (layerLine x.layer d (x.line + r)) + x.nozzle / 4 + i) = data.getD (r * x.rowBytes + i) 0 := by
  have hpos := h.rowBytes_pos
  have hlt : r * x.rowBytes + i < data.length := by
    rw [hlen]
    exact Nat.lt_of_lt_of_le (Nat.add_lt_add_left hi _) (Nat.succ_mul r x.rowBytes ▸ Nat.mul_le_mul_right _ hr)
  have hbytes : data.length ≤ x.bytes := hlen ▸ Nat.mul_le_mul_right _ hheight
  have haddr : s.tileAddr j d x (0 + (r * x.rowBytes + i)) = s.layerAddr j d x.ch (layerLine x.layer d (x.line + r)) + x.nozzle / 4 + i := by
    unfold State.tileAddr
    rw [Nat.zero_add, Nat.mul_comm, Nat.mul_add_div hpos, Nat.mul_add_mod, Nat.div_eq_of_lt hi, Nat.mod_eq_of_lt hi, Nat.add_zero, Nat.add_assoc]
  rw [← haddr]
  exact mget_putBytes h.store (fun a b _ hab hb heq => Nat.ne_of_lt hab (h.tileAddr_inj (by omega) (by omega) heq)) hlt

/-- What rows that land leave as it was, and the store that they leave. -/
structure State.Lands (s u : State) (m : List Host.Cell) : Prop where
  chans : u.chans = s.chans
  axes : u.axes = s.axes
  counter : ∀ i, i ≠ 1 ∧ i ≠ 23 ∧ i ≠ 113 → u.counter i = s.counter i
  store : u.mem.store = m

/-- The first rows of a lone tile land in the store, and all of them end it. -/
theorem State.LoneTile.landTile (h : s.LoneTile x slot j d) (hsource : x.source ≠ 3) {k : Nat} (hk : 0 < k) (hheight : k ≤ x.height)
    (hlen : data.length = k * x.rowBytes) : s.Lands (s.landTile x 0 data) (putBytes (s.tileAddr j d x) s.mem.store data.zipIdx) ∧
      (x.height ≤ k → (s.landTile x 0 data).tiles = []) := by
  let m := putBytes (s.tileAddr j d x) s.mem.store data.zipIdx
  let v := (s.withStore m).modTile x.id (fun _ => x.withRows 0 data.length k)
  have hv : v.OneTile x := State.OneTile.modTile (s := s.withStore m) (f := fun _ => x.withRows 0 data.length k) h.oneTile
    (fun _ _ _ => ⟨rfl, rfl⟩) x.id
  obtain ⟨hrest, hcounter, hone⟩ := v.markTo_marks slot x.id 0 k x
  have hmarked : s.Lands (v.markTo slot x.id 0 k) m :=
    ⟨by rw [hrest]; rfl, by rw [hrest]; rfl, fun i hi => hcounter i hi.2.1, by rw [hrest]; rfl⟩
  rw [h.landTile_eq hk hheight hlen]
  split
  · obtain ⟨htiles, hchans, haxes, hmem, htroubles⟩ := State.endTile_only (hone hv) hsource stOK
    refine ⟨⟨hchans.trans hmarked.chans, haxes.trans hmarked.axes, fun i hi => ?_, (congrArg Memory.store hmem).trans hmarked.store⟩, fun _ => htiles⟩
    exact (congrArg (fun x => x.2.2) (htroubles i ⟨hi.1, hi.2.2⟩)).trans (hmarked.counter i hi)
  · next hmore => exact ⟨hmarked, fun hall => absurd hall hmore⟩

/-! ### TILE_READ_COMPLETION -/

theorem State.LoneTile.readTiles (h : s.LoneTile x slot j d) (hsource : x.source = 0) : s.readTiles x.id = [x] := by
  unfold State.readTiles
  rw [h.tiles]
  simp [h.undone, hsource]

theorem State.LoneTile.bytes_pos (h : s.LoneTile x slot j d) : 0 < x.bytes := Nat.mul_pos h.heightPos h.rowBytes_pos

/-- What a lone tile's read answers reaches the tile, where no shot is on it (05 R174, 15 R452). -/
theorem State.LoneTile.completes (h : s.LoneTile x slot j d) {r : ReadResult} (hcomes : resultOff r s.host.ctl.timeoutOff = false) :
    ([x] = [] || !s.inRun || resultOff r s.host.ctl.timeoutOff || !([x].any (fun t => decide (0 < t.bytes)))) = false := by
  simp [h.run, hcomes, h.bytes_pos]

theorem State.LoneTile.exec_readData (h : s.LoneTile x slot j d) (hsource : x.source = 0) (hshot : s.shot 10 = false) (b : Bytes) :
    exec (.tileReadCompletion x.id 0 (.data b)) s = .next (s.landTile x 0 b) := by
  change execTileReadCompletion x.id 0 (.data b) s = _
  unfold execTileReadCompletion
  rw [h.readTiles hsource, s.detect_eq 10 _ hshot]
  refine (if_neg ?_).trans ?_
  · rw [h.completes rfl]
    exact Bool.false_ne_true
  · change Host.Outcome.next (if x.source = 0 then s.landTile x 0 b else s.sendTileData x 0 b) = _
    rw [if_pos hsource]

theorem State.LoneTile.exec_readError (h : s.LoneTile x slot j d) (hsource : x.source = 0) (hshot : s.shot 10 = false) {e : ReadError}
    (hcomes : readOff e s.host.ctl.timeoutOff = false) :
    exec (.tileReadCompletion x.id 0 (.error e)) s = .next ((s.hostReadError e).failRead [x] (fun _ => 0)) := by
  change execTileReadCompletion x.id 0 (.error e) s = _
  unfold execTileReadCompletion
  rw [h.readTiles hsource, s.detect_eq 10 _ hshot]
  refine (if_neg ?_).trans rfl
  rw [h.completes (r := .error e) hcomes]
  exact Bool.false_ne_true

/-- RUN is one of the states in which the device detects and answers (13 R400). -/
theorem State.inRunIdle_of_inRun (h : s.inRun = true) : s.inRunIdle = true := by
  unfold State.inRun at h
  unfold State.inRunIdle
  simp_all

/-- The failed read of an open job's tile counts once (05 R174). -/
theorem State.countTileFail_ours (h : s.inRunIdle = true) (hours : x.orphan = false) (hslot : s.jobSlot x.job = some slot) :
    s.countTileFail [x] = s.count 10 := by
  unfold State.countTileFail
  simp [h, hours, hslot]

/-- A failed read of a lone tile ends it with BUSY and writes nothing (05 R174). -/
theorem State.LoneTile.failRead (h : s.LoneTile x slot j d) (hsource : x.source = 0) (e : ReadError) :
    (s.hostReadError e).failRead [x] (fun _ => 0) = ((s.hostReadError e).count 10).endTile x stBUSY := by
  have hslot : ((s.hostReadError e).count 10).jobSlot x.job = some slot := h.slotOf
  have hcount := State.countTileFail_ours (s := s.hostReadError e) (State.inRunIdle_of_inRun h.run) h.ours h.slotOf
  change (if x.source = 0 then ((s.hostReadError e).countTileFail [x]).failTile x 0 else _) = _
  rw [if_pos hsource, hcount]
  unfold State.failTile
  rw [h.ours, if_neg Bool.false_ne_true, hslot, Nat.zero_div]
  rfl

/-- A read error comes, unless it is a Completion Timeout that the host has disabled (14 R422). -/
theorem readOff_of {e : ReadError} {off : Bool} (h : e = .timeout → off = false) : readOff e off = false := by
  unfold readOff
  by_cases he : e = .timeout
  · rw [h he, Bool.false_and]
  · rw [decide_eq_false he, Bool.and_false]

/-! ### TILE_COPY_ROW -/

theorem State.counter_countN_ne (k i n : Nat) (h : i ≠ k) : (s.countN k n).counter i = s.counter i := vget_vset_ne _ _ _ _ _ h.symm

/-- What a counter holds after detections depends on what it held. -/
theorem State.counter_countN_congr {k : Nat} (hk : k < 128) (h : t.counter k = s.counter k) (n : Nat) :
    (t.countN k n).counter k = (s.countN k n).counter k := by
  have hcount (u : State) : (u.countN k n).counter k = BitVec.ofNat 16 (min 0xFFFF ((u.counter k).toNat + n)) := vget_vset_self _ _ _ _ hk
  rw [hcount, hcount, h]

/-- The next row of a tile in the store, uncorrectable words as 0 (05 R173, 10 R333). -/
def State.tileRow (s : State) (x : Tile) (er : ReadErrors) : Bytes :=
  (s.storeRead x.addr x.rowBytes).zipIdx.map (fun (b : Byte × Nat) => if er.bad.contains ((x.addr % 8 + b.2) / 8) then (0 : Byte) else b.1)

theorem State.length_tileRow (s : State) (x : Tile) (er : ReadErrors) : (s.tileRow x er).length = x.rowBytes := by
  simp [State.tileRow, State.storeRead, mread]

theorem State.getD_tileRow (s : State) {x : Tile} (er : ReadErrors) {i : Nat} (hi : i < x.rowBytes) :
    (s.tileRow x er).getD i 0 = if er.bad.contains ((x.addr % 8 + i) / 8) then 0 else mget s.mem.store (x.addr + i) := by
  simp [State.tileRow, State.storeRead, mread, List.getD_eq_getElem?_getD, hi]

/-- The state with the words that a copy reads in error counted (10 R333). -/
def State.copyCounted (s : State) (er : ReadErrors) : State := (s.countN 84 er.corrected.length).countN 85 er.bad.length

theorem State.LoneTile.copyCounted (h : s.LoneTile x slot j d) (er : ReadErrors) : (s.copyCounted er).LoneTile x slot j d :=
  ⟨h.web, h.run, h.tiles, h.slotOf, h.job, h.ours, h.undone, h.unforced, h.landed, h.rowsDone, h.layer, h.widthPos, h.width, h.nozzle, h.reach,
    h.heightPos, h.height, h.stride, h.ahead, h.store⟩

/-- The first row of a lone tile copied in the store (05 R173). -/
theorem State.LoneTile.exec_copyRow (h : s.LoneTile x slot j d) (hsource : x.source = 1) (er : ReadErrors) :
    exec (.tileCopyRow x.id er) s = .next ((s.copyCounted er).landTile x 0 (s.tileRow x er)) := by
  have hfind : s.tiles.find? (fun (t : Tile) => t.id = x.id && t.source = 1 && !t.done) = some x := by
    rw [h.tiles]
    simp [hsource, h.undone]
  change execTileCopyRow x.id er s = _
  unfold execTileCopyRow
  rw [hfind]
  dsimp only
  rw [h.run, h.ours, h.rowsDone, Nat.zero_mul]
  rfl

/-! ### O36 -/

/-- Settles O36: an accepted TILE_POST is `withTile`; the rows of a lone web tile go to different addresses, and a failed read ends it. -/
theorem tilesLand : Obligations.TilesLand := by
  unfold Obligations.TilesLand
  intro s slot j hjob
  refine ⟨?_, ?_⟩
  · intro c d base hagent hshot hslot hopen hlayer hlayerPos hsource hbme hstore hch hours howner hnozzle hwidth hwidthPos hreach hheightPos hheight
      hbytes haddr hreserved hband late
    have htakes : s.TakesTile (packetOfCmd 0x0310 c) slot j d :=
      ⟨hshot, hslot, hjob, hopen, hlayer, hlayerPos, hsource, hbme, hstore, hch, hours, howner, hnozzle, hwidth, hwidthPos, hreach, hheightPos, hheight,
        hbytes, haddr, hreserved, hband⟩
    obtain ⟨hawake, haddressed, hdirect, rfl⟩ | ⟨hkettle, hordered, hheld, rfl⟩ := hagent
    · exact (htakes.exec_direct hawake haddressed hdirect).trans (congrArg _ (State.withTile_eq _ _ _ _))
    · exact (htakes.exec_ordered hkettle hordered hheld).trans (congrArg _ (State.withTile_eq _ _ _ _))
  · intro t d hweb hrun htiles hslot hours hundone hunforced hlanded hrows hlayer hwidthPos hwidth hnozzle hreach hheightPos hheight hstride hahead hswf
    have h : s.LoneTile t slot j d :=
      ⟨hweb, hrun, htiles, hslot, hjob, hours, hundone, hunforced, hlanded, hrows, hlayer, hwidthPos, hwidth, hnozzle, hreach, hheightPos, hheight,
        hstride, hahead, hswf⟩
    refine ⟨fun b hsource hshot hlen => ?_, fun e hsource hshot hcomes => ?_, fun er hsource => ?_⟩
    · obtain ⟨hlands, hends⟩ := h.landTile (by rw [hsource]; decide) hheightPos (Nat.le_refl _) hlen
      refine ⟨_, h.exec_readData hsource hshot b, hends (Nat.le_refl _), hlands.chans, hlands.axes, fun r i hr hi => ?_⟩
      rw [hlands.store]
      exact h.mget_tileBytes (Nat.le_refl _) hlen hr hi
    · have hexec := h.exec_readError hsource hshot (readOff_of hcomes)
      rw [h.failRead hsource] at hexec
      obtain ⟨htiles, hchans, -, hmem, htroubles⟩ := State.endTile_only (s := (s.hostReadError e).count 10) h.oneTile (by rw [hsource]; decide) stBUSY
      have htrouble := htroubles 10 (by decide)
      have haer : (((s.hostReadError e).count 10).endTile t stBUSY).host.aer = s.host.aer.insert (readErrorAer e) :=
        congrArg (fun x => x.2.1) htrouble
      refine ⟨_, hexec, htiles, hchans, hmem, congrArg (fun x => x.2.2) htrouble, congrArg Prod.fst htrouble, ?_⟩
      rw [haer]
      exact List.mem_insert_self
    · have hlen : (s.tileRow t er).length = 1 * t.rowBytes := by rw [State.length_tileRow, Nat.one_mul]
      obtain ⟨hlands, -⟩ := (h.copyCounted er).landTile (by rw [hsource]; decide) Nat.one_pos hheightPos hlen
      refine ⟨_, h.exec_copyRow hsource er, hlands.chans, hlands.axes, ?_, ?_, fun i hi => ?_⟩
      · exact (hlands.counter 84 (by decide)).trans (State.counter_countN_ne 85 84 _ (by decide))
      · exact (hlands.counter 85 (by decide)).trans (State.counter_countN_congr (by decide) (State.counter_countN_ne 84 85 _ (by decide)) _)
      · have hbyte := (h.copyCounted er).mget_tileBytes hheightPos hlen Nat.one_pos hi
        rw [hlands.store]
        refine hbyte.trans ?_
        rw [Nat.zero_mul, Nat.zero_add, s.getD_tileRow er hi]

end Sys2Proof.Machine
end
